-- ==== Sys2Proof/Word.lean ====
section
/-! DEFINITION. The word types of the RSE-6400 model and the shape of its sparse tables. -/

namespace Sys2Proof

/-- One byte. -/
abbrev Byte := BitVec 8

/-- A 32-bit register word of the aperture. -/
abbrev Word := BitVec 32

/-- A 64-bit word: a general register of a thread, a channel word, a fabric time. -/
abbrev DWord := BitVec 64

/-- A sparse table from numbers to values: entries in strictly rising order of key, no entry equal to what an
unlisted key reads as (the canonical form that `Machine.KMap.wf` states). -/
abbrev KMap (α : Type) := List (Nat × α)

end Sys2Proof
end

