-- ==== Sys2Proof/Syntax.lean ====
section
/-! DEFINITION. The commands of the RSE-6400, one constructor for each row of the operation table, and the operands
they carry. A command is a step of the block: a register access, an event on a port or a pin, a due time, or one step of
an engine of the block. A step that an engine of the block takes by itself carries no data of its own: it acts on what
State holds (a queue's front, a thread's word at its PC). -/

namespace Sys2Proof

/-- The source of a register access (R138, R241, R517, R684): the CSP port, a thread's REG, the debug module. -/
inductive RegSrc where
  | csp
  | thread (t : Fin 128)
  | debug
  deriving DecidableEq, Repr

/-- A flit (R176): its 128 header bits and its 240 payload bytes, payload byte i (flit byte 16 + i) in bits
[8i + 7:8i]. -/
structure Flit where
  hdr : BitVec 128
  pay : BitVec 1920
  deriving DecidableEq, Repr

/-- What FLIT_RECEIVE brings: the flit, `none` where a slot brings none, and the time of its first bit (R164). -/
structure FlitRx where
  flit : Option Flit
  arr : BitVec 70
  deriving DecidableEq, Repr

/-- A word of the tandem port (R621): KIND, 512 data bytes (byte i in bits [8i + 7:8i]) and CRC. -/
structure TndWord where
  kind : BitVec 3
  data : BitVec 4096
  crc : BitVec 32
  deriving DecidableEq, Repr

/-- A frame on the Vowick bus (R548). Data byte i lies in bits [8i + 7:8i] of `data`; `stop` says that the frame ended
with a valid stop. -/
structure VwkFrame where
  dst : BitVec 12
  srcT : BitVec 12
  cmd : BitVec 4
  len : BitVec 4
  data : BitVec 64
  crc : BitVec 8
  stop : Bool
  deriving DecidableEq, Repr

/-- How a frame that the block was sending ended (R547, R548). -/
inductive VwkTxEnd where
  | acked
  | notAcked
  | lostArbitration
  deriving DecidableEq, Repr

/-- What starts a claim (R551): a write of VWK_CTRL, or the power-up of HEAD with AUTO_CLAIM. -/
inductive ClaimTrigger where
  | write (src : RegSrc) (data : BitVec 32)
  | headUp
  deriving DecidableEq, Repr

/-- A beat of read data on a host memory port (R610, R613): byte b in bits [8b + 7:8b]. -/
structure HmpBeat where
  last : Bool
  status : BitVec 2
  poison : Bool
  bytes : BitVec 1024
  deriving DecidableEq, Repr

/-- The host's answers to the host-memory accesses that one stream command makes (R318, R613, R614): the bytes it
returns (a byte not listed is zero), the 4 KiB pages whose reads or writes it answers with an error, and the 128-byte
blocks that it returns poisoned; and the CK_CORE cycles that it takes to answer. -/
structure StreamIo where
  bytes : List (Nat × Byte)
  rdErr : List Nat
  wrErr : List Nat
  poison : List Nat
  lat : Nat
  deriving DecidableEq, Repr

/-- An access in the staging or thread memory window (R292, R523): the address in the window, the CSP size code
(R602), and the word written, if it is a write. -/
structure WinAccess where
  addr : BitVec 22
  size : BitVec 2
  wr : Option (BitVec 32)
  deriving DecidableEq, Repr

/-- Who waits on a channel (R452 to R454): a thread, a drift (its command channel or its record) or the queue engine
(its records). -/
inductive ChanWaiter where
  | thread (t : Fin 128)
  | drift (d : Fin 16)
  | queueEngine
  deriving DecidableEq, Repr

/-- The two rails with a power handshake (R599). -/
inductive Rail where
  | main
  | ret
  deriving DecidableEq, Repr

/-- The triggers of a POR (R654). -/
inductive PorCause where
  | porN
  | headRise
  | headLow
  deriving DecidableEq, Repr

/-- The wake sources (R660). -/
inductive WakeSource where
  | csp (data : BitVec 32)
  | tm14
  | tm15
  | attention
  deriving DecidableEq, Repr

/-- The commands, in the order of the operation table. -/
inductive Instr where
  /-- REGISTER_WRITE (R14). -/
  | registerWrite (src : RegSrc) (off : BitVec 24) (size : BitVec 2) (data : BitVec 32)
  /-- RC_FIELD_READ (R16). -/
  | rcFieldRead (src : RegSrc) (off : BitVec 24) (size : BitVec 2)
  /-- STAGING_WINDOW_ACCESS (R292). -/
  | stagingWindowAccess (src : RegSrc) (acc : WinAccess)
  /-- TMEM_WINDOW_ACCESS (R523). -/
  | tmemWindowAccess (src : RegSrc) (acc : WinAccess)
  /-- MARK_EPOCH_START (R41). -/
  | markEpochStart
  /-- TIME_MARK_RECEIVE (R50). -/
  | timeMarkReceive (g : Fin 8) (mark : BitVec 64) (arr : BitVec 70)
  /-- MARK_MISSING (R46). -/
  | markMissing (g : Fin 8)
  /-- HOLDOVER_EXPIRY (R53). -/
  | holdoverExpiry
  /-- ACQUIRE_TIMEOUT (R53). -/
  | acquireTimeout
  /-- WINDER_TAKEOVER (R58). -/
  | winderTakeover
  /-- RELOCK (R95). -/
  | relock (src : RegSrc) (data : BitVec 32)
  /-- SWAP_DECISION_POINT (R65). -/
  | swapDecisionPoint
  /-- SWAP_CANCEL (R70). -/
  | swapCancel
  /-- SHIFT_BOUNDARY (R65). -/
  | shiftBoundary
  /-- REPORT_PUBLISH (R65). -/
  | reportPublish
  /-- LOAD_START (R118). -/
  | loadStart (src : RegSrc) (data : BitVec 32)
  /-- CFG_WORD (R121). -/
  | cfgWord (w : BitVec 64)
  /-- CFG_TIMEOUT (R122). -/
  | cfgTimeout
  /-- CROSS_PHASE_DONE (R126). -/
  | crossPhaseDone (ecc : Option (Fin 512))
  /-- SIGNATURE_PHASE_DONE (R126). -/
  | signaturePhaseDone
  /-- LOAD_ABORT (R128). -/
  | loadAbort (src : RegSrc) (data : BitVec 32)
  /-- DISARM (R134). -/
  | disarm (src : RegSrc) (data : BitVec 32)
  /-- ARM (R132). -/
  | arm (src : RegSrc) (data : BitVec 32)
  /-- ACTIVATE (R130). -/
  | activate (src : RegSrc) (data : BitVec 32)
  /-- EXPERT_UNLOCK (R138). -/
  | expertUnlock (src : RegSrc) (data : BitVec 32)
  /-- EXPERT_LOCK (R139). -/
  | expertLock (src : RegSrc) (data : BitVec 32)
  /-- LANE_RX_VALID_CHANGE (R600). -/
  | laneRxValidChange (lane : Fin 18) (v : Bool)
  /-- LINK_GROUP_ENABLE (R168). -/
  | linkGroupEnable (src : RegSrc) (g : Fin 8) (data : BitVec 32)
  /-- CODEWORD_RECEIVE (R159): the bits that each lane of the set brings in the order received, the first in bit 0 (R160), and each
  lane's arrival after the group's earliest lane in CK_CORE cycles (R225). -/
  | codewordReceive (g : Fin 8) (set : Fin 18) (cw : List (BitVec 5440)) (skew : List (BitVec 9))
  /-- TRAIN_TIMEOUT (R169). -/
  | trainTimeout (g : Fin 8)
  /-- PARAM (R172). -/
  | param (g : Fin 8) (f : Flit)
  /-- PARAM_ACK (R172). -/
  | paramAck (g : Fin 8) (f : Flit)
  /-- DELAY_REQ (R174). -/
  | delayReq (g : Fin 8) (f : Flit) (arr : BitVec 64)
  /-- DELAY_RSP (R174). -/
  | delayRsp (g : Fin 8) (f : Flit) (arr : BitVec 64)
  /-- RETRAIN (R227). -/
  | retrain (src : RegSrc) (g : Fin 8) (data : BitVec 32)
  /-- FLIT_RECEIVE (R190). -/
  | flitReceive (g : Fin 8) (f : FlitRx)
  /-- EGRESS_SLOT (R189). -/
  | egressSlot (g : Fin 8)
  /-- CREDIT_RETURN_TIMER (R195). -/
  | creditReturnTimer (g : Fin 8)
  /-- ACK_TIMER (R201). -/
  | ackTimer (g : Fin 8)
  /-- REPLAY_TIMEOUT (R203). -/
  | replayTimeout (g : Fin 8)
  /-- CTRL_REPEAT (R183). -/
  | ctrlRepeat (g : Fin 8) (txn : BitVec 8)
  /-- REMAP_REQ (R209). -/
  | remapReq (g : Fin 8) (f : Flit)
  /-- REMAP_GO (R209). -/
  | remapGo (g : Fin 8) (f : Flit)
  /-- REMAP_DONE (R209). -/
  | remapDone (g : Fin 8) (f : Flit)
  /-- WIDTH_REQ (R210). -/
  | widthReq (g : Fin 8) (f : Flit)
  /-- WIDTH_ACK (R210). -/
  | widthAck (g : Fin 8) (f : Flit)
  /-- RESTORE_REQ (R214). -/
  | restoreReq (g : Fin 8) (f : Flit)
  /-- RESTORE_ACK (R214). -/
  | restoreAck (g : Fin 8) (f : Flit)
  /-- REFUSE (R182). -/
  | refuse (g : Fin 8) (f : Flit)
  /-- KEY_LOAD (R217). -/
  | keyLoad (src : RegSrc) (g : Fin 8) (data : BitVec 32)
  /-- KEY_ERASE (R232). -/
  | keyErase (src : RegSrc) (g : Fin 8) (data : BitVec 32)
  /-- GCM_ARM (R218). -/
  | gcmArm (src : RegSrc) (g : Fin 8) (data : BitVec 32)
  /-- LINK_RESET (R658). -/
  | linkReset (src : RegSrc) (data : BitVec 32)
  /-- DOORBELL_SQ (R240). -/
  | doorbellSq (src : RegSrc) (q : BitVec 16) (data : BitVec 32)
  /-- DOORBELL_RQ (R240). -/
  | doorbellRq (src : RegSrc) (q : BitVec 16) (data : BitVec 32)
  /-- DOORBELL_CQ (R240). -/
  | doorbellCq (src : RegSrc) (q : BitVec 16) (data : BitVec 32)
  /-- QUEUE_CONTEXT_READ (R286). -/
  | queueContextRead (src : RegSrc) (data : BitVec 32)
  /-- QUEUE_CONTEXT_WRITE (R236). -/
  | queueContextWrite (src : RegSrc) (data : BitVec 32)
  /-- QUEUE_FLUSH (R237). -/
  | queueFlush (src : RegSrc) (data : BitVec 32)
  /-- MESSAGE_START (R262). -/
  | messageStart (q : BitVec 16)
  /-- B_FLIT_LANDING (R257). -/
  | bFlitLanding (g : Fin 8)
  /-- SEND (R250). -/
  | send
  /-- WRITE (R249). -/
  | write
  /-- READ (R249). -/
  | read
  /-- ATOMIC (R251). -/
  | atomic
  /-- REDUCE (R253). -/
  | reduce
  /-- BARRIER (R254). -/
  | barrier
  /-- ACKONLY (R266). -/
  | ackonly
  /-- LATER_SEGMENT_RECEIVE (R264). -/
  | laterSegmentReceive
  /-- RESPONSE_SEGMENT_RECEIVE (R268). -/
  | responseSegmentReceive
  /-- RETX_TIMEOUT (R269). -/
  | retxTimeout (dst : BitVec 20) (reqId : BitVec 32)
  /-- REASSEMBLY_TIMEOUT (R267). -/
  | reassemblyTimeout (peer : BitVec 20) (reqId : BitVec 32)
  /-- ACKONLY_SEND (R266). -/
  | ackonlySend (slot : BitVec 12)
  /-- BARRIER_TIMEOUT (R254). -/
  | barrierTimeout (bar : BitVec 12)
  /-- BARRIER_RELEASE (R255). -/
  | barrierRelease (src : RegSrc) (data : BitVec 32)
  /-- BARRIER_RESET (R255). -/
  | barrierReset (src : RegSrc) (data : BitVec 32)
  /-- PEER_READ (R287). -/
  | peerRead (src : RegSrc) (data : BitVec 32)
  /-- PEER_ADD (R261). -/
  | peerAdd (src : RegSrc) (data : BitVec 32)
  /-- PEER_REMOVE (R261). -/
  | peerRemove (src : RegSrc) (data : BitVec 32)
  /-- STREAM_COMMAND_COMMIT (R301). -/
  | streamCommandCommit (d : Fin 16)
  /-- STREAM_COMMAND_GO (R302). -/
  | streamCommandGo (src : RegSrc) (data : BitVec 32)
  /-- STREAM_COPY (R309). -/
  | streamCopy (d : Fin 16) (io : StreamIo)
  /-- STREAM_ADD (R309). -/
  | streamAdd (d : Fin 16) (io : StreamIo)
  /-- STREAM_SUB (R309). -/
  | streamSub (d : Fin 16) (io : StreamIo)
  /-- STREAM_MUL (R309). -/
  | streamMul (d : Fin 16) (io : StreamIo)
  /-- STREAM_FMA (R309). -/
  | streamFma (d : Fin 16) (io : StreamIo)
  /-- STREAM_AXPY (R309). -/
  | streamAxpy (d : Fin 16) (io : StreamIo)
  /-- STREAM_SCALE (R309). -/
  | streamScale (d : Fin 16) (io : StreamIo)
  /-- STREAM_MIN (R309). -/
  | streamMin (d : Fin 16) (io : StreamIo)
  /-- STREAM_MAX (R309). -/
  | streamMax (d : Fin 16) (io : StreamIo)
  /-- STREAM_ABS (R309). -/
  | streamAbs (d : Fin 16) (io : StreamIo)
  /-- STREAM_NEG (R309). -/
  | streamNeg (d : Fin 16) (io : StreamIo)
  /-- STREAM_AND (R309). -/
  | streamAnd (d : Fin 16) (io : StreamIo)
  /-- STREAM_OR (R309). -/
  | streamOr (d : Fin 16) (io : StreamIo)
  /-- STREAM_XOR (R309). -/
  | streamXor (d : Fin 16) (io : StreamIo)
  /-- STREAM_COMMAND_END (R340). -/
  | streamCommandEnd (d : Fin 16)
  /-- CHAIN_TIMEOUT (R322). -/
  | chainTimeout (d : Fin 16)
  /-- DRIFT_ABORT (R336). -/
  | driftAbort (src : RegSrc) (d : Fin 16) (data : BitVec 32)
  /-- DRIFT_FLUSH (R336). -/
  | driftFlush (src : RegSrc) (d : Fin 16) (data : BitVec 32)
  /-- CLASS_S_LANDING (R328). -/
  | classSLanding (g : Fin 8)
  /-- STAGING_SCRUB (R290). -/
  | stagingScrub
  /-- REDUCE_ENTRY_RESET (R386). -/
  | reduceEntryReset (src : RegSrc) (data : BitVec 32)
  /-- TANDEM_ENABLE (R401). -/
  | tandemEnable (src : RegSrc) (data : BitVec 32)
  /-- TANDEM_TRAIN_WORD (R402). -/
  | tandemTrainWord (w : TndWord)
  /-- TANDEM_CONTROL_RECEIVE (R403). -/
  | tandemControlReceive (w : TndWord)
  /-- TANDEM_MARK_RECEIVE (R408). -/
  | tandemMarkReceive (w : TndWord) (arr : BitVec 70)
  /-- TANDEM_SEGMENT_RECEIVE (R404). -/
  | tandemSegmentReceive (w : TndWord)
  /-- TANDEM_BAD_WORD (R400). -/
  | tandemBadWord (w : TndWord)
  /-- TANDEM_LOST (R408). -/
  | tandemLost
  /-- TANDEM_READY_FLAG (R410). -/
  | tandemReadyFlag
  /-- TANDEM_LIVENESS_CHANGE (R411). -/
  | tandemLivenessChange (v : Bool)
  /-- TAKE_DELAY_EXPIRY (R411). -/
  | takeDelayExpiry
  /-- TAKEOVER (R411). -/
  | takeover (src : RegSrc) (data : BitVec 32)
  /-- POOL_SLOT_GRANT (R421). -/
  | poolSlotGrant (pipe : Fin 2)
  /-- EVENT_ALERT_ENTRY (R441). -/
  | eventAlertEntry (t : Fin 128)
  /-- CHANNEL_WAIT_RESUME (R453). -/
  | channelWaitResume (who : ChanWaiter)
  /-- EVENT_WAIT_RESUME (R441). -/
  | eventWaitResume (t : Fin 128)
  /-- STORE_DRAIN (R522). -/
  | storeDrain (t : Fin 128)
  /-- MQ_LANDING (R485). -/
  | mqLanding (t : Fin 128)
  /-- THREAD_STOP (R438). -/
  | threadStop (src : RegSrc) (data : BitVec 32)
  /-- THREAD_START (R438). -/
  | threadStart (src : RegSrc) (data : BitVec 32)
  /-- THREAD_RESUME (R438). -/
  | threadResume (src : RegSrc) (data : BitVec 32)
  /-- RESUME_ALERT (R438). -/
  | resumeAlert (src : RegSrc) (data : BitVec 32)
  /-- THREAD_RESET (R438). -/
  | threadReset (src : RegSrc) (data : BitVec 32)
  /-- THREAD_HALT (R463). -/
  | threadHalt (src : RegSrc) (data : BitVec 32)
  /-- THREAD_RUN (R465). -/
  | threadRun (src : RegSrc) (data : BitVec 32)
  /-- FAULT_LOG_POP (R469). -/
  | faultLogPop (src : RegSrc) (data : BitVec 32)
  /-- FORCE_RETURN (R459). -/
  | forceReturn (src : RegSrc) (data : BitVec 32)
  /-- LAMP_SCAN (R470). -/
  | lampScan (src : RegSrc) (data : BitVec 32)
  /-- ALLBLOCK_DETECT (R461). -/
  | allblockDetect
  /-- ALU_ADD (R487). -/
  | aluAdd (t : Fin 128)
  /-- ALU_SUB (R487). -/
  | aluSub (t : Fin 128)
  /-- ADC (R487). -/
  | adc (t : Fin 128)
  /-- SBC (R487). -/
  | sbc (t : Fin 128)
  /-- ALU_AND (R487). -/
  | aluAnd (t : Fin 128)
  /-- ALU_OR (R487). -/
  | aluOr (t : Fin 128)
  /-- ALU_XOR (R487). -/
  | aluXor (t : Fin 128)
  /-- ANDN (R487). -/
  | andn (t : Fin 128)
  /-- ALU_SHL (R487). -/
  | aluShl (t : Fin 128)
  /-- ALU_SHR (R487). -/
  | aluShr (t : Fin 128)
  /-- ALU_SAR (R487). -/
  | aluSar (t : Fin 128)
  /-- ALU_ROR (R487). -/
  | aluRor (t : Fin 128)
  /-- ALU_CMP (R487). -/
  | aluCmp (t : Fin 128)
  /-- TST (R487). -/
  | tst (t : Fin 128)
  /-- ALU_MOV (R487). -/
  | aluMov (t : Fin 128)
  /-- ALU_NOT (R487). -/
  | aluNot (t : Fin 128)
  /-- ALU_NEG (R487). -/
  | aluNeg (t : Fin 128)
  /-- ALU_MIN (R487). -/
  | aluMin (t : Fin 128)
  /-- ALU_MAX (R487). -/
  | aluMax (t : Fin 128)
  /-- MINU (R487). -/
  | minu (t : Fin 128)
  /-- MAXU (R487). -/
  | maxu (t : Fin 128)
  /-- ALU_CLZ (R487). -/
  | aluClz (t : Fin 128)
  /-- CTZ (R487). -/
  | ctz (t : Fin 128)
  /-- ALU_POPC (R487). -/
  | aluPopc (t : Fin 128)
  /-- BREV (R487). -/
  | brev (t : Fin 128)
  /-- BSWAP (R487). -/
  | bswap (t : Fin 128)
  /-- PERM (R487). -/
  | perm (t : Fin 128)
  /-- ADDI (R489). -/
  | addi (t : Fin 128)
  /-- ANDI (R489). -/
  | andi (t : Fin 128)
  /-- ORI (R489). -/
  | ori (t : Fin 128)
  /-- XORI (R489). -/
  | xori (t : Fin 128)
  /-- CMPI (R489). -/
  | cmpi (t : Fin 128)
  /-- MOVI (R489). -/
  | movi (t : Fin 128)
  /-- MOVK (R489). -/
  | movk (t : Fin 128)
  /-- SHI_SHL (R489). -/
  | shiShl (t : Fin 128)
  /-- SHI_SHR (R489). -/
  | shiShr (t : Fin 128)
  /-- SHI_SAR (R489). -/
  | shiSar (t : Fin 128)
  /-- SHI_ROR (R489). -/
  | shiRor (t : Fin 128)
  /-- EXTU (R490). -/
  | extu (t : Fin 128)
  /-- EXTS (R490). -/
  | exts (t : Fin 128)
  /-- INS (R490). -/
  | ins (t : Fin 128)
  /-- CMPP (R491). -/
  | cmpp (t : Fin 128)
  /-- MULU32 (R492). -/
  | mulu32 (t : Fin 128)
  /-- MULS32 (R492). -/
  | muls32 (t : Fin 128)
  /-- MACS32 (R492). -/
  | macs32 (t : Fin 128)
  /-- MULL64 (R492). -/
  | mull64 (t : Fin 128)
  /-- MULHU64 (R492). -/
  | mulhu64 (t : Fin 128)
  /-- MULHS64 (R492). -/
  | mulhs64 (t : Fin 128)
  /-- DIVU (R493). -/
  | divu (t : Fin 128)
  /-- DIVS (R493). -/
  | divs (t : Fin 128)
  /-- REMU (R493). -/
  | remu (t : Fin 128)
  /-- REMS (R493). -/
  | rems (t : Fin 128)
  /-- FADD (R494). -/
  | fadd (t : Fin 128)
  /-- FSUB (R494). -/
  | fsub (t : Fin 128)
  /-- FMUL (R494). -/
  | fmul (t : Fin 128)
  /-- FMA (R494). -/
  | fma (t : Fin 128)
  /-- FDIV (R494). -/
  | fdiv (t : Fin 128)
  /-- FSQRT (R494). -/
  | fsqrt (t : Fin 128)
  /-- FMIN (R494). -/
  | fmin (t : Fin 128)
  /-- FMAX (R494). -/
  | fmax (t : Fin 128)
  /-- FABS (R494). -/
  | fabs (t : Fin 128)
  /-- FNEG (R494). -/
  | fneg (t : Fin 128)
  /-- FCMP (R496). -/
  | fcmp (t : Fin 128)
  /-- FCVT (R495). -/
  | fcvt (t : Fin 128)
  /-- B (R501). -/
  | branch (t : Fin 128)
  /-- CALL (R501). -/
  | call (t : Fin 128)
  /-- JMPR (R501). -/
  | jmpr (t : Fin 128)
  /-- CALLR (R501). -/
  | callr (t : Fin 128)
  /-- RET (R501). -/
  | ret (t : Fin 128)
  /-- LOOP (R503). -/
  | loop (t : Fin 128)
  /-- REP (R505). -/
  | rep (t : Fin 128)
  /-- LDSB (R497). -/
  | ldsb (t : Fin 128)
  /-- LDSH (R497). -/
  | ldsh (t : Fin 128)
  /-- LDSW (R497). -/
  | ldsw (t : Fin 128)
  /-- LD (R497). -/
  | ld (t : Fin 128)
  /-- LDUB (R497). -/
  | ldub (t : Fin 128)
  /-- LDUH (R497). -/
  | lduh (t : Fin 128)
  /-- LDUW (R497). -/
  | lduw (t : Fin 128)
  /-- STB (R497). -/
  | stb (t : Fin 128)
  /-- STH (R497). -/
  | sth (t : Fin 128)
  /-- STW (R497). -/
  | stw (t : Fin 128)
  /-- STD (R497). -/
  | std (t : Fin 128)
  /-- ADDM (R499). -/
  | addm (t : Fin 128)
  /-- SUBM (R499). -/
  | subm (t : Fin 128)
  /-- CMPM (R499). -/
  | cmpm (t : Fin 128)
  /-- AMO_FADD (R500). -/
  | amoFadd (t : Fin 128)
  /-- AMO_SWAP (R500). -/
  | amoSwap (t : Fin 128)
  /-- AMO_CAS (R500). -/
  | amoCas (t : Fin 128)
  /-- AMO_AND (R500). -/
  | amoAnd (t : Fin 128)
  /-- AMO_OR (R500). -/
  | amoOr (t : Fin 128)
  /-- AMO_XOR (R500). -/
  | amoXor (t : Fin 128)
  /-- AMO_SMIN (R500). -/
  | amoSmin (t : Fin 128)
  /-- AMO_SMAX (R500). -/
  | amoSmax (t : Fin 128)
  /-- AMO_UMIN (R500). -/
  | amoUmin (t : Fin 128)
  /-- AMO_UMAX (R500). -/
  | amoUmax (t : Fin 128)
  /-- VLD (R512). -/
  | vld (t : Fin 128)
  /-- VST (R512). -/
  | vst (t : Fin 128)
  /-- VADD (R509). -/
  | vadd (t : Fin 128)
  /-- VSUB (R509). -/
  | vsub (t : Fin 128)
  /-- VMUL (R509). -/
  | vmul (t : Fin 128)
  /-- VAND (R509). -/
  | vand (t : Fin 128)
  /-- VOR (R509). -/
  | vor (t : Fin 128)
  /-- VXOR (R509). -/
  | vxor (t : Fin 128)
  /-- VMIN (R509). -/
  | vmin (t : Fin 128)
  /-- VMAX (R509). -/
  | vmax (t : Fin 128)
  /-- VMINU (R509). -/
  | vminu (t : Fin 128)
  /-- VMAXU (R509). -/
  | vmaxu (t : Fin 128)
  /-- VSHL (R509). -/
  | vshl (t : Fin 128)
  /-- VSHR (R509). -/
  | vshr (t : Fin 128)
  /-- VSAR (R509). -/
  | vsar (t : Fin 128)
  /-- VFADD (R510). -/
  | vfadd (t : Fin 128)
  /-- VFSUB (R510). -/
  | vfsub (t : Fin 128)
  /-- VFMUL (R510). -/
  | vfmul (t : Fin 128)
  /-- VFMA (R510). -/
  | vfma (t : Fin 128)
  /-- VFMIN (R510). -/
  | vfmin (t : Fin 128)
  /-- VFMAX (R510). -/
  | vfmax (t : Fin 128)
  /-- SETVL (R507). -/
  | setvl (t : Fin 128)
  /-- VBCAST (R511). -/
  | vbcast (t : Fin 128)
  /-- VEXT (R511). -/
  | vext (t : Fin 128)
  /-- VINS (R511). -/
  | vins (t : Fin 128)
  /-- VREDADD (R511). -/
  | vredadd (t : Fin 128)
  /-- VMV (R511). -/
  | vmv (t : Fin 128)
  /-- CHR (R514). -/
  | chr (t : Fin 128)
  /-- CHRN (R514). -/
  | chrn (t : Fin 128)
  /-- CHW (R514). -/
  | chw (t : Fin 128)
  /-- CHWL (R514). -/
  | chwl (t : Fin 128)
  /-- CHWN (R514). -/
  | chwn (t : Fin 128)
  /-- CHWLN (R514). -/
  | chwln (t : Fin 128)
  /-- TAKE (R457). -/
  | take (t : Fin 128)
  /-- TRYTAKE (R457). -/
  | trytake (t : Fin 128)
  /-- RETURN (R457). -/
  | lampReturn (t : Fin 128)
  /-- WAITEV (R514). -/
  | waitev (t : Fin 128)
  /-- SIGEV (R514). -/
  | sigev (t : Fin 128)
  /-- MVS (R481). -/
  | mvs (t : Fin 128)
  /-- MVSW (R481). -/
  | mvsw (t : Fin 128)
  /-- NOP (R515). -/
  | nop (t : Fin 128)
  /-- RETA (R515). -/
  | reta (t : Fin 128)
  /-- ALERT (R515). -/
  | alert (t : Fin 128)
  /-- BREAK (R688). -/
  | breakWord (t : Fin 128)
  /-- FENCE (R515). -/
  | fence (t : Fin 128)
  /-- SPILL (R515). -/
  | spill (t : Fin 128)
  /-- FILL (R515). -/
  | fill (t : Fin 128)
  /-- REG_READ (R517). -/
  | regRead (t : Fin 128)
  /-- REG_WRITE (R517). -/
  | regWrite (t : Fin 128)
  /-- SHORT_NOP (R518). -/
  | shortNop (t : Fin 128)
  /-- SHORT_MOV (R518). -/
  | shortMov (t : Fin 128)
  /-- SHORT_ADD (R518). -/
  | shortAdd (t : Fin 128)
  /-- SHORT_SUB (R518). -/
  | shortSub (t : Fin 128)
  /-- SHORT_AND (R518). -/
  | shortAnd (t : Fin 128)
  /-- SHORT_OR (R518). -/
  | shortOr (t : Fin 128)
  /-- SHORT_XOR (R518). -/
  | shortXor (t : Fin 128)
  /-- SHORT_CMP (R518). -/
  | shortCmp (t : Fin 128)
  /-- SHORT_ADDI (R518). -/
  | shortAddi (t : Fin 128)
  /-- SHORT_MOVI (R518). -/
  | shortMovi (t : Fin 128)
  /-- SHLI (R518). -/
  | shli (t : Fin 128)
  /-- SHRI (R518). -/
  | shri (t : Fin 128)
  /-- SARI (R518). -/
  | sari (t : Fin 128)
  /-- SHORT_LD (R518). -/
  | shortLd (t : Fin 128)
  /-- SHORT_ST (R518). -/
  | shortSt (t : Fin 128)
  /-- LDI (R518). -/
  | ldi (t : Fin 128)
  /-- STI (R518). -/
  | sti (t : Fin 128)
  /-- MQR (R518). -/
  | mqr (t : Fin 128)
  /-- SHORT_NEG (R518). -/
  | shortNeg (t : Fin 128)
  /-- SHORT_NOT (R518). -/
  | shortNot (t : Fin 128)
  /-- SHORT_CLZ (R518). -/
  | shortClz (t : Fin 128)
  /-- SHORT_POPC (R518). -/
  | shortPopc (t : Fin 128)
  /-- BS (R518). -/
  | bs (t : Fin 128)
  /-- SHORT_MIN (R518). -/
  | shortMin (t : Fin 128)
  /-- SHORT_MAX (R518). -/
  | shortMax (t : Fin 128)
  /-- TMEM_SCRUB (R528). -/
  | tmemScrub
  /-- TAMPER_ASSERT (R534). -/
  | tamperAssert
  /-- TAMPER_RELEASE (R534). -/
  | tamperRelease
  /-- LIFECYCLE_TRANSITION (R535). -/
  | lifecycleTransition (st : BitVec 3)
  /-- SECURE_WIPE_END (R532). -/
  | secureWipeEnd
  /-- MEMORY_WAKE (R529). -/
  | memoryWake
  /-- VWK_PING (R550). -/
  | vwkPing (f : VwkFrame)
  /-- VWK_IDENT_REQ (R550). -/
  | vwkIdentReq (f : VwkFrame)
  /-- VWK_IDENT (R558). -/
  | vwkIdent (f : VwkFrame)
  /-- VWK_CLAIM (R553). -/
  | vwkClaim (f : VwkFrame)
  /-- VWK_RELEASE (R555). -/
  | vwkRelease (f : VwkFrame)
  /-- VWK_CHAIN (R560). -/
  | vwkChain (f : VwkFrame)
  /-- VWK_USER (R558). -/
  | vwkUser (f : VwkFrame)
  /-- VWK_BAD_FRAME (R549). -/
  | vwkBadFrame (f : VwkFrame)
  /-- VWK_SEND (R557). -/
  | vwkSend (src : RegSrc) (data : BitVec 32)
  /-- VWK_FRAME_SENT (R557). -/
  | vwkFrameSent (r : VwkTxEnd)
  /-- VWK_TX_TIMEOUT (R557). -/
  | vwkTxTimeout
  /-- VWK_CLAIM_START (R551). -/
  | vwkClaimStart (by_ : ClaimTrigger)
  /-- VWK_CLAIM_RESULT (R552). -/
  | vwkClaimResult (r : VwkTxEnd)
  /-- VWK_DETACH (R555). -/
  | vwkDetach (src : RegSrc) (data : BitVec 32)
  /-- VWK_ATTN (R556). -/
  | vwkAttn (src : RegSrc) (data : BitVec 32)
  /-- VWA_LOW_END (R556). -/
  | vwaLowEnd (bits : Nat)
  /-- VWK_ATTENTION (R556). -/
  | vwkAttention
  /-- VWK_STUCK (R545). -/
  | vwkStuck
  /-- VWK_RX_POP (R559). -/
  | vwkRxPop (src : RegSrc) (data : BitVec 32)
  /-- PE_ENTRY (R565). -/
  | peEntry (n : Fin 8)
  /-- PE_ENABLE (R567). -/
  | peEnable (src : RegSrc) (n : Fin 8) (data : BitVec 32)
  /-- PE_DISABLE (R567). -/
  | peDisable (src : RegSrc) (n : Fin 8) (data : BitVec 32)
  /-- PE_FLUSH (R567). -/
  | peFlush (src : RegSrc) (n : Fin 8) (data : BitVec 32)
  /-- PE_DISCARD (R573). -/
  | peDiscard (src : RegSrc) (n : Fin 8) (data : BitVec 32)
  /-- PE_FEED_WRITE (R569). -/
  | peFeedWrite (src : RegSrc) (n : Fin 8) (data : BitVec 32)
  /-- PE_CATCH_READ (R569). -/
  | peCatchRead (src : RegSrc) (n : Fin 8)
  /-- PE_PROG_WRITE (R572). -/
  | peProgWrite (src : RegSrc) (n : Fin 8) (word : Fin 512) (data : BitVec 32)
  /-- PE_BASE_WRITE (R572). -/
  | peBaseWrite (src : RegSrc) (n : Fin 8) (data : BitVec 32)
  /-- PE_PINMAP_WRITE (R572). -/
  | pePinmapWrite (src : RegSrc) (n : Fin 8) (hi : Bool) (data : BitVec 32)
  /-- PE_DEPTH_WRITE (R571). -/
  | peDepthWrite (src : RegSrc) (n : Fin 8) (data : BitVec 32)
  /-- SB_OWNER_CHANGE (R542). -/
  | sbOwnerChange (src : RegSrc) (sel : Fin 8) (data : BitVec 32)
  /-- TIMER_STEP (R576). -/
  | timerStep (m : Fin 16)
  /-- TIMER_LAP_END (R576). -/
  | timerLapEnd (m : Fin 16)
  /-- TIMER_EXPIRY (R577). -/
  | timerExpiry (m : Fin 16)
  /-- TIMER_ENABLE (R579). -/
  | timerEnable (src : RegSrc) (m : Fin 16) (data : BitVec 32)
  /-- TIMER_DISABLE (R579). -/
  | timerDisable (src : RegSrc) (m : Fin 16) (data : BitVec 32)
  /-- RELOAD_NOW (R578). -/
  | reloadNow (src : RegSrc) (m : Fin 16) (data : BitVec 32)
  /-- TIMER_CAPTURE (R580). -/
  | timerCapture (m : Fin 16) (level : Bool)
  /-- TIMER_CAP_READ (R580). -/
  | timerCapRead (src : RegSrc) (m : Fin 16)
  /-- HMP_REQUEST_TRANSFER (R607). -/
  | hmpRequestTransfer (p : Fin 8)
  /-- HMP_READ_DATA (R613). -/
  | hmpReadData (p : Fin 8) (tid : BitVec 10) (beat : HmpBeat)
  /-- HMP_WRITE_RESPONSE (R614). -/
  | hmpWriteResponse (p : Fin 8) (tid : BitVec 10) (status : BitVec 2) (data : BitVec 64)
  /-- HMP_TIMEOUT (R617). -/
  | hmpTimeout (p : Fin 8) (wr : Bool) (tid : BitVec 10)
  /-- LC_BUS_WORD (R625). -/
  | lcBusWord (w : BitVec 32)
  /-- LC_BUS_TIMEOUT (R626). -/
  | lcBusTimeout
  /-- SCAN_MODE_RISE (R633). -/
  | scanModeRise
  /-- MBIST_END (R633). -/
  | mbistEnd (fail : Bool)
  /-- PLL_LOCK_FALL (R643). -/
  | pllLockFall
  /-- POWER_ACK_CHANGE (R599). -/
  | powerAckChange (rail : Rail) (level : Bool)
  /-- POR (R656). -/
  | por (cause : PorCause)
  /-- POR_MEMORY_CLEAR_DONE (R656). -/
  | porMemoryClearDone
  /-- MAIN_RESET_RELEASE (R657). -/
  | mainResetRelease
  /-- IMAGE_REAPPLY_DONE (R657). -/
  | imageReapplyDone
  /-- HARD_RESET (R654). -/
  | hardReset (src : RegSrc) (data : BitVec 32)
  /-- SOFT_RESET (R654). -/
  | softReset (src : RegSrc) (data : BitVec 32)
  /-- MODE_REQ_STANDBY (R649). -/
  | modeReqStandby (src : RegSrc) (data : BitVec 32)
  /-- MODE_REQ_TRAIN (R649). -/
  | modeReqTrain (src : RegSrc) (data : BitVec 32)
  /-- MODE_REQ_LOCK (R649). -/
  | modeReqLock (src : RegSrc) (data : BitVec 32)
  /-- MODE_REQ_RUN (R649). -/
  | modeReqRun (src : RegSrc) (data : BitVec 32)
  /-- MODE_REQ_DRAIN (R649). -/
  | modeReqDrain (src : RegSrc) (data : BitVec 32)
  /-- MODE_REQ_RETAIN (R659). -/
  | modeReqRetain (src : RegSrc) (data : BitVec 32)
  /-- MODE_REQ_SAFE (R649). -/
  | modeReqSafe (src : RegSrc) (data : BitVec 32)
  /-- DRAIN_COMPLETE (R651). -/
  | drainComplete
  /-- DRAIN_TIMEOUT (R651). -/
  | drainTimeout
  /-- WAKE_REQUEST (R660). -/
  | wakeRequest (by_ : WakeSource)
  /-- DROOP_WARN_CROSS (R663). -/
  | droopWarnCross
  /-- DROOP_HOLD_END (R664). -/
  | droopHoldEnd
  /-- DROOP_ALLOWANCE_OVERRUN (R664). -/
  | droopAllowanceOverrun
  /-- BOR (R666). -/
  | bor
  /-- TEMP_UPDATE (R667). -/
  | tempUpdate (t : BitVec 9)
  /-- HEAD_POWER_LOSS (R648). -/
  | headPowerLoss
  /-- EVT_RAISE (R675). -/
  | evtRaise (src : RegSrc) (data : BitVec 32)
  /-- EVENT_PENDING_CLEAR (R677). -/
  | eventPendingClear (src : RegSrc) (k : Fin 128) (data : BitVec 32)
  /-- DBGACC (R684). -/
  | dbgacc (dr : BitVec 58)
  /-- DEBUG_HALT (R687). -/
  | debugHalt (src : RegSrc) (data : BitVec 32)
  /-- DEBUG_RESUME (R687). -/
  | debugResume (src : RegSrc) (data : BitVec 32)
  /-- DEBUG_RESET (R654). -/
  | debugReset (src : RegSrc) (data : BitVec 32)
  /-- PLL_LOCK_RISE (R656). -/
  | pllLockRise
  /-- POR_N_HIGH (R656). -/
  | porNHigh
  /-- MEMORY_TEST_START (R633). -/
  | memoryTestStart
  deriving DecidableEq, Repr

end Sys2Proof
end

