-- ==== Sys2Proof/Machine/Kmap.lean ====
section
/-! DEFINITION. Sparse tables: a list of (key, value) pairs with strictly rising keys in which no value equals the default
of its key. Reading an unlisted key gives the default, and writing the default removes the entry, so equal tables are
equal data. -/

namespace Sys2Proof.Machine

/-- The value at key `k`, `d` where `k` is not listed. -/
def kget {α : Type} (d : α) : KMap α → Nat → α
  | [], _ => d
  | (a, v) :: m, k => if a = k then v else kget d m k

/-- The table without key `k`. -/
def kdel {α : Type} : KMap α → Nat → KMap α
  | [], _ => []
  | (a, v) :: m, k => if a = k then kdel m k else (a, v) :: kdel m k

/-- The table with `v` listed at key `k`. -/
def kins {α : Type} : KMap α → Nat → α → KMap α
  | [], k, v => [(k, v)]
  | (a, w) :: m, k, v => if a = k then (k, v) :: m else if k < a then (k, v) :: (a, w) :: m else (a, w) :: kins m k v

/-- The table with value `v` at key `k`, in canonical form for default `d`. -/
def kset {α : Type} [DecidableEq α] (d : α) (m : KMap α) (k : Nat) (v : α) : KMap α :=
  if v = d then kdel m k else kins m k v

/-- The table with the value at `k` changed by `f`. -/
def kmod {α : Type} [DecidableEq α] (d : α) (m : KMap α) (k : Nat) (f : α → α) : KMap α :=
  kset d m k (f (kget d m k))

/-- Keys rise strictly from above `lo`, and no entry holds the default `d`. -/
def kwfFrom {α : Type} [DecidableEq α] (d : α) : Option Nat → KMap α → Bool
  | _, [] => true
  | lo, (a, v) :: m =>
    (match lo with
      | none => true
      | some l => decide (l < a)) && decide (v ≠ d) && kwfFrom d (some a) m

/-- The canonical form. -/
def kwf {α : Type} [DecidableEq α] (d : α) (m : KMap α) : Bool := kwfFrom d none m

/-- Memory in canonical form: bytes that are not listed read zero (R656). -/
def Memory.wf (m : List Host.Cell) : Bool := kwf (0 : Byte) m

/-- Byte `a` of a memory. -/
def Memory.get (m : List Host.Cell) (a : Nat) : Byte := kget 0 m a

/-- The memory with byte `a` set to `v`. -/
def Memory.set (m : List Host.Cell) (a : Nat) (v : Byte) : List Host.Cell := kset 0 m a v

/-- `n` bytes from address `a` upward. -/
def Memory.read (m : List Host.Cell) (a : Nat) : Nat → List Byte
  | 0 => []
  | n + 1 => Memory.get m a :: Memory.read m (a + 1) n

/-- The memory with `bs` written from address `a` upward. -/
def Memory.write (m : List Host.Cell) (a : Nat) : List Byte → List Host.Cell
  | [] => m
  | b :: bs => Memory.write (Memory.set m a b) (a + 1) bs

/-- The number that bytes spell, the first the lowest (R13). -/
def leNat : List Byte → Nat
  | [] => 0
  | b :: bs => b.toNat + 256 * leNat bs

/-- The `n` lowest bytes of a number, the lowest first (R13). -/
def natLe : Nat → Nat → List Byte
  | 0, _ => []
  | n + 1, v => BitVec.ofNat 8 v :: natLe n (v / 256)

/-- Bits `lo` to `lo + w - 1` of a number. -/
def bits (v lo w : Nat) : Nat := (v >>> lo) % 2 ^ w

/-- `v` with bits `lo` to `lo + w - 1` replaced by `x`. -/
def putBits (v lo w x : Nat) : Nat :=
  v % 2 ^ lo + (x % 2 ^ w) * 2 ^ lo + (v >>> (lo + w)) * 2 ^ (lo + w)

/-- The signed number that the `w` lowest bits of `v` spell in two's complement. -/
def sext (v w : Nat) : Int :=
  let r := v % 2 ^ w
  if r < 2 ^ (w - 1) then (r : Int) else (r : Int) - (2 ^ w : Nat)

/-- The `w` bits of a signed number in two's complement. -/
def wrapBits (v : Int) (w : Nat) : Nat := (v % (2 ^ w : Nat)).toNat

/-- 1 for true. -/
def b2n (b : Bool) : Nat := if b then 1 else 0

end Sys2Proof.Machine
end

