-- ==== Sys2Proof/Machine/Crc.lean ====
section
/-! DEFINITION. The two cyclic redundancy checks of the block: CRC-32 of IEEE 802.3 (R78, R107, R108, R178, R621) and the
CRC-8 of the Vowick bus (R549). -/

namespace Sys2Proof.Machine

/-- `n` steps of the reflected CRC-32 register. -/
def crc32Bits : Nat → Nat → Nat
  | 0, c => c
  | n + 1, c => crc32Bits n (if c % 2 = 1 then (c / 2) ^^^ 0xEDB88320 else c / 2)

/-- The CRC-32 register after a byte. -/
def crc32Byte (c : Nat) (b : Byte) : Nat := crc32Bits 8 (c ^^^ b.toNat)

/-- The CRC-32 of IEEE 802.3 over bytes in order: the register starts at all ones and ends complemented. -/
def crc32 (bs : List Byte) : Nat := (bs.foldl crc32Byte 0xFFFFFFFF) ^^^ 0xFFFFFFFF

/-- `n` steps of a CRC-8 register with polynomial `p`, most significant bit first. -/
def crc8Bits (p : Nat) : Nat → Nat → Nat
  | 0, c => c
  | n + 1, c => crc8Bits p n (if c ≥ 128 then ((2 * c) % 256) ^^^ p else 2 * c)

/-- The CRC-8 with polynomial `p` and start value `init` over bytes in order, most significant bit first. -/
def crc8 (p init : Nat) (bs : List Byte) : Nat := bs.foldl (fun c b => crc8Bits p 8 (c ^^^ b.toNat)) init

end Sys2Proof.Machine
end

