-- ==== Sys2Proof/Config.lean ====
section
/-! DEFINITION. What the spec leaves free, as constants without a body. -/

namespace Sys2Proof

/-- Which bytes a thread reads where a read meets a write of the other pipe in one CK_THR cycle (R525): bit i is 1 where byte i
of the word is the byte written, 0 where it is the byte before. Drawn once per read by the model's counter of free
values (log entry 44). -/
opaque Config.mixMask : Nat → BitVec 8

/-- The data bits of a codeword that carries no flit data (R167, R209, R210): a standby spare's, a replaced lane's, a dropped lane's. The
spec does not state them (DESIGN CHOICE, log entry 108). -/
opaque Config.fillData : Nat → BitVec 5120

/-- The identity code that the integrator ties to JTAG_ID[31:1] (R632; DESIGN CHOICE, log entry 109). -/
opaque Config.jtagId : BitVec 31

/-- The change of steering that the servo makes on a mark, before the bounds of R52 cut it: the spec states the bounds and
the aim, not the amount (log entry 43). -/
opaque Config.servoStep : Nat → Int

end Sys2Proof
end

