-- ==== Sys2Proof/Machine/RegNames.lean ====
section
/-! DEFINITION. The offsets of the registers (R: the region tables) and the places of their fields (F: the field tables),
under the names of the spec. An indexed register takes its indexes as arguments. -/

namespace Sys2Proof.Machine

/-- A field of a register: the register's offset in the aperture, the lowest bit and the width. -/
structure Fld where
  off : Nat
  lo : Nat
  w : Nat
  deriving DecidableEq, Repr

/-- GLB_ID, R3. -/
def R.GLB_ID : Nat := 0x0
def F.GLB_ID_FAMILY : Fld := ⟨R.GLB_ID, 16, 16⟩
def F.GLB_ID_PART : Fld := ⟨R.GLB_ID, 0, 16⟩
/-- GLB_REL, R4. -/
def R.GLB_REL : Nat := 0x4
def F.GLB_REL_MAJOR : Fld := ⟨R.GLB_REL, 16, 8⟩
def F.GLB_REL_MINOR : Fld := ⟨R.GLB_REL, 8, 8⟩
def F.GLB_REL_PATCH : Fld := ⟨R.GLB_REL, 0, 8⟩
/-- GLB_CTRL, R144. -/
def R.GLB_CTRL : Nat := 0x8
def F.GLB_CTRL_EXPERT : Fld := ⟨R.GLB_CTRL, 0, 16⟩
def F.GLB_CTRL_EXP_ON : Fld := ⟨R.GLB_CTRL, 16, 1⟩
/-- GLB_TND_CTRL, R415. -/
def R.GLB_TND_CTRL : Nat := 0x100
def F.GLB_TND_CTRL_EN : Fld := ⟨R.GLB_TND_CTRL, 0, 1⟩
def F.GLB_TND_CTRL_TAKEOVER : Fld := ⟨R.GLB_TND_CTRL, 1, 1⟩
def F.GLB_TND_CTRL_KEY : Fld := ⟨R.GLB_TND_CTRL, 16, 16⟩
/-- GLB_TND_STAT, R415. -/
def R.GLB_TND_STAT : Nat := 0x104
def F.GLB_TND_STAT_STATE : Fld := ⟨R.GLB_TND_STAT, 0, 3⟩
def F.GLB_TND_STAT_ROLE : Fld := ⟨R.GLB_TND_STAT, 3, 1⟩
def F.GLB_TND_STAT_LIVE_IN : Fld := ⟨R.GLB_TND_STAT, 4, 1⟩
def F.GLB_TND_STAT_JOIN_ERR : Fld := ⟨R.GLB_TND_STAT, 5, 1⟩
def F.GLB_TND_STAT_LAT_ERR : Fld := ⟨R.GLB_TND_STAT, 6, 1⟩
def F.GLB_TND_STAT_LINK_ERR : Fld := ⟨R.GLB_TND_STAT, 7, 1⟩
def F.GLB_TND_STAT_PCAUSE : Fld := ⟨R.GLB_TND_STAT, 8, 6⟩
/-- GLB_TND_LAT, R415. -/
def R.GLB_TND_LAT : Nat := 0x108
def F.GLB_TND_LAT_TX_DECL : Fld := ⟨R.GLB_TND_LAT, 0, 8⟩
def F.GLB_TND_LAT_RX_DECL : Fld := ⟨R.GLB_TND_LAT, 8, 8⟩
def F.GLB_TND_LAT_RTT : Fld := ⟨R.GLB_TND_LAT, 16, 8⟩
/-- GLB_HMP_CFG, R638. -/
def R.GLB_HMP_CFG : Nat := 0x200
def F.GLB_HMP_CFG_TMO : Fld := ⟨R.GLB_HMP_CFG, 0, 16⟩
/-- GLB_HMPp_STAT, R638. -/
def R.GLB_HMPp_STAT (p : Nat) : Nat := 0x210 + 4 * p
def F.GLB_HMPp_STAT_RD_OUT (p : Nat) : Fld := ⟨R.GLB_HMPp_STAT p, 0, 11⟩
def F.GLB_HMPp_STAT_WR_OUT (p : Nat) : Fld := ⟨R.GLB_HMPp_STAT p, 11, 11⟩
def F.GLB_HMPp_STAT_TMO (p : Nat) : Fld := ⟨R.GLB_HMPp_STAT p, 22, 1⟩
def F.GLB_HMPp_STAT_ERR (p : Nat) : Fld := ⟨R.GLB_HMPp_STAT p, 23, 1⟩
def F.GLB_HMPp_STAT_LATE (p : Nat) : Fld := ⟨R.GLB_HMPp_STAT p, 24, 1⟩
def F.GLB_HMPp_STAT_QUAR (p : Nat) : Fld := ⟨R.GLB_HMPp_STAT p, 25, 7⟩
/-- GLB_PORT_STAT, R638. -/
def R.GLB_PORT_STAT : Nat := 0x230
def F.GLB_PORT_STAT_LC_TMO : Fld := ⟨R.GLB_PORT_STAT, 0, 1⟩
def F.GLB_PORT_STAT_CSP_ERR : Fld := ⟨R.GLB_PORT_STAT, 1, 1⟩
def F.GLB_PORT_STAT_SCAN_TAMPER : Fld := ⟨R.GLB_PORT_STAT, 2, 1⟩
/-- CRP_MODE, R669. -/
def R.CRP_MODE : Nat := 0x10000
def F.CRP_MODE_MODE : Fld := ⟨R.CRP_MODE, 0, 4⟩
def F.CRP_MODE_PREV : Fld := ⟨R.CRP_MODE, 4, 4⟩
def F.CRP_MODE_BUSY : Fld := ⟨R.CRP_MODE, 8, 1⟩
def F.CRP_MODE_FATAL : Fld := ⟨R.CRP_MODE, 9, 1⟩
/-- CRP_MODE_CTRL, R669. -/
def R.CRP_MODE_CTRL : Nat := 0x10004
def F.CRP_MODE_CTRL_REQ : Fld := ⟨R.CRP_MODE_CTRL, 0, 4⟩
def F.CRP_MODE_CTRL_ERR : Fld := ⟨R.CRP_MODE_CTRL, 4, 1⟩
/-- CRP_RST_CTRL, R669. -/
def R.CRP_RST_CTRL : Nat := 0x10008
def F.CRP_RST_CTRL_HARD : Fld := ⟨R.CRP_RST_CTRL, 0, 1⟩
def F.CRP_RST_CTRL_SOFT : Fld := ⟨R.CRP_RST_CTRL, 1, 1⟩
def F.CRP_RST_CTRL_KEY : Fld := ⟨R.CRP_RST_CTRL, 16, 16⟩
/-- CRP_RST_CAUSE, R669. -/
def R.CRP_RST_CAUSE : Nat := 0x1000C
def F.CRP_RST_CAUSE_POR : Fld := ⟨R.CRP_RST_CAUSE, 0, 1⟩
def F.CRP_RST_CAUSE_BOR : Fld := ⟨R.CRP_RST_CAUSE, 1, 1⟩
def F.CRP_RST_CAUSE_HARD : Fld := ⟨R.CRP_RST_CAUSE, 2, 1⟩
def F.CRP_RST_CAUSE_SOFT : Fld := ⟨R.CRP_RST_CAUSE, 3, 1⟩
def F.CRP_RST_CAUSE_CHAIN : Fld := ⟨R.CRP_RST_CAUSE, 4, 1⟩
def F.CRP_RST_CAUSE_DEBUG : Fld := ⟨R.CRP_RST_CAUSE, 5, 1⟩
def F.CRP_RST_CAUSE_PLL : Fld := ⟨R.CRP_RST_CAUSE, 6, 1⟩
def F.CRP_RST_CAUSE_WAKE : Fld := ⟨R.CRP_RST_CAUSE, 7, 1⟩
def F.CRP_RST_CAUSE_LAST : Fld := ⟨R.CRP_RST_CAUSE, 8, 3⟩
/-- CRP_LINK_RST, R669. -/
def R.CRP_LINK_RST : Nat := 0x10010
def F.CRP_LINK_RST_LG : Fld := ⟨R.CRP_LINK_RST, 0, 8⟩
/-- CRP_DRAIN, R669. -/
def R.CRP_DRAIN : Nat := 0x10014
def F.CRP_DRAIN_TMO : Fld := ⟨R.CRP_DRAIN, 0, 24⟩
def F.CRP_DRAIN_TMO_HIT : Fld := ⟨R.CRP_DRAIN, 31, 1⟩
/-- CRP_DROOP_CFG, R669. -/
def R.CRP_DROOP_CFG : Nat := 0x10018
def F.CRP_DROOP_CFG_WARN : Fld := ⟨R.CRP_DROOP_CFG, 0, 8⟩
def F.CRP_DROOP_CFG_WARN_HOLD : Fld := ⟨R.CRP_DROOP_CFG, 8, 10⟩
/-- CRP_DROOP_STAT, R669. -/
def R.CRP_DROOP_STAT : Nat := 0x1001C
def F.CRP_DROOP_STAT_HOLD : Fld := ⟨R.CRP_DROOP_STAT, 0, 1⟩
def F.CRP_DROOP_STAT_BELOW : Fld := ⟨R.CRP_DROOP_STAT, 1, 1⟩
def F.CRP_DROOP_STAT_BOOST : Fld := ⟨R.CRP_DROOP_STAT, 2, 1⟩
def F.CRP_DROOP_STAT_HOLDS : Fld := ⟨R.CRP_DROOP_STAT, 16, 16⟩
/-- CRP_WAKE, R669. -/
def R.CRP_WAKE : Nat := 0x10020
def F.CRP_WAKE_ATTN_EN : Fld := ⟨R.CRP_WAKE, 0, 1⟩
def F.CRP_WAKE_SRC : Fld := ⟨R.CRP_WAKE, 8, 3⟩
/-- CRP_PWR_STAT, R669. -/
def R.CRP_PWR_STAT : Nat := 0x10024
def F.CRP_PWR_STAT_MAIN_REQ : Fld := ⟨R.CRP_PWR_STAT, 0, 1⟩
def F.CRP_PWR_STAT_MAIN_ACK : Fld := ⟨R.CRP_PWR_STAT, 1, 1⟩
def F.CRP_PWR_STAT_RET_REQ : Fld := ⟨R.CRP_PWR_STAT, 2, 1⟩
def F.CRP_PWR_STAT_RET_ACK : Fld := ⟨R.CRP_PWR_STAT, 3, 1⟩
def F.CRP_PWR_STAT_PLL_LOCK : Fld := ⟨R.CRP_PWR_STAT, 4, 1⟩
def F.CRP_PWR_STAT_ISO_EN : Fld := ⟨R.CRP_PWR_STAT, 5, 1⟩
def F.CRP_PWR_STAT_HMP_FLUSH : Fld := ⟨R.CRP_PWR_STAT, 6, 1⟩
/-- CRP_TEMP, R669. -/
def R.CRP_TEMP : Nat := 0x10028
def F.CRP_TEMP_T : Fld := ⟨R.CRP_TEMP, 0, 9⟩
def F.CRP_TEMP_TRIP : Fld := ⟨R.CRP_TEMP, 16, 9⟩
def F.CRP_TEMP_OVER : Fld := ⟨R.CRP_TEMP, 25, 1⟩
/-- CFG_CTRL, R144. -/
def R.CFG_CTRL : Nat := 0x20000
def F.CFG_CTRL_START : Fld := ⟨R.CFG_CTRL, 0, 1⟩
def F.CFG_CTRL_SRC : Fld := ⟨R.CFG_CTRL, 1, 1⟩
def F.CFG_CTRL_ABORT : Fld := ⟨R.CFG_CTRL, 2, 1⟩
def F.CFG_CTRL_DISARM : Fld := ⟨R.CFG_CTRL, 3, 1⟩
def F.CFG_CTRL_ACTIVATE : Fld := ⟨R.CFG_CTRL, 4, 1⟩
/-- CFG_STAT, R144. -/
def R.CFG_STAT : Nat := 0x20004
def F.CFG_STAT_STAGED : Fld := ⟨R.CFG_STAT, 0, 3⟩
def F.CFG_STAT_ARM_ERR : Fld := ⟨R.CFG_STAT, 4, 1⟩
def F.CFG_STAT_START_ERR : Fld := ⟨R.CFG_STAT, 5, 1⟩
def F.CFG_STAT_UNSIGNED : Fld := ⟨R.CFG_STAT, 6, 1⟩
def F.CFG_STAT_CODE : Fld := ⟨R.CFG_STAT, 8, 8⟩
def F.CFG_STAT_SECT : Fld := ⟨R.CFG_STAT, 16, 9⟩
def F.CFG_STAT_SECT_V : Fld := ⟨R.CFG_STAT, 25, 1⟩
/-- CFG_SRC_LO, R144. -/
def R.CFG_SRC_LO : Nat := 0x20008
def F.CFG_SRC_LO_ADDR : Fld := ⟨R.CFG_SRC_LO, 6, 26⟩
/-- CFG_SRC_HI, R144. -/
def R.CFG_SRC_HI : Nat := 0x2000C
def F.CFG_SRC_HI_ADDR : Fld := ⟨R.CFG_SRC_HI, 0, 32⟩
/-- CFG_PROGRESS, R144. -/
def R.CFG_PROGRESS : Nat := 0x20010
def F.CFG_PROGRESS_BYTES : Fld := ⟨R.CFG_PROGRESS, 0, 26⟩
/-- CFG_ARM_LO, R144. -/
def R.CFG_ARM_LO : Nat := 0x20018
def F.CFG_ARM_LO_SHIFT : Fld := ⟨R.CFG_ARM_LO, 0, 32⟩
/-- CFG_ARM_HI, R144. -/
def R.CFG_ARM_HI : Nat := 0x2001C
def F.CFG_ARM_HI_SHIFT : Fld := ⟨R.CFG_ARM_HI, 0, 32⟩
/-- CFG_STG_PLAN_LO, R144. -/
def R.CFG_STG_PLAN_LO : Nat := 0x20020
def F.CFG_STG_PLAN_LO_ID : Fld := ⟨R.CFG_STG_PLAN_LO, 0, 32⟩
/-- CFG_STG_PLAN_HI, R144. -/
def R.CFG_STG_PLAN_HI : Nat := 0x20024
def F.CFG_STG_PLAN_HI_ID : Fld := ⟨R.CFG_STG_PLAN_HI, 0, 32⟩
/-- CONTRACT_STAT, R144. -/
def R.CONTRACT_STAT : Nat := 0x20028
def F.CONTRACT_STAT_VOID : Fld := ⟨R.CONTRACT_STAT, 0, 1⟩
def F.CONTRACT_STAT_LOCKED_WR : Fld := ⟨R.CONTRACT_STAT, 1, 1⟩
def F.CONTRACT_STAT_EXPERT : Fld := ⟨R.CONTRACT_STAT, 2, 1⟩
def F.CONTRACT_STAT_FIRST_OFF : Fld := ⟨R.CONTRACT_STAT, 8, 24⟩
/-- CONTRACT_LEVEL, R144. -/
def R.CONTRACT_LEVEL : Nat := 0x2002C
def F.CONTRACT_LEVEL_LEVEL : Fld := ⟨R.CONTRACT_LEVEL, 0, 8⟩
/-- CFG_KEY_STAT, R144. -/
def R.CFG_KEY_STAT : Nat := 0x20030
def F.CFG_KEY_STAT_PRESENT : Fld := ⟨R.CFG_KEY_STAT, 0, 4⟩
def F.CFG_KEY_STAT_REVOKED : Fld := ⟨R.CFG_KEY_STAT, 4, 4⟩
def F.CFG_KEY_STAT_MIN_SVN : Fld := ⟨R.CFG_KEY_STAT, 8, 8⟩
/-- CFG_KEYHn_i, R144. -/
def R.CFG_KEYHn_i (n : Nat) (i : Nat) : Nat := 0x20100 + 64 * n + 4 * i
def F.CFG_KEYHn_i_H (n : Nat) (i : Nat) : Fld := ⟨R.CFG_KEYHn_i n i, 0, 32⟩
/-- SCH_TIME_LO, R89. -/
def R.SCH_TIME_LO : Nat := 0x40000
def F.SCH_TIME_LO_T : Fld := ⟨R.SCH_TIME_LO, 0, 32⟩
/-- SCH_TIME_HI, R89. -/
def R.SCH_TIME_HI : Nat := 0x40004
def F.SCH_TIME_HI_T : Fld := ⟨R.SCH_TIME_HI, 0, 32⟩
/-- SCH_SHIFT_LO, R89. -/
def R.SCH_SHIFT_LO : Nat := 0x40008
def F.SCH_SHIFT_LO_N : Fld := ⟨R.SCH_SHIFT_LO, 0, 32⟩
/-- SCH_SHIFT_HI, R89. -/
def R.SCH_SHIFT_HI : Nat := 0x4000C
def F.SCH_SHIFT_HI_N : Fld := ⟨R.SCH_SHIFT_HI, 0, 32⟩
/-- SCH_SHIFT_CFG, R89. -/
def R.SCH_SHIFT_CFG : Nat := 0x40010
def F.SCH_SHIFT_CFG_K : Fld := ⟨R.SCH_SHIFT_CFG, 0, 5⟩
def F.SCH_SHIFT_CFG_DROOP_ALLOW : Fld := ⟨R.SCH_SHIFT_CFG, 16, 16⟩
/-- SCH_BSTAT, R89. -/
def R.SCH_BSTAT : Nat := 0x40014
def F.SCH_BSTAT_SWAP_PEND : Fld := ⟨R.SCH_BSTAT, 0, 1⟩
def F.SCH_BSTAT_SWAP_DONE : Fld := ⟨R.SCH_BSTAT, 1, 1⟩
def F.SCH_BSTAT_SWAP_MISS : Fld := ⟨R.SCH_BSTAT, 2, 1⟩
def F.SCH_BSTAT_SWAP_CANCEL : Fld := ⟨R.SCH_BSTAT, 3, 1⟩
/-- SCH_PLAN_LO, R89. -/
def R.SCH_PLAN_LO : Nat := 0x40018
def F.SCH_PLAN_LO_ID : Fld := ⟨R.SCH_PLAN_LO, 0, 32⟩
/-- SCH_PLAN_HI, R89. -/
def R.SCH_PLAN_HI : Nat := 0x4001C
def F.SCH_PLAN_HI_ID : Fld := ⟨R.SCH_PLAN_HI, 0, 32⟩
/-- SCH_TL_CFG, R89. -/
def R.SCH_TL_CFG : Nat := 0x40020
def F.SCH_TL_CFG_UP_LG : Fld := ⟨R.SCH_TL_CFG, 0, 3⟩
def F.SCH_TL_CFG_ALT_EN : Fld := ⟨R.SCH_TL_CFG, 3, 1⟩
def F.SCH_TL_CFG_ALT_LG : Fld := ⟨R.SCH_TL_CFG, 4, 3⟩
def F.SCH_TL_CFG_ROLE : Fld := ⟨R.SCH_TL_CFG, 8, 2⟩
def F.SCH_TL_CFG_HOLD_EPOCHS : Fld := ⟨R.SCH_TL_CFG, 16, 4⟩
/-- SCH_TL_WINDER, R89. -/
def R.SCH_TL_WINDER : Nat := 0x40024
def F.SCH_TL_WINDER_ID : Fld := ⟨R.SCH_TL_WINDER, 0, 20⟩
/-- SCH_TL_STANDBY, R89. -/
def R.SCH_TL_STANDBY : Nat := 0x40028
def F.SCH_TL_STANDBY_ID : Fld := ⟨R.SCH_TL_STANDBY, 0, 20⟩
/-- SCH_TL_CTRL, R89. -/
def R.SCH_TL_CTRL : Nat := 0x4002C
def F.SCH_TL_CTRL_RELOCK : Fld := ⟨R.SCH_TL_CTRL, 0, 1⟩
def F.SCH_TL_CTRL_FREEZE : Fld := ⟨R.SCH_TL_CTRL, 1, 1⟩
/-- SCH_TL_STAT, R89. -/
def R.SCH_TL_STAT : Nat := 0x40030
def F.SCH_TL_STAT_STATE : Fld := ⟨R.SCH_TL_STAT, 0, 3⟩
def F.SCH_TL_STAT_UP_SEL : Fld := ⟨R.SCH_TL_STAT, 3, 1⟩
def F.SCH_TL_STAT_HOPS : Fld := ⟨R.SCH_TL_STAT, 4, 5⟩
def F.SCH_TL_STAT_ACQD : Fld := ⟨R.SCH_TL_STAT, 9, 1⟩
def F.SCH_TL_STAT_ERR : Fld := ⟨R.SCH_TL_STAT, 16, 8⟩
/-- SCH_TL_FREQ, R89. -/
def R.SCH_TL_FREQ : Nat := 0x40034
def F.SCH_TL_FREQ_STEER : Fld := ⟨R.SCH_TL_FREQ, 0, 32⟩
/-- SCH_PMA_LAT, R89. -/
def R.SCH_PMA_LAT : Nat := 0x40038
def F.SCH_PMA_LAT_TX_LAT : Fld := ⟨R.SCH_PMA_LAT, 0, 16⟩
def F.SCH_PMA_LAT_RX_LAT : Fld := ⟨R.SCH_PMA_LAT, 16, 16⟩
/-- SCH_CLS_STAT, R89. -/
def R.SCH_CLS_STAT : Nat := 0x40040
def F.SCH_CLS_STAT_MODE : Fld := ⟨R.SCH_CLS_STAT, 0, 1⟩
def F.SCH_CLS_STAT_LOCK : Fld := ⟨R.SCH_CLS_STAT, 1, 1⟩
def F.SCH_CLS_STAT_CONTRACT : Fld := ⟨R.SCH_CLS_STAT, 2, 1⟩
def F.SCH_CLS_STAT_DROOP : Fld := ⟨R.SCH_CLS_STAT, 3, 1⟩
def F.SCH_CLS_STAT_PSUSP : Fld := ⟨R.SCH_CLS_STAT, 4, 1⟩
def F.SCH_CLS_STAT_SWAP_CANCEL : Fld := ⟨R.SCH_CLS_STAT, 5, 1⟩
def F.SCH_CLS_STAT_TANDEM : Fld := ⟨R.SCH_CLS_STAT, 6, 1⟩
def F.SCH_CLS_STAT_LG_VOID : Fld := ⟨R.SCH_CLS_STAT, 8, 8⟩
/-- SCH_CLS_CAUSE, R89. -/
def R.SCH_CLS_CAUSE : Nat := 0x40044
def F.SCH_CLS_CAUSE_MODE : Fld := ⟨R.SCH_CLS_CAUSE, 0, 1⟩
def F.SCH_CLS_CAUSE_LOCK : Fld := ⟨R.SCH_CLS_CAUSE, 1, 1⟩
def F.SCH_CLS_CAUSE_CONTRACT : Fld := ⟨R.SCH_CLS_CAUSE, 2, 1⟩
def F.SCH_CLS_CAUSE_DROOP : Fld := ⟨R.SCH_CLS_CAUSE, 3, 1⟩
def F.SCH_CLS_CAUSE_PSUSP : Fld := ⟨R.SCH_CLS_CAUSE, 4, 1⟩
def F.SCH_CLS_CAUSE_SWAP_CANCEL : Fld := ⟨R.SCH_CLS_CAUSE, 5, 1⟩
def F.SCH_CLS_CAUSE_TANDEM : Fld := ⟨R.SCH_CLS_CAUSE, 6, 1⟩
def F.SCH_CLS_CAUSE_LG_VOID : Fld := ⟨R.SCH_CLS_CAUSE, 8, 8⟩
/-- SCH_DROOP_USED, R89. -/
def R.SCH_DROOP_USED : Nat := 0x40048
def F.SCH_DROOP_USED_US : Fld := ⟨R.SCH_DROOP_USED, 0, 32⟩
/-- SCH_LGn_PEER, R89. -/
def R.SCH_LGn_PEER (n : Nat) : Nat := 0x40100 + 16 * n
def F.SCH_LGn_PEER_PEER_LOCK (n : Nat) : Fld := ⟨R.SCH_LGn_PEER n, 0, 3⟩
def F.SCH_LGn_PEER_PEER_VOID (n : Nat) : Fld := ⟨R.SCH_LGn_PEER n, 3, 1⟩
def F.SCH_LGn_PEER_PEER_PSUSP (n : Nat) : Fld := ⟨R.SCH_LGn_PEER n, 4, 1⟩
def F.SCH_LGn_PEER_PEER_DROOP (n : Nat) : Fld := ⟨R.SCH_LGn_PEER n, 5, 1⟩
def F.SCH_LGn_PEER_PEER_SWAP (n : Nat) : Fld := ⟨R.SCH_LGn_PEER n, 6, 1⟩
def F.SCH_LGn_PEER_PLAN_MISMATCH (n : Nat) : Fld := ⟨R.SCH_LGn_PEER n, 7, 1⟩
def F.SCH_LGn_PEER_MARK_MISS (n : Nat) : Fld := ⟨R.SCH_LGn_PEER n, 8, 1⟩
def F.SCH_LGn_PEER_FALLBACK (n : Nat) : Fld := ⟨R.SCH_LGn_PEER n, 9, 1⟩
def F.SCH_LGn_PEER_DELAY_MISMATCH (n : Nat) : Fld := ⟨R.SCH_LGn_PEER n, 10, 1⟩
def F.SCH_LGn_PEER_VOIDED (n : Nat) : Fld := ⟨R.SCH_LGn_PEER n, 11, 1⟩
def F.SCH_LGn_PEER_PEER_HOPS (n : Nat) : Fld := ⟨R.SCH_LGn_PEER n, 16, 5⟩
/-- SCH_LGn_DELAY, R89. -/
def R.SCH_LGn_DELAY (n : Nat) : Nat := 0x40104 + 16 * n
def F.SCH_LGn_DELAY_DELAY (n : Nat) : Fld := ⟨R.SCH_LGn_DELAY n, 0, 24⟩
/-- SCH_RPT_CTRL, R89. -/
def R.SCH_RPT_CTRL : Nat := 0x40200
def F.SCH_RPT_CTRL_WR_EN : Fld := ⟨R.SCH_RPT_CTRL, 0, 1⟩
def F.SCH_RPT_CTRL_RING_LOG2 : Fld := ⟨R.SCH_RPT_CTRL, 8, 4⟩
/-- SCH_RPT_STAT, R89. -/
def R.SCH_RPT_STAT : Nat := 0x40204
def F.SCH_RPT_STAT_BANK : Fld := ⟨R.SCH_RPT_STAT, 0, 1⟩
def F.SCH_RPT_STAT_VALID : Fld := ⟨R.SCH_RPT_STAT, 1, 1⟩
def F.SCH_RPT_STAT_FILLING : Fld := ⟨R.SCH_RPT_STAT, 2, 1⟩
def F.SCH_RPT_STAT_WR_BUSY : Fld := ⟨R.SCH_RPT_STAT, 3, 1⟩
def F.SCH_RPT_STAT_WR_ERR : Fld := ⟨R.SCH_RPT_STAT, 4, 1⟩
def F.SCH_RPT_STAT_WR_SKIP : Fld := ⟨R.SCH_RPT_STAT, 5, 1⟩
def F.SCH_RPT_STAT_SEQ : Fld := ⟨R.SCH_RPT_STAT, 8, 24⟩
/-- SCH_RPT_ADDR_LO, R89. -/
def R.SCH_RPT_ADDR_LO : Nat := 0x40208
def F.SCH_RPT_ADDR_LO_ADDR : Fld := ⟨R.SCH_RPT_ADDR_LO, 6, 26⟩
/-- SCH_RPT_ADDR_HI, R89. -/
def R.SCH_RPT_ADDR_HI : Nat := 0x4020C
def F.SCH_RPT_ADDR_HI_ADDR : Fld := ⟨R.SCH_RPT_ADDR_HI, 0, 32⟩
/-- SCH_RPT_WIDX, R89. -/
def R.SCH_RPT_WIDX : Nat := 0x40210
def F.SCH_RPT_WIDX_IDX : Fld := ⟨R.SCH_RPT_WIDX, 0, 12⟩
/-- SCH_CAL_SEL, R222. -/
def R.SCH_CAL_SEL : Nat := 0x40300
def F.SCH_CAL_SEL_LG : Fld := ⟨R.SCH_CAL_SEL, 0, 3⟩
def F.SCH_CAL_SEL_DIR : Fld := ⟨R.SCH_CAL_SEL, 3, 1⟩
def F.SCH_CAL_SEL_STAGED : Fld := ⟨R.SCH_CAL_SEL, 4, 1⟩
def F.SCH_CAL_SEL_FB : Fld := ⟨R.SCH_CAL_SEL, 5, 1⟩
def F.SCH_CAL_SEL_WCODE : Fld := ⟨R.SCH_CAL_SEL, 6, 3⟩
def F.SCH_CAL_SEL_COUNT : Fld := ⟨R.SCH_CAL_SEL, 16, 16⟩
/-- SCH_BSM_SEL, R342. -/
def R.SCH_BSM_SEL : Nat := 0x40310
def F.SCH_BSM_SEL_STAGED : Fld := ⟨R.SCH_BSM_SEL, 0, 1⟩
def F.SCH_BSM_SEL_PAGE : Fld := ⟨R.SCH_BSM_SEL, 4, 4⟩
/-- SCH_RPT_BANK0, R89. -/
def R.SCH_RPT_BANK0 (w : Nat) : Nat := 0x48000 + 4 * w
/-- SCH_RPT_BANK1, R89. -/
def R.SCH_RPT_BANK1 (w : Nat) : Nat := 0x4A000 + 4 * w
/-- SCH_BSM_WIN, R342. -/
def R.SCH_BSM_WIN (w : Nat) : Nat := 0x50000 + 4 * w
def F.SCH_BSM_WIN_D (w : Nat) : Fld := ⟨R.SCH_BSM_WIN w, 0, 32⟩
/-- SCH_CAL_WIN, R222. -/
def R.SCH_CAL_WIN (w : Nat) : Nat := 0x60000 + 4 * w
def F.SCH_CAL_WIN_ENTRY (w : Nat) : Fld := ⟨R.SCH_CAL_WIN w, 0, 32⟩
/-- LNK_REMAP_THR, R222. -/
def R.LNK_REMAP_THR : Nat := 0x80000
def F.LNK_REMAP_THR_THR : Fld := ⟨R.LNK_REMAP_THR, 0, 16⟩
/-- LNK_SPARE_STAT, R222. -/
def R.LNK_SPARE_STAT : Nat := 0x80004
def F.LNK_SPARE_STAT_RX16_LANE : Fld := ⟨R.LNK_SPARE_STAT, 0, 5⟩
def F.LNK_SPARE_STAT_RX16_LG : Fld := ⟨R.LNK_SPARE_STAT, 5, 3⟩
def F.LNK_SPARE_STAT_RX17_LANE : Fld := ⟨R.LNK_SPARE_STAT, 8, 5⟩
def F.LNK_SPARE_STAT_RX17_LG : Fld := ⟨R.LNK_SPARE_STAT, 13, 3⟩
def F.LNK_SPARE_STAT_TX16_LANE : Fld := ⟨R.LNK_SPARE_STAT, 16, 5⟩
def F.LNK_SPARE_STAT_TX16_LG : Fld := ⟨R.LNK_SPARE_STAT, 21, 3⟩
def F.LNK_SPARE_STAT_TX17_LANE : Fld := ⟨R.LNK_SPARE_STAT, 24, 5⟩
def F.LNK_SPARE_STAT_TX17_LG : Fld := ⟨R.LNK_SPARE_STAT, 29, 3⟩
/-- LNK_Ln_CTRL, R222. -/
def R.LNK_Ln_CTRL (l : Nat) : Nat := 0x81000 + 16 * l
def F.LNK_Ln_CTRL_EXCLUDE (l : Nat) : Fld := ⟨R.LNK_Ln_CTRL l, 0, 1⟩
def F.LNK_Ln_CTRL_TX_IDLE (l : Nat) : Fld := ⟨R.LNK_Ln_CTRL l, 1, 1⟩
/-- LNK_Ln_STAT, R222. -/
def R.LNK_Ln_STAT (l : Nat) : Nat := 0x81004 + 16 * l
def F.LNK_Ln_STAT_SIG (l : Nat) : Fld := ⟨R.LNK_Ln_STAT l, 0, 1⟩
def F.LNK_Ln_STAT_ALIGNED (l : Nat) : Fld := ⟨R.LNK_Ln_STAT l, 1, 1⟩
def F.LNK_Ln_STAT_FAILED (l : Nat) : Fld := ⟨R.LNK_Ln_STAT l, 2, 1⟩
def F.LNK_Ln_STAT_RX_LANE (l : Nat) : Fld := ⟨R.LNK_Ln_STAT l, 3, 5⟩
def F.LNK_Ln_STAT_LG (l : Nat) : Fld := ⟨R.LNK_Ln_STAT l, 8, 3⟩
def F.LNK_Ln_STAT_IN_USE (l : Nat) : Fld := ⟨R.LNK_Ln_STAT l, 11, 1⟩
def F.LNK_Ln_STAT_SPARE (l : Nat) : Fld := ⟨R.LNK_Ln_STAT l, 12, 1⟩
def F.LNK_Ln_STAT_SKEW (l : Nat) : Fld := ⟨R.LNK_Ln_STAT l, 16, 9⟩
/-- LNK_LGn_CFG, R222. -/
def R.LNK_LGn_CFG (n : Nat) : Nat := 0x82000 + 256 * n
def F.LNK_LGn_CFG_ACTIVE (n : Nat) : Fld := ⟨R.LNK_LGn_CFG n, 0, 1⟩
def F.LNK_LGn_CFG_WIDTH (n : Nat) : Fld := ⟨R.LNK_LGn_CFG n, 1, 3⟩
def F.LNK_LGn_CFG_RATE (n : Nat) : Fld := ⟨R.LNK_LGn_CFG n, 4, 2⟩
def F.LNK_LGn_CFG_CLASS_S (n : Nat) : Fld := ⟨R.LNK_LGn_CFG n, 6, 1⟩
def F.LNK_LGn_CFG_PROT (n : Nat) : Fld := ⟨R.LNK_LGn_CFG n, 7, 1⟩
def F.LNK_LGn_CFG_PRECODE_TX (n : Nat) : Fld := ⟨R.LNK_LGn_CFG n, 8, 1⟩
def F.LNK_LGn_CFG_PRECODE_RX (n : Nat) : Fld := ⟨R.LNK_LGn_CFG n, 9, 1⟩
def F.LNK_LGn_CFG_SPARE_OK (n : Nat) : Fld := ⟨R.LNK_LGn_CFG n, 10, 2⟩
def F.LNK_LGn_CFG_BASE (n : Nat) : Fld := ⟨R.LNK_LGn_CFG n, 12, 4⟩
def F.LNK_LGn_CFG_FB_MASK (n : Nat) : Fld := ⟨R.LNK_LGn_CFG n, 16, 5⟩
/-- LNK_LGn_CTRL, R222. -/
def R.LNK_LGn_CTRL (n : Nat) : Nat := 0x82004 + 256 * n
def F.LNK_LGn_CTRL_EN (n : Nat) : Fld := ⟨R.LNK_LGn_CTRL n, 0, 1⟩
def F.LNK_LGn_CTRL_RETRAIN (n : Nat) : Fld := ⟨R.LNK_LGn_CTRL n, 1, 1⟩
def F.LNK_LGn_CTRL_REMAP_EN (n : Nat) : Fld := ⟨R.LNK_LGn_CTRL n, 2, 1⟩
def F.LNK_LGn_CTRL_DEGRADE_EN (n : Nat) : Fld := ⟨R.LNK_LGn_CTRL n, 3, 1⟩
def F.LNK_LGn_CTRL_RESTORE_EN (n : Nat) : Fld := ⟨R.LNK_LGn_CTRL n, 4, 1⟩
/-- LNK_LGn_STAT, R222. -/
def R.LNK_LGn_STAT (n : Nat) : Nat := 0x82008 + 256 * n
def F.LNK_LGn_STAT_TSTATE (n : Nat) : Fld := ⟨R.LNK_LGn_STAT n, 0, 4⟩
def F.LNK_LGn_STAT_WIDTH (n : Nat) : Fld := ⟨R.LNK_LGn_STAT n, 4, 3⟩
def F.LNK_LGn_STAT_DEGRADED (n : Nat) : Fld := ⟨R.LNK_LGn_STAT n, 7, 1⟩
def F.LNK_LGn_STAT_SEL (n : Nat) : Fld := ⟨R.LNK_LGn_STAT n, 8, 4⟩
def F.LNK_LGn_STAT_REMAP_BUSY (n : Nat) : Fld := ⟨R.LNK_LGn_STAT n, 12, 1⟩
def F.LNK_LGn_STAT_WIDTH_BUSY (n : Nat) : Fld := ⟨R.LNK_LGn_STAT n, 13, 1⟩
def F.LNK_LGn_STAT_PROT_ON (n : Nat) : Fld := ⟨R.LNK_LGn_STAT n, 14, 1⟩
def F.LNK_LGn_STAT_TRAIN_FAIL (n : Nat) : Fld := ⟨R.LNK_LGn_STAT n, 16, 1⟩
def F.LNK_LGn_STAT_PEER_ERR (n : Nat) : Fld := ⟨R.LNK_LGn_STAT n, 17, 1⟩
def F.LNK_LGn_STAT_PROTO_ERR (n : Nat) : Fld := ⟨R.LNK_LGn_STAT n, 18, 1⟩
def F.LNK_LGn_STAT_REPLAY_FAIL (n : Nat) : Fld := ⟨R.LNK_LGn_STAT n, 19, 1⟩
def F.LNK_LGn_STAT_LAND_OVF (n : Nat) : Fld := ⟨R.LNK_LGn_STAT n, 20, 1⟩
def F.LNK_LGn_STAT_SLOT_VIOL (n : Nat) : Fld := ⟨R.LNK_LGn_STAT n, 21, 1⟩
def F.LNK_LGn_STAT_REMAP_REFUSED (n : Nat) : Fld := ⟨R.LNK_LGn_STAT n, 22, 1⟩
/-- LNK_LGn_PARM, R222. -/
def R.LNK_LGn_PARM (n : Nat) : Nat := 0x8200C + 256 * n
def F.LNK_LGn_PARM_CRET_INT (n : Nat) : Fld := ⟨R.LNK_LGn_PARM n, 0, 10⟩
def F.LNK_LGn_PARM_ACK_INT (n : Nat) : Fld := ⟨R.LNK_LGn_PARM n, 10, 6⟩
def F.LNK_LGn_PARM_FEC_MODE (n : Nat) : Fld := ⟨R.LNK_LGn_PARM n, 16, 2⟩
def F.LNK_LGn_PARM_REPLAY_LIMIT (n : Nat) : Fld := ⟨R.LNK_LGn_PARM n, 20, 4⟩
def F.LNK_LGn_PARM_REPLAY_TMO (n : Nat) : Fld := ⟨R.LNK_LGn_PARM n, 24, 8⟩
/-- LNK_LGn_LAND, R222. -/
def R.LNK_LGn_LAND (n : Nat) : Nat := 0x82010 + 256 * n
def F.LNK_LGn_LAND_BASE (n : Nat) : Fld := ⟨R.LNK_LGn_LAND n, 0, 10⟩
def F.LNK_LGn_LAND_SLOTS (n : Nat) : Fld := ⟨R.LNK_LGn_LAND n, 16, 16⟩
/-- LNK_LGn_SEQ, R222. -/
def R.LNK_LGn_SEQ (n : Nat) : Nat := 0x82014 + 256 * n
def F.LNK_LGn_SEQ_TX_NEXT (n : Nat) : Fld := ⟨R.LNK_LGn_SEQ n, 0, 17⟩
def F.LNK_LGn_SEQ_UNACKED (n : Nat) : Fld := ⟨R.LNK_LGn_SEQ n, 17, 14⟩
/-- LNK_LGn_RSEQ, R222. -/
def R.LNK_LGn_RSEQ (n : Nat) : Nat := 0x82018 + 256 * n
def F.LNK_LGn_RSEQ_RX_NEXT (n : Nat) : Fld := ⟨R.LNK_LGn_RSEQ n, 0, 17⟩
/-- LNK_LGn_CREDv, R222. -/
def R.LNK_LGn_CREDv (n : Nat) (v : Nat) : Nat := 0x82020 + 256 * n + 4 * v
def F.LNK_LGn_CREDv_TX_AVAIL (n : Nat) (v : Nat) : Fld := ⟨R.LNK_LGn_CREDv n v, 0, 16⟩
def F.LNK_LGn_CREDv_RX_POOL (n : Nat) (v : Nat) : Fld := ⟨R.LNK_LGn_CREDv n v, 16, 16⟩
/-- LNK_LGn_GCM_CTRL, R222. -/
def R.LNK_LGn_GCM_CTRL (n : Nat) : Nat := 0x82040 + 256 * n
def F.LNK_LGn_GCM_CTRL_EN (n : Nat) : Fld := ⟨R.LNK_LGn_GCM_CTRL n, 0, 1⟩
def F.LNK_LGn_GCM_CTRL_REQUIRE (n : Nat) : Fld := ⟨R.LNK_LGn_GCM_CTRL n, 1, 1⟩
def F.LNK_LGn_GCM_CTRL_ARMED (n : Nat) : Fld := ⟨R.LNK_LGn_GCM_CTRL n, 2, 1⟩
def F.LNK_LGn_GCM_CTRL_TX_KP (n : Nat) : Fld := ⟨R.LNK_LGn_GCM_CTRL n, 3, 1⟩
def F.LNK_LGn_GCM_CTRL_ON (n : Nat) : Fld := ⟨R.LNK_LGn_GCM_CTRL n, 4, 1⟩
def F.LNK_LGn_GCM_CTRL_KEY_ERR (n : Nat) : Fld := ⟨R.LNK_LGn_GCM_CTRL n, 5, 1⟩
def F.LNK_LGn_GCM_CTRL_SLOT_VALID (n : Nat) : Fld := ⟨R.LNK_LGn_GCM_CTRL n, 8, 4⟩
/-- LNK_LGn_GCM_ARM_LO, R222. -/
def R.LNK_LGn_GCM_ARM_LO (n : Nat) : Nat := 0x82044 + 256 * n
def F.LNK_LGn_GCM_ARM_LO_SHIFT (n : Nat) : Fld := ⟨R.LNK_LGn_GCM_ARM_LO n, 0, 32⟩
/-- LNK_LGn_GCM_ARM_HI, R222. -/
def R.LNK_LGn_GCM_ARM_HI (n : Nat) : Nat := 0x82048 + 256 * n
def F.LNK_LGn_GCM_ARM_HI_SHIFT (n : Nat) : Fld := ⟨R.LNK_LGn_GCM_ARM_HI n, 0, 32⟩
/-- LNK_LGn_KEY_CMD, R222. -/
def R.LNK_LGn_KEY_CMD (n : Nat) : Nat := 0x8204C + 256 * n
def F.LNK_LGn_KEY_CMD_LOAD (n : Nat) : Fld := ⟨R.LNK_LGn_KEY_CMD n, 0, 1⟩
def F.LNK_LGn_KEY_CMD_DIR (n : Nat) : Fld := ⟨R.LNK_LGn_KEY_CMD n, 1, 1⟩
def F.LNK_LGn_KEY_CMD_SLOT (n : Nat) : Fld := ⟨R.LNK_LGn_KEY_CMD n, 2, 1⟩
def F.LNK_LGn_KEY_CMD_ERASE (n : Nat) : Fld := ⟨R.LNK_LGn_KEY_CMD n, 3, 1⟩
/-- LNK_LGn_KEYw, R222. -/
def R.LNK_LGn_KEYw (n : Nat) (w : Nat) : Nat := 0x82050 + 256 * n + 4 * w
def F.LNK_LGn_KEYw_K (n : Nat) (w : Nat) : Fld := ⟨R.LNK_LGn_KEYw n w, 0, 32⟩
/-- LNK_LGn_SALT, R222. -/
def R.LNK_LGn_SALT (n : Nat) : Nat := 0x82070 + 256 * n
def F.LNK_LGn_SALT_S (n : Nat) : Fld := ⟨R.LNK_LGn_SALT n, 0, 32⟩
/-- QUE_CFG, R283. -/
def R.QUE_CFG : Nat := 0x100000
def F.QUE_CFG_HOPS_INIT : Fld := ⟨R.QUE_CFG, 0, 5⟩
def F.QUE_CFG_EXC_CHAN : Fld := ⟨R.QUE_CFG, 8, 10⟩
def F.QUE_CFG_EXC_EN : Fld := ⟨R.QUE_CFG, 18, 1⟩
/-- QUE_TIMING, R283. -/
def R.QUE_TIMING : Nat := 0x100004
def F.QUE_TIMING_ACK_IDLE : Fld := ⟨R.QUE_TIMING, 0, 16⟩
def F.QUE_TIMING_RCTX_TMO : Fld := ⟨R.QUE_TIMING, 16, 16⟩
/-- QUE_EPID, R283. -/
def R.QUE_EPID : Nat := 0x100008
def F.QUE_EPID_ID : Fld := ⟨R.QUE_EPID, 0, 20⟩
/-- QUE_STAT, R283. -/
def R.QUE_STAT : Nat := 0x10000C
def F.QUE_STAT_EXC_LOST : Fld := ⟨R.QUE_STAT, 0, 1⟩
def F.QUE_STAT_DB_ERR : Fld := ⟨R.QUE_STAT, 1, 1⟩
def F.QUE_STAT_CC_FULL : Fld := ⟨R.QUE_STAT, 2, 1⟩
def F.QUE_STAT_RCTX_FULL : Fld := ⟨R.QUE_STAT, 3, 1⟩
/-- QUE_PEER_CFG, R283. -/
def R.QUE_PEER_CFG : Nat := 0x100010
def F.QUE_PEER_CFG_BASE : Fld := ⟨R.QUE_PEER_CFG, 0, 10⟩
def F.QUE_PEER_CFG_MAX : Fld := ⟨R.QUE_PEER_CFG, 16, 13⟩
/-- QUE_CC_CFG, R283. -/
def R.QUE_CC_CFG : Nat := 0x100014
def F.QUE_CC_CFG_BASE : Fld := ⟨R.QUE_CC_CFG, 0, 10⟩
/-- QUE_RESRC, R283. -/
def R.QUE_RESRC : Nat := 0x100018
def F.QUE_RESRC_RCTX_FREE : Fld := ⟨R.QUE_RESRC, 0, 13⟩
def F.QUE_RESRC_CC_FREE : Fld := ⟨R.QUE_RESRC, 16, 15⟩
/-- QUE_BAR_TMO, R283. -/
def R.QUE_BAR_TMO : Nat := 0x100020
def F.QUE_BAR_TMO_TMO : Fld := ⟨R.QUE_BAR_TMO, 0, 24⟩
/-- QUE_BAR_CMD, R283. -/
def R.QUE_BAR_CMD : Nat := 0x100024
def F.QUE_BAR_CMD_BAR_ID : Fld := ⟨R.QUE_BAR_CMD, 0, 12⟩
def F.QUE_BAR_CMD_CMD : Fld := ⟨R.QUE_BAR_CMD, 12, 2⟩
def F.QUE_BAR_CMD_STATUS : Fld := ⟨R.QUE_BAR_CMD, 16, 8⟩
/-- QUE_CTX_SEL, R283. -/
def R.QUE_CTX_SEL : Nat := 0x100040
def F.QUE_CTX_SEL_Q : Fld := ⟨R.QUE_CTX_SEL, 0, 16⟩
/-- QUE_CTX_CMD, R283. -/
def R.QUE_CTX_CMD : Nat := 0x100044
def F.QUE_CTX_CMD_READ : Fld := ⟨R.QUE_CTX_CMD, 0, 1⟩
def F.QUE_CTX_CMD_WRITE : Fld := ⟨R.QUE_CTX_CMD, 1, 1⟩
def F.QUE_CTX_CMD_FLUSH : Fld := ⟨R.QUE_CTX_CMD, 2, 1⟩
def F.QUE_CTX_CMD_BUSY : Fld := ⟨R.QUE_CTX_CMD, 3, 1⟩
def F.QUE_CTX_CMD_ERR : Fld := ⟨R.QUE_CTX_CMD, 4, 1⟩
/-- QUE_CTX_Wi, R283. -/
def R.QUE_CTX_Wi (i : Nat) : Nat := 0x100080 + 4 * i
def F.QUE_CTX_Wi_D (i : Nat) : Fld := ⟨R.QUE_CTX_Wi i, 0, 32⟩
/-- QUE_PEER_SEL, R283. -/
def R.QUE_PEER_SEL : Nat := 0x1000C0
def F.QUE_PEER_SEL_SLOT : Fld := ⟨R.QUE_PEER_SEL, 0, 12⟩
/-- QUE_PEER_CMD, R283. -/
def R.QUE_PEER_CMD : Nat := 0x1000C4
def F.QUE_PEER_CMD_READ : Fld := ⟨R.QUE_PEER_CMD, 0, 1⟩
def F.QUE_PEER_CMD_ADD : Fld := ⟨R.QUE_PEER_CMD, 1, 1⟩
def F.QUE_PEER_CMD_REMOVE : Fld := ⟨R.QUE_PEER_CMD, 2, 1⟩
def F.QUE_PEER_CMD_BUSY : Fld := ⟨R.QUE_PEER_CMD, 3, 1⟩
def F.QUE_PEER_CMD_ERR : Fld := ⟨R.QUE_PEER_CMD, 4, 1⟩
/-- QUE_PEER_D0, R283. -/
def R.QUE_PEER_D0 : Nat := 0x1000D0
def F.QUE_PEER_D0_ID : Fld := ⟨R.QUE_PEER_D0, 0, 20⟩
def F.QUE_PEER_D0_VALID : Fld := ⟨R.QUE_PEER_D0, 31, 1⟩
/-- QUE_PEER_D1, R283. -/
def R.QUE_PEER_D1 : Nat := 0x1000D4
def F.QUE_PEER_D1_TX_NEXT : Fld := ⟨R.QUE_PEER_D1, 0, 32⟩
/-- QUE_PEER_D2, R283. -/
def R.QUE_PEER_D2 : Nat := 0x1000D8
def F.QUE_PEER_D2_RX_H : Fld := ⟨R.QUE_PEER_D2, 0, 32⟩
/-- QUE_PEER_D3, R283. -/
def R.QUE_PEER_D3 : Nat := 0x1000DC
def F.QUE_PEER_D3_OUTST : Fld := ⟨R.QUE_PEER_D3, 0, 12⟩
/-- STR_CFG, R342. -/
def R.STR_CFG : Nat := 0x200000
def F.STR_CFG_QE_DRIFTS : Fld := ⟨R.STR_CFG, 0, 16⟩
def F.STR_CFG_ECC_EN : Fld := ⟨R.STR_CFG, 16, 1⟩
def F.STR_CFG_SCRUB_EN : Fld := ⟨R.STR_CFG, 17, 1⟩
def F.STR_CFG_SCRUB_INT : Fld := ⟨R.STR_CFG, 24, 8⟩
/-- STR_REPLAY, R342. -/
def R.STR_REPLAY : Nat := 0x200004
def F.STR_REPLAY_BASE : Fld := ⟨R.STR_REPLAY, 0, 5⟩
/-- STR_STAT, R342. -/
def R.STR_STAT : Nat := 0x200008
def F.STR_STAT_BUSY : Fld := ⟨R.STR_STAT, 0, 16⟩
def F.STR_STAT_ECC_UNCORR : Fld := ⟨R.STR_STAT, 16, 1⟩
/-- STR_ECC_ADDR, R342. -/
def R.STR_ECC_ADDR : Nat := 0x20000C
def F.STR_ECC_ADDR_ADDR : Fld := ⟨R.STR_ECC_ADDR, 6, 20⟩
/-- STR_SWIN, R342. -/
def R.STR_SWIN : Nat := 0x200010
def F.STR_SWIN_BASE : Fld := ⟨R.STR_SWIN, 0, 4⟩
/-- STR_SEED_LO, R390. -/
def R.STR_SEED_LO : Nat := 0x200020
def F.STR_SEED_LO_S : Fld := ⟨R.STR_SEED_LO, 0, 32⟩
/-- STR_SEED_HI, R390. -/
def R.STR_SEED_HI : Nat := 0x200024
def F.STR_SEED_HI_S : Fld := ⟨R.STR_SEED_HI, 0, 32⟩
/-- STR_CMD_Wi, R342. -/
def R.STR_CMD_Wi (i : Nat) : Nat := 0x200100 + 4 * i
def F.STR_CMD_Wi_D (i : Nat) : Fld := ⟨R.STR_CMD_Wi i, 0, 32⟩
/-- STR_CMD_GO, R342. -/
def R.STR_CMD_GO : Nat := 0x200180
def F.STR_CMD_GO_DRIFT : Fld := ⟨R.STR_CMD_GO, 0, 4⟩
def F.STR_CMD_GO_GO : Fld := ⟨R.STR_CMD_GO, 4, 1⟩
def F.STR_CMD_GO_ERR : Fld := ⟨R.STR_CMD_GO, 5, 1⟩
/-- STR_RED_CFG, R390. -/
def R.STR_RED_CFG : Nat := 0x200200
def F.STR_RED_CFG_HOLD_BASE : Fld := ⟨R.STR_RED_CFG, 0, 10⟩
def F.STR_RED_CFG_HOLD_SIZE : Fld := ⟨R.STR_RED_CFG, 16, 10⟩
/-- STR_RED_SEL, R390. -/
def R.STR_RED_SEL : Nat := 0x200204
def F.STR_RED_SEL_RED_ID : Fld := ⟨R.STR_RED_SEL, 0, 16⟩
/-- STR_RED_STAT, R390. -/
def R.STR_RED_STAT : Nat := 0x200208
def F.STR_RED_STAT_STATE : Fld := ⟨R.STR_RED_STAT, 0, 2⟩
def F.STR_RED_STAT_BUSY : Fld := ⟨R.STR_RED_STAT, 2, 1⟩
def F.STR_RED_STAT_FLAGS : Fld := ⟨R.STR_RED_STAT, 3, 5⟩
def F.STR_RED_STAT_NEXT : Fld := ⟨R.STR_RED_STAT, 8, 12⟩
def F.STR_RED_STAT_HELD : Fld := ⟨R.STR_RED_STAT, 20, 12⟩
/-- STR_RED_ROUND, R390. -/
def R.STR_RED_ROUND : Nat := 0x20020C
def F.STR_RED_ROUND_R : Fld := ⟨R.STR_RED_ROUND, 0, 32⟩
/-- STR_RED_CMD, R390. -/
def R.STR_RED_CMD : Nat := 0x200210
def F.STR_RED_CMD_RESET : Fld := ⟨R.STR_RED_CMD, 0, 1⟩
def F.STR_RED_CMD_ERR : Fld := ⟨R.STR_RED_CMD, 1, 1⟩
/-- STR_RED_HOLD, R390. -/
def R.STR_RED_HOLD : Nat := 0x200214
def F.STR_RED_HOLD_FREE : Fld := ⟨R.STR_RED_HOLD, 0, 24⟩
/-- STR_Dd_CFG, R342. -/
def R.STR_Dd_CFG (d : Nat) : Nat := 0x201000 + 64 * d
def F.STR_Dd_CFG_CMD_CH (d : Nat) : Fld := ⟨R.STR_Dd_CFG d, 0, 10⟩
/-- STR_Dd_CTRL, R342. -/
def R.STR_Dd_CTRL (d : Nat) : Nat := 0x201004 + 64 * d
def F.STR_Dd_CTRL_ABORT (d : Nat) : Fld := ⟨R.STR_Dd_CTRL d, 0, 1⟩
def F.STR_Dd_CTRL_FLUSH (d : Nat) : Fld := ⟨R.STR_Dd_CTRL d, 1, 1⟩
/-- STR_Dd_STAT, R342. -/
def R.STR_Dd_STAT (d : Nat) : Nat := 0x201008 + 64 * d
def F.STR_Dd_STAT_STATE (d : Nat) : Fld := ⟨R.STR_Dd_STAT d, 0, 2⟩
def F.STR_Dd_STAT_HELD (d : Nat) : Fld := ⟨R.STR_Dd_STAT d, 2, 3⟩
def F.STR_Dd_STAT_CMD_BRK (d : Nat) : Fld := ⟨R.STR_Dd_STAT d, 5, 1⟩
def F.STR_Dd_STAT_SLOTMISS (d : Nat) : Fld := ⟨R.STR_Dd_STAT d, 6, 1⟩
def F.STR_Dd_STAT_LATE (d : Nat) : Fld := ⟨R.STR_Dd_STAT d, 7, 1⟩
def F.STR_Dd_STAT_LAST_STATUS (d : Nat) : Fld := ⟨R.STR_Dd_STAT d, 8, 8⟩
def F.STR_Dd_STAT_CHAIN (d : Nat) : Fld := ⟨R.STR_Dd_STAT d, 16, 8⟩
/-- STR_Dd_RESUME, R342. -/
def R.STR_Dd_RESUME (d : Nat) : Nat := 0x20100C + 64 * d
def F.STR_Dd_RESUME_R (d : Nat) : Fld := ⟨R.STR_Dd_RESUME d, 0, 32⟩
/-- STR_Dd_DONE, R342. -/
def R.STR_Dd_DONE (d : Nat) : Nat := 0x201010 + 64 * d
def F.STR_Dd_DONE_N (d : Nat) : Fld := ⟨R.STR_Dd_DONE d, 0, 32⟩
/-- BTP_POOL_CFG, R466. -/
def R.BTP_POOL_CFG : Nat := 0x300000
def F.BTP_POOL_CFG_QUANTUM : Fld := ⟨R.BTP_POOL_CFG, 0, 16⟩
def F.BTP_POOL_CFG_DONATE : Fld := ⟨R.BTP_POOL_CFG, 16, 1⟩
/-- BTP_DLK, R466. -/
def R.BTP_DLK : Nat := 0x300004
def F.BTP_DLK_WINDOW : Fld := ⟨R.BTP_DLK, 0, 24⟩
def F.BTP_DLK_EN : Fld := ⟨R.BTP_DLK, 31, 1⟩
/-- BTP_STAT, R466. -/
def R.BTP_STAT : Nat := 0x300008
def F.BTP_STAT_ALLBLOCK : Fld := ⟨R.BTP_STAT, 0, 1⟩
def F.BTP_STAT_FLOG_OVF : Fld := ⟨R.BTP_STAT, 1, 1⟩
def F.BTP_STAT_T0_DF : Fld := ⟨R.BTP_STAT, 2, 1⟩
def F.BTP_STAT_SCHED_HALT : Fld := ⟨R.BTP_STAT, 3, 1⟩
/-- BTP_TH_SEL, R466. -/
def R.BTP_TH_SEL : Nat := 0x300010
def F.BTP_TH_SEL_T : Fld := ⟨R.BTP_TH_SEL, 0, 7⟩
/-- BTP_TH_CMD, R466. -/
def R.BTP_TH_CMD : Nat := 0x300014
def F.BTP_TH_CMD_CMD : Fld := ⟨R.BTP_TH_CMD, 0, 4⟩
def F.BTP_TH_CMD_ERR : Fld := ⟨R.BTP_TH_CMD, 4, 1⟩
def F.BTP_TH_CMD_BUSY : Fld := ⟨R.BTP_TH_CMD, 5, 1⟩
/-- BTP_TH_STAT, R466. -/
def R.BTP_TH_STAT : Nat := 0x300018
def F.BTP_TH_STAT_STATE : Fld := ⟨R.BTP_TH_STAT, 0, 3⟩
def F.BTP_TH_STAT_SCHED : Fld := ⟨R.BTP_TH_STAT, 3, 1⟩
def F.BTP_TH_STAT_PIPE : Fld := ⟨R.BTP_TH_STAT, 4, 1⟩
def F.BTP_TH_STAT_AL : Fld := ⟨R.BTP_TH_STAT, 5, 1⟩
def F.BTP_TH_STAT_WEIGHT : Fld := ⟨R.BTP_TH_STAT, 8, 9⟩
def F.BTP_TH_STAT_LAST_CAUSE : Fld := ⟨R.BTP_TH_STAT, 24, 8⟩
/-- BTP_TH_PC, R466. -/
def R.BTP_TH_PC : Nat := 0x30001C
def F.BTP_TH_PC_PC : Fld := ⟨R.BTP_TH_PC, 0, 17⟩
/-- BTP_FLOG_STAT, R466. -/
def R.BTP_FLOG_STAT : Nat := 0x300020
def F.BTP_FLOG_STAT_COUNT : Fld := ⟨R.BTP_FLOG_STAT, 0, 6⟩
def F.BTP_FLOG_STAT_LOST : Fld := ⟨R.BTP_FLOG_STAT, 8, 8⟩
/-- BTP_FLOG_POP, R466. -/
def R.BTP_FLOG_POP : Nat := 0x300024
def F.BTP_FLOG_POP_POP : Fld := ⟨R.BTP_FLOG_POP, 0, 1⟩
/-- BTP_FLOG_D0, R466. -/
def R.BTP_FLOG_D0 : Nat := 0x300028
def F.BTP_FLOG_D0_THREAD : Fld := ⟨R.BTP_FLOG_D0, 0, 7⟩
def F.BTP_FLOG_D0_DF : Fld := ⟨R.BTP_FLOG_D0, 7, 1⟩
def F.BTP_FLOG_D0_CAUSE : Fld := ⟨R.BTP_FLOG_D0, 8, 8⟩
def F.BTP_FLOG_D0_LAMPS : Fld := ⟨R.BTP_FLOG_D0, 16, 12⟩
def F.BTP_FLOG_D0_VALID : Fld := ⟨R.BTP_FLOG_D0, 31, 1⟩
/-- BTP_FLOG_D1, R466. -/
def R.BTP_FLOG_D1 : Nat := 0x30002C
def F.BTP_FLOG_D1_PC : Fld := ⟨R.BTP_FLOG_D1, 0, 17⟩
/-- BTP_FLOG_D2, R466. -/
def R.BTP_FLOG_D2 : Nat := 0x300030
def F.BTP_FLOG_D2_ADDR : Fld := ⟨R.BTP_FLOG_D2, 0, 32⟩
/-- BTP_FLOG_D3, R466. -/
def R.BTP_FLOG_D3 : Nat := 0x300034
def F.BTP_FLOG_D3_ADDR : Fld := ⟨R.BTP_FLOG_D3, 0, 32⟩
/-- BTP_LAMP_SEL, R466. -/
def R.BTP_LAMP_SEL : Nat := 0x300040
def F.BTP_LAMP_SEL_LAMP : Fld := ⟨R.BTP_LAMP_SEL, 0, 12⟩
def F.BTP_LAMP_SEL_SCAN_T : Fld := ⟨R.BTP_LAMP_SEL, 16, 7⟩
/-- BTP_LAMP_STAT, R466. -/
def R.BTP_LAMP_STAT : Nat := 0x300044
def F.BTP_LAMP_STAT_OWNER : Fld := ⟨R.BTP_LAMP_STAT, 0, 7⟩
def F.BTP_LAMP_STAT_HELD : Fld := ⟨R.BTP_LAMP_STAT, 7, 1⟩
def F.BTP_LAMP_STAT_WAITERS : Fld := ⟨R.BTP_LAMP_STAT, 8, 7⟩
/-- BTP_LAMP_CMD, R466. -/
def R.BTP_LAMP_CMD : Nat := 0x300048
def F.BTP_LAMP_CMD_FORCE_RETURN : Fld := ⟨R.BTP_LAMP_CMD, 0, 1⟩
def F.BTP_LAMP_CMD_SCAN : Fld := ⟨R.BTP_LAMP_CMD, 1, 1⟩
def F.BTP_LAMP_CMD_NONE : Fld := ⟨R.BTP_LAMP_CMD, 2, 1⟩
def F.BTP_LAMP_CMD_ERR : Fld := ⟨R.BTP_LAMP_CMD, 3, 1⟩
/-- BTP_CH_SEL, R466. -/
def R.BTP_CH_SEL : Nat := 0x300050
def F.BTP_CH_SEL_CH : Fld := ⟨R.BTP_CH_SEL, 0, 10⟩
/-- BTP_CH_STAT, R466. -/
def R.BTP_CH_STAT : Nat := 0x300054
def F.BTP_CH_STAT_FILL : Fld := ⟨R.BTP_CH_STAT, 0, 3⟩
def F.BTP_CH_STAT_WHOLD : Fld := ⟨R.BTP_CH_STAT, 3, 1⟩
def F.BTP_CH_STAT_RHOLD : Fld := ⟨R.BTP_CH_STAT, 4, 1⟩
def F.BTP_CH_STAT_WHOLD_HW : Fld := ⟨R.BTP_CH_STAT, 5, 1⟩
def F.BTP_CH_STAT_RHOLD_HW : Fld := ⟨R.BTP_CH_STAT, 6, 1⟩
def F.BTP_CH_STAT_WTHREAD : Fld := ⟨R.BTP_CH_STAT, 8, 7⟩
def F.BTP_CH_STAT_RTHREAD : Fld := ⟨R.BTP_CH_STAT, 16, 7⟩
def F.BTP_CH_STAT_WAITERS : Fld := ⟨R.BTP_CH_STAT, 23, 7⟩
/-- BTP_WAITFOR_t, R466. -/
def R.BTP_WAITFOR_t (t : Nat) : Nat := 0x301000 + 4 * t
def F.BTP_WAITFOR_t_KIND (t : Nat) : Fld := ⟨R.BTP_WAITFOR_t t, 0, 3⟩
def F.BTP_WAITFOR_t_OBJ (t : Nat) : Fld := ⟨R.BTP_WAITFOR_t t, 3, 12⟩
def F.BTP_WAITFOR_t_HOLDER (t : Nat) : Fld := ⟨R.BTP_WAITFOR_t t, 15, 7⟩
def F.BTP_WAITFOR_t_HOLDER_V (t : Nat) : Fld := ⟨R.BTP_WAITFOR_t t, 22, 1⟩
def F.BTP_WAITFOR_t_HOLDER_HW (t : Nat) : Fld := ⟨R.BTP_WAITFOR_t t, 23, 1⟩
def F.BTP_WAITFOR_t_AGE (t : Nat) : Fld := ⟨R.BTP_WAITFOR_t t, 24, 8⟩
/-- MEM_CFG, R537. -/
def R.MEM_CFG : Nat := 0x380000
def F.MEM_CFG_ECC_EN : Fld := ⟨R.MEM_CFG, 0, 1⟩
def F.MEM_CFG_SCRUB_EN : Fld := ⟨R.MEM_CFG, 1, 1⟩
def F.MEM_CFG_SCRUB_INT : Fld := ⟨R.MEM_CFG, 8, 8⟩
/-- MEM_CONFLICT, R537. -/
def R.MEM_CONFLICT : Nat := 0x380004
def F.MEM_CONFLICT_WIN : Fld := ⟨R.MEM_CONFLICT, 0, 1⟩
def F.MEM_CONFLICT_EV_RW : Fld := ⟨R.MEM_CONFLICT, 1, 1⟩
def F.MEM_CONFLICT_EV_WW : Fld := ⟨R.MEM_CONFLICT, 2, 1⟩
/-- MEM_STAT, R537. -/
def R.MEM_STAT : Nat := 0x380008
def F.MEM_STAT_BUSY_A : Fld := ⟨R.MEM_STAT, 0, 1⟩
def F.MEM_STAT_BUSY_B : Fld := ⟨R.MEM_STAT, 1, 1⟩
def F.MEM_STAT_WLOST_A : Fld := ⟨R.MEM_STAT, 2, 1⟩
def F.MEM_STAT_WLOST_B : Fld := ⟨R.MEM_STAT, 3, 1⟩
def F.MEM_STAT_ECC_UNCORR : Fld := ⟨R.MEM_STAT, 4, 1⟩
def F.MEM_STAT_WAKE_T : Fld := ⟨R.MEM_STAT, 5, 1⟩
def F.MEM_STAT_WAKE_S : Fld := ⟨R.MEM_STAT, 6, 1⟩
/-- MEM_CONF_ADDR, R537. -/
def R.MEM_CONF_ADDR : Nat := 0x38000C
def F.MEM_CONF_ADDR_KIND : Fld := ⟨R.MEM_CONF_ADDR, 0, 1⟩
def F.MEM_CONF_ADDR_LATER : Fld := ⟨R.MEM_CONF_ADDR, 1, 1⟩
def F.MEM_CONF_ADDR_ADDR : Fld := ⟨R.MEM_CONF_ADDR, 3, 19⟩
/-- MEM_ECC_ADDR, R537. -/
def R.MEM_ECC_ADDR : Nat := 0x380010
def F.MEM_ECC_ADDR_ADDR : Fld := ⟨R.MEM_ECC_ADDR, 3, 19⟩
/-- MEM_ECC_CNT, R537. -/
def R.MEM_ECC_CNT : Nat := 0x380014
def F.MEM_ECC_CNT_CORR : Fld := ⟨R.MEM_ECC_CNT, 0, 16⟩
def F.MEM_ECC_CNT_UNCORR : Fld := ⟨R.MEM_ECC_CNT, 16, 16⟩
/-- MEM_SEC_STAT, R537. -/
def R.MEM_SEC_STAT : Nat := 0x380020
def F.MEM_SEC_STAT_ACTIVE : Fld := ⟨R.MEM_SEC_STAT, 0, 1⟩
def F.MEM_SEC_STAT_WIPING : Fld := ⟨R.MEM_SEC_STAT, 1, 1⟩
def F.MEM_SEC_STAT_TAMPER : Fld := ⟨R.MEM_SEC_STAT, 2, 1⟩
def F.MEM_SEC_STAT_TAMPER_IN : Fld := ⟨R.MEM_SEC_STAT, 3, 1⟩
def F.MEM_SEC_STAT_LC_WIPE : Fld := ⟨R.MEM_SEC_STAT, 4, 1⟩
def F.MEM_SEC_STAT_LOST : Fld := ⟨R.MEM_SEC_STAT, 5, 1⟩
def F.MEM_SEC_STAT_COUNT : Fld := ⟨R.MEM_SEC_STAT, 8, 8⟩
/-- MEM_LC_STAT, R537. -/
def R.MEM_LC_STAT : Nat := 0x380024
def F.MEM_LC_STAT_STATE : Fld := ⟨R.MEM_LC_STAT, 0, 3⟩
def F.MEM_LC_STAT_PREV : Fld := ⟨R.MEM_LC_STAT, 3, 3⟩
def F.MEM_LC_STAT_BAD : Fld := ⟨R.MEM_LC_STAT, 6, 1⟩
def F.MEM_LC_STAT_FORCED_END : Fld := ⟨R.MEM_LC_STAT, 7, 1⟩
/-- VWK_CFG, R584. -/
def R.VWK_CFG : Nat := 0x3C0000
def F.VWK_CFG_SLOW : Fld := ⟨R.VWK_CFG, 0, 1⟩
def F.VWK_CFG_CHAIN_EN : Fld := ⟨R.VWK_CFG, 1, 1⟩
def F.VWK_CFG_CHAIN_BCAST : Fld := ⟨R.VWK_CFG, 2, 1⟩
def F.VWK_CFG_RX_BCAST : Fld := ⟨R.VWK_CFG, 3, 1⟩
def F.VWK_CFG_AUTO_CLAIM : Fld := ⟨R.VWK_CFG, 4, 1⟩
def F.VWK_CFG_PREF : Fld := ⟨R.VWK_CFG, 16, 12⟩
/-- VWK_CHAIN, R584. -/
def R.VWK_CHAIN : Nat := 0x3C0004
def F.VWK_CHAIN_KEY : Fld := ⟨R.VWK_CHAIN, 0, 16⟩
/-- VWK_CTRL, R584. -/
def R.VWK_CTRL : Nat := 0x3C0008
def F.VWK_CTRL_SEND : Fld := ⟨R.VWK_CTRL, 0, 1⟩
def F.VWK_CTRL_CLAIM : Fld := ⟨R.VWK_CTRL, 1, 1⟩
def F.VWK_CTRL_DETACH : Fld := ⟨R.VWK_CTRL, 2, 1⟩
def F.VWK_CTRL_ATTN : Fld := ⟨R.VWK_CTRL, 3, 1⟩
/-- VWK_STAT, R584. -/
def R.VWK_STAT : Nat := 0x3C000C
def F.VWK_STAT_TSTATE : Fld := ⟨R.VWK_STAT, 0, 3⟩
def F.VWK_STAT_TX_BUSY : Fld := ⟨R.VWK_STAT, 3, 1⟩
def F.VWK_STAT_TX_DONE : Fld := ⟨R.VWK_STAT, 4, 1⟩
def F.VWK_STAT_TX_NAK : Fld := ⟨R.VWK_STAT, 5, 1⟩
def F.VWK_STAT_TX_ERR : Fld := ⟨R.VWK_STAT, 6, 1⟩
def F.VWK_STAT_FULL : Fld := ⟨R.VWK_STAT, 7, 1⟩
def F.VWK_STAT_CONFLICT : Fld := ⟨R.VWK_STAT, 8, 1⟩
def F.VWK_STAT_STUCK : Fld := ⟨R.VWK_STAT, 9, 1⟩
def F.VWK_STAT_CHAIN_BAD : Fld := ⟨R.VWK_STAT, 10, 1⟩
def F.VWK_STAT_RX_OVF : Fld := ⟨R.VWK_STAT, 11, 1⟩
def F.VWK_STAT_RX_FILL : Fld := ⟨R.VWK_STAT, 12, 4⟩
def F.VWK_STAT_TALLY : Fld := ⟨R.VWK_STAT, 16, 12⟩
/-- VWK_TX_HDR, R584. -/
def R.VWK_TX_HDR : Nat := 0x3C0010
def F.VWK_TX_HDR_DST : Fld := ⟨R.VWK_TX_HDR, 0, 12⟩
def F.VWK_TX_HDR_CMD : Fld := ⟨R.VWK_TX_HDR, 12, 4⟩
def F.VWK_TX_HDR_LEN : Fld := ⟨R.VWK_TX_HDR, 16, 4⟩
/-- VWK_TX_D0, R584. -/
def R.VWK_TX_D0 : Nat := 0x3C0014
def F.VWK_TX_D0_D : Fld := ⟨R.VWK_TX_D0, 0, 32⟩
/-- VWK_TX_D1, R584. -/
def R.VWK_TX_D1 : Nat := 0x3C0018
def F.VWK_TX_D1_D : Fld := ⟨R.VWK_TX_D1, 0, 32⟩
/-- VWK_RX_HDR, R584. -/
def R.VWK_RX_HDR : Nat := 0x3C0020
def F.VWK_RX_HDR_SRC : Fld := ⟨R.VWK_RX_HDR, 0, 12⟩
def F.VWK_RX_HDR_CMD : Fld := ⟨R.VWK_RX_HDR, 12, 4⟩
def F.VWK_RX_HDR_LEN : Fld := ⟨R.VWK_RX_HDR, 16, 4⟩
def F.VWK_RX_HDR_BCAST : Fld := ⟨R.VWK_RX_HDR, 20, 1⟩
def F.VWK_RX_HDR_VALID : Fld := ⟨R.VWK_RX_HDR, 31, 1⟩
/-- VWK_RX_D0, R584. -/
def R.VWK_RX_D0 : Nat := 0x3C0024
def F.VWK_RX_D0_D : Fld := ⟨R.VWK_RX_D0, 0, 32⟩
/-- VWK_RX_D1, R584. -/
def R.VWK_RX_D1 : Nat := 0x3C0028
def F.VWK_RX_D1_D : Fld := ⟨R.VWK_RX_D1, 0, 32⟩
/-- VWK_RX_POP, R584. -/
def R.VWK_RX_POP : Nat := 0x3C002C
def F.VWK_RX_POP_POP : Fld := ⟨R.VWK_RX_POP, 0, 1⟩
/-- SBD_PINSELi, R584. -/
def R.SBD_PINSELi (i : Nat) : Nat := 0x3C0100 + 4 * i
def F.SBD_PINSELi_OWNER0 (i : Nat) : Fld := ⟨R.SBD_PINSELi i, 0, 5⟩
def F.SBD_PINSELi_OWNER1 (i : Nat) : Fld := ⟨R.SBD_PINSELi i, 8, 5⟩
def F.SBD_PINSELi_OWNER2 (i : Nat) : Fld := ⟨R.SBD_PINSELi i, 16, 5⟩
def F.SBD_PINSELi_OWNER3 (i : Nat) : Fld := ⟨R.SBD_PINSELi i, 24, 5⟩
/-- SBD_GPIO_OUT, R584. -/
def R.SBD_GPIO_OUT : Nat := 0x3C0120
def F.SBD_GPIO_OUT_OUT : Fld := ⟨R.SBD_GPIO_OUT, 0, 32⟩
/-- SBD_GPIO_OE, R584. -/
def R.SBD_GPIO_OE : Nat := 0x3C0124
def F.SBD_GPIO_OE_OE : Fld := ⟨R.SBD_GPIO_OE, 0, 32⟩
/-- SBD_PIN_IN, R584. -/
def R.SBD_PIN_IN : Nat := 0x3C0128
def F.SBD_PIN_IN_IN : Fld := ⟨R.SBD_PIN_IN, 0, 32⟩
/-- SBD_IO_CFG, R638. -/
def R.SBD_IO_CFG : Nat := 0x3C0200
def F.SBD_IO_CFG_VSEL : Fld := ⟨R.SBD_IO_CFG, 0, 2⟩
def F.SBD_IO_CFG_DRIVE : Fld := ⟨R.SBD_IO_CFG, 2, 2⟩
def F.SBD_IO_CFG_SLOW : Fld := ⟨R.SBD_IO_CFG, 4, 1⟩
/-- SBD_PULL_EN, R638. -/
def R.SBD_PULL_EN : Nat := 0x3C0204
def F.SBD_PULL_EN_EN : Fld := ⟨R.SBD_PULL_EN, 0, 32⟩
/-- SBD_PULL_UP, R638. -/
def R.SBD_PULL_UP : Nat := 0x3C0208
def F.SBD_PULL_UP_UP : Fld := ⟨R.SBD_PULL_UP, 0, 32⟩
/-- PEn_CTRL, R584. -/
def R.PEn_CTRL (n : Nat) : Nat := 0x3C1000 + 64 * n
def F.PEn_CTRL_EN (n : Nat) : Fld := ⟨R.PEn_CTRL n, 0, 1⟩
def F.PEn_CTRL_HOTSWAP (n : Nat) : Fld := ⟨R.PEn_CTRL n, 1, 1⟩
def F.PEn_CTRL_FLUSH (n : Nat) : Fld := ⟨R.PEn_CTRL n, 3, 1⟩
def F.PEn_CTRL_DISCARD (n : Nat) : Fld := ⟨R.PEn_CTRL n, 4, 1⟩
/-- PEn_BASE, R584. -/
def R.PEn_BASE (n : Nat) : Nat := 0x3C1004 + 64 * n
def F.PEn_BASE_BOTTOM (n : Nat) : Fld := ⟨R.PEn_BASE n, 0, 8⟩
/-- PEn_PINMAP_LO, R584. -/
def R.PEn_PINMAP_LO (n : Nat) : Nat := 0x3C1008 + 64 * n
def F.PEn_PINMAP_LO_PIN0 (n : Nat) : Fld := ⟨R.PEn_PINMAP_LO n, 0, 5⟩
def F.PEn_PINMAP_LO_PIN1 (n : Nat) : Fld := ⟨R.PEn_PINMAP_LO n, 8, 5⟩
def F.PEn_PINMAP_LO_PIN2 (n : Nat) : Fld := ⟨R.PEn_PINMAP_LO n, 16, 5⟩
def F.PEn_PINMAP_LO_PIN3 (n : Nat) : Fld := ⟨R.PEn_PINMAP_LO n, 24, 5⟩
def F.PEn_PINMAP_LO_VALID0 (n : Nat) : Fld := ⟨R.PEn_PINMAP_LO n, 7, 1⟩
def F.PEn_PINMAP_LO_VALID1 (n : Nat) : Fld := ⟨R.PEn_PINMAP_LO n, 15, 1⟩
def F.PEn_PINMAP_LO_VALID2 (n : Nat) : Fld := ⟨R.PEn_PINMAP_LO n, 23, 1⟩
def F.PEn_PINMAP_LO_VALID3 (n : Nat) : Fld := ⟨R.PEn_PINMAP_LO n, 31, 1⟩
/-- PEn_PINMAP_HI, R584. -/
def R.PEn_PINMAP_HI (n : Nat) : Nat := 0x3C100C + 64 * n
def F.PEn_PINMAP_HI_PIN4 (n : Nat) : Fld := ⟨R.PEn_PINMAP_HI n, 0, 5⟩
def F.PEn_PINMAP_HI_PIN5 (n : Nat) : Fld := ⟨R.PEn_PINMAP_HI n, 8, 5⟩
def F.PEn_PINMAP_HI_PIN6 (n : Nat) : Fld := ⟨R.PEn_PINMAP_HI n, 16, 5⟩
def F.PEn_PINMAP_HI_PIN7 (n : Nat) : Fld := ⟨R.PEn_PINMAP_HI n, 24, 5⟩
def F.PEn_PINMAP_HI_VALID4 (n : Nat) : Fld := ⟨R.PEn_PINMAP_HI n, 7, 1⟩
def F.PEn_PINMAP_HI_VALID5 (n : Nat) : Fld := ⟨R.PEn_PINMAP_HI n, 15, 1⟩
def F.PEn_PINMAP_HI_VALID6 (n : Nat) : Fld := ⟨R.PEn_PINMAP_HI n, 23, 1⟩
def F.PEn_PINMAP_HI_VALID7 (n : Nat) : Fld := ⟨R.PEn_PINMAP_HI n, 31, 1⟩
/-- PEn_STAT, R584. -/
def R.PEn_STAT (n : Nat) : Nat := 0x3C1010 + 64 * n
def F.PEn_STAT_RUN (n : Nat) : Fld := ⟨R.PEn_STAT n, 0, 1⟩
def F.PEn_STAT_STALLED (n : Nat) : Fld := ⟨R.PEn_STAT n, 1, 1⟩
def F.PEn_STAT_HELD (n : Nat) : Fld := ⟨R.PEn_STAT n, 2, 1⟩
def F.PEn_STAT_PROG_ERR (n : Nat) : Fld := ⟨R.PEn_STAT n, 3, 1⟩
def F.PEn_STAT_EMPTY_RD (n : Nat) : Fld := ⟨R.PEn_STAT n, 4, 1⟩
def F.PEn_STAT_MISS_E (n : Nat) : Fld := ⟨R.PEn_STAT n, 5, 1⟩
def F.PEn_STAT_CATCH_OVF (n : Nat) : Fld := ⟨R.PEn_STAT n, 6, 1⟩
def F.PEn_STAT_FEED_OVF (n : Nat) : Fld := ⟨R.PEn_STAT n, 7, 1⟩
def F.PEn_STAT_FEED_FILL (n : Nat) : Fld := ⟨R.PEn_STAT n, 8, 4⟩
def F.PEn_STAT_CATCH_FILL (n : Nat) : Fld := ⟨R.PEn_STAT n, 12, 4⟩
def F.PEn_STAT_S (n : Nat) : Fld := ⟨R.PEn_STAT n, 16, 8⟩
def F.PEn_STAT_MF (n : Nat) : Fld := ⟨R.PEn_STAT n, 24, 1⟩
/-- PEn_FEED, R584. -/
def R.PEn_FEED (n : Nat) : Nat := 0x3C1014 + 64 * n
def F.PEn_FEED_D (n : Nat) : Fld := ⟨R.PEn_FEED n, 0, 32⟩
/-- PEn_CATCH, R584. -/
def R.PEn_CATCH (n : Nat) : Nat := 0x3C1018 + 64 * n
def F.PEn_CATCH_D (n : Nat) : Fld := ⟨R.PEn_CATCH n, 0, 32⟩
/-- PEn_DBG, R584. -/
def R.PEn_DBG (n : Nat) : Nat := 0x3C101C + 64 * n
def F.PEn_DBG_BC (n : Nat) : Fld := ⟨R.PEn_DBG n, 0, 11⟩
/-- PEn_SR, R584. -/
def R.PEn_SR (n : Nat) : Nat := 0x3C1020 + 64 * n
def F.PEn_SR_SR (n : Nat) : Fld := ⟨R.PEn_SR n, 0, 32⟩
/-- PEn_DEPTH, R584. -/
def R.PEn_DEPTH (n : Nat) : Nat := 0x3C1024 + 64 * n
def F.PEn_DEPTH_FEED (n : Nat) : Fld := ⟨R.PEn_DEPTH n, 0, 4⟩
def F.PEn_DEPTH_CATCH (n : Nat) : Fld := ⟨R.PEn_DEPTH n, 8, 4⟩
/-- PEn_PROG, R584. -/
def R.PEn_PROG (n : Nat) (w : Nat) : Nat := 0x3C2000 + 2048 * n + 4 * w
def F.PEn_PROG_W (n : Nat) (w : Nat) : Fld := ⟨R.PEn_PROG n w, 0, 32⟩
/-- TMm_CTRL, R584. -/
def R.TMm_CTRL (m : Nat) : Nat := 0x3C8000 + 32 * m
def F.TMm_CTRL_EN (m : Nat) : Fld := ⟨R.TMm_CTRL m, 0, 1⟩
def F.TMm_CTRL_ONESHOT (m : Nat) : Fld := ⟨R.TMm_CTRL m, 1, 1⟩
def F.TMm_CTRL_CLKSEL (m : Nat) : Fld := ⟨R.TMm_CTRL m, 2, 2⟩
def F.TMm_CTRL_RELOAD_NOW (m : Nat) : Fld := ⟨R.TMm_CTRL m, 4, 1⟩
def F.TMm_CTRL_GATE_EN (m : Nat) : Fld := ⟨R.TMm_CTRL m, 5, 1⟩
def F.TMm_CTRL_GATE_POL (m : Nat) : Fld := ⟨R.TMm_CTRL m, 6, 1⟩
def F.TMm_CTRL_GATE_PIN (m : Nat) : Fld := ⟨R.TMm_CTRL m, 7, 5⟩
def F.TMm_CTRL_CAP_EDGE (m : Nat) : Fld := ⟨R.TMm_CTRL m, 12, 2⟩
def F.TMm_CTRL_CAP_PIN (m : Nat) : Fld := ⟨R.TMm_CTRL m, 14, 5⟩
def F.TMm_CTRL_OUT_INV (m : Nat) : Fld := ⟨R.TMm_CTRL m, 19, 1⟩
def F.TMm_CTRL_WAKE (m : Nat) : Fld := ⟨R.TMm_CTRL m, 20, 1⟩
def F.TMm_CTRL_LAPS (m : Nat) : Fld := ⟨R.TMm_CTRL m, 24, 8⟩
/-- TMm_LOAD, R584. -/
def R.TMm_LOAD (m : Nat) : Nat := 0x3C8004 + 32 * m
def F.TMm_LOAD_LOAD (m : Nat) : Fld := ⟨R.TMm_LOAD m, 0, 32⟩
/-- TMm_CMP, R584. -/
def R.TMm_CMP (m : Nat) : Nat := 0x3C8008 + 32 * m
def F.TMm_CMP_CMP (m : Nat) : Fld := ⟨R.TMm_CMP m, 0, 32⟩
/-- TMm_COUNT, R584. -/
def R.TMm_COUNT (m : Nat) : Nat := 0x3C800C + 32 * m
def F.TMm_COUNT_COUNT (m : Nat) : Fld := ⟨R.TMm_COUNT m, 0, 32⟩
/-- TMm_CAP, R584. -/
def R.TMm_CAP (m : Nat) : Nat := 0x3C8010 + 32 * m
def F.TMm_CAP_CAP (m : Nat) : Fld := ⟨R.TMm_CAP m, 0, 32⟩
/-- TMm_STAT, R584. -/
def R.TMm_STAT (m : Nat) : Nat := 0x3C8014 + 32 * m
def F.TMm_STAT_RUN (m : Nat) : Fld := ⟨R.TMm_STAT m, 0, 1⟩
def F.TMm_STAT_CAPV (m : Nat) : Fld := ⟨R.TMm_STAT m, 1, 1⟩
def F.TMm_STAT_OVR (m : Nat) : Fld := ⟨R.TMm_STAT m, 2, 1⟩
def F.TMm_STAT_OUT (m : Nat) : Fld := ⟨R.TMm_STAT m, 3, 1⟩
def F.TMm_STAT_EXP (m : Nat) : Fld := ⟨R.TMm_STAT m, 4, 1⟩
def F.TMm_STAT_CMPF (m : Nat) : Fld := ⟨R.TMm_STAT m, 5, 1⟩
def F.TMm_STAT_LAP (m : Nat) : Fld := ⟨R.TMm_STAT m, 8, 8⟩
/-- EVT_STAT, R692. -/
def R.EVT_STAT : Nat := 0x3E0000
def F.EVT_STAT_BADSRC : Fld := ⟨R.EVT_STAT, 0, 1⟩
def F.EVT_STAT_MSI_ERR : Fld := ⟨R.EVT_STAT, 1, 1⟩
def F.EVT_STAT_UE : Fld := ⟨R.EVT_STAT, 2, 1⟩
/-- EVT_RAISE, R692. -/
def R.EVT_RAISE : Nat := 0x3E0004
def F.EVT_RAISE_EV : Fld := ⟨R.EVT_RAISE, 0, 12⟩
/-- EVT_UE_UNIT, R692. -/
def R.EVT_UE_UNIT : Nat := 0x3E0008
def F.EVT_UE_UNIT_UNIT : Fld := ⟨R.EVT_UE_UNIT, 0, 4⟩
def F.EVT_UE_UNIT_COUNT : Fld := ⟨R.EVT_UE_UNIT, 16, 16⟩
/-- EVT_UE_ADDR, R692. -/
def R.EVT_UE_ADDR : Nat := 0x3E000C
def F.EVT_UE_ADDR_ADDR : Fld := ⟨R.EVT_UE_ADDR, 0, 32⟩
/-- EVT_IRQ_EN_LO, R692. -/
def R.EVT_IRQ_EN_LO : Nat := 0x3E0010
def F.EVT_IRQ_EN_LO_EN : Fld := ⟨R.EVT_IRQ_EN_LO, 0, 32⟩
/-- EVT_IRQ_EN_HI, R692. -/
def R.EVT_IRQ_EN_HI : Nat := 0x3E0014
def F.EVT_IRQ_EN_HI_EN : Fld := ⟨R.EVT_IRQ_EN_HI, 0, 32⟩
/-- EVT_IRQ_LVL_LO, R692. -/
def R.EVT_IRQ_LVL_LO : Nat := 0x3E0018
def F.EVT_IRQ_LVL_LO_L : Fld := ⟨R.EVT_IRQ_LVL_LO, 0, 32⟩
/-- EVT_IRQ_LVL_HI, R692. -/
def R.EVT_IRQ_LVL_HI : Nat := 0x3E001C
def F.EVT_IRQ_LVL_HI_L : Fld := ⟨R.EVT_IRQ_LVL_HI, 0, 32⟩
/-- EVT_PENDk, R692. -/
def R.EVT_PENDk (k : Nat) : Nat := 0x3E0100 + 4 * k
def F.EVT_PENDk_P (k : Nat) : Fld := ⟨R.EVT_PENDk k, 0, 32⟩
/-- EVT_MSIv_ADDR_LO, R692. -/
def R.EVT_MSIv_ADDR_LO (v : Nat) : Nat := 0x3E0800 + 16 * v
def F.EVT_MSIv_ADDR_LO_A (v : Nat) : Fld := ⟨R.EVT_MSIv_ADDR_LO v, 2, 30⟩
/-- EVT_MSIv_ADDR_HI, R692. -/
def R.EVT_MSIv_ADDR_HI (v : Nat) : Nat := 0x3E0804 + 16 * v
def F.EVT_MSIv_ADDR_HI_A (v : Nat) : Fld := ⟨R.EVT_MSIv_ADDR_HI v, 0, 32⟩
/-- EVT_MSIv_DATA, R692. -/
def R.EVT_MSIv_DATA (v : Nat) : Nat := 0x3E0808 + 16 * v
def F.EVT_MSIv_DATA_D (v : Nat) : Fld := ⟨R.EVT_MSIv_DATA v, 0, 32⟩
/-- EVT_MSIv_CFG, R692. -/
def R.EVT_MSIv_CFG (v : Nat) : Nat := 0x3E080C + 16 * v
def F.EVT_MSIv_CFG_PORT (v : Nat) : Fld := ⟨R.EVT_MSIv_CFG v, 0, 3⟩
/-- EVT_ROUTEn, R692. -/
def R.EVT_ROUTEn (n : Nat) : Nat := 0x3E4000 + 4 * n
def F.EVT_ROUTEn_DEST (n : Nat) : Fld := ⟨R.EVT_ROUTEn n, 0, 2⟩
def F.EVT_ROUTEn_THREAD (n : Nat) : Fld := ⟨R.EVT_ROUTEn n, 2, 7⟩
def F.EVT_ROUTEn_WSET (n : Nat) : Fld := ⟨R.EVT_ROUTEn n, 9, 2⟩
def F.EVT_ROUTEn_LINE (n : Nat) : Fld := ⟨R.EVT_ROUTEn n, 11, 6⟩
/-- DBG_CTRL, R692. -/
def R.DBG_CTRL : Nat := 0x3F0000
def F.DBG_CTRL_ATTACH : Fld := ⟨R.DBG_CTRL, 0, 1⟩
def F.DBG_CTRL_HALT : Fld := ⟨R.DBG_CTRL, 1, 1⟩
def F.DBG_CTRL_RESUME : Fld := ⟨R.DBG_CTRL, 2, 1⟩
def F.DBG_CTRL_DBG_RST : Fld := ⟨R.DBG_CTRL, 3, 1⟩
def F.DBG_CTRL_KEY : Fld := ⟨R.DBG_CTRL, 16, 16⟩
/-- DBG_STAT, R692. -/
def R.DBG_STAT : Nat := 0x3F0004
def F.DBG_STAT_ATTACHED : Fld := ⟨R.DBG_STAT, 0, 1⟩
def F.DBG_STAT_ACC_BUSY : Fld := ⟨R.DBG_STAT, 1, 1⟩
def F.DBG_STAT_ACC_ERR : Fld := ⟨R.DBG_STAT, 2, 1⟩
def F.DBG_STAT_OVERRUN : Fld := ⟨R.DBG_STAT, 3, 1⟩
def F.DBG_STAT_LOCKED : Fld := ⟨R.DBG_STAT, 4, 1⟩
def F.DBG_STAT_ANY_HALTED : Fld := ⟨R.DBG_STAT, 5, 1⟩
def F.DBG_STAT_BLOCK_HALT : Fld := ⟨R.DBG_STAT, 6, 1⟩
def F.DBG_STAT_HIT : Fld := ⟨R.DBG_STAT, 7, 1⟩
def F.DBG_STAT_HIT_THREAD : Fld := ⟨R.DBG_STAT, 8, 7⟩
def F.DBG_STAT_HIT_WP : Fld := ⟨R.DBG_STAT, 15, 1⟩
def F.DBG_STAT_HIT_IDX : Fld := ⟨R.DBG_STAT, 16, 3⟩
/-- DBG_BPi, R692. -/
def R.DBG_BPi (i : Nat) : Nat := 0x3F0100 + 4 * i
def F.DBG_BPi_PC (i : Nat) : Fld := ⟨R.DBG_BPi i, 0, 17⟩
def F.DBG_BPi_THREAD (i : Nat) : Fld := ⟨R.DBG_BPi i, 17, 7⟩
def F.DBG_BPi_ANY (i : Nat) : Fld := ⟨R.DBG_BPi i, 24, 1⟩
def F.DBG_BPi_EN (i : Nat) : Fld := ⟨R.DBG_BPi i, 25, 1⟩
/-- DBG_WPj_ADDR, R692. -/
def R.DBG_WPj_ADDR (j : Nat) : Nat := 0x3F0200 + 8 * j
def F.DBG_WPj_ADDR_ADDR (j : Nat) : Fld := ⟨R.DBG_WPj_ADDR j, 0, 32⟩
/-- DBG_WPj_CFG, R692. -/
def R.DBG_WPj_CFG (j : Nat) : Nat := 0x3F0204 + 8 * j
def F.DBG_WPj_CFG_EN (j : Nat) : Fld := ⟨R.DBG_WPj_CFG j, 0, 1⟩
def F.DBG_WPj_CFG_RD (j : Nat) : Fld := ⟨R.DBG_WPj_CFG j, 1, 1⟩
def F.DBG_WPj_CFG_WR (j : Nat) : Fld := ⟨R.DBG_WPj_CFG j, 2, 1⟩
def F.DBG_WPj_CFG_IGN (j : Nat) : Fld := ⟨R.DBG_WPj_CFG j, 3, 5⟩
def F.DBG_WPj_CFG_THREAD (j : Nat) : Fld := ⟨R.DBG_WPj_CFG j, 8, 7⟩
def F.DBG_WPj_CFG_ANY (j : Nat) : Fld := ⟨R.DBG_WPj_CFG j, 15, 1⟩
/-- DBG_TR_CFG, R692. -/
def R.DBG_TR_CFG : Nat := 0x3F0300
def F.DBG_TR_CFG_EN : Fld := ⟨R.DBG_TR_CFG, 0, 1⟩
def F.DBG_TR_CFG_PA : Fld := ⟨R.DBG_TR_CFG, 1, 1⟩
def F.DBG_TR_CFG_PB : Fld := ⟨R.DBG_TR_CFG, 2, 1⟩
def F.DBG_TR_CFG_EMPTY : Fld := ⟨R.DBG_TR_CFG, 3, 1⟩
def F.DBG_TR_CFG_ONE : Fld := ⟨R.DBG_TR_CFG, 4, 1⟩
def F.DBG_TR_CFG_THREAD : Fld := ⟨R.DBG_TR_CFG, 5, 7⟩
def F.DBG_TR_CFG_STOP : Fld := ⟨R.DBG_TR_CFG, 12, 1⟩
/-- DBG_TR_RING, R692. -/
def R.DBG_TR_RING : Nat := 0x3F0304
def F.DBG_TR_RING_BASE : Fld := ⟨R.DBG_TR_RING, 0, 10⟩
def F.DBG_TR_RING_LOG2 : Fld := ⟨R.DBG_TR_RING, 10, 4⟩
/-- DBG_TR_WIDX, R692. -/
def R.DBG_TR_WIDX : Nat := 0x3F0308
def F.DBG_TR_WIDX_IDX : Fld := ⟨R.DBG_TR_WIDX, 0, 23⟩
/-- DBG_TR_STAT, R692. -/
def R.DBG_TR_STAT : Nat := 0x3F030C
def F.DBG_TR_STAT_ACTIVE : Fld := ⟨R.DBG_TR_STAT, 0, 1⟩
def F.DBG_TR_STAT_FULL : Fld := ⟨R.DBG_TR_STAT, 1, 1⟩
def F.DBG_TR_STAT_WRAPPED : Fld := ⟨R.DBG_TR_STAT, 2, 1⟩
def F.DBG_TR_STAT_LOST : Fld := ⟨R.DBG_TR_STAT, 8, 8⟩

end Sys2Proof.Machine
end

