-- ==== Sys2Proof/Machine/RegTable.lean ====
section
/-! DEFINITION. The registers of the aperture, from the region tables and the field tables of the spec: offsets,
strides, reset values (R22), the B or X mark (R18) and the bits of each access code (R14). -/

namespace Sys2Proof.Machine

/-- One line of a region table with the bits of its field table by access code. Offsets are base + i · s1 + j · s2 with
i < n1 and j < n2. `rw` also takes the bits of a WO field that sets a value and is not an action when `wo` says so. -/
structure RegDef where
  base : Nat
  s1 : Nat
  n1 : Nat
  s2 : Nat
  n2 : Nat
  reset : Nat
  expert : Bool
  rw : Nat
  w1c : Nat
  rc : Nat
  img : Nat
  wo : Nat
  deriving DecidableEq, Repr

/-- The GLB registers. -/
def glbRegs : List RegDef :=
  [ ⟨0x0, 4, 1, 4, 1, 0x59566400, false, 0, 0, 0, 0, 0⟩,  -- GLB_ID (R3)
    ⟨0x4, 4, 1, 4, 1, 0x20400, false, 0, 0, 0, 0, 0⟩,  -- GLB_REL (R4)
    ⟨0x8, 4, 1, 4, 1, 0, false, 0, 0, 0, 0, 0xFFFF⟩,  -- GLB_CTRL (R145)
    ⟨0x100, 4, 1, 4, 1, 0, false, 0x1, 0, 0, 0, 0xFFFF0002⟩,  -- GLB_TND_CTRL (R416)
    ⟨0x104, 4, 1, 4, 1, 0, false, 0, 0xE0, 0, 0, 0⟩,  -- GLB_TND_STAT (R416)
    ⟨0x108, 4, 1, 4, 1, 0, false, 0, 0, 0, 0xFFFF, 0⟩,  -- GLB_TND_LAT (R416)
    ⟨0x200, 4, 1, 4, 1, 0x400, false, 0xFFFF, 0, 0, 0, 0⟩,  -- GLB_HMP_CFG (R639)
    ⟨0x210, 4, 8, 4, 1, 0, false, 0, 0x1C00000, 0, 0, 0⟩,  -- GLB_HMPp_STAT (R639)
    ⟨0x230, 4, 1, 4, 1, 0, false, 0, 0x6, 0, 0, 0⟩ ]  -- GLB_PORT_STAT (R640)

/-- The CRP registers. -/
def crpRegs : List RegDef :=
  [ ⟨0x10000, 4, 1, 4, 1, 0x1, false, 0, 0x200, 0, 0, 0⟩,  -- CRP_MODE (R670)
    ⟨0x10004, 4, 1, 4, 1, 0, false, 0, 0x10, 0, 0, 0xF⟩,  -- CRP_MODE_CTRL (R670)
    ⟨0x10008, 4, 1, 4, 1, 0, false, 0, 0, 0, 0, 0xFFFF0003⟩,  -- CRP_RST_CTRL (R670)
    ⟨0x1000C, 4, 1, 4, 1, 0x1, false, 0, 0xFF, 0, 0, 0⟩,  -- CRP_RST_CAUSE (R671)
    ⟨0x10010, 4, 1, 4, 1, 0, false, 0, 0, 0, 0, 0xFF⟩,  -- CRP_LINK_RST (R671)
    ⟨0x10014, 4, 1, 4, 1, 0x2710, false, 0xFFFFFF, 0x80000000, 0, 0, 0⟩,  -- CRP_DRAIN (R671)
    ⟨0x10018, 4, 1, 4, 1, 0x633C, true, 0x3FFFF, 0, 0, 0, 0⟩,  -- CRP_DROOP_CFG (R672)
    ⟨0x1001C, 4, 1, 4, 1, 0, false, 0, 0, 0xFFFF0000, 0, 0⟩,  -- CRP_DROOP_STAT (R672)
    ⟨0x10020, 4, 1, 4, 1, 0, false, 0x1, 0, 0, 0, 0⟩,  -- CRP_WAKE (R672)
    ⟨0x10024, 4, 1, 4, 1, 0x1F, false, 0, 0, 0, 0, 0⟩,  -- CRP_PWR_STAT (R673)
    ⟨0x10028, 4, 1, 4, 1, 0x690000, false, 0x1FF0000, 0x2000000, 0, 0, 0⟩ ]  -- CRP_TEMP (R673)

/-- The CFG registers. -/
def cfgRegs : List RegDef :=
  [ ⟨0x20000, 4, 1, 4, 1, 0, false, 0x2, 0, 0, 0, 0x1D⟩,  -- CFG_CTRL (R146)
    ⟨0x20004, 4, 1, 4, 1, 0x1FF0000, false, 0, 0x30, 0, 0, 0⟩,  -- CFG_STAT (R147)
    ⟨0x20008, 4, 1, 4, 1, 0, false, 0xFFFFFFC0, 0, 0, 0, 0⟩,  -- CFG_SRC_LO (R148)
    ⟨0x2000C, 4, 1, 4, 1, 0, false, 0xFFFFFFFF, 0, 0, 0, 0⟩,  -- CFG_SRC_HI (R148)
    ⟨0x20010, 4, 1, 4, 1, 0, false, 0, 0, 0, 0, 0⟩,  -- CFG_PROGRESS (R148)
    ⟨0x20018, 4, 1, 4, 1, 0, false, 0xFFFFFFFF, 0, 0, 0, 0⟩,  -- CFG_ARM_LO (R148)
    ⟨0x2001C, 4, 1, 4, 1, 0, false, 0xFFFFFFFF, 0, 0, 0, 0⟩,  -- CFG_ARM_HI (R148)
    ⟨0x20020, 4, 1, 4, 1, 0, false, 0, 0, 0, 0, 0⟩,  -- CFG_STG_PLAN_LO (R148)
    ⟨0x20024, 4, 1, 4, 1, 0, false, 0, 0, 0, 0, 0⟩,  -- CFG_STG_PLAN_HI (R148)
    ⟨0x20030, 4, 1, 4, 1, 0, false, 0, 0, 0, 0, 0⟩,  -- CFG_KEY_STAT (R150)
    ⟨0x20100, 64, 4, 4, 12, 0, false, 0, 0, 0, 0, 0⟩ ]  -- CFG_KEYHn_i (R150)

/-- The CONTRACT registers. -/
def contractRegs : List RegDef :=
  [ ⟨0x20028, 4, 1, 4, 1, 0, false, 0, 0x2, 0, 0, 0⟩,  -- CONTRACT_STAT (R149)
    ⟨0x2002C, 4, 1, 4, 1, 0x7, false, 0, 0, 0, 0, 0⟩ ]  -- CONTRACT_LEVEL (R149)

/-- The SCH registers. -/
def schRegs0 : List RegDef :=
  [ ⟨0x40000, 4, 1, 4, 1, 0, false, 0, 0, 0, 0, 0⟩,  -- SCH_TIME_LO (R90)
    ⟨0x40004, 4, 1, 4, 1, 0, false, 0, 0, 0, 0, 0⟩,  -- SCH_TIME_HI (R90)
    ⟨0x40008, 4, 1, 4, 1, 0, false, 0, 0, 0, 0, 0⟩,  -- SCH_SHIFT_LO (R90)
    ⟨0x4000C, 4, 1, 4, 1, 0, false, 0, 0, 0, 0, 0⟩,  -- SCH_SHIFT_HI (R90)
    ⟨0x40010, 4, 1, 4, 1, 0x14, true, 0, 0, 0, 0xFFFF001F, 0⟩,  -- SCH_SHIFT_CFG (R91)
    ⟨0x40014, 4, 1, 4, 1, 0, false, 0, 0xC, 0, 0, 0⟩,  -- SCH_BSTAT (R92)
    ⟨0x40018, 4, 1, 4, 1, 0, false, 0, 0, 0, 0, 0⟩,  -- SCH_PLAN_LO (R90)
    ⟨0x4001C, 4, 1, 4, 1, 0, false, 0, 0, 0, 0, 0⟩,  -- SCH_PLAN_HI (R90)
    ⟨0x40020, 4, 1, 4, 1, 0x40000, true, 0, 0, 0, 0xF037F, 0⟩,  -- SCH_TL_CFG (R93)
    ⟨0x40024, 4, 1, 4, 1, 0, true, 0, 0, 0, 0xFFFFF, 0⟩,  -- SCH_TL_WINDER (R94)
    ⟨0x40028, 4, 1, 4, 1, 0, true, 0, 0, 0, 0xFFFFF, 0⟩,  -- SCH_TL_STANDBY (R94)
    ⟨0x4002C, 4, 1, 4, 1, 0, true, 0x2, 0, 0, 0, 0x1⟩,  -- SCH_TL_CTRL (R95)
    ⟨0x40030, 4, 1, 4, 1, 0, false, 0, 0, 0, 0, 0⟩,  -- SCH_TL_STAT (R96)
    ⟨0x40034, 4, 1, 4, 1, 0, false, 0, 0, 0, 0, 0⟩,  -- SCH_TL_FREQ (R97)
    ⟨0x40038, 4, 1, 4, 1, 0, true, 0xFFFFFFFF, 0, 0, 0, 0⟩,  -- SCH_PMA_LAT (R98)
    ⟨0x40040, 4, 1, 4, 1, 0x1, false, 0, 0, 0, 0, 0⟩,  -- SCH_CLS_STAT (R99)
    ⟨0x40044, 4, 1, 4, 1, 0x1, false, 0, 0xFF7F, 0, 0, 0⟩,  -- SCH_CLS_CAUSE (R99)
    ⟨0x40048, 4, 1, 4, 1, 0, false, 0, 0, 0, 0, 0⟩,  -- SCH_DROOP_USED (R100)
    ⟨0x40100, 16, 8, 4, 1, 0x100, false, 0, 0, 0, 0, 0⟩,  -- SCH_LGn_PEER (R101)
    ⟨0x40104, 16, 8, 4, 1, 0, false, 0, 0, 0, 0, 0⟩,  -- SCH_LGn_DELAY (R102)
    ⟨0x40200, 4, 1, 4, 1, 0, false, 0xF01, 0, 0, 0, 0⟩,  -- SCH_RPT_CTRL (R103)
    ⟨0x40204, 4, 1, 4, 1, 0, false, 0, 0x30, 0, 0, 0⟩,  -- SCH_RPT_STAT (R104)
    ⟨0x40208, 4, 1, 4, 1, 0, false, 0xFFFFFFC0, 0, 0, 0, 0⟩,  -- SCH_RPT_ADDR_LO (R105)
    ⟨0x4020C, 4, 1, 4, 1, 0, false, 0xFFFFFFFF, 0, 0, 0, 0⟩ ]  -- SCH_RPT_ADDR_HI (R105)

/-- The SCH registers, continued. -/
def schRegs1 : List RegDef :=
  [ ⟨0x40210, 4, 1, 4, 1, 0, false, 0, 0, 0, 0, 0⟩,  -- SCH_RPT_WIDX (R105)
    ⟨0x40300, 4, 1, 4, 1, 0, false, 0x1FF, 0, 0, 0, 0⟩,  -- SCH_CAL_SEL (R223)
    ⟨0x40310, 4, 1, 4, 1, 0, false, 0xF1, 0, 0, 0, 0⟩,  -- SCH_BSM_SEL (R343)
    ⟨0x48000, 4, 2048, 4, 1, 0, false, 0, 0, 0, 0, 0⟩,  -- SCH_RPT_BANK0 (R89)
    ⟨0x4A000, 4, 2048, 4, 1, 0, false, 0, 0, 0, 0, 0⟩,  -- SCH_RPT_BANK1 (R89)
    ⟨0x50000, 4, 16384, 4, 1, 0, false, 0, 0, 0, 0, 0⟩,  -- SCH_BSM_WIN (R343)
    ⟨0x60000, 4, 32768, 4, 1, 0, false, 0, 0, 0, 0, 0⟩ ]  -- SCH_CAL_WIN (R223)

/-- All SCH registers. -/
def schRegs : List RegDef := schRegs0 ++ schRegs1

/-- The LNK registers. -/
def lnkRegs : List RegDef :=
  [ ⟨0x80000, 4, 1, 4, 1, 0x4000, true, 0xFFFF, 0, 0, 0, 0⟩,  -- LNK_REMAP_THR (R224)
    ⟨0x80004, 4, 1, 4, 1, 0x1F1F1F1F, false, 0, 0, 0, 0, 0⟩,  -- LNK_SPARE_STAT (R224)
    ⟨0x81000, 16, 18, 4, 1, 0, true, 0x3, 0, 0, 0, 0⟩,  -- LNK_Ln_CTRL (R225)
    ⟨0x81004, 16, 18, 4, 1, 0, false, 0, 0x4, 0, 0, 0⟩,  -- LNK_Ln_STAT (R225)
    ⟨0x82000, 256, 8, 4, 1, 0, true, 0, 0, 0, 0x1FFFFF, 0⟩,  -- LNK_LGn_CFG (R226)
    ⟨0x82004, 256, 8, 4, 1, 0x1C, false, 0x1D, 0, 0, 0, 0x2⟩,  -- LNK_LGn_CTRL (R227)
    ⟨0x82008, 256, 8, 4, 1, 0, false, 0, 0x7F0000, 0, 0, 0⟩,  -- LNK_LGn_STAT (R228)
    ⟨0x8200C, 256, 8, 4, 1, 0x80802100, true, 0x30000, 0, 0, 0xFFF0FFFF, 0⟩,  -- LNK_LGn_PARM (R229)
    ⟨0x82010, 256, 8, 4, 1, 0, true, 0, 0, 0, 0xFFFF03FF, 0⟩,  -- LNK_LGn_LAND (R229)
    ⟨0x82014, 256, 8, 4, 1, 0, false, 0, 0, 0, 0, 0⟩,  -- LNK_LGn_SEQ (R230)
    ⟨0x82018, 256, 8, 4, 1, 0, false, 0, 0, 0, 0, 0⟩,  -- LNK_LGn_RSEQ (R230)
    ⟨0x82020, 256, 8, 4, 8, 0, false, 0, 0, 0, 0xFFFF0000, 0⟩,  -- LNK_LGn_CREDv (R230)
    ⟨0x82040, 256, 8, 4, 1, 0, false, 0x3, 0x20, 0, 0, 0⟩,  -- LNK_LGn_GCM_CTRL (R231)
    ⟨0x82044, 256, 8, 4, 1, 0, false, 0xFFFFFFFF, 0, 0, 0, 0⟩,  -- LNK_LGn_GCM_ARM_LO (R232)
    ⟨0x82048, 256, 8, 4, 1, 0, false, 0xFFFFFFFF, 0, 0, 0, 0⟩,  -- LNK_LGn_GCM_ARM_HI (R232)
    ⟨0x8204C, 256, 8, 4, 1, 0, false, 0, 0, 0, 0, 0xF⟩,  -- LNK_LGn_KEY_CMD (R232)
    ⟨0x82050, 256, 8, 4, 8, 0, false, 0, 0, 0, 0, 0xFFFFFFFF⟩,  -- LNK_LGn_KEYw (R232)
    ⟨0x82070, 256, 8, 4, 1, 0, false, 0, 0, 0, 0, 0xFFFFFFFF⟩ ]  -- LNK_LGn_SALT (R232)

/-- The QUE registers. -/
def queRegs : List RegDef :=
  [ ⟨0x100000, 4, 1, 4, 1, 0x10, true, 0, 0, 0, 0x7FF1F, 0⟩,  -- QUE_CFG (R284)
    ⟨0x100004, 4, 1, 4, 1, 0x3E80040, true, 0, 0, 0, 0xFFFFFFFF, 0⟩,  -- QUE_TIMING (R284)
    ⟨0x100008, 4, 1, 4, 1, 0, false, 0, 0, 0, 0xFFFFF, 0⟩,  -- QUE_EPID (R284)
    ⟨0x10000C, 4, 1, 4, 1, 0, false, 0, 0x3, 0, 0, 0⟩,  -- QUE_STAT (R284)
    ⟨0x100010, 4, 1, 4, 1, 0, true, 0, 0, 0, 0x1FFF03FF, 0⟩,  -- QUE_PEER_CFG (R285)
    ⟨0x100014, 4, 1, 4, 1, 0, true, 0, 0, 0, 0x3FF, 0⟩,  -- QUE_CC_CFG (R285)
    ⟨0x100018, 4, 1, 4, 1, 0x40001000, false, 0, 0, 0, 0, 0⟩,  -- QUE_RESRC (R285)
    ⟨0x100020, 4, 1, 4, 1, 0x2710, false, 0xFFFFFF, 0, 0, 0, 0⟩,  -- QUE_BAR_TMO (R286)
    ⟨0x100024, 4, 1, 4, 1, 0, false, 0, 0, 0, 0, 0xFF3FFF⟩,  -- QUE_BAR_CMD (R286)
    ⟨0x100040, 4, 1, 4, 1, 0, false, 0xFFFF, 0, 0, 0, 0⟩,  -- QUE_CTX_SEL (R286)
    ⟨0x100044, 4, 1, 4, 1, 0, false, 0, 0x10, 0, 0, 0x7⟩,  -- QUE_CTX_CMD (R286)
    ⟨0x100080, 4, 16, 4, 1, 0, false, 0xFFFFFFFF, 0, 0, 0, 0⟩,  -- QUE_CTX_Wi (R286)
    ⟨0x1000C0, 4, 1, 4, 1, 0, false, 0xFFF, 0, 0, 0, 0⟩,  -- QUE_PEER_SEL (R287)
    ⟨0x1000C4, 4, 1, 4, 1, 0, false, 0, 0x10, 0, 0, 0x7⟩,  -- QUE_PEER_CMD (R287)
    ⟨0x1000D0, 4, 1, 4, 1, 0, false, 0xFFFFF, 0, 0, 0, 0⟩,  -- QUE_PEER_D0 (R287)
    ⟨0x1000D4, 4, 1, 4, 1, 0, false, 0xFFFFFFFF, 0, 0, 0, 0⟩,  -- QUE_PEER_D1 (R287)
    ⟨0x1000D8, 4, 1, 4, 1, 0, false, 0xFFFFFFFF, 0, 0, 0, 0⟩,  -- QUE_PEER_D2 (R287)
    ⟨0x1000DC, 4, 1, 4, 1, 0, false, 0, 0, 0, 0, 0⟩ ]  -- QUE_PEER_D3 (R287)

/-- The STR registers. -/
def strRegs : List RegDef :=
  [ ⟨0x200000, 4, 1, 4, 1, 0x10038000, true, 0xFF030000, 0, 0, 0xFFFF, 0⟩,  -- STR_CFG (R344)
    ⟨0x200004, 4, 1, 4, 1, 0, true, 0, 0, 0, 0x1F, 0⟩,  -- STR_REPLAY (R344)
    ⟨0x200008, 4, 1, 4, 1, 0, false, 0, 0x10000, 0, 0, 0⟩,  -- STR_STAT (R344)
    ⟨0x20000C, 4, 1, 4, 1, 0, false, 0, 0, 0, 0, 0⟩,  -- STR_ECC_ADDR (R344)
    ⟨0x200010, 4, 1, 4, 1, 0, false, 0xF, 0, 0, 0, 0⟩,  -- STR_SWIN (R344)
    ⟨0x200020, 4, 1, 4, 1, 0, true, 0, 0, 0, 0xFFFFFFFF, 0⟩,  -- STR_SEED_LO (R391)
    ⟨0x200024, 4, 1, 4, 1, 0, true, 0, 0, 0, 0xFFFFFFFF, 0⟩,  -- STR_SEED_HI (R391)
    ⟨0x200100, 4, 32, 4, 1, 0, false, 0xFFFFFFFF, 0, 0, 0, 0⟩,  -- STR_CMD_Wi (R345)
    ⟨0x200180, 4, 1, 4, 1, 0, false, 0xF, 0x20, 0, 0, 0x10⟩,  -- STR_CMD_GO (R345)
    ⟨0x200200, 4, 1, 4, 1, 0, true, 0, 0, 0, 0x3FF03FF, 0⟩,  -- STR_RED_CFG (R391)
    ⟨0x200204, 4, 1, 4, 1, 0, false, 0xFFFF, 0, 0, 0, 0⟩,  -- STR_RED_SEL (R392)
    ⟨0x200208, 4, 1, 4, 1, 0, false, 0, 0, 0, 0, 0⟩,  -- STR_RED_STAT (R392)
    ⟨0x20020C, 4, 1, 4, 1, 0, false, 0, 0, 0, 0, 0⟩,  -- STR_RED_ROUND (R392)
    ⟨0x200210, 4, 1, 4, 1, 0, false, 0, 0x2, 0, 0, 0x1⟩,  -- STR_RED_CMD (R393)
    ⟨0x200214, 4, 1, 4, 1, 0, false, 0, 0, 0, 0, 0⟩,  -- STR_RED_HOLD (R393)
    ⟨0x201000, 64, 16, 4, 1, 0, true, 0, 0, 0, 0x3FF, 0⟩,  -- STR_Dd_CFG (R346)
    ⟨0x201004, 64, 16, 4, 1, 0, false, 0, 0, 0, 0, 0x3⟩,  -- STR_Dd_CTRL (R346)
    ⟨0x201008, 64, 16, 4, 1, 0, false, 0, 0xE0, 0, 0, 0⟩,  -- STR_Dd_STAT (R346)
    ⟨0x20100C, 64, 16, 4, 1, 0, false, 0, 0, 0, 0, 0⟩,  -- STR_Dd_RESUME (R346)
    ⟨0x201010, 64, 16, 4, 1, 0, false, 0, 0, 0, 0, 0⟩ ]  -- STR_Dd_DONE (R346)

/-- The BTP registers. -/
def btpRegs : List RegDef :=
  [ ⟨0x300000, 4, 1, 4, 1, 0x10000, false, 0x1FFFF, 0, 0, 0, 0⟩,  -- BTP_POOL_CFG (R467)
    ⟨0x300004, 4, 1, 4, 1, 0x800F4240, false, 0x80FFFFFF, 0, 0, 0, 0⟩,  -- BTP_DLK (R467)
    ⟨0x300008, 4, 1, 4, 1, 0, false, 0, 0x7, 0, 0, 0⟩,  -- BTP_STAT (R467)
    ⟨0x300010, 4, 1, 4, 1, 0, false, 0x7F, 0, 0, 0, 0⟩,  -- BTP_TH_SEL (R468)
    ⟨0x300014, 4, 1, 4, 1, 0, false, 0, 0x10, 0, 0, 0xF⟩,  -- BTP_TH_CMD (R468)
    ⟨0x300018, 4, 1, 4, 1, 0, false, 0, 0, 0, 0, 0⟩,  -- BTP_TH_STAT (R468)
    ⟨0x30001C, 4, 1, 4, 1, 0, false, 0, 0, 0, 0, 0⟩,  -- BTP_TH_PC (R468)
    ⟨0x300020, 4, 1, 4, 1, 0, false, 0, 0, 0xFF00, 0, 0⟩,  -- BTP_FLOG_STAT (R469)
    ⟨0x300024, 4, 1, 4, 1, 0, false, 0, 0, 0, 0, 0x1⟩,  -- BTP_FLOG_POP (R469)
    ⟨0x300028, 4, 1, 4, 1, 0, false, 0, 0, 0, 0, 0⟩,  -- BTP_FLOG_D0 (R469)
    ⟨0x30002C, 4, 1, 4, 1, 0, false, 0, 0, 0, 0, 0⟩,  -- BTP_FLOG_D1 (R469)
    ⟨0x300030, 4, 1, 4, 1, 0, false, 0, 0, 0, 0, 0⟩,  -- BTP_FLOG_D2 (R469)
    ⟨0x300034, 4, 1, 4, 1, 0, false, 0, 0, 0, 0, 0⟩,  -- BTP_FLOG_D3 (R469)
    ⟨0x300040, 4, 1, 4, 1, 0, false, 0x7F0FFF, 0, 0, 0, 0⟩,  -- BTP_LAMP_SEL (R470)
    ⟨0x300044, 4, 1, 4, 1, 0, false, 0, 0, 0, 0, 0⟩,  -- BTP_LAMP_STAT (R470)
    ⟨0x300048, 4, 1, 4, 1, 0, false, 0, 0x8, 0, 0, 0x3⟩,  -- BTP_LAMP_CMD (R470)
    ⟨0x300050, 4, 1, 4, 1, 0, false, 0x3FF, 0, 0, 0, 0⟩,  -- BTP_CH_SEL (R471)
    ⟨0x300054, 4, 1, 4, 1, 0, false, 0, 0, 0, 0, 0⟩,  -- BTP_CH_STAT (R471)
    ⟨0x301000, 4, 128, 4, 1, 0, false, 0, 0, 0, 0, 0⟩ ]  -- BTP_WAITFOR_t (R472)

/-- The MEM registers. -/
def memRegs : List RegDef :=
  [ ⟨0x380000, 4, 1, 4, 1, 0x1003, true, 0xFF03, 0, 0, 0, 0⟩,  -- MEM_CFG (R538)
    ⟨0x380004, 4, 1, 4, 1, 0, true, 0x7, 0, 0, 0, 0⟩,  -- MEM_CONFLICT (R538)
    ⟨0x380008, 4, 1, 4, 1, 0, false, 0, 0x1F, 0, 0, 0⟩,  -- MEM_STAT (R538)
    ⟨0x38000C, 4, 1, 4, 1, 0, false, 0, 0, 0, 0, 0⟩,  -- MEM_CONF_ADDR (R539)
    ⟨0x380010, 4, 1, 4, 1, 0, false, 0, 0, 0, 0, 0⟩,  -- MEM_ECC_ADDR (R539)
    ⟨0x380014, 4, 1, 4, 1, 0, false, 0, 0, 0xFFFFFFFF, 0, 0⟩,  -- MEM_ECC_CNT (R539)
    ⟨0x380020, 4, 1, 4, 1, 0x1, false, 0, 0x36, 0, 0, 0⟩,  -- MEM_SEC_STAT (R540)
    ⟨0x380024, 4, 1, 4, 1, 0, false, 0, 0x40, 0, 0, 0⟩ ]  -- MEM_LC_STAT (R540)

/-- The VWK registers. -/
def vwkRegs : List RegDef :=
  [ ⟨0x3C0000, 4, 1, 4, 1, 0x10, true, 0xFFF001F, 0, 0, 0, 0⟩,  -- VWK_CFG (R585)
    ⟨0x3C0004, 4, 1, 4, 1, 0, true, 0xFFFF, 0, 0, 0, 0⟩,  -- VWK_CHAIN (R585)
    ⟨0x3C0008, 4, 1, 4, 1, 0, false, 0x8, 0, 0, 0, 0x7⟩,  -- VWK_CTRL (R585)
    ⟨0x3C000C, 4, 1, 4, 1, 0, false, 0, 0xFF0, 0, 0, 0⟩,  -- VWK_STAT (R586)
    ⟨0x3C0010, 4, 1, 4, 1, 0, false, 0xFFFFF, 0, 0, 0, 0⟩,  -- VWK_TX_HDR (R587)
    ⟨0x3C0014, 4, 1, 4, 1, 0, false, 0xFFFFFFFF, 0, 0, 0, 0⟩,  -- VWK_TX_D0 (R587)
    ⟨0x3C0018, 4, 1, 4, 1, 0, false, 0xFFFFFFFF, 0, 0, 0, 0⟩,  -- VWK_TX_D1 (R587)
    ⟨0x3C0020, 4, 1, 4, 1, 0, false, 0, 0, 0, 0, 0⟩,  -- VWK_RX_HDR (R587)
    ⟨0x3C0024, 4, 1, 4, 1, 0, false, 0, 0, 0, 0, 0⟩,  -- VWK_RX_D0 (R587)
    ⟨0x3C0028, 4, 1, 4, 1, 0, false, 0, 0, 0, 0, 0⟩,  -- VWK_RX_D1 (R587)
    ⟨0x3C002C, 4, 1, 4, 1, 0, false, 0, 0, 0, 0, 0x1⟩ ]  -- VWK_RX_POP (R587)

/-- The SBD registers. -/
def sbdRegs : List RegDef :=
  [ ⟨0x3C0100, 4, 8, 4, 1, 0, true, 0x1F1F1F1F, 0, 0, 0, 0⟩,  -- SBD_PINSELi (R588)
    ⟨0x3C0120, 4, 1, 4, 1, 0, false, 0xFFFFFFFF, 0, 0, 0, 0⟩,  -- SBD_GPIO_OUT (R588)
    ⟨0x3C0124, 4, 1, 4, 1, 0, false, 0xFFFFFFFF, 0, 0, 0, 0⟩,  -- SBD_GPIO_OE (R588)
    ⟨0x3C0128, 4, 1, 4, 1, 0, false, 0, 0, 0, 0, 0⟩,  -- SBD_PIN_IN (R588)
    ⟨0x3C0200, 4, 1, 4, 1, 0x7, true, 0x1F, 0, 0, 0, 0⟩,  -- SBD_IO_CFG (R641)
    ⟨0x3C0204, 4, 1, 4, 1, 0, true, 0xFFFFFFFF, 0, 0, 0, 0⟩,  -- SBD_PULL_EN (R641)
    ⟨0x3C0208, 4, 1, 4, 1, 0, true, 0xFFFFFFFF, 0, 0, 0, 0⟩ ]  -- SBD_PULL_UP (R641)

/-- The PE registers. -/
def peRegs : List RegDef :=
  [ ⟨0x3C1000, 64, 8, 4, 1, 0, false, 0x3, 0, 0, 0, 0x18⟩,  -- PEn_CTRL (R589)
    ⟨0x3C1004, 64, 8, 4, 1, 0, true, 0xFF, 0, 0, 0, 0⟩,  -- PEn_BASE (R589)
    ⟨0x3C1008, 64, 8, 4, 1, 0, true, 0x9F9F9F9F, 0, 0, 0, 0⟩,  -- PEn_PINMAP_LO (R589)
    ⟨0x3C100C, 64, 8, 4, 1, 0, true, 0x9F9F9F9F, 0, 0, 0, 0⟩,  -- PEn_PINMAP_HI (R589)
    ⟨0x3C1010, 64, 8, 4, 1, 0, false, 0, 0xF8, 0, 0, 0⟩,  -- PEn_STAT (R590)
    ⟨0x3C1014, 64, 8, 4, 1, 0, false, 0, 0, 0, 0, 0xFFFFFFFF⟩,  -- PEn_FEED (R590)
    ⟨0x3C1018, 64, 8, 4, 1, 0, false, 0, 0, 0, 0, 0⟩,  -- PEn_CATCH (R590)
    ⟨0x3C101C, 64, 8, 4, 1, 0, false, 0, 0, 0, 0, 0⟩,  -- PEn_DBG (R590)
    ⟨0x3C1020, 64, 8, 4, 1, 0, false, 0, 0, 0, 0, 0⟩,  -- PEn_SR (R590)
    ⟨0x3C1024, 64, 8, 4, 1, 0x404, true, 0xF0F, 0, 0, 0, 0⟩,  -- PEn_DEPTH (R589)
    ⟨0x3C2000, 2048, 8, 4, 512, 0, true, 0xFFFFFFFF, 0, 0, 0, 0⟩ ]  -- PEn_PROG (R590)

/-- The TM registers. -/
def tmRegs : List RegDef :=
  [ ⟨0x3C8000, 32, 16, 4, 1, 0, false, 0xFF1FFFEF, 0, 0, 0, 0x10⟩,  -- TMm_CTRL (R591)
    ⟨0x3C8004, 32, 16, 4, 1, 0, false, 0xFFFFFFFF, 0, 0, 0, 0⟩,  -- TMm_LOAD (R592)
    ⟨0x3C8008, 32, 16, 4, 1, 0, false, 0xFFFFFFFF, 0, 0, 0, 0⟩,  -- TMm_CMP (R592)
    ⟨0x3C800C, 32, 16, 4, 1, 0, false, 0, 0, 0, 0, 0⟩,  -- TMm_COUNT (R592)
    ⟨0x3C8010, 32, 16, 4, 1, 0, false, 0, 0, 0, 0, 0⟩,  -- TMm_CAP (R592)
    ⟨0x3C8014, 32, 16, 4, 1, 0, false, 0, 0x34, 0, 0, 0⟩ ]  -- TMm_STAT (R592)

/-- The EVT registers. -/
def evtRegs : List RegDef :=
  [ ⟨0x3E0000, 4, 1, 4, 1, 0, false, 0, 0x7, 0, 0, 0⟩,  -- EVT_STAT (R693)
    ⟨0x3E0004, 4, 1, 4, 1, 0, false, 0, 0, 0, 0, 0xFFF⟩,  -- EVT_RAISE (R693)
    ⟨0x3E0008, 4, 1, 4, 1, 0, false, 0, 0, 0xFFFF0000, 0, 0⟩,  -- EVT_UE_UNIT (R693)
    ⟨0x3E000C, 4, 1, 4, 1, 0, false, 0, 0, 0, 0, 0⟩,  -- EVT_UE_ADDR (R693)
    ⟨0x3E0010, 4, 1, 4, 1, 0xFFFFFFFF, false, 0xFFFFFFFF, 0, 0, 0, 0⟩,  -- EVT_IRQ_EN_LO (R693)
    ⟨0x3E0014, 4, 1, 4, 1, 0xFFFFFFFF, false, 0xFFFFFFFF, 0, 0, 0, 0⟩,  -- EVT_IRQ_EN_HI (R693)
    ⟨0x3E0018, 4, 1, 4, 1, 0, false, 0, 0, 0, 0, 0⟩,  -- EVT_IRQ_LVL_LO (R693)
    ⟨0x3E001C, 4, 1, 4, 1, 0, false, 0, 0, 0, 0, 0⟩,  -- EVT_IRQ_LVL_HI (R693)
    ⟨0x3E0100, 4, 128, 4, 1, 0, false, 0, 0xFFFFFFFF, 0, 0, 0⟩,  -- EVT_PENDk (R693)
    ⟨0x3E0800, 16, 64, 4, 1, 0, true, 0xFFFFFFFC, 0, 0, 0, 0⟩,  -- EVT_MSIv_ADDR_LO (R693)
    ⟨0x3E0804, 16, 64, 4, 1, 0, true, 0xFFFFFFFF, 0, 0, 0, 0⟩,  -- EVT_MSIv_ADDR_HI (R693)
    ⟨0x3E0808, 16, 64, 4, 1, 0, true, 0xFFFFFFFF, 0, 0, 0, 0⟩,  -- EVT_MSIv_DATA (R693)
    ⟨0x3E080C, 16, 64, 4, 1, 0, true, 0x7, 0, 0, 0, 0⟩,  -- EVT_MSIv_CFG (R693)
    ⟨0x3E4000, 4, 4096, 4, 1, 0, true, 0x1FFFF, 0, 0, 0, 0⟩ ]  -- EVT_ROUTEn (R693)

/-- The DBG registers. -/
def dbgRegs : List RegDef :=
  [ ⟨0x3F0000, 4, 1, 4, 1, 0, false, 0x1, 0, 0, 0, 0xFFFF000E⟩,  -- DBG_CTRL (R694)
    ⟨0x3F0004, 4, 1, 4, 1, 0, false, 0, 0x8C, 0, 0, 0⟩,  -- DBG_STAT (R694)
    ⟨0x3F0100, 4, 8, 4, 1, 0, false, 0x3FFFFFF, 0, 0, 0, 0⟩,  -- DBG_BPi (R694)
    ⟨0x3F0200, 8, 4, 4, 1, 0, false, 0xFFFFFFFF, 0, 0, 0, 0⟩,  -- DBG_WPj_ADDR (R694)
    ⟨0x3F0204, 8, 4, 4, 1, 0, false, 0xFFFF, 0, 0, 0, 0⟩,  -- DBG_WPj_CFG (R694)
    ⟨0x3F0300, 4, 1, 4, 1, 0, false, 0x1FFF, 0, 0, 0, 0⟩,  -- DBG_TR_CFG (R694)
    ⟨0x3F0304, 4, 1, 4, 1, 0, false, 0x3FFF, 0, 0, 0, 0⟩,  -- DBG_TR_RING (R694)
    ⟨0x3F0308, 4, 1, 4, 1, 0, false, 0, 0, 0, 0, 0⟩,  -- DBG_TR_WIDX (R694)
    ⟨0x3F030C, 4, 1, 4, 1, 0, false, 0, 0x6, 0xFF00, 0, 0⟩ ]  -- DBG_TR_STAT (R694)

/-- Every register of the aperture. -/
def regTable : List RegDef :=
  glbRegs ++ crpRegs ++ cfgRegs ++ contractRegs ++ schRegs ++ lnkRegs ++ queRegs ++ strRegs ++ btpRegs ++ memRegs ++ vwkRegs ++ sbdRegs ++ peRegs ++ tmRegs ++ evtRegs ++ dbgRegs

/-- Whether the register holds offset `off`. -/
def RegDef.has (d : RegDef) (off : Nat) : Bool :=
  let r := off - d.base
  decide (d.base ≤ off) && decide (r / d.s1 < d.n1) && decide (r % d.s1 / d.s2 < d.n2) && r % d.s1 % d.s2 == 0

/-- The register at offset `off`, if a region table assigns it (R21). -/
def regAt (off : Nat) : Option RegDef := regTable.find? fun d => d.has off

/-- The reset value at `off` (R22); zero where no register lies. R681 gives EVT_ROUTE16, EVT_ROUTE17 (thread T0, wait
set 0) and EVT_ROUTE18 (IRQ line 0) values of their own. -/
def regReset (off : Nat) : Word :=
  if off = 0x3E4040 ∨ off = 0x3E4044 then 1 else if off = 0x3E4048 then 2 else
  match regAt off with
  | some d => BitVec.ofNat 32 d.reset
  | none => 0

end Sys2Proof.Machine
end

