-- ==== Sys2Proof/Machine/StreamTypes.lean ====
section
/-! DEFINITION. What a stream command is made of (R305, R306), and what a drift keeps of the command that it executes: its ports, the
beats read, the stores not yet made (R311 to R337). Everything is plain data. -/

namespace Sys2Proof.Machine

/-- An operand descriptor (R306). -/
structure Opnd where
  addr : Nat
  stride : Nat
  aux : Nat
  space : Nat
  mode : Nat
  typ : Nat
  idx : Nat
  hmp : Nat
  rsv : Nat
  deriving DecidableEq, Repr

/-- A stream command (R305); `rsv` gathers its reserved bits. -/
structure SCmd where
  op : Nat
  chain : Nat
  round : Nat
  fold : Nat
  holePol : Nat
  poisonFault : Bool
  fence : Bool
  traps : Nat
  cplCh : Nat
  cplEn : Bool
  evEn : Bool
  userTag : Nat
  n : Nat
  start : Nat
  a : Opnd
  b : Opnd
  c : Opnd
  s : Nat
  user : Nat
  rsv : Nat
  deriving DecidableEq, Repr

/-- A port of a drift (the codes of R297: 0 A, 1 B, 2 C, 3 to 5 the index arrays of A, C and B): the staging words it holds, the newest
first, with their poison; its accesses at scheduled rank so far, the cycles of its first and last access, and its host requests, newest
first. -/
structure PortSt where
  held : List (Nat × List Byte × Bool)
  hits : Nat
  first : Option Nat
  last : Option Nat
  reqs : List (Nat × Nat)
  deriving DecidableEq, Repr

/-- Where an INGRESS operand stands (R329): slot address, next payload byte, whether its trailer has been read, P, HOLE, CSV,
and whether an element has been drawn from it; payload bytes still to be passed over. -/
structure RingSt where
  slot : Nat
  off : Nat
  seen : Bool
  p : Nat
  hole : Bool
  csv : Bool
  drawn : Bool
  skip : Nat
  deriving DecidableEq, Repr

/-- A cause that stops a command: its rank in the order of R333, STATUS and FOP. -/
structure Cause where
  rank : Nat
  status : Nat
  fop : Nat
  deriving DecidableEq, Repr

/-- What an operand gives for one element: its bits and poison, or the cause that stops the command there. -/
structure Got where
  val : Nat
  poison : Bool
  cause : Option Cause
  deriving DecidableEq, Repr

/-- What a member has read for one element: operands A and B, the address of C or the cause met there, the hole slots that the element
is the first to draw from, and CSV (R329). -/
structure ElemIn where
  a : Got
  b : Got
  addr : Nat
  cause : Option Cause
  holes : Nat
  csv : Bool
  deriving DecidableEq, Repr

/-- A beat that a member has read, and the cycle in which its last port held it (R315). -/
structure BeatIn where
  at_ : Nat
  els : List ElemIn
  deriving DecidableEq, Repr

/-- A staging write not yet made: the first cycle it may be made in, its word, the runs of bytes by place in the word, and the elements
and poisoned elements that it completes. -/
structure LateWrite where
  at_ : Nat
  word : Nat
  runs : List (Nat × List Byte)
  poison : Bool
  els : Nat
  bad : Nat
  deriving DecidableEq, Repr

/-- A payload on its way to the egress buffer (R319): the cycle in which it is whole, the one from which a slot may take it, its bytes,
elements and poisoned elements. -/
structure LateFlit where
  at_ : Nat
  ready : Nat
  bytes : List Byte
  els : Nat
  bad : Nat
  deriving DecidableEq, Repr

/-- An element stored to host memory. -/
structure HostStore where
  el : Nat
  addr : Nat
  bytes : List Byte
  poison : Bool
  deriving DecidableEq, Repr

/-- One member of a run: its drift and command, the delay of its reads against the longest path (R323), how many cycles late it
started; ports and rings by operand; the beats it has read, the first cycle of its next one, and those not yet combined, oldest first;
the queue engine's data that it reads or has read (R327); staging writes, payloads and host stores (newest first) not yet made, the
EGRESS payload that fills with the cycle from which it may be sent; the fold; and what the record will say. -/
structure Member where
  d : Nat
  cmd : SCmd
  delay : Nat
  lateBy : Nat
  ports : KMap PortSt
  rings : KMap RingSt
  beat : Nat
  next : Nat
  ready : List BeatIn
  data : List Byte
  writes : List LateWrite
  sends : List LateFlit
  stores : List HostStore
  pay : List Byte
  payEls : Nat
  payBad : Nat
  payAt : Nat
  acc : List (Option Nat)
  lanes : List (Option Nat)
  foldPoison : Bool
  flags : Nat
  holes : Nat
  csv : Bool
  late : Bool
  elements : Nat
  bad : Nat
  deriving DecidableEq, Repr

/-- What is fixed for a run: the terminal, elements of a beat, the first element and the count, the longest path to the terminal's ARITH
input (R323), the chain's feeds, the generator's seed, and whether the terminal waits for elements that no feeder sends. -/
structure RunCtx where
  term : Nat
  beat : Nat
  start : Nat
  count : Nat
  path : Nat
  feeds : List (Nat × Nat × Nat)
  seed : Nat
  stuck : Bool
  deriving DecidableEq, Repr

end Sys2Proof.Machine
end

