-- ==== Sys2Proof/Machine/State.lean ====
section
/-! DEFINITION. The state of the RSE-6400: the registers of the aperture in one sparse file, and for each unit the state
that the spec gives it beside its registers. Everything is plain data. A sparse table (KMap) lists only what differs
from the reset value of its kind. -/

namespace Sys2Proof.Machine

/-- Why the machine stops with a fault. No rule of the spec stops the whole block: its own error responses, alerts, fault
records and mode changes are next states. -/
inductive Fault where
  /-- Raised by no command; the spec has no machine-wide fault. Safe. -/
  | none
  deriving DecidableEq, Repr

/-- Why a command is refused by the model. -/
inductive Refusal where
  /-- Raised by the dispatch of a command that has no meaning yet. Safe. -/
  | notModelled (mnemonic : String)
  deriving DecidableEq, Repr

/-! ## Outputs -/

/-- What the block emits at its ports (R593), kept in State.out in the order of emission. -/
inductive Out where
  /-- A flit that leaves on link group `g` (R188, R189); `slot` is its flit slot of the shift. -/
  | flit (g : Nat) (slot : Nat) (f : Flit)
  /-- A time mark sent in the first slot of an epoch (R42, R44). -/
  | mark (g : Nat) (m : BitVec 64)
  /-- Steering presented on PLL_STEER with PLL_STB (R598). -/
  | pllSteer (v : Word)
  /-- A request on host memory port `p` (R607): opcode, ARG, address, length in bytes, ID, source and RQ_INTR. -/
  | hmpRequest (p opc arg addr len tid src : Nat) (intr : Bool)
  /-- The write data of a WRITE or ATOMIC (R611): its bytes in address order and the poison attribute (R612). -/
  | hmpWriteData (p : Nat) (bytes : List Byte) (poison : Bool)
  /-- The end of a CSP access (R601): read data and CSP_ERR. -/
  | cspAck (data : Word) (err : Bool)
  /-- A word taken on the configuration port (R605), or refused because CFG_READY is 0 (R606). -/
  | cfgTaken (ready : Bool)
  /-- A tandem word (R621). -/
  | tandem (w : TndWord)
  /-- The tandem liveness output (R399). -/
  | tandemLive (v : Bool)
  /-- Interrupt levels (R624). -/
  | irq (levels : BitVec 64)
  /-- A lifecycle bus request (R625). -/
  | lcRequest (addr : Nat)
  /-- A frame put on the Vowick bus (R548). -/
  | vwkFrame (f : VwkFrame)
  /-- The ACK bit pulled to 0 in a received frame (R548), or left at 1. -/
  | vwkAck (v : Bool)
  /-- The level the block gives VWA: true while it holds the wire low (R556). -/
  | vwaLow (v : Bool)
  /-- All three Vowick pins released (R545, R555). -/
  | vwkRelease
  /-- The SB pins: output levels and output enables of SB0 to SB31 (R542). -/
  | sbPins (level enable : Word)
  /-- Power handshake outputs (R599): PWR_MAIN_REQ, PWR_RET_REQ, PWR_BOOST, ISO_EN, HMP_FLUSH. -/
  | power (mainReq retReq boost iso flush : Bool)
  /-- What a scan of the TAP's data register shifts out at TDO, from bit 0 on, and its length (R632, R684). -/
  | tapScan (len : Nat) (v : BitVec 58)
  /-- Memory test outputs (R633). -/
  | mbist (done fail : Bool)
  /-- Transmit lane controls (R155): electrical idle of physical lane `l`. -/
  | laneIdle (l : Nat) (idle : Bool)
  /-- Precoding controls of physical lane `l`, transmit and receive (R154). -/
  | precode (l : Nat) (tx rx : Bool)
  /-- A transmit word of physical lane `l` (R151, R152): bit 0 is the first on the line. -/
  | laneWord (l : Nat) (w : BitVec 256)
  deriving DecidableEq, Repr

/-! ## Schedule unit -/

/-- What the schedule unit keeps for one link group beside SCH_LGn_PEER and SCH_LGn_DELAY. -/
structure SchGroup where
  /-- AUX words of the last eight epochs by EPOCH[2:0] (R45), bit 16 set where one has been received. -/
  aux : KMap (BitVec 17)
  /-- The winder ID assembled from the last pair of AUX words 6 and 7 (R46). -/
  winder : Option (BitVec 20)
  /-- SCH_LGn_DELAY holds a delay measured since the last reset of MAIN (R47, R49). -/
  measured : Bool
  /-- Group-scoped void causes of R83: training lost, delay mismatch, plan mismatch, width without fallback. -/
  voidTrain : Bool
  voidDelay : Bool
  voidPlan : Bool
  voidWidth : Bool
  /-- A SWAP disagreement found at B − 4,096, to be shown from B onward (R71). -/
  mismatchAtB : Bool
  /-- The peer's plan ID fragments disagreed with the local plan in this cycle of epochs (R71). -/
  planDiffers : Bool
  /-- Plan ID fragments 0, 1, 2, 3 that have matched in that order (R71). -/
  planOk : Nat
  deriving DecidableEq, Repr

/-- A report that the report writer is sending (R74 to R76). -/
structure RptWriter where
  bank : Nat
  seq : Nat
  base : Nat
  outstanding : Nat
  header : Bool
  deriving DecidableEq, Repr

/-- The schedule unit beside its registers. -/
structure SchState where
  /-- Fabric time (R37). -/
  ft : BitVec 64
  /-- Phase within the CK_CORE cycle, in units of 1/64 (R38): that of the arrival which the present command stamps, 0 where time
  stands at the beginning of a cycle. -/
  phase : BitVec 6
  /-- Fabric time of the last epoch opened by MARK_EPOCH_START, and of the last boundary taken. -/
  lastEpoch : Option (BitVec 64)
  lastBoundary : Option (BitVec 64)
  /-- The shift of the boundary whose decision point was taken last (R65). -/
  decided : Option Nat
  /-- The steering of the last sixteen epochs, newest first (R52, HOLDOVER). -/
  steerHist : List Int
  /-- Consecutive marks with |e| ≤ 6 and a locked upstream (R53), at most 16. -/
  good : Nat
  /-- Consecutive missing upstream marks (R53). -/
  missRun : Nat
  /-- AUX words collected in ACQUIRE, by EPOCH[2:0], and how many consecutive valid marks they come from (R53). -/
  acqAux : KMap (BitVec 17)
  acqRun : Nat
  /-- Fabric time at which HOLDOVER was entered, or of the last valid upstream mark in ACQUIRE (R53). -/
  since : BitVec 64
  /-- The standby's holdover has expired (R53), and when the active winder was last heard. -/
  standbyExpired : Bool
  winderHeard : BitVec 64
  /-- An excursion beyond 512 CK_CORE cycles is in progress (R56). -/
  far : Bool
  /-- The upstream's last LOCK field (R59). -/
  upLock : BitVec 3
  /-- A droop hold was in progress at some time since the last mark (R44). -/
  droopSinceMark : Bool
  /-- ACQUIRE has stepped fabric time since the last reset or RELOCK (R53): what ACQD reads outside WINDER. -/
  stepped : Bool
  /-- The CK_CTL cycle in which EV_CLS_VOID was raised last (R99). -/
  clsRaised : Option Nat
  /-- The boundary whose swap was cancelled after its decision point (R70). -/
  cancelled : Option Nat
  /-- The boundary for which an armed image missed its decision point last (R69). -/
  missed : Option Nat
  /-- What is kept for each link group; entry 8 holds what the tandem marks carry (R408). -/
  groups : KMap SchGroup
  /-- The live counters of the shift report by report offset (R77, R79), and SATURATED (R68). -/
  counters : KMap (BitVec 64)
  saturated : Bool
  /-- The counters and header words of the shift that ended last, and the report banks (R65, R72, R78). -/
  shadow : KMap (BitVec 64)
  shadowHdr : List Word
  bank0 : KMap Word
  bank1 : KMap Word
  /-- Causes active at any time in the shift, the first one's time, and droop figures of the shift (R78). -/
  voidCauses : Word
  voidFirst : Option (BitVec 64)
  droopEvents : Nat
  /-- Droop hold time in this shift in CK_CORE cycles (R87). -/
  droopCycles : Nat
  /-- The report writer (R74). -/
  writer : Option RptWriter
  deriving DecidableEq, Repr

/-! ## Image loader -/

/-- A section held in a half of plan memory or instruction store (R110). -/
structure Sect where
  idx : Nat
  typ : Nat
  inst : Nat
  dest : Nat
  bytes : List Byte
  deriving DecidableEq, Repr

/-- The header fields of an image (R107). -/
structure ImgHdr where
  planId : BitVec 64
  imageLen : Nat
  nSect : Nat
  flags : BitVec 8
  endpoint : BitVec 20
  k : Nat
  svn : Nat
  keySlot : Nat
  actShift : Nat
  sigOff : Nat
  deriving DecidableEq, Repr

/-- A directory entry (R108): its index, TYPE, INST, OFFSET, LENGTH, DEST, SCRC, and whether its reserved bytes are zero. -/
structure DirEnt where
  idx : Nat
  typ : Nat
  inst : Nat
  off : Nat
  len : Nat
  dest : Nat
  scrc : Nat
  clean : Bool
  deriving DecidableEq, Repr

/-- One half of plan memory and instruction store: the image it holds. -/
structure Half where
  hdr : Option ImgHdr
  sects : List Sect
  deriving DecidableEq, Repr

/-- The expert lock (R138): locked, locked with the first code written, unlocked, each with the CK_CTL cycle of the write. -/
inductive ExpertLock where
  | locked
  | first (at_ : Nat)
  | unlocked (at_ : Nat)
  deriving DecidableEq, Repr

/-- An access that another source's access to the same register in the same CK_CTL cycle precedes (R604, R684): its source, offset,
size code and write data, and of a thread's REG the THREAD resets so far and the register that takes the data read. -/
structure LateAcc where
  src : RegSrc
  off : Nat
  size : Nat
  wr : Option Word
  reg : Option (Nat × Nat)
  deriving DecidableEq, Repr

/-- The image loader and plan memory beside the CFG registers. -/
structure CfgState where
  /-- The image words received in the present load, the newest first (R121). -/
  rx : List (BitVec 64)
  /-- The directory entries checked so far, in order (R108). -/
  dir : List DirEnt
  /-- The load's source, latched at its start (R606), and the number of loads started. -/
  fromHost : Bool
  gen : Nat
  /-- Host data that came ahead of its turn in a load over HMP0, by image offset (R123). -/
  hmpData : List (Nat × List Byte)
  /-- When the last word arrived, in CK_CORE cycles (R122). -/
  lastWord : Nat
  /-- Host bytes asked for so far in a load over HMP0, and read requests outstanding (R123). -/
  hmpAsked : Nat
  hmpOut : Nat
  staged : Half
  active : Half
  /-- An image is active. -/
  imageActive : Bool
  /-- The active image has not yet started its rosters: it starts at the first boundary after RUN (R131). -/
  firstPending : Bool
  /-- Boundary for which the staged image is armed (R132), and whether its ACT_SHIFT arms it rather than software. -/
  armedFor : Option Nat
  hdrArms : Bool
  /-- Times at which the cross and signature phases started, and which phases have passed (R125, R126). -/
  crossStart : Option Nat
  sigStart : Option Nat
  crossOk : Bool
  sigOk : Bool
  /-- The last byte of the image has arrived. -/
  received : Bool
  expert : ExpertLock
  /-- The source and the CK_CTL cycle of the last write to the aperture (R138). -/
  wrAt : Option (RegSrc × Nat)
  /-- Accesses that wait for the CSP's or the debug module's in this CK_CTL cycle, in the order in which they follow it (R604). -/
  late : List LateAcc
  /-- An image has been activated since reset (R257, R260). -/
  everActive : Bool
  /-- Drifts whose crossbar routes are still the previous image's (R136). -/
  oldRoutes : BitVec 16
  deriving DecidableEq, Repr

/-! ## Link layer -/

/-- An entry of the replay buffer (R199): hop sequence number, virtual channel and SH. The payload is in staging memory, at the
number's place in the group's buffer (R293). -/
structure BFlit where
  num : BitVec 17
  vc : BitVec 3
  sh : Bool
  deriving DecidableEq, Repr

/-- A new B-class flit that waits for a slot: its payload; in transit, the group, the pool and the landing slot that it frees when it
is copied (R195); of a request, the destination and request ID of its message (R268). -/
structure BWait where
  pay : BitVec 1920
  origin : Option (Nat × Nat × Nat)
  msg : Option (Nat × Nat)
  deriving DecidableEq, Repr

/-- A Class S flit that waits for its egress slot, or for its landing cycle: tag, hole, CSV, payload (R188, R191). -/
structure SFlit where
  tag : BitVec 17
  hole : Bool
  csv : Bool
  pay : BitVec 1920
  /-- Fabric time of the landing cycle, and how many flits of the tag landed before it in the shift of its slot (R328). -/
  due : BitVec 64
  k : Nat
  deriving DecidableEq, Repr

/-- A codeword taken for lane set `set` of the group, counted in logical order from its first lane in use, in the period of number
`cwn`: its data, or `none` where it is lost (R163). -/
structure RxCw where
  cwn : Nat
  set : Nat
  data : Option (BitVec 5120)
  deriving DecidableEq, Repr

/-- A CTRL request that has no answer yet (R183). -/
structure CtrlReq where
  txn : BitVec 8
  pay : BitVec 1920
  sent : Nat
  deriving DecidableEq, Repr

/-- A link protection key slot (R217). -/
structure GcmKey where
  key : BitVec 256
  salt : BitVec 32
  deriving DecidableEq, Repr

/-- A remap in progress (R209): the lane, the spare, whether this end is the receiver, the epoch of mirroring or of the
end of driving the old lane, and valid codewords seen on the spare. -/
structure Remap where
  lane : Nat
  spare : Nat
  receiver : Bool
  epoch : Option Nat
  valid : Nat
  done : Bool
  deriving DecidableEq, Repr

/-- A width change in progress (R210): width code, block index, switch epoch. -/
structure WidthChange where
  code : Nat
  block : Nat
  epoch : Option Nat
  deriving DecidableEq, Repr

/-- What the link layer keeps for one group beside its registers. -/
structure LinkGroup where
  /-- When the present training state was entered, in CK_CORE cycles (R168). -/
  entered : Nat
  /-- SEQ_KEEP sent in the next training (R173), SEQ_KEEP received, and the PARAM exchange (R172). -/
  seqKeep : Bool
  peerKeep : Bool
  paramSeen : Bool
  ackSeen : Bool
  /-- The DELAY exchange (R174): exchanges done, the sum of twice the delays, requests answered. -/
  dlyCount : Nat
  dlySum : Int
  dlyAnswered : Nat
  /-- DELAY_RSP payloads to send in the next epoch, their t3 still open. -/
  dlyRsp : List (BitVec 1920)
  /-- Lane sets that have given three consecutive good codewords, by set (R168), and their CWN and LANE. -/
  goodCw : KMap Nat
  /-- The logical lane set that each physical lane set of the group carries, and the order of the lanes within it, as DESKEW and
  ALIGN found them (R166, R170); none where wired in order. -/
  rxPos : List Nat
  rxOrd : KMap (List Nat)
  /-- The alignment point, in CK_CORE cycles after the group's earliest lane (R171). -/
  alignAt : Nat
  /-- Codewords of periods not yet complete, the stripes of a flit not yet complete with the number in the epoch of the stripe that
  follows them, and the flits assembled, with their slots in the epoch (R163). -/
  rxCws : List RxCw
  rxCarry : List (Option (BitVec 256))
  rxCarryAt : Nat
  rxq : List (Nat × Option Flit)
  /-- Bytes of the flits sent in the codeword period under way, and the place in the epochs' byte stream after them (R163). -/
  txBuf : List Byte
  txPos : Nat
  /-- A lane failed while a remap or a width change was in progress, and is still to be resolved (R207). -/
  laneOwed : Bool
  /-- Credits this end has been given, by pool, as the peer advertised (R194); slots of its own pools in use, and
  credits freed and not yet returned (R195). -/
  peerPool : KMap Nat
  rxUsed : KMap Nat
  freed : KMap Nat
  freedAt : Nat
  creditDue : Bool
  /-- The replay buffer, oldest first, and how many of its last flits await retransmission (R199, R202). -/
  replay : List BFlit
  resend : Nat
  ackAt : Nat
  timeouts : Nat
  /-- Receive side: a NAK was asked for and is not yet resolved, when, and it is owed in the next control word (R200). -/
  nakOut : Bool
  nakAt : Nat
  nakOwed : Bool
  /-- An acknowledgement is owed, when the last one left, and flits accepted since it (R201). -/
  ackOwed : Bool
  ackSentAt : Nat
  accepted : Nat
  /-- The landing queue of B-class flits (R197), Class S landings not yet written, forwarding and egress buffers. -/
  landQ : List Flit
  /-- Landing slots that hold a flit, by pool, in order of landing (R193, R195). -/
  landHeld : KMap (List Nat)
  sLand : List SFlit
  fwd : List SFlit
  egress : List SFlit
  /-- New B-class flits waiting, by virtual channel, and the class served last (R189). -/
  bq : KMap (List BWait)
  rr : Nat
  /-- CTRL and TRAIN flits to send, requests unanswered, answers given, and the next TXN (R182, R183). -/
  ctrlQ : List Flit
  ctrlOut : List CtrlReq
  ctrlAns : List CtrlReq
  nextTxn : BitVec 8
  /-- The first flit slot not yet used in each direction, counted from fabric time 0 at the present width (R186). -/
  egSlot : Nat
  inSlot : Nat
  remap : Option Remap
  width : Option WidthChange
  /-- Restore boundary agreed or asked for, and good epochs on the dropped lanes (R214). -/
  restore : Option Nat
  restoreAcked : Bool
  goodEpochs : Nat
  /-- The dropped lane sets that gave a valid codeword in this epoch, and whether one gave a bad one (R214). -/
  dropSeen : List Nat
  dropBad : Bool
  /-- Key slots: index 2 × DIR + SLOT (R217); the armed switch; receive protection; what turns a flit
  slot's number from time 0 into the slot number of R216, and on the receive side that of the phase before (R216, R218). -/
  keys : KMap GcmKey
  arm : Option Nat
  rxOn : Bool
  rxKp : Bool
  txSlot : Int
  rxSlot : Int
  rxPrev : Int
  deriving DecidableEq, Repr

/-- What the link layer keeps for one physical lane (R206). -/
structure LaneState where
  bad : Nat
  cws : Nat
  corrected : Nat
  lastCwn : Nat
  /-- The controls that the block drives (R154, R155): electrical idle, transmit and receive precoding. -/
  idle : Bool
  preTx : Bool
  preRx : Bool
  /-- Bits of the transmit stream that fill no word yet, the first in bit 0, and their number (R152). -/
  txBits : BitVec 256
  txLen : Nat
  deriving DecidableEq, Repr

/-- The link layer beside its registers. -/
structure LnkState where
  groups : KMap LinkGroup
  lanes : KMap LaneState
  /-- Class S flits by tag since the start of the shift, and those of the shift before (R328). -/
  landK : KMap Nat
  landPrev : KMap Nat
  deriving DecidableEq, Repr

/-! ## Queue engine -/

/-- A peer table entry (R260). -/
structure Peer where
  valid : Bool
  id : Nat
  txNext : BitVec 32
  ackLow : BitVec 32
  rxH : BitVec 32
  outst : Nat
  pLast : BitVec 32
  pAckLow : BitVec 32
  /-- The partner has reported a P_LAST, and a P_ACK_LOW, for this peer (R406, R407). -/
  pSeen : Bool
  pAckSeen : Bool
  seen : BitVec 4096
  done : BitVec 4096
  /-- When the last final response came, and the ACK_LOW that the last request carried (R266). -/
  lastFinal : Nat
  ackSent : BitVec 32
  deriving DecidableEq, Repr

/-- A completion cache entry (R265), and its place among the 16,384. -/
structure CacheEntry where
  slot : Nat
  src : Nat
  reqId : Nat
  done : Bool
  status : Nat
  op : Nat
  bytes : Nat
  data : Nat
  deriving DecidableEq, Repr

/-- For whom the queue engine moves data (R327): the data of a request that is sent, the data of a response that came, the
data of a request at the responder, the data that a READ returns. -/
inductive JobFor where
  | sendData (dst reqId : Nat)
  | recvData (dst reqId : Nat)
  | execWrite (src reqId : Nat)
  | execRead (src reqId : Nat)
  deriving DecidableEq, Repr

/-- A COPY of at most 4 KiB that the queue engine gives to a drift (R327): its HMP port, host or staging memory, address,
length, offset in the message, and the bytes where it writes. -/
structure QeJob where
  who : JobFor
  port : Nat
  host : Bool
  addr : Nat
  len : Nat
  off : Nat
  wr : Bool
  bytes : List Byte
  deriving DecidableEq, Repr

/-- A request at the responder whose execution has not ended: its header, the place its data goes, what has been applied,
and what is in flight (R256, R264). -/
structure Exec where
  src : Nat
  reqId : Nat
  op : Nat
  signal : Bool
  arg : Nat
  dq : Nat
  length : Nat
  raddr : Nat
  opnd0 : Nat
  opnd1 : Nat
  red : Nat
  vc : Nat
  /-- The group and queue of a scheduled-queue message (R281). -/
  sched : Option (Nat × Nat)
  /-- The next segment to apply; a reassembly context is active; when the last applicable segment came (R264, R267). -/
  nextSeg : Nat
  rctx : Bool
  lastAt : Nat
  /-- Where its data goes: address, host memory or staging memory, and how many bytes fit. -/
  addr : Nat
  host : Bool
  room : Nat
  /-- Receive-ring slot and TAG of a SEND. -/
  slot : Nat
  tag : Nat
  /-- Data bytes that arrived and are not yet given to a COPY, bytes given so far, bytes that arrived. -/
  buf : List Byte
  issued : Nat
  applied : Nat
  /-- COPY commands and host accesses in flight, and the least offset at which one failed. -/
  pendingWr : Nat
  failAt : Option Nat
  status : Nat
  /-- All segments have been applied, or the context was closed. -/
  whole : Bool
  /-- Data of a READ gathered for its response, by offset. -/
  rd : List (Nat × List Byte)
  data : Nat
  /-- ORD: accesses wait for the writes of earlier requests (R256). -/
  gated : Bool
  deriving DecidableEq, Repr

/-- A message of a requester that has not completed (R262, R268). -/
structure OutMsg where
  dst : Nat
  reqId : Nat
  q : Nat
  /-- Send-ring slot, descriptor, and place in the order of starts. -/
  slot : Nat
  desc : BitVec 512
  order : Nat
  /-- The next response segment, the timer, which runs once a segment has been sent (R268), and resends made. -/
  nextSeg : Nat
  timer : Option Nat
  resends : Nat
  retx : Bool
  /-- Request data read so far, reads in flight, a failed read's status; the present sending and the first are done. -/
  rd : List (Nat × List Byte)
  pendingRd : Nat
  rdFail : Option Nat
  injected : Bool
  sent : Bool
  /-- The final response: received whole, its STATUS, BYTES and DATA; local writes in flight or failed. -/
  final : Bool
  status : Nat
  got : Nat
  rspData : Nat
  pendingWr : Nat
  wrFail : Bool
  /-- A scheduled queue's message (R282). -/
  sched : Bool
  deriving DecidableEq, Repr

/-- A barrier record (R254). -/
structure Barrier where
  g : BitVec 16
  count : BitVec 20
  arrived : Nat
  first : Nat
  timedOut : Bool
  held : List (Nat × Nat × Nat)
  deriving DecidableEq, Repr

/-- A completion record on its way (R275, R276): its queue, its bytes, how far it has come, and its place in descriptor
order where it is a requester's (R256). -/
structure Cpl where
  q : Nat
  record : BitVec 256
  /-- 0 waits, 1 body write out, 2 head write out, 3 ring done and channel next. -/
  stage : Nat
  order : Option Nat
  deriving DecidableEq, Repr

/-- A segment delivered to the local queue engine (R257): its 240 payload bytes, the group on which it came, the virtual
channel, and whether the partner of a double cage forwarded it (R404). -/
structure Seg where
  bytes : BitVec 1920
  g : Nat
  vc : Nat
  /-- The landing pool and the slot that it holds (R195), and the queue of a queue tag (R281). -/
  pool : Nat
  slot : Nat
  tag : Option Nat
  fromPartner : Bool
  deriving DecidableEq, Repr

/-- A segment that the engine has still to hand to the link layer (R32): its virtual channel, or the group and queue of a scheduled
queue; the queue of a request, and its message's destination and request ID. -/
structure Inject where
  vc : Nat
  sched : Option (Nat × Nat)
  q : Option Nat
  msg : Option (Nat × Nat)
  pay : BitVec 1920
  deriving DecidableEq, Repr

/-- The queue engine beside its registers. -/
structure QueState where
  /-- CK_CORE cycles in which the engine's timers ran (R647), and in which those of messages ran (R270, R412). -/
  clock : Nat
  msgClock : Nat
  /-- COPY commands that wait for a place in a drift (R327). -/
  jobs : List QeJob
  /-- The queue context store (R235), each context as 512 bits. -/
  ctx : KMap (BitVec 512)
  /-- Queues being flushed (R237) and poisoned contexts (R683). -/
  flushing : List Nat
  poisoned : List Nat
  peers : KMap Peer
  cache : List CacheEntry
  exec : List Exec
  out : List OutMsg
  bars : KMap Barrier
  /-- Descriptors fetched and not yet started: queue, ring slot, status of the fetch, descriptor (R238). Fetches in
  flight, by queue. -/
  fetched : List (Nat × Nat × Nat × BitVec 512)
  fetching : KMap Nat
  /-- By queue, how often it has been enabled or flushed: a fetch from before answers nothing any more (R236, R237). -/
  fetchGen : KMap Nat
  /-- Receive descriptors fetched: queue, ring slot, status of the fetch, 16 bytes (R239). -/
  rfetched : List (Nat × Nat × Nat × BitVec 128)
  rfetching : KMap Nat
  /-- Segments to hand to the link layer, in order, and segments delivered and not yet taken (R257). -/
  inject : List Inject
  rxq : List Seg
  cpl : List Cpl
  order : Nat
  /-- Exception records that wait for room in the exception channel (R279). -/
  exc : List (BitVec 256)
  deriving DecidableEq, Repr

/-! ## Stream engine -/

/-- Where a stream command comes from (R304). -/
inductive CmdSource where
  | schedThread
  | poolThread
  | csp
  | queueEngine
  deriving DecidableEq, Repr

/-- How a command held by a drift stands (R303). -/
inductive CmdPhase where
  | waiting
  | chainWait
  | running
  | recordWait
  deriving DecidableEq, Repr

/-- A stream command held by a drift: its 128 bytes, whether its message was malformed (R301), its source, commit time
and phase, since when it waits in CHAIN_WAIT or deferred, or when its stores are complete, and what its record will say
(R338). While it executes it has the run of number `run`; `counted` says that DROOP_DEFER has counted it. -/
structure DCmd where
  words : BitVec 1024
  malformed : Bool
  src : CmdSource
  commit : BitVec 64
  phase : CmdPhase
  since : BitVec 64
  deferred : Bool
  counted : Bool
  run : Option Nat
  status : BitVec 8
  resume : BitVec 32
  record : BitVec 256
  /-- The queue engine's command, with the bytes it read once it has run. -/
  qe : Option QeJob
  deriving DecidableEq, Repr

/-- One drift beside its registers. -/
structure Drift where
  held : List DCmd
  /-- Words of a command message taken so far from the command channel, at most seventeen (R301). -/
  taken : List (BitVec 64)
  /-- The first cycle in which a further command can make its first read (R304, R324). -/
  freeAt : Nat
  /-- When the last record was posted, when a record that waited for room in its channel last entered it (R324, R340), and up to which
  cycle BUSY_CYC has been counted (R341). -/
  postedAt : Nat
  unblockedAt : Nat
  busyAt : Nat
  deriving DecidableEq, Repr

/-- A command, or the members of a chain, that drifts execute: feeders first, the host's answers, the beats combined so far, the first
cycle in which the next one may enter the terminal's ARITH input less the longest path, the first cause met with its element and drift,
and whether the last beat has gone through (R315 to R333). -/
structure Run where
  id : Nat
  ms : List Member
  io : StreamIo
  ctx : RunCtx
  beat : Nat
  enter : Nat
  stop : Option (Nat × Nat × Cause)
  closed : Bool
  deriving DecidableEq, Repr

/-- The service of a bank in a cycle (R28): whether it went to an access at scheduled rank. -/
structure BankUse where
  cyc : Nat
  bank : Nat
  sched : Bool
  deriving DecidableEq, Repr

/-- An array error in a memory (R288, R526): the 8-byte lane it lies in, and the bit in error where it is a single one; an
uncorrectable error names none. -/
structure EccFault where
  lane : Nat
  bit : Option (Fin 64)
  deriving DecidableEq, Repr

/-- Data of a contribution that is being combined (R382): its source, request ID, offset and bytes. -/
structure RedPiece where
  src : Nat
  reqId : Nat
  off : Nat
  bytes : List Byte
  deriving DecidableEq, Repr

/-- The state of a reduction entry (R382 to R386), kept under its RED_ID; one that a swap drops while a contribution is
partway combined stays under RED_ID + 65,536 (R387). -/
structure RedEntry where
  next : Nat
  broken : Bool
  flags : BitVec 5
  round : Nat
  /-- Contributions held for a later turn: position, source, request ID. -/
  held : List (Nat × Nat × Nat)
  /-- The request at position NEXT, while it is partway combined, and the words of hold space that it keeps until then (R383). -/
  cur : Option (Nat × Nat)
  kept : Nat
  /-- Pieces to combine where the destination is host memory; of the first one, the host accesses in flight, whether they write, the
  bytes read so far by offset, and the status that a failed access gives (R382, R272), or zero. -/
  work : List RedPiece
  need : Nat
  writing : Bool
  got : List (Nat × List Byte)
  bad : Nat
  /-- The section entry's 32 bytes while the round is not empty (R387). -/
  ent : Nat
  deriving DecidableEq, Repr

/-- The stream engine and staging memory beside their registers. -/
structure StrState where
  /-- Staging memory, 64 MiB (R34), its poison marks by 64-byte word, and its array errors. -/
  mem : List Host.Cell
  poison : List Nat
  ecc : List EccFault
  scrub : Nat
  drifts : KMap Drift
  red : KMap RedEntry
  /-- The commands that drifts execute, the oldest first, and the number of the next one. -/
  runs : List Run
  nextRun : Nat
  /-- The first cycle of fabric time whose drift accesses have not been made, the banks served from that cycle on, and the cycles and
  banks in which a requester lost (R28). -/
  cyc : Nat
  used : List BankUse
  lost : List (Nat × Nat)
  /-- The accesses at unscheduled rank that drifts ask for in cycle `cyc`: drift and bank. -/
  asks : List (Nat × Nat)
  /-- By bank, the order of the unscheduled requesters: 0 to 15 the drifts, 16 the queue engine, 17 the CSP window (R291). -/
  rr : KMap (List Nat)
  deriving DecidableEq, Repr

/-! ## Tandem port -/

/-- The tandem port beside its registers. -/
structure TndState where
  /-- The ready flags of the next boundary, this block's and the partner's (R410). -/
  ready : Bool
  pReady : Bool
  /-- Fabric time of the epoch that the last tandem mark opened (R408). -/
  lastMark : BitVec 64
  /-- When TND_LIVE_I fell, in CK_CORE cycles (R411). -/
  fell : Option Nat
  /-- When the last TRAIN word left, and whether both ends have measured (R402). -/
  sent : Option Nat
  measured : Bool
  pMeasured : Bool
  /-- The partner's values of R402 agree with this block's. -/
  agreed : Bool
  /-- The pair's tally as the primary last reported it (R561). -/
  tally : BitVec 12
  /-- The level of the liveness output (R399). -/
  live : Bool
  deriving DecidableEq, Repr

/-! ## Thread processor -/

/-- What a blocked thread waits for (R422, R472). -/
inductive Wait where
  | none
  | chanRead (ch : Nat) (rd : Nat)
  | chanWrite (ch : Nat) (w : BitVec 64) (fin : Bool)
  | lamp (l : Nat)
  | event (wset : Nat) (rd : Nat)
  | host
  | fence
  deriving DecidableEq, Repr

/-- The host's answer to one access of a thread (R437): its bytes, an error response, poison. -/
structure HostAns where
  bytes : List Byte
  err : Bool
  poison : Bool
  deriving DecidableEq, Repr

/-- A multiply result that has not landed (R485): MQ index, own slot of landing, value, accumulate. -/
structure MqLand where
  mq : Nat
  due : Nat
  value : BitVec 64
  acc : Bool
  deriving DecidableEq, Repr

/-- One thread (R425). -/
structure Thread where
  /-- State of R437 and the state held before a debug halt. -/
  st : BitVec 3
  prev : BitVec 3
  /-- General registers: 0 to 7 the globals, 8 + 8g + p window group g position p (R479); in the compact profile 0 to 2
  hold ACC, X0 and X1. -/
  gpr : KMap (BitVec 64)
  lr : BitVec 17
  sp : BitVec 64
  sr : BitVec 32
  /-- Values of PRIV, SEC and CT that take effect after that many more instructions, the oldest first (R436). -/
  srNew : List (BitVec 32 × Nat)
  cwp : Nat
  wbot : Nat
  mq : KMap (BitVec 64)
  mqLand : List MqLand
  ls : KMap (BitVec 17)
  le : KMap (BitVec 17)
  lc : KMap (BitVec 32)
  am : KMap (BitVec 64)
  v : KMap (BitVec 128)
  vl : Nat
  vstart : Nat
  vgrp : Nat
  ssp : Nat
  pc : BitVec 17
  /-- The store buffer, oldest first: address and bytes (R430). -/
  stores : List (Nat × List Byte)
  /-- Host writes without a response (R515, FENCE). -/
  pendingWr : Nat
  /-- An error response to a host write of the thread, taken at its next instruction boundary: cause and address (R431,
  R440). -/
  storeErr : Option (Nat × Nat)
  /-- Host answers for the instruction at PC, in the order of its accesses. -/
  ans : List HostAns
  wait : Wait
  waitSince : Nat
  /-- Cause of the last alert or fault (R468). -/
  cause : BitVec 8
  /-- Own slots are numbered on from `base`, the number of the first one at or after CK_THR cycle `baseCyc`; of a pool
  thread, `base` counts the slots granted to it (R420). -/
  base : Nat
  baseCyc : Nat
  /-- The number of the first own slot that no instruction occupies (R420), and the earliest CK_THR cycle of the next issue
  (R484). -/
  own : Nat
  earliest : Nat
  /-- Cycles from which loaded registers are usable (R430), by register; 256 + v is vector register v, 512 the flags. -/
  usable : KMap Nat
  /-- Instructions issued in the present grant (R421). -/
  used : Nat
  /-- The thread has started (R437, R647). -/
  started : Bool
  /-- RUN issues the halted word without matching it again (R688). -/
  skipMatch : Bool
  /-- The thread was halted by the HALT mode, which RESUME ends (R648, R687; log entry 26). -/
  modeHalt : Bool
  /-- THREAD resets so far: the answers to accesses from before a reset are discarded (R427). -/
  gen : Nat
  deriving DecidableEq, Repr

/-- A channel word: its data, END, BRK, the CK_THR cycle of its write, and whether a scheduled slot wrote it. -/
structure ChanWord where
  data : BitVec 64
  fin : Bool
  brk : Bool
  at_ : Nat
  sched : Bool
  deriving DecidableEq, Repr

/-- Who holds a channel (R452): a thread or a hardware unit. -/
inductive Holder where
  | thread (t : Nat)
  | hw
  deriving DecidableEq, Repr

/-- A channel (R451 to R456). -/
structure Chan where
  words : List ChanWord
  whold : Option Holder
  rhold : Option Holder
  /-- Waiting threads, the longest first. -/
  waiters : List Nat
  /-- The rest of a message is discarded as it arrives (R456). -/
  dropping : Bool
  /-- Messages of hardware writers that wait, with the words each has still to write (R454). -/
  hw : List (ChanWaiter × List (BitVec 64))
  deriving DecidableEq, Repr

/-- A lamp (R457). -/
structure Lamp where
  owner : Option Nat
  waiters : List Nat
  deriving DecidableEq, Repr

/-- A fault log entry (R447, R469). -/
structure FaultEntry where
  thread : Nat
  df : Bool
  cause : BitVec 8
  lamps : Nat
  pc : BitVec 17
  addr : BitVec 64
  deriving DecidableEq, Repr

/-- The thread processor beside its registers. -/
structure BtpState where
  threads : KMap Thread
  chans : KMap Chan
  lamps : KMap Lamp
  flog : List FaultEntry
  /-- Pool holder of each pipe (R421), whether a slot has been granted to it and not yet used, and the first CK_THR cycle
  of each pipe that has not been used. -/
  holder : KMap Nat
  granted : KMap Nat
  nextCyc : KMap Nat
  /-- Since when all weighted threads are blocked with no input pending, and whether EV_ALLBLOCK is armed (R461). -/
  blockedSince : Option Nat
  allArmed : Bool
  deriving DecidableEq, Repr

/-! ## Thread memory and the secure partition -/

/-- An access of a pipe to a word of thread memory (R524): its CK_THR cycle, word, kind (0 read, 1 write, 2 AMO), and the word
before that cycle. Of an AMO also its thread, the register of its rd, its operation, size, offset in the word, operand and compare
value. -/
structure PortAcc where
  cyc : Nat
  word : Nat
  kind : Nat
  before : List Byte
  thread : Nat
  rd : Nat
  op : Nat
  size : Nat
  off : Nat
  a : Nat
  b : Nat
  deriving DecidableEq, Repr

/-- Thread memory beside its registers. -/
structure MemState where
  mem : List Host.Cell
  poison : List Nat
  ecc : List EccFault
  scrub : Nat
  /-- End of the wipe in progress, in CK_CORE cycles; `none` with ACTIVE set while the tamper input is held. -/
  wipeEnd : Option Nat
  /-- A wipe is due when MAIN next powers up (R534). -/
  wipeOwed : Bool
  /-- End of the wake delays of R529. -/
  wakeT : Option Nat
  wakeS : Option Nat
  /-- The accesses of each pipe in the present CK_THR cycle and later (R524). -/
  lastAcc : KMap (List PortAcc)
  deriving DecidableEq, Repr

/-! ## Sideband -/

/-- What the Vowick interface is sending. -/
inductive VwkJob where
  | user
  | ident
  | claim
  | release
  deriving DecidableEq, Repr

/-- The Vowick interface beside its registers. -/
structure VwkState where
  rxq : List VwkFrame
  /-- The frame being sent, and what it is. -/
  tx : Option (VwkFrame × VwkJob)
  /-- Further frames the headframe has to send. -/
  txq : List (VwkFrame × VwkJob)
  /-- Candidate tally and candidates refused so far (R552). -/
  cand : BitVec 12
  tried : Nat
  /-- VWA has been low for 64 bit periods in this pulse (R556). -/
  attnSeen : Bool
  /-- When the frame being sent was handed over (R557). -/
  txAt : Nat
  /-- A CHAIN reset is requested of the sequencer (R560). -/
  chainReq : Bool
  deriving DecidableEq, Repr

/-- A pin engine beside its registers (R562 to R573). -/
structure PinEngine where
  s : BitVec 8
  sr : BitVec 32
  bc : BitVec 11
  mf : Bool
  feed : List Word
  catch_ : List Word
  prog : KMap (BitVec 64)
  /-- A held program and BASE (R573). -/
  held : Option (KMap (BitVec 64) × BitVec 8)
  out : BitVec 8
  oe : BitVec 8
  /-- Fabric time of the CK_SB cycle whose entry ran last. -/
  last : Option (BitVec 64)
  /-- The CK_SB cycle of the latest software access of a FIFO, and the words that the feed and the catch FIFO held before that
  cycle's accesses (R570). -/
  sw : Option (Nat × Nat × Nat)
  /-- The CK_SB cycle in which the engine last put a word into an empty catch FIFO (R570). -/
  caught : Option Nat
  deriving DecidableEq, Repr

/-- A timer beside its registers (R576): the compare value in use. -/
structure Timer where
  cmp : Word
  /-- The last synchronised level of its capture pin. -/
  pin : Bool
  /-- The CK_CTL cycle of the last capture, and CAP and OVR as they stood before it (R580). -/
  capAt : Option (Nat × Word × Bool)
  deriving DecidableEq, Repr

/-- A change of what the block drives on SB pin `pin` (R543, R565): level and output enable at the pad from the CK_CORE cycle
`from_` of State.core on. -/
structure PadDrive where
  pin : Nat
  from_ : Nat
  lvl : Bool
  en : Bool
  deriving DecidableEq, Repr

/-- The sideband beside its registers. -/
structure SbdState where
  pe : KMap PinEngine
  tm : KMap Timer
  /-- Levels at the SB pads from outside. -/
  pads : Word
  /-- Levels and output enables that the block gives the SB pins (R541, R542). -/
  outLvl : Word
  outEn : Word
  /-- The latest changes of those, the newest first: each unit sees the pads two cycles late (R543). -/
  drv : List PadDrive
  deriving DecidableEq, Repr

/-! ## Host memory ports -/

/-- Who asked for a host-memory transaction, and what its answer completes. -/
inductive Requester where
  | loader (off gen : Nat)
  | report (seq : Nat) (header : Bool)
  | thread (t : Nat) (gen : Nat)
  | threadStore (t : Nat) (gen : Nat) (addr : Nat) (rest : List Byte) (second : Bool)
  | descFetch (q slot gen : Nat)
  | recvFetch (q slot gen : Nat)
  | cplBody (q index : Nat)
  | cplHead (q index : Nat)
  | execAtomic (src reqId : Nat)
  | redRead (redId off : Nat)
  | redWrite (redId : Nat)
  | drift (d : Nat)
  | msi (v source : Nat)
  deriving DecidableEq, Repr

/-- A host-memory request waiting to transfer (R607). -/
structure HmpReq where
  opc : BitVec 2
  arg : BitVec 8
  addr : BitVec 64
  len : Nat
  data : List Byte
  poison : Bool
  src : BitVec 5
  intr : Bool
  who : Requester
  deriving DecidableEq, Repr

/-- A transaction that holds an ID (R609): when it transferred, the data of its beats so far, and whether it is held
after a timeout or a reset (R617, R618). -/
structure HmpTxn where
  tid : BitVec 10
  req : HmpReq
  at_ : Nat
  got : List Byte
  beats : Nat
  bad : Bool
  poison : Bool
  heldOver : Bool
  deriving DecidableEq, Repr

/-- One host memory port. -/
structure HmpPort where
  reqs : List HmpReq
  /-- Since when the port has offered the request in front (R696, STALL_CYC). -/
  validAt : Nat
  reads : List HmpTxn
  writes : List HmpTxn
  deriving DecidableEq, Repr

/-! ## Headframe: clocks, resets, power -/

/-- The reset and power sequences (R655 to R660). -/
inductive SeqKind where
  | por
  | bor
  | hard
  | soft
  | chain
  | debug
  | wake
  deriving DecidableEq, Repr

/-- A sequence in progress: its kind and the step of R656 it waits in. Step 9 is the re-application of R657 and step 10
the memory wake delay of R660; `after` is a HARD, SOFT or CHAIN request that runs in place of the wake (R655). -/
structure Seq where
  kind : SeqKind
  step : Nat
  at_ : Nat
  deriving DecidableEq, Repr

/-- The headframe beside its registers. -/
structure CrpState where
  seq : Option Seq
  /-- Lifecycle bus words taken (R625). -/
  lcWords : Nat
  /-- MAIN logic is powered and out of reset. -/
  mainUp : Bool
  /-- The end of the droop hold once the rail has recovered, and when the hold began (R664). -/
  holdEnd : Option Nat
  holdStart : Option Nat
  holdUs : Nat
  /-- When DRAIN began (R651), the mode held before HALT (R648), a RETAIN request under way (R659). -/
  drainAt : Nat
  haltMode : BitVec 4
  retaining : Bool
  /-- Levels of inputs: POR_N, LC_STATE, SCAN_MODE; HEAD is powered. -/
  porN : Bool
  scan : Bool
  mbist : Bool
  headOn : Bool
  /-- EV_LC_BUS is owed once MAIN is powered (R626). -/
  lcEventOwed : Bool
  /-- SAFE is owed at the end of the sequence in progress, for a fatal error met in it (R653). -/
  fatalOwed : Bool
  /-- A headframe timer with WAKE set has expired and its wake request stands (R582). -/
  wake14 : Bool
  wake15 : Bool
  deriving DecidableEq, Repr

/-- A store whose next read meets an uncorrectable error (R653, R683): the unit code of R683 and the index in it. -/
structure StoreFault where
  unit : Nat
  index : Nat
  deriving DecidableEq, Repr

/-- The debug module and its test access port beside the registers (R632, R684, R691). -/
structure DbgState where
  /-- The TAP's instruction register (R632): IDCODE after Test-Logic-Reset. -/
  ir : BitVec 5
  rdata : Word
  accErr : Bool
  /-- Trace records that gather in the unit's buffer, and the cycles in which banks take the words that have gathered (R691). -/
  trace : List (BitVec 64)
  writes : List Nat
  /-- The CK_THR cycle before which every slot has its record, and the pipes and cycles from there on that have one (R690). -/
  next : Nat
  seen : List (Nat × Nat)
  deriving DecidableEq, Repr

/-- The state of the block. -/
structure State where
  /-- The commands that wait, first in, first out. -/
  pending : List Instr
  /-- CK_CORE cycles since the block came up: the time base of every timeout. -/
  now : Nat
  /-- Registers of the aperture by byte offset, those that differ from their reset value. -/
  regs : KMap Word
  /-- By offset, what hardware has set and counted in the register in the present CK_CTL cycle, and the register as it stood
  before (R15, R16). -/
  hits : KMap (Word × Word)
  sch : SchState
  cfg : CfgState
  lnk : LnkState
  que : QueState
  str : StrState
  tnd : TndState
  btp : BtpState
  mem : MemState
  vwk : VwkState
  sbd : SbdState
  hmp : KMap HmpPort
  crp : CrpState
  dbg : DbgState
  /-- Array and parity errors present in the stores of R683. -/
  storeFaults : List StoreFault
  /-- What the block has emitted, oldest first. -/
  out : List Out
  /-- The model's own counter of free values drawn. -/
  freeCount : Nat
  deriving DecidableEq, Repr

/-! ## Values at reset -/

def SchGroup.init : SchGroup :=
  { aux := [], voidTrain := false, voidDelay := false, voidPlan := false, voidWidth := false, mismatchAtB := false,
    winder := none, measured := false, planDiffers := false, planOk := 0 }

def SchState.init : SchState :=
  { ft := 0, phase := 0, lastEpoch := none, lastBoundary := none, decided := none, steerHist := [], good := 0,
    missRun := 0, acqAux := [], acqRun := 0, since := 0, standbyExpired := false, winderHeard := 0, far := false,
    upLock := 0, droopSinceMark := false, stepped := false, clsRaised := none, cancelled := none, missed := none, groups := [], counters := [], saturated := false,
    shadow := [], shadowHdr := [], bank0 := [], bank1 := [], voidCauses := 0, voidFirst := none, droopEvents := 0,
    droopCycles := 0, writer := none }

def Half.empty : Half := { hdr := none, sects := [] }

def CfgState.init : CfgState :=
  { rx := [], dir := [], fromHost := false, gen := 0, hmpData := [], lastWord := 0, hmpAsked := 0, hmpOut := 0, staged := Half.empty, active := Half.empty,
    imageActive := false, firstPending := false, armedFor := none, hdrArms := false, crossStart := none,
    sigStart := none, crossOk := false, sigOk := false, received := false, expert := .locked, wrAt := none, late := [], everActive := false,
    oldRoutes := 0 }

def LinkGroup.init : LinkGroup :=
  { entered := 0, seqKeep := false, peerKeep := false, paramSeen := false, ackSeen := false, dlyCount := 0,
    dlySum := 0, dlyAnswered := 0, dlyRsp := [], goodCw := [], rxPos := [], rxOrd := [], alignAt := 0,
    rxCws := [], rxCarry := [], rxCarryAt := 0, rxq := [], txBuf := [], txPos := 0, laneOwed := false, peerPool := [], rxUsed := [], freed := [], freedAt := 0, creditDue := false,
    replay := [], resend := 0, ackAt := 0, timeouts := 0, nakOut := false, nakAt := 0, nakOwed := false,
    ackOwed := false, ackSentAt := 0, accepted := 0, landQ := [], landHeld := [], sLand := [], fwd := [], egress := [], bq := [], rr := 0,
    ctrlQ := [], ctrlOut := [], ctrlAns := [], nextTxn := 0, egSlot := 0, inSlot := 0, remap := none,
    width := none, restore := none, restoreAcked := false, goodEpochs := 0, dropSeen := [], dropBad := false, keys := [], arm := none, rxOn := false,
    rxKp := false, txSlot := 0, rxSlot := 0, rxPrev := 0 }

def LaneState.init : LaneState :=
  { bad := 0, cws := 0, corrected := 0, lastCwn := 0, idle := true, preTx := false, preRx := false, txBits := 0, txLen := 0 }

def LnkState.init : LnkState := { groups := [], lanes := [], landK := [], landPrev := [] }

def Peer.init : Peer :=
  { valid := false, id := 0, txNext := 0, ackLow := 0, rxH := 0, outst := 0, pLast := 0, pAckLow := 0, pSeen := false,
    pAckSeen := false, seen := 0, done := 0, lastFinal := 0, ackSent := 0 }

def Barrier.init : Barrier :=
  { g := 0, count := 0, arrived := 0, first := 0, timedOut := false, held := [] }

def QueState.init : QueState :=
  { clock := 0, msgClock := 0, jobs := [], ctx := [], flushing := [], poisoned := [], peers := [], cache := [], exec := [], out := [], bars := [],
    fetched := [], fetching := [], fetchGen := [], rfetched := [], rfetching := [], inject := [], rxq := [], cpl := [], order := 0, exc := [] }

def Drift.init : Drift := { held := [], taken := [], freeAt := 0, postedAt := 0, unblockedAt := 0, busyAt := 0 }

def RedEntry.init : RedEntry :=
  { next := 0, broken := false, flags := 0, round := 0, held := [], cur := none, kept := 0, work := [], need := 0, writing := false, got := [],
    bad := 0, ent := 0 }

def StrState.init : StrState :=
  { mem := [], poison := [], ecc := [], scrub := 0, drifts := [], red := [], runs := [], nextRun := 0, cyc := 0, used := [], lost := [], asks := [], rr := [] }

def TndState.init : TndState :=
  { ready := false, pReady := false, lastMark := 0, fell := none, sent := none, measured := false, pMeasured := false,
    agreed := false, tally := 0, live := false }

/-- A thread after a THREAD reset, before START or an activation gives it its entry point (R482). -/
def Thread.init : Thread :=
  { st := 0, prev := 0, gpr := [], lr := 0, sp := 0, sr := 0, srNew := [], cwp := 0, wbot := 0, mq := [],
    mqLand := [], ls := [], le := [], lc := [], am := [], v := [], vl := 0, vstart := 0, vgrp := 1, ssp := 0, pc := 0,
    stores := [], pendingWr := 0, storeErr := none, ans := [], wait := .none, waitSince := 0, cause := 0, base := 0, baseCyc := 0, own := 0,
    earliest := 0, usable := [], used := 0, started := false, skipMatch := false, modeHalt := false, gen := 0 }

def Chan.init : Chan := { words := [], whold := none, rhold := none, waiters := [], dropping := false, hw := [] }

def Lamp.init : Lamp := { owner := none, waiters := [] }

def BtpState.init : BtpState :=
  { threads := [], chans := [], lamps := [], flog := [], holder := [], granted := [], nextCyc := [], blockedSince := none,
    allArmed := true }

def MemState.init : MemState :=
  { mem := [], poison := [], ecc := [], scrub := 0, wipeEnd := none, wipeOwed := false, wakeT := none, wakeS := none,
    lastAcc := [] }

def VwkState.init : VwkState :=
  { rxq := [], tx := none, txq := [], cand := 0, tried := 0, attnSeen := false, txAt := 0, chainReq := false }

def PinEngine.init : PinEngine :=
  { s := 0, sr := 0, bc := 0, mf := false, feed := [], catch_ := [], prog := [], held := none, out := 0, oe := 0, last := none,
    sw := none, caught := none }

def Timer.init : Timer := { cmp := 0, pin := false, capAt := none }

def SbdState.init : SbdState := { pe := [], tm := [], pads := 0, outLvl := 0, outEn := 0, drv := [] }

def HmpPort.init : HmpPort := { reqs := [], validAt := 0, reads := [], writes := [] }

/-- The headframe right after POR: the sequence of R656 is at its first step, and waits for POR_N. -/
def CrpState.init : CrpState :=
  { seq := some { kind := .por, step := 1, at_ := 0 }, lcWords := 0, mainUp := false, holdEnd := none,
    holdStart := none, holdUs := 0, drainAt := 0, haltMode := 0, retaining := false, porN := false, scan := false,
    mbist := false, headOn := true, lcEventOwed := false, fatalOwed := false,
    wake14 := false, wake15 := false }

def DbgState.init : DbgState := { ir := 1, rdata := 0, accErr := false, trace := [], writes := [], next := 0, seen := [] }

/-- The block right after a power-on reset: every register at the value its field table gives for POR (R22), every unit
idle, and the POR sequence at its first step. -/
def State.reset : State :=
  { pending := [], now := 0, regs := [], hits := [], sch := SchState.init, cfg := CfgState.init, lnk := LnkState.init,
    que := QueState.init, str := StrState.init, tnd := TndState.init, btp := BtpState.init, mem := MemState.init,
    vwk := VwkState.init, sbd := SbdState.init, hmp := [], crp := CrpState.init, dbg := DbgState.init,
    storeFaults := [], out := [], freeCount := 0 }

end Sys2Proof.Machine
end

