-- ==== Sys2Proof/Machine/Ops.lean ====
section
/-! DEFINITION. The named operations that every unit uses: registers and their fields, time, outputs, free values, the live
counters of the shift report, the event router, the void causes of Class S, requests on host memory ports, and memories. -/

namespace Sys2Proof.Machine

/-! ## Registers -/

/-- The register at offset `off` as it stands: its listed value, or its reset value (R22). -/
def State.reg (s : State) (off : Nat) : Word := kget (regReset off) s.regs off

/-- The register at offset `off` holds `v`. -/
def State.setReg (s : State) (off : Nat) (v : Word) : State := { s with regs := kset (regReset off) s.regs off v }

/-- The field's value. -/
def State.f (s : State) (x : Fld) : Nat := bits (s.reg x.off).toNat x.lo x.w

/-- A one-bit field. -/
def State.flag (s : State) (x : Fld) : Bool := s.f x == 1

/-- The field holds `v`, cut to its width; the other fields of the register stay. -/
def State.setF (s : State) (x : Fld) (v : Nat) : State :=
  s.setReg x.off (BitVec.ofNat 32 (putBits (s.reg x.off).toNat x.lo x.w v))

/-- A one-bit field set to `b`. -/
def State.setB (s : State) (x : Fld) (b : Bool) : State := s.setF x (b2n b)

/-- What hardware has set and counted in the register at `off` in the present CK_CTL cycle, and the register as it stood before
that (R15, R16). -/
def State.hitsAt (s : State) (off : Nat) : Word × Word := kget (0, 0) s.hits off

/-- Hardware sets or counts `n` more into field `x` in the present CK_CTL cycle (R15, R16). -/
def State.mark (s : State) (x : Fld) (n : Nat) : State :=
  let h := s.hitsAt x.off
  let ev := BitVec.ofNat 32 (putBits h.1.toNat x.lo x.w (min (2 ^ x.w - 1) (bits h.1.toNat x.lo x.w + n)))
  { s with hits := kset (0, 0) s.hits x.off (ev, if h.1 = 0 then s.reg x.off else h.2) }

/-- Hardware sets a W1C bit (R15). -/
def State.hit (s : State) (x : Fld) : State := (s.mark x 1).setB x true

/-- A field counted up by `n`, saturating at its largest value. -/
def State.satF (s : State) (x : Fld) (n : Nat) : State := (s.mark x n).setF x (min (2 ^ x.w - 1) (s.f x + n))

/-- A signed field. -/
def State.fi (s : State) (x : Fld) : Int := sext (s.f x) x.w

/-- The 64-bit value of a LO and HI register. -/
def State.reg64 (s : State) (lo hi : Nat) : Nat := (s.reg lo).toNat + 2 ^ 32 * (s.reg hi).toNat

/-- The registers at `lo` and `hi` hold the halves of `v`. -/
def State.setReg64 (s : State) (lo hi v : Nat) : State :=
  (s.setReg lo (BitVec.ofNat 32 v)).setReg hi (BitVec.ofNat 32 (v / 2 ^ 32))

/-- The fields of a word that is being written. -/
def wf (data : BitVec 32) (x : Fld) : Nat := bits data.toNat x.lo x.w

/-- A one-bit field of a word that is being written. -/
def wb (data : BitVec 32) (x : Fld) : Bool := wf data x == 1

/-! ## Time, outputs, free values -/

/-- CK_CORE cycles in a microsecond, and CK_CORE cycles of a CK_CTL, CK_THR and CK_SB cycle (R642). -/
def usCycles : Nat := 2000
def ctlCycles : Nat := 8
def thrCycles : Nat := 2
def sbCycles : Nat := 64

/-- The queue engine's timers run: in RUN, DEGRADED and DRAIN (R647). -/
def State.queTimersRun (s : State) : Bool := decide (6 ≤ s.f F.CRP_MODE_MODE) && decide (s.f F.CRP_MODE_MODE ≤ 8)

/-- The timers of messages run: not during a droop hold (R270), and not while the block is FENCED (R412). -/
def State.msgTimersRun (s : State) : Bool :=
  s.queTimersRun && !s.flag F.CRP_DROOP_STAT_HOLD && s.f F.GLB_TND_STAT_STATE != 5

/-- CK_CORE cycles by a count that is a multiple of 64 at every fabric time that is one: the edges of CK_THR, CK_CTL and CK_SB
are its multiples of 2, 8 and 64 (R64). -/
def State.core (s : State) : Nat := s.now + (s.sch.ft.toNat + 64 - s.now % 64) % 64

/-- The present CK_CTL cycle (R64). -/
def State.ctlCyc (s : State) : Nat := s.core / ctlCycles

/-- `n` CK_CORE cycles pass. Fabric time advances by one in each while MAIN is up (R37, R661). What hardware set is noted in
one CK_CTL cycle only (R15). -/
def State.wait (s : State) (n : Nat) : State :=
  { s with
    now := s.now + n
    hits := if s.core / ctlCycles = (s.core + n) / ctlCycles then s.hits else []
    sch := { s.sch with
      ft := if s.crp.mainUp then s.sch.ft + BitVec.ofNat 64 n else s.sch.ft
      phase := if n = 0 then s.sch.phase else 0 }
    que := { s.que with
      clock := if s.queTimersRun then s.que.clock + n else s.que.clock
      msgClock := if s.msgTimersRun then s.que.msgClock + n else s.que.msgClock } }

/-- Time moves forward to the CK_CORE cycle `t`, if that lies ahead (log entry 1). -/
def State.waitTo (s : State) (t : Nat) : State := s.wait (t - s.now)

/-- Time moves forward to the fabric time `t`, if that lies ahead (log entry 1). -/
def State.waitFt (s : State) (t : Nat) : State := s.wait (t - s.sch.ft.toNat)

/-- Time moves forward to `p`, a fabric time with its phase in phase units (R38), if that lies ahead. -/
def State.waitPhase (s : State) (p : Nat) : State :=
  if p ≤ 64 * s.sch.ft.toNat + s.sch.phase.toNat then s else
  let s1 := s.waitFt (p / 64)
  { s1 with sch := { s1.sch with phase := BitVec.ofNat 6 p } }

/-- Fabric time with its phase, in phase units (R38). -/
def State.phaseTime (s : State) : Nat := 64 * s.sch.ft.toNat + s.sch.phase.toNat

/-- `o` leaves the block. -/
def State.emit (s : State) (o : Out) : State := { s with out := s.out ++ [o] }

/-- The index of the next free value, and the state that has drawn it. -/
def State.draw (s : State) : Nat × State := (s.freeCount, { s with freeCount := s.freeCount + 1 })

/-! ## Live counters of the shift report (R68, R77, R79) -/

/-- Report offsets of the counters. -/
def Cnt.sch (c : Nat) : Nat := 0x40 + 8 * c
def Cnt.lane (l c : Nat) : Nat := 0x80 + 32 * l + 8 * c
def Cnt.lg (g c : Nat) : Nat := 0x300 + 128 * g + 8 * c
def Cnt.que (c : Nat) : Nat := 0x700 + 8 * c
def Cnt.drift (d c : Nat) : Nat := 0x800 + 64 * d + 8 * c
def Cnt.smem (c : Nat) : Nat := 0xC00 + 8 * c
def Cnt.hmp (p c : Nat) : Nat := 0xC40 + 64 * p + 8 * c
def Cnt.btp (c : Nat) : Nat := 0xE40 + 8 * c
def Cnt.sbe (c : Nat) : Nat := 0xE80 + 8 * c
def Cnt.thread (t c : Nat) : Nat := 0x1000 + 16 * t + 8 * c

/-- The counter at report offset `off` counts `n` more; past 2^64 - 1 it holds that value (R68). -/
def State.count (s : State) (off n : Nat) : State :=
  let v := (kget 0 s.sch.counters off : BitVec 64).toNat + n
  { s with sch := { s.sch with
      counters := kset 0 s.sch.counters off (BitVec.ofNat 64 (min v (2 ^ 64 - 1)))
      saturated := s.sch.saturated || decide (v > 2 ^ 64 - 1) } }

/-- A MAX counter takes `v` if it is larger (R77). -/
def State.countMax (s : State) (off v : Nat) : State :=
  { s with sch := { s.sch with
      counters := kset 0 s.sch.counters off (BitVec.ofNat 64 (max v (kget 0 s.sch.counters off : BitVec 64).toNat)) } }

/-! ## Host memory ports: requests (R607 to R613) -/

def State.hmpPort (s : State) (p : Nat) : HmpPort := kget HmpPort.init s.hmp p
def State.setHmp (s : State) (p : Nat) (x : HmpPort) : State := { s with hmp := kset HmpPort.init s.hmp p x }

/-- A request waits at port `p`, behind those that wait there. -/
def State.hmpPush (s : State) (p : Nat) (r : HmpReq) : State :=
  let x := s.hmpPort p
  s.setHmp p { x with reqs := x.reqs ++ [r], validAt := if x.reqs.isEmpty then s.now else x.validAt }

/-- Requests at port `p` that wait and are not wanted any more leave. -/
def State.hmpDrop (s : State) (p : Nat) (gone : HmpReq → Bool) : State :=
  let x := s.hmpPort p
  let rest := x.reqs.filter fun r => !gone r
  if rest.length = x.reqs.length then s else s.setHmp p { x with reqs := rest, validAt := if rest.isEmpty then 0 else x.validAt }

/-- Pieces of host memory accesses of `n` bytes from address `a`, none across a 4 KiB boundary (R608): address and length
of each. The first argument bounds their number. -/
def hostPieces : Nat → Nat → Nat → List (Nat × Nat)
  | 0, _, _ => []
  | fuel + 1, a, n =>
    if n = 0 then [] else
    let m := min n (4096 - a % 4096)
    (a, m) :: hostPieces fuel (a + m) (n - m)

def hostChunks (a n : Nat) : List (Nat × Nat) := hostPieces (n / 4096 + 2) a n

/-- A read of `n` bytes at host address `a` is asked for. -/
def State.hostRead (s : State) (p a n src : Nat) (who : Requester) : State :=
  s.hmpPush p { opc := 0, arg := 0, addr := BitVec.ofNat 64 a, len := n, data := [], poison := false, src := BitVec.ofNat 5 src,
                intr := false, who := who }

/-- A write of `bytes` at host address `a` is asked for. -/
def State.hostWrite (s : State) (p a : Nat) (bytes : List Byte) (poison : Bool) (src : Nat) (who : Requester) : State :=
  s.hmpPush p { opc := 1, arg := 0, addr := BitVec.ofNat 64 a, len := bytes.length, data := bytes, poison := poison,
                src := BitVec.ofNat 5 src, intr := false, who := who }

/-! ## The event router (R674 to R681) -/

def EV.shift : Nat := 0
def EV.rpt : Nat := 1
def EV.tlFar : Nat := 2
def EV.clsVoid : Nat := 3
def EV.imgDone : Nat := 4
def EV.imgFail : Nat := 5
def EV.contractVoid : Nat := 6
def EV.mode : Nat := 7
def EV.safe : Nat := 8
def EV.wake : Nat := 9
def EV.droop : Nat := 10
def EV.temp : Nat := 11
def EV.lcChange : Nat := 12
def EV.lcBus : Nat := 13
def EV.secTamper : Nat := 14
def EV.secWipe : Nat := 15
def EV.allblock : Nat := 16
def EV.btpFault : Nat := 17
def EV.btpT0Df : Nat := 18
def EV.tmemRw : Nat := 19
def EV.tmemWw : Nat := 20
def EV.tmemEcc : Nat := 21
def EV.smemEcc : Nat := 22
def EV.queRoute : Nat := 23
def EV.hmpTmo : Nat := 24
def EV.tndJoin : Nat := 25
def EV.tndLost : Nat := 26
def EV.tndSplit : Nat := 27
def EV.tndSolo : Nat := 28
def EV.dbgHalt : Nat := 29
def EV.trace : Nat := 30
def EV.ue : Nat := 31
def EV.vwkTally : Nat := 32
def EV.vwkAttach : Nat := 33
def EV.vwkDetach : Nat := 34
def EV.vwkAttn : Nat := 35
def EV.vwkRx : Nat := 36
def EV.vwkTx : Nat := 37
def EV.vwkErr : Nat := 38
def EV.pe (n : Nat) : Nat := 40 + n
def EV.tmExp (m : Nat) : Nat := 48 + m
def EV.tmCmp (m : Nat) : Nat := 64 + m
def EV.tmCap (m : Nat) : Nat := 80 + m
def EV.strDone (d : Nat) : Nat := 96 + d
def EV.lnkUp (n : Nat) : Nat := 112 + n
def EV.lnkDown (n : Nat) : Nat := 120 + n
def EV.lnkTrain (n : Nat) : Nat := 128 + n
def EV.lnkSlotv (n : Nat) : Nat := 136 + n
def EV.lnkRemap (n : Nat) : Nat := 144 + n
def EV.lnkWidth (n : Nat) : Nat := 152 + n

/-- The pending bit of source `n`. -/
def pendFld (n : Nat) : Fld := ⟨R.EVT_PENDk (n / 32), n % 32, 1⟩

/-- Whether source `n` is pending. -/
def State.evPending (s : State) (n : Nat) : Bool := s.flag (pendFld n)

/-- The positions of the ones of `v` below `n`. -/
def onesBelow (v : Nat) : Nat → List Nat
  | 0 => []
  | n + 1 => onesBelow v n ++ if Nat.testBit v n then [n] else []

/-- The pending sources, lowest first. -/
def State.pendingEvents (s : State) : List Nat :=
  ((s.regs.filter fun e => decide (R.EVT_PENDk 0 ≤ e.1) && decide (e.1 ≤ R.EVT_PENDk 127)).map fun e =>
    (onesBelow e.2.toNat 32).map fun b => (e.1 - R.EVT_PENDk 0) / 4 * 32 + b).flatten

/-- The levels of the 64 IRQ lines: enabled, and some source with DEST IRQ and that LINE pending (R679). -/
def State.irqLevels (s : State) : Nat :=
  let want := s.pendingEvents.foldl (fun a n =>
    if s.f (F.EVT_ROUTEn_DEST n) = 2 then a ||| 2 ^ s.f (F.EVT_ROUTEn_LINE n) else a) 0
  want &&& s.reg64 R.EVT_IRQ_EN_LO R.EVT_IRQ_EN_HI

/-- The lines follow their condition, and each rise counts in IRQ_ASSERTS (R679). -/
def State.updateIrq (s : State) : State :=
  let old := s.reg64 R.EVT_IRQ_LVL_LO R.EVT_IRQ_LVL_HI
  let new := s.irqLevels
  if new = old then s else
    let rises := (onesBelow new 64).filter fun i => !Nat.testBit old i
    ((s.setReg64 R.EVT_IRQ_LVL_LO R.EVT_IRQ_LVL_HI new).count (Cnt.sbe 6) rises.length).emit (.irq (BitVec.ofNat 64 new))

/-- One message-signalled interrupt through vector `v` for source `n` (R620, R680). -/
def State.sendMsi (s : State) (v n : Nat) : State :=
  s.hmpPush (s.f (F.EVT_MSIv_CFG_PORT v))
    { opc := 1, arg := 0, addr := BitVec.ofNat 64 (s.reg64 (R.EVT_MSIv_ADDR_LO v) (R.EVT_MSIv_ADDR_HI v)), len := 4,
      data := natLe 4 (s.reg (R.EVT_MSIv_DATA v)).toNat, poison := false, src := 0x14, intr := true, who := .msi v n }

/-- Source `n` is raised: its pending bit is set, a merged raise is counted, and an MSI goes out when the bit goes from 0
to 1 (R677, R678). Nothing is recorded while MAIN is off or in reset (R676). -/
def State.raise (s : State) (n : Nat) : State :=
  if !s.crp.mainUp then s else
  let s1 := s.count (Cnt.sbe 5) 1
  if s1.evPending n then (s1.count (Cnt.sbe 7) 1).mark (pendFld n) 1 else
    let s2 := s1.hit (pendFld n)
    let s3 := if s2.f (F.EVT_ROUTEn_DEST n) = 3 then s2.sendMsi (s2.f (F.EVT_ROUTEn_LINE n)) n else s2
    s3.updateIrq

/-- Source `n` was pending before the present CK_CTL cycle and has been raised again in it (R678). -/
def State.raisedAgain (s : State) (n : Nat) : Bool :=
  let h := s.hitsAt (pendFld n).off
  Nat.testBit h.1.toNat (pendFld n).lo && Nat.testBit h.2.toNat (pendFld n).lo

/-- The earlier raise of source `n` is consumed and the one of this CK_CTL cycle delivered: it is no merged one (R678). -/
def State.redeliver (s : State) (n : Nat) : State :=
  let h := s.hitsAt (pendFld n).off
  let old := (kget 0 s.sch.counters (Cnt.sbe 7) : BitVec 64)
  let s1 : State := { s with
    hits := kset (0, 0) s.hits (pendFld n).off (h.1, h.2 &&& ~~~(BitVec.ofNat 32 (2 ^ (pendFld n).lo)))
    sch := { s.sch with counters := kset 0 s.sch.counters (Cnt.sbe 7) (BitVec.ofNat 64 (old.toNat - 1)) } }
  if s1.f (F.EVT_ROUTEn_DEST n) = 3 then s1.sendMsi (s1.f (F.EVT_ROUTEn_LINE n)) n else s1

/-- The pending bit of source `n` is cleared by an alert or WAITEV; it stays for a raise of the same CK_CTL cycle beside an earlier one
(R678). -/
def State.clearEvent (s : State) (n : Nat) : State :=
  if s.raisedAgain n then s.redeliver n else (s.setB (pendFld n) false).updateIrq

/-- A general source is raised by name; a source below 512 raises nothing and sets BADSRC (R675). -/
def State.raiseGeneral (s : State) (n : Nat) : State :=
  if n < 512 then s.hit F.EVT_STAT_BADSRC else s.raise n

/-! ## Modes and void causes -/

/-- The operating modes in the order of R23 (R647). -/
def Mode.off : Nat := 0
def Mode.reset : Nat := 1
def Mode.load : Nat := 2
def Mode.standby : Nat := 3
def Mode.train : Nat := 4
def Mode.lock : Nat := 5
def Mode.run : Nat := 6
def Mode.degraded : Nat := 7
def Mode.drain : Nat := 8
def Mode.retain : Nat := 9
def Mode.halt : Nat := 10
def Mode.safe : Nat := 11

/-- The present mode. -/
def State.mode (s : State) : Nat := s.f F.CRP_MODE_MODE

/-- RUN or DEGRADED. -/
def State.running (s : State) : Bool := s.mode == Mode.run || s.mode == Mode.degraded

/-- The void causes that apply now become `v` (R99): SCH_CLS_CAUSE gathers them, bits that go from 0 to 1 raise EV_CLS_VOID once
in a CK_CTL cycle, and the shift's own record takes the causes and the time of the first (R78). -/
def State.setCls (s : State) (v : Nat) : State :=
  let old := (s.reg R.SCH_CLS_STAT).toNat
  let new := v % 2 ^ 16
  let rise := new &&& ((2 ^ 16 - 1) ^^^ old)
  let fresh := rise &&& ((2 ^ 16 - 1) ^^^ (s.hitsAt R.SCH_CLS_CAUSE).1.toNat % 2 ^ 16)
  let s1 := ((s.mark ⟨R.SCH_CLS_CAUSE, 0, 16⟩ fresh).setReg R.SCH_CLS_STAT (BitVec.ofNat 32 new)).setReg R.SCH_CLS_CAUSE
    (s.reg R.SCH_CLS_CAUSE ||| BitVec.ofNat 32 new)
  let s2 := { s1 with sch := { s1.sch with
    voidCauses := s1.sch.voidCauses ||| BitVec.ofNat 32 new
    voidFirst := if new ≠ 0 && s1.sch.voidFirst.isNone then some s1.sch.ft else s1.sch.voidFirst } }
  if rise ≠ 0 ∧ s2.sch.clsRaised ≠ some s2.ctlCyc then
    { s2 with sch := { s2.sch with clsRaised := some s2.ctlCyc } }.raise EV.clsVoid
  else s2

/-- An endpoint-wide cause begins or ends. -/
def State.setCause (s : State) (x : Fld) (b : Bool) : State :=
  s.setCls (putBits (s.reg R.SCH_CLS_STAT).toNat x.lo 1 (b2n b))

def State.schGroup (s : State) (g : Nat) : SchGroup := kget SchGroup.init s.sch.groups g
def State.setSchGroup (s : State) (g : Nat) (x : SchGroup) : State :=
  { s with sch := { s.sch with groups := kset SchGroup.init s.sch.groups g x } }

/-- Whether group `g` is voided by a cause of its own or by its peer's status (R83, R99). -/
def State.groupVoid (s : State) (g : Nat) : Bool :=
  let x := s.schGroup g
  x.voidTrain || x.voidDelay || x.voidPlan || x.voidWidth || s.flag (F.SCH_LGn_PEER_PEER_VOID g)

/-- LG_VOID and each group's VOIDED follow the group-scoped causes (R83). -/
def State.refreshVoid (s : State) : State :=
  let lg := (List.range 8).foldl (fun a g => if s.groupVoid g then a ||| 2 ^ g else a) 0
  let s1 := (List.range 8).foldl (fun a g => a.setB (F.SCH_LGn_PEER_VOIDED g) (s.groupVoid g)) s
  s1.setCls (putBits (s1.reg R.SCH_CLS_STAT).toNat 8 8 lg)

/-- The mode becomes `m`: PREV takes the mode left, EV_MODE is raised, and the mode cause begins on leaving RUN and
DEGRADED (R83, R649), where an excursion of the tracking error ends too (R56). What the units do is in the operations of each unit. -/
def State.setMode (s : State) (m : Nat) : State :=
  if s.mode = m then s else
  let s0 := { s with sch := { s.sch with far := s.sch.far && (m == Mode.run || m == Mode.degraded) } }
  let s1 := ((s0.setF F.CRP_MODE_PREV s.mode).setF F.CRP_MODE_MODE m).raise EV.mode
  if m = Mode.run ∨ m = Mode.degraded then s1 else s1.setCause F.SCH_CLS_STAT_MODE true

/-- An uncorrectable or parity error is present in entry `i` of store `u` of R683. -/
def State.storeFault (s : State) (u i : Nat) : Bool := s.storeFaults.contains { unit := u, index := i }

/-- The log of R683: unit code and address, the count, EVT_STAT.UE and EV_UE. -/
def State.logUe (s : State) (u i : Nat) : State :=
  ((((s.setF F.EVT_UE_UNIT_UNIT u).satF F.EVT_UE_UNIT_COUNT 1).setReg R.EVT_UE_ADDR (BitVec.ofNat 32 i)).setB
    F.EVT_STAT_UE true).raise EV.ue

/-- Adds `x` to a rising list without repeats. -/
def insertNat (x : Nat) : List Nat → List Nat
  | [] => [x]
  | y :: ys => if x < y then x :: y :: ys else if x = y then y :: ys else y :: insertNat x ys

/-- The first element that satisfies `p` replaced by `f` of it. -/
def updFirst {α : Type} (p : α → Bool) (f : α → α) : List α → List α
  | [] => []
  | x :: xs => if p x then f x :: xs else x :: updFirst p f xs

end Sys2Proof.Machine
end

