-- ==== Sys2Proof/Machine/Plan.lean ====
section
/-! DEFINITION. What the units read from the halves of plan memory and instruction store (R110, R695): sections, the
calendars (R186), and the Class S stream table (R294, R295). -/

namespace Sys2Proof.Machine

/-- The section of type `typ` and instance `inst`. -/
def Half.find (h : Half) (typ inst : Nat) : Option Sect := h.sects.find? fun x => x.typ == typ && x.inst == inst

/-- The bytes that a section occupies, and where it begins in its region. -/
def Half.bytes (h : Half) (typ inst : Nat) : List Byte :=
  match h.find typ inst with
  | some x => x.bytes
  | none => []

/-- `n` bytes from offset `off` as a number: of the region for CODE and PINPROG, whose DEST says where in it the section lies, else of the
section, whose DEST only places it where software cannot see it (R695). Bytes that no section covers read zero (log entry 9). -/
def Half.rd (h : Half) (typ inst off n : Nat) : Nat :=
  match h.find typ inst with
  | some x =>
    let base := if typ = 10 ∨ typ = 14 then x.dest else 0
    leNat ((List.range n).map fun i => if off + i < base then 0 else x.bytes.getD (off + i - base) 0)
  | none => 0

/-- Section type codes (R110). -/
def ST.threads : Nat := 1
def ST.roster : Nat := 2
def ST.calendar : Nat := 3
def ST.fallback : Nat := 4
def ST.bankslot : Nat := 5
def ST.chain : Nat := 6
def ST.queues : Nat := 7
def ST.route : Nat := 8
def ST.reduce : Nat := 9
def ST.pinprog : Nat := 10
def ST.expert : Nat := 11
def ST.guard : Nat := 12
def ST.links : Nat := 13
def ST.code : Nat := 14
def ST.tmem : Nat := 15
def ST.smem : Nat := 16
def ST.tandem : Nat := 17
def ST.note : Nat := 18

/-- The shift exponent, the shift's length, the shift number and the shift's first cycle (R63, R64). -/
def State.k (s : State) : Nat := s.f F.SCH_SHIFT_CFG_K
def State.shiftLen (s : State) : Nat := 2 ^ s.k
def State.shiftNo (s : State) : Nat := s.sch.ft.toNat / s.shiftLen
def State.shiftStart (s : State) : Nat := s.shiftNo * s.shiftLen

/-- The rosters, calendars and bank-slot maps of the active image run: a first image's start at the first boundary after
RUN (R131). -/
def State.planLive (s : State) : Bool := s.cfg.imageActive && !s.cfg.firstPending

/-- The first `m` numbers of `n` bytes each in a list of bytes. -/
def chunksOf (n : Nat) : Nat → List Byte → List Nat
  | 0, _ => []
  | m + 1, bs => leNat (bs.take n) :: chunksOf n m (bs.drop n)

/-- A list of bytes as numbers of `n` bytes each. -/
def chunks (n : Nat) (bs : List Byte) : List Nat := chunksOf n (bs.length / n) bs

/-- A calendar of a half: its 32-bit entries (R186). `fb` names the width code of a fallback calendar. -/
def Half.calendar (h : Half) (g dir : Nat) (fb : Option Nat) : List Nat :=
  let bs := match fb with
    | none => h.bytes ST.calendar (2 * g + dir)
    | some c => h.bytes ST.fallback (256 * c + 2 * g + dir)
  chunks 4 bs

def calRun (e : Nat) : Nat := bits e 0 12 + 1
def calClass (e : Nat) : Nat := bits e 12 3
def calTag (e : Nat) : Nat := bits e 15 17

/-- CLASS and TAG of flit slot `p` of the shift; beyond the runs a slot is open (log entry 9). -/
def calAt : List Nat → Nat → Nat × Nat
  | [], _ => (1, 0)
  | e :: es, p => if p < calRun e then (calClass e, calTag e) else calAt es (p - calRun e)

/-- What a stream tag resolves to (R295). -/
inductive TagKind where
  | unused
  | source (drift : Nat)
  | landing (base slots : Nat)
  | forward (g : Nat)
  | queue (q : Nat)
  deriving DecidableEq, Repr

/-- A tag in the stream table of a half (R187, R294). -/
def Half.tagKind (h : Half) (tag : Nat) : TagKind :=
  if tag ≥ 0x10000 then .queue (tag - 0x10000) else
  if tag ≥ h.rd ST.bankslot 0 0 4 then .unused else
  let e := h.rd ST.bankslot 0 (0x40 + 8 * tag) 8
  if bits e 0 2 = 1 then .source (bits e 2 4)
  else if bits e 0 2 = 2 then .landing (bits e 2 18) (bits e 20 16)
  else if bits e 0 2 = 3 then .forward (bits e 2 3)
  else .unused

/-- The LINKS fields of a group that are no register fields (R220). -/
def Half.lineDelay (h : Half) (g : Nat) : Nat := h.rd ST.links 0 (0x40 * g + 0x08) 3
def Half.pmaIn (h : Half) (g : Nat) : Nat := h.rd ST.links 0 (0x40 * g + 0x0C) 2
def Half.pmaOut (h : Half) (g : Nat) : Nat := h.rd ST.links 0 (0x40 * g + 0x0E) 2
def Half.peerId (h : Half) (g : Nat) : Nat := bits (h.rd ST.links 0 (0x40 * g + 0x10) 4) 0 20

/-- The plan ID of the active image (R90). -/
def State.planId (s : State) : Nat := s.reg64 R.SCH_PLAN_LO R.SCH_PLAN_HI

/-- The endpoint ID that the block holds (R285). -/
def State.epid (s : State) : Nat := s.f F.QUE_EPID_ID

end Sys2Proof.Machine
end

