-- ==== Sys2Proof/Machine/MemBase.lean ====
section
/-! DEFINITION. The two memories: reads and writes with their error correction and poison marks (R288 to R290, R526 to
R528), the secure partition and its wipes (R530 to R535). -/

namespace Sys2Proof.Machine

/-! ## Error correction over 8-byte lanes -/

/-- The error in lane `l`. -/
def eccAt (ecc : List EccFault) (l : Nat) : Option EccFault := ecc.find? fun e => e.lane == l

/-- The array with bit `b` of lane `l` inverted. -/
def flipBit (m : List Host.Cell) (l b : Nat) : List Host.Cell :=
  let a := 8 * l + b / 8
  Memory.set m a (Memory.get m a ^^^ BitVec.ofNat 8 (2 ^ (b % 8)))

/-- The array with the correctable errors of `n` lanes from `l` on corrected. -/
def corrected (m : List Host.Cell) (ecc : List EccFault) (l n : Nat) : List Host.Cell :=
  (List.range n).foldl (fun a i => match eccAt ecc (l + i) with
    | some { bit := some b, .. } => flipBit a (l + i) b.val
    | _ => a) m

/-- Lanes from `l` on, `n` of them, that hold a correctable and an uncorrectable error. -/
def lanesSingle (ecc : List EccFault) (l n : Nat) : Nat :=
  (ecc.filter fun e => decide (l ≤ e.lane) && decide (e.lane < l + n) && e.bit.isSome).length
def lanesDouble (ecc : List EccFault) (l n : Nat) : Bool :=
  ecc.any fun e => decide (l ≤ e.lane) && decide (e.lane < l + n) && e.bit.isNone

/-- A write of `bs` at `a` into the lanes: a lane written in part is merged with its stored bytes, corrected where
checking is on; every lane written takes fresh check bits. The last part says whether a lane with an uncorrectable error
was merged into with checking on (R288, R527). -/
def laneWrite (en : Bool) (m : List Host.Cell) (ecc : List EccFault) (a : Nat) (bs : List Byte) :
    List Host.Cell × List EccFault × Bool :=
  let l0 := a / 8
  let n := (a + bs.length + 7) / 8 - l0
  let whole (l : Nat) : Bool := decide (a ≤ 8 * l) && decide (8 * l + 8 ≤ a + bs.length)
  let hit := ecc.filter fun e => decide (l0 ≤ e.lane) && decide (e.lane < l0 + n)
  let m1 := if en then corrected m (hit.filter fun e => !whole e.lane) l0 n else m
  (Memory.write m1 a bs, ecc.filter fun e => !(decide (l0 ≤ e.lane) && decide (e.lane < l0 + n)),
    en && hit.any fun e => e.bit.isNone && !whole e.lane)

/-! ## Staging memory -/

/-- Who asks a bank of staging memory for an access, in the order of R28 and R291: a Class S landing, the thread processor, a B-class
landing or replay copy, the queue engine, the CSP window, the image loader, the scrubber. A drift's access, at scheduled rank or not, has won its bank
already. -/
inductive SmemWho where
  | landing
  | thread
  | flit
  | queue
  | csp
  | loader
  | scrub
  | drift (sched : Bool)
  deriving DecidableEq, Repr

/-- The counter of an access (R341): 0 ACC_SCHED, 1 ACC_THREAD, 2 ACC_UNSCHED. -/
def SmemWho.counter : SmemWho → Nat
  | .landing => 0
  | .drift true => 0
  | .thread => 1
  | _ => 2

/-- The place of the queue engine and of the CSP window in the round-robin order (R291). -/
def SmemWho.turn : SmemWho → Option Nat
  | .queue => some 16
  | .csp => some 17
  | _ => none

/-- The round-robin order of bank `b`, the first to be served in front (R291). -/
def StrState.order (x : StrState) (b : Nat) : List Nat := kget (List.range 18) x.rr b

/-- Requester `i` has been served in bank `b`: it moves to the end of the order. -/
def StrState.served (x : StrState) (b i : Nat) : StrState :=
  { x with rr := kset (List.range 18) x.rr b ((x.order b).filter (fun j => j != i) ++ [i]) }

/-- Bank `b` serves an access in cycle `c`: one at scheduled rank, where `top` is set. -/
def StrState.taken (x : StrState) (c b : Nat) (top : Bool) : Bool :=
  x.used.any fun u => u.cyc == c && u.bank == b && (!top || u.sched)

/-- A requester of bank `b` lost in cycle `c`: each such bank and cycle counts once in CONFLICT_CYC (R341). -/
def State.loseBank (s : State) (c b : Nat) : State :=
  if s.str.lost.contains (c, b) then s else
  { s with str := { s.str with lost := (c, b) :: s.str.lost } }.count (Cnt.smem 3) 1

/-- The 2 KiB of a peer entry as staging memory shows them (R260). -/
def peerBytes (p : Peer) : List Byte :=
  natLe 4 (p.id + 2 ^ 31 * b2n p.valid) ++ natLe 4 p.txNext.toNat ++ natLe 4 p.ackLow.toNat ++ natLe 4 p.rxH.toNat ++ natLe 4 p.outst ++
    natLe 4 p.pLast.toNat ++ natLe 4 p.pAckLow.toNat ++ natLe 996 0 ++ natLe 512 p.seen.toNat ++ natLe 512 p.done.toNat

/-- The bytes of 64-byte word `w` as the peer table shows them, where it lies in the table (R260). -/
def State.peerTableWord (s : State) (w : Nat) : Option (List Byte) :=
  let base := 1024 * s.f F.QUE_PEER_CFG_BASE
  if base ≤ w ∧ w < base + 32 * s.f F.QUE_PEER_CFG_MAX then
    some (((peerBytes (kget Peer.init s.que.peers ((w - base) / 32))).drop (64 * ((w - base) % 32))).take 64)
  else none

/-- A read of 64-byte word `w`, with what it counts (R289): its bytes, and whether they are poisoned. -/
def State.smemAccess (s : State) (w : Nat) (who : SmemWho) : List Byte × Bool × State :=
  let s1 := s.count (Cnt.smem who.counter) 1
  match s.peerTableWord w with
  | some bs => (bs, false, s1)
  | none =>
  let marked := s.str.poison.contains w
  if !s.flag F.STR_CFG_ECC_EN then (Memory.read s.str.mem (64 * w) 64, marked, s1) else
  let bytes := Memory.read (corrected s.str.mem s.str.ecc (8 * w) 8) (64 * w) 64
  if marked then (bytes, true, s1) else
  let s2 := s1.count (Cnt.smem 4) (lanesSingle s.str.ecc (8 * w) 8)
  if lanesDouble s.str.ecc (8 * w) 8 then
    (bytes, true, (((s2.count (Cnt.smem 5) 1).setF F.STR_ECC_ADDR_ADDR w).hit F.STR_STAT_ECC_UNCORR).raise EV.smemEcc)
  else (bytes, false, s2)

/-- Bytes written within one staging word (R288): at address `a`, not crossing the word. -/
def State.smemPutRun (s : State) (a : Nat) (bs : List Byte) (poison : Bool) : State :=
  let w := a / 64
  let (m, ecc, bad) := laneWrite (s.flag F.STR_CFG_ECC_EN) s.str.mem s.str.ecc a bs
  let marks := if poison || bad then insertNat w s.str.poison
    else if bs.length = 64 then s.str.poison.filter fun x => x != w else s.str.poison
  { s with str := { s.str with mem := m, ecc := ecc, poison := marks } }

/-- A masked write of one staging word: runs of bytes by offset in the word, in one access. -/
def State.smemPutMask (s : State) (w : Nat) (runs : List (Nat × List Byte)) (poison : Bool) (who : SmemWho) : State :=
  (runs.foldl (fun a r => a.smemPutRun (64 * w + r.1) r.2 poison) s).count (Cnt.smem who.counter) 1

/-! ## Lifecycle and the secure partition -/

/-- Lifecycle states (R540). -/
def LC.blank : Nat := 0
def LC.provisioned : Nat := 1
def LC.deployed : Nat := 2
def LC.return_ : Nat := 3
def LC.end_ : Nat := 4

/-- The lifecycle state that the block acts on (R535). -/
def State.lifecycle (s : State) : Nat :=
  if s.flag F.MEM_LC_STAT_FORCED_END then LC.end_ else s.f F.MEM_LC_STAT_STATE

/-- Where the secure partition begins, and its size (R530). -/
def secBase : Nat := 0x3C0000
def secSize : Nat := 0x40000

/-- A wipe is in progress, or the lifecycle state holds the partition as during one (R532, R536). -/
def State.secHeld (s : State) : Bool :=
  s.flag F.MEM_SEC_STAT_ACTIVE || s.lifecycle == LC.return_ || s.lifecycle == LC.end_

/-! ## Thread memory -/

/-- A read of the 8-byte word at index `w` (R526): its bytes and whether they are poisoned. -/
def State.tmemWord (s : State) (w : Nat) : List Byte × Bool × State :=
  let marked := s.mem.poison.contains w
  if !s.flag F.MEM_CFG_ECC_EN then (Memory.read s.mem.mem (8 * w) 8, marked, s) else
  let bytes := Memory.read (corrected s.mem.mem s.mem.ecc w 1) (8 * w) 8
  if marked then (bytes, true, s)
  else if lanesDouble s.mem.ecc w 1 then
    (bytes, true, (((s.satF F.MEM_ECC_CNT_UNCORR 1).setF F.MEM_ECC_ADDR_ADDR w).hit F.MEM_STAT_ECC_UNCORR).raise EV.tmemEcc)
  else (bytes, false, s.satF F.MEM_ECC_CNT_CORR (lanesSingle s.mem.ecc w 1))

/-- `n` bytes at thread-memory address `a`, which may lie in two words or more. -/
def State.tmemSpan : Nat → State → Nat → Nat → List Byte × Bool × State
  | 0, s, _, _ => ([], false, s)
  | fuel + 1, s, a, n =>
    if n = 0 then ([], false, s) else
    let m := min n (8 - a % 8)
    let (bs, p, s1) := s.tmemWord (a / 8 % 2 ^ 19)
    let (rest, q, s2) := State.tmemSpan fuel s1 (a + m) (n - m)
    (((bs.drop (a % 8)).take m) ++ rest, p || q, s2)

def State.tmemGet (s : State) (a n : Nat) : List Byte × Bool × State := State.tmemSpan (n / 8 + 2) s a n

/-- A write within one thread-memory word (R526, R527): at address `a`, not crossing the word. -/
def State.tmemPut1 (s : State) (a : Nat) (bs : List Byte) : State :=
  let w := a / 8
  let (m, ecc, bad) := laneWrite (s.flag F.MEM_CFG_ECC_EN) s.mem.mem s.mem.ecc a bs
  let marks := if bad then insertNat w s.mem.poison
    else if bs.length = 8 then s.mem.poison.filter fun x => x != w else s.mem.poison
  { s with mem := { s.mem with mem := m, ecc := ecc, poison := marks } }

/-- A write of `bs` at thread-memory address `a`, word by word. -/
def State.tmemPutSpan : Nat → State → Nat → List Byte → State
  | 0, s, _, _ => s
  | fuel + 1, s, a, bs =>
    if bs.isEmpty then s else
    let m := 8 - a % 8
    State.tmemPutSpan fuel (s.tmemPut1 (a % 2 ^ 22) (bs.take m)) (a + m) (bs.drop m)

def State.tmemPut (s : State) (a : Nat) (bs : List Byte) : State := State.tmemPutSpan (bs.length / 8 + 2) s a bs

/-- The thread-memory scrubber's next word (R528). -/
def State.scrubThread (s : State) : State :=
  if !s.flag F.MEM_CFG_SCRUB_EN then s else
  let w := s.mem.scrub
  let (_, _, s1) := s.tmemWord w
  let en := s.flag F.MEM_CFG_ECC_EN
  let bad := en && lanesDouble s.mem.ecc w 1
  let fix := en && decide (lanesSingle s.mem.ecc w 1 > 0)
  { s1 with mem := { s1.mem with
    mem := if fix then corrected s1.mem.mem s1.mem.ecc w 1 else s1.mem.mem
    ecc := if fix then s1.mem.ecc.filter fun e => e.lane != w || e.bit.isNone else s1.mem.ecc
    poison := if bad then insertNat w s1.mem.poison else s1.mem.poison
    scrub := (w + 1) % 2 ^ 19 } }

/-! ## Wipes (R532 to R535) -/

def State.modMem (s : State) (f : MemState → MemState) : State := { s with mem := f s.mem }

/-- Every word of the partition reads zero with valid check bits and clear marks. -/
def State.clearPartition (s : State) : State :=
  s.modMem fun m => { m with
    mem := m.mem.filter fun c => decide (c.1 < secBase)
    poison := m.poison.filter fun w => decide (8 * w < secBase)
    ecc := m.ecc.filter fun e => decide (8 * e.lane < secBase) }

/-- Every thread's SSP at SS_BASE × 64 (R532). -/
def State.resetSsps (s : State) : State :=
  (List.range 128).foldl (fun a t =>
    let x := kget Thread.init a.btp.threads t
    let base := 64 * s.cfg.active.rd ST.threads 0 (32 * t + 24) 2
    { a with btp := { a.btp with threads := kset Thread.init a.btp.threads t { x with ssp := base } } }) s

/-- A wipe begins, or its count begins again; it ends after 64,000 CK_THR cycles, or after the tamper input is released
while that is held (R532 to R534). -/
def State.startWipe (s : State) : State :=
  let s1 := (s.clearPartition.resetSsps).setB F.MEM_SEC_STAT_ACTIVE true
  s1.modMem fun m => { m with
    wipeEnd := if s1.flag F.MEM_SEC_STAT_TAMPER_IN then none else some (s1.now + 64000 * thrCycles) }

/-- A wipe begun by a tamper or a lifecycle transition is counted (R533). -/
def State.countWipe (s : State) : State := s.satF F.MEM_SEC_STAT_COUNT 1

/-- A tamper is taken (R534): where the memory is not powered its contents are discarded and a wipe is owed. -/
def State.takeTamper (s : State) : State :=
  let s1 := (s.hit F.MEM_SEC_STAT_TAMPER).countWipe
  if s1.crp.mainUp then (s1.raise EV.secTamper).startWipe
  else ((s1.clearPartition).hit F.MEM_SEC_STAT_LOST).modMem fun m => { m with wipeOwed := true }

end Sys2Proof.Machine
end

