-- ==== Sys2Proof/Machine/P384.lean ====
section
/-! DEFINITION. ECDSA verification on curve P-384 (R113, R114). Points are in projective coordinates (X : Y : Z); the point
at infinity has Z = 0. -/

namespace Sys2Proof.Machine

/-- The field prime. -/
def p384P : Nat := 2 ^ 384 - 2 ^ 128 - 2 ^ 96 + 2 ^ 32 - 1
/-- The group order. -/
def p384N : Nat :=
  0xFFFFFFFFFFFFFFFFFFFFFFFFFFFFFFFFFFFFFFFFFFFFFFFFC7634D81F4372DDF581A0DB248B0A77AECEC196ACCC52973
/-- The coefficient b; a is -3. -/
def p384B : Nat :=
  0xB3312FA7E23EE7E4988E056BE3F82D19181D9C6EFE8141120314088F5013875AC656398D8A2ED19D2A85C8EDD3EC2AEF
/-- The base point. -/
def p384Gx : Nat :=
  0xAA87CA22BE8B05378EB1C71EF320AD746E1D3B628BA79B9859F741E082542A385502F25DBF55296C3A545E3872760AB7
def p384Gy : Nat :=
  0x3617DE4A96262C6F5D9E98BF9292DC29F8F41DBD289A147CE9DA3113B5F0B8C00A60B1CE1D7E819D7A431D7C90EA0E5F

/-- A projective point. -/
structure P384Pt where
  x : Nat
  y : Nat
  z : Nat

def p384Mul (a b : Nat) : Nat := a * b % p384P
def p384Sub (a b : Nat) : Nat := (a + p384P - b % p384P) % p384P

/-- The double of a point. -/
def p384Double (p : P384Pt) : P384Pt :=
  if p.z = 0 then p else
  let w := p384Sub (p384Mul 3 (p384Mul p.x p.x)) (p384Mul 3 (p384Mul p.z p.z))
  let s := p384Mul p.y p.z
  let b := p384Mul p.x (p384Mul p.y s)
  let h := p384Sub (p384Mul w w) (8 * b)
  { x := 2 * p384Mul h s % p384P
    y := p384Sub (p384Mul w (p384Sub (4 * b) h)) (8 * p384Mul (p384Mul p.y p.y) (p384Mul s s))
    z := 8 * p384Mul s (p384Mul s s) % p384P }

/-- The sum of two points. -/
def p384Add (p q : P384Pt) : P384Pt :=
  if p.z = 0 then q else if q.z = 0 then p else
  let u := p384Sub (p384Mul q.y p.z) (p384Mul p.y q.z)
  let v := p384Sub (p384Mul q.x p.z) (p384Mul p.x q.z)
  if v = 0 then (if u = 0 then p384Double p else { x := 0, y := 1, z := 0 }) else
  let w := p384Mul p.z q.z
  let v2 := p384Mul v v
  let v3 := p384Mul v v2
  let r := p384Mul v2 (p384Mul p.x q.z)
  let a := p384Sub (p384Mul (p384Mul u u) w) (v3 + 2 * r)
  { x := p384Mul v a
    y := p384Sub (p384Mul u (p384Sub r a)) (p384Mul v3 (p384Mul p.y q.z))
    z := p384Mul v3 w }

/-- `k` times a point, over the `n` lowest bits of `k`. -/
def p384Times : Nat → Nat → P384Pt → P384Pt
  | 0, _, _ => { x := 0, y := 1, z := 0 }
  | n + 1, k, p =>
    let h := p384Double (p384Times n (k / 2) p)
    if k % 2 = 1 then p384Add h p else h

/-- `b` to the power `e` modulo `m`, over the `n` lowest bits of `e`. -/
def powMod (m b : Nat) : Nat → Nat → Nat
  | 0, _ => 1 % m
  | n + 1, e =>
    let h := powMod m b n (e / 2)
    let h2 := h * h % m
    if e % 2 = 1 then h2 * b % m else h2

/-- The inverse modulo a prime below 2^384. -/
def invMod (m a : Nat) : Nat := powMod m (a % m) 384 (m - 2)

/-- Whether (r, s) is a signature of the digest `e` under the key (qx, qy). -/
def ecdsaVerify (qx qy r s e : Nat) : Bool :=
  let onCurve := p384Mul qy qy = p384Sub (p384Mul qx (p384Mul qx qx) + p384B) (3 * qx)
  let u1 := e * invMod p384N s % p384N
  let u2 := r * invMod p384N s % p384N
  let p := p384Add (p384Times 384 u1 { x := p384Gx, y := p384Gy, z := 1 }) (p384Times 384 u2 { x := qx, y := qy, z := 1 })
  decide (qx < p384P) && decide (qy < p384P) && decide onCurve && decide (0 < r) && decide (r < p384N) &&
    decide (0 < s) && decide (s < p384N) && decide (p.z ≠ 0) &&
    decide (p384Mul p.x (invMod p384P p.z) % p384N = r)

end Sys2Proof.Machine
end

