-- ==== Sys2Proof/Machine/HmpBase.lean ====
section
/-! DEFINITION. A request leaving a host memory port: its transaction ID (R609) and what it counts (R696). -/

namespace Sys2Proof.Machine

/-- The lowest transaction ID that no transaction holds (R609). -/
def freeTid (held : List HmpTxn) : Option Nat := (List.range 1024).find? fun i => held.all fun t => t.tid.toNat != i

/-- A request transfers at port `p` with ID `tid` (R607). -/
def State.hmpIssue (s : State) (p opc arg addr len tid src : Nat) (intr : Bool) : State :=
  let wr := decide (opc ≠ 0)
  let s1 := (s.count (Cnt.hmp p (b2n wr)) 1).count (Cnt.hmp p (2 + b2n wr)) len
  (s1.countMax (Cnt.hmp p 6) ((s.hmpPort p).reads.length + (s.hmpPort p).writes.length + 1)).emit
    (.hmpRequest p opc arg addr len tid src intr)

/-- The request of a drift whose answer comes with the command: a read, or a write of `data`. `ok` says how it was
answered, after `lat` cycles (RD_LAT_MAX, R696). -/
def State.hmpAtOnce (s : State) (p addr len src : Nat) (data : Option (List Byte × Bool)) (ok : Bool) (lat : Nat) : State :=
  let held := if data.isSome then (s.hmpPort p).writes else (s.hmpPort p).reads
  let s1 := s.hmpIssue p (b2n data.isSome) 0 addr len ((freeTid held).getD 0) src false
  let s2 := match data with
    | some (bs, poison) => s1.emit (.hmpWriteData p bs poison)
    | none => s1.countMax (Cnt.hmp p 5) lat
  if ok then s2 else s2.count (Cnt.hmp p 4) 1

end Sys2Proof.Machine
end

