-- ==== Sys2Proof/Machine/Aes.lean ====
section
/-! DEFINITION. AES-256-GCM (R215, R216, R219). A block is a number of 128 bits, its first byte the highest. -/

namespace Sys2Proof.Machine

/-- The S-box, in four parts of 64 entries, entry i of a part in bits [8i + 7:8i]. -/
def aesSbox0 : Nat :=
  0x75B227EBE28012079A059618C323C7041531D871F1E5A534CCF73F362693FDB7C072A49CAFA2D4ADF04759FA7DC982CA76ABD7FE2B670130C56F6BF27B777C63
def aesSbox1 : Nat :=
  0xD2F3FF1021DAB6BCF5389D928F40A351A89F3C507F02F94585334D43FBAAEFD0CF584C4A39BECB6A5BB1FC20ED00D153842FE329B3D63B52A05A6E1B1A2C8309
def aesSbox2 : Nat :=
  0x08AE7A65EAF4566CA94ED58D6D37C8E779E4959162ACD3C25C2406490A3A32E0DB0B5EDE14B8EE4688902A22DC4F816073195D643D7EA7C41744975FEC130CCD
def aesSbox3 : Nat :=
  0x16BB54B00F2D99416842E6BF0D89A18CDF2855CEE9871E9B948ED9691198F8E19E1DC186B95735610EF6034866B53E708A8BBD4B1F74DDE8C6B4A61C2E2578BA

/-- The S-box of a byte. -/
def aesSub (b : Nat) : Nat :=
  bits (if b < 64 then aesSbox0 else if b < 128 then aesSbox1 else if b < 192 then aesSbox2 else aesSbox3) (8 * (b % 64)) 8

/-- A byte times 2 in the AES field. -/
def aesX2 (b : Nat) : Nat := if b ≥ 128 then (2 * b ^^^ 0x11B) else 2 * b

/-- A block as 16 bytes, the first byte of the block first; and back. -/
def aesBytes (v : Nat) : List Nat := (List.range 16).map fun i => bits v (8 * (15 - i)) 8
def aesJoin (bs : List Nat) : Nat := bs.foldl (fun a b => 256 * a + b) 0

/-- SubBytes and ShiftRows. -/
def aesSubShift (s : List Nat) : List Nat :=
  (List.range 16).map fun i => aesSub (s.getD ((i + 4 * (i % 4)) % 16) 0)

/-- MixColumns. -/
def aesMix (s : List Nat) : List Nat :=
  (List.range 16).map fun i =>
    let c := i / 4 * 4
    let r := i % 4
    let a := fun k => s.getD (c + (r + k) % 4) 0
    aesX2 (a 0) ^^^ (aesX2 (a 1) ^^^ a 1) ^^^ a 2 ^^^ a 3

/-- The next word of the key schedule, `w` the words so far with the newest first, `i` its index, `rc` the round
constant. -/
def aesNextWord (w : List Nat) (i rc : Nat) : Nat :=
  let t := w.headD 0
  let sub := fun x => (List.range 4).foldl (fun a k => a + aesSub (bits x (8 * k) 8) * 256 ^ k) 0
  let t2 := if i % 8 = 0 then sub ((t * 256) % 2 ^ 32 + t / 2 ^ 24) ^^^ (rc * 2 ^ 24)
    else if i % 8 = 4 then sub t else t
  w.getD 7 0 ^^^ t2

/-- `n` further words of the key schedule. -/
def aesExpand : Nat → Nat → Nat → List Nat → List Nat
  | 0, _, _, w => w
  | n + 1, i, rc, w => aesExpand n (i + 1) (if i % 8 = 0 then aesX2 rc else rc) (aesNextWord w i rc :: w)

/-- The fifteen round keys of a 256-bit key given as 32 bytes. -/
def aesKeys (key : List Byte) : List Nat :=
  let w0 := ((List.range 8).map fun i => beNat ((key.drop (4 * i)).take 4)).reverse
  let w := (aesExpand 52 8 1 w0).reverse
  (List.range 15).map fun r => (List.range 4).foldl (fun a k => a * 2 ^ 32 + w.getD (4 * r + k) 0) 0

/-- The block cipher. -/
def aesEncrypt (keys : List Nat) (blk : Nat) : Nat :=
  let mid := (keys.drop 1).take 13
  let s := mid.foldl (fun s k => aesJoin (aesMix (aesSubShift (aesBytes s))) ^^^ k) (blk ^^^ keys.headD 0)
  aesJoin (aesSubShift (aesBytes s)) ^^^ keys.getD 14 0

/-- `n` steps of the product in the GCM field: `z` the sum so far, `v` the running multiple of the one factor. -/
def ghashMulN : Nat → Nat → Nat → Nat → Nat
  | 0, z, _, _ => z
  | n + 1, z, v, x =>
    ghashMulN n (if Nat.testBit x n then z ^^^ v else z)
      (if v % 2 = 1 then (v / 2) ^^^ (0xE1 * 2 ^ 120) else v / 2) x

/-- GHASH over blocks under hash key `h`. -/
def ghash (h : Nat) (blocks : List Nat) : Nat := blocks.foldl (fun y b => ghashMulN 128 0 h (y ^^^ b)) 0

/-- Bytes cut into 16-byte blocks, the last filled with zeros; `n` bounds the number of blocks. -/
def gcmBlocks : Nat → List Byte → List Nat
  | 0, _ => []
  | n + 1, bs =>
    if bs.isEmpty then [] else
      (beNat (bs.take 16)) * 256 ^ (16 - (bs.take 16).length) :: gcmBlocks n (bs.drop 16)

/-- Counter-mode encryption of bytes from counter block `ctr` upward. -/
def gcmCtr (keys : List Nat) : Nat → Nat → List Byte → List Byte
  | 0, _, _ => []
  | n + 1, ctr, bs =>
    if bs.isEmpty then [] else
      List.zipWith (fun (a b : Byte) => a ^^^ b) (bs.take 16) (natBe 16 (aesEncrypt keys ctr)) ++
        gcmCtr keys n (ctr + 1) (bs.drop 16)

/-- The tag over additional data and ciphertext. -/
def gcmTag (keys : List Nat) (iv : Nat) (aad ct : List Byte) : List Byte :=
  let h := aesEncrypt keys 0
  let blocks := gcmBlocks (aad.length + 1) aad ++ gcmBlocks (ct.length + 1) ct ++
    [8 * aad.length * 2 ^ 64 + 8 * ct.length]
  natBe 16 (ghash h blocks ^^^ aesEncrypt keys (iv * 2 ^ 32 + 1))

/-- Sealing under a 96-bit initialisation vector: the ciphertext and the tag. -/
def gcmSeal (key : List Byte) (iv : Nat) (aad pt : List Byte) : List Byte × List Byte :=
  let keys := aesKeys key
  let ct := gcmCtr keys (pt.length + 1) (iv * 2 ^ 32 + 2) pt
  (ct, gcmTag keys iv aad ct)

/-- Opening: the plaintext, if the tag agrees. -/
def gcmOpen (key : List Byte) (iv : Nat) (aad ct tag : List Byte) : Option (List Byte) :=
  let keys := aesKeys key
  if gcmTag keys iv aad ct = tag then some (gcmCtr keys (ct.length + 1) (iv * 2 ^ 32 + 2) ct) else none

end Sys2Proof.Machine
end

