-- ==== Sys2Proof/Machine/Flits.lean ====
section
/-! DEFINITION. The flit (R176 to R182): header fields, CRC, sealing, and the payloads of HOLE, CTRL and TRAIN flits. -/

namespace Sys2Proof

open Machine

/-- Header fields (R176). -/
def Flit.typ (f : Flit) : Nat := bits f.hdr.toNat 0 4
def Flit.vc (f : Flit) : Nat := bits f.hdr.toNat 4 3
def Flit.csv (f : Flit) : Bool := Nat.testBit f.hdr.toNat 7
def Flit.mk? (f : Flit) : Bool := Nat.testBit f.hdr.toNat 8
def Flit.prot (f : Flit) : Bool := Nat.testBit f.hdr.toNat 9
def Flit.sh (f : Flit) : Bool := Nat.testBit f.hdr.toNat 10
def Flit.kp (f : Flit) : Bool := Nat.testBit f.hdr.toNat 11
def Flit.num (f : Flit) : Nat := bits f.hdr.toNat 12 17
def Flit.rsv (f : Flit) : Nat := bits f.hdr.toNat 29 3
def Flit.ext (f : Flit) : Nat := bits f.hdr.toNat 32 64
def Flit.crc (f : Flit) : Nat := bits f.hdr.toNat 96 32

/-- A reserved TYPE or VC, or a nonzero reserved header bit (R176, R179). -/
def Flit.reserved (f : Flit) : Bool :=
  decide (f.typ > 4) || decide (f.rsv ≠ 0) || (f.vc != 0 && (f.typ == 0 || f.typ == 3 || f.typ == 4))

/-- Payload byte `i`, and `n` payload bytes from `i` as a number. -/
def Flit.byte (f : Flit) (i : Nat) : Nat := bits f.pay.toNat (8 * i) 8
def Flit.le (f : Flit) (i n : Nat) : Nat := bits f.pay.toNat (8 * i) (8 * n)

/-- CMD and TXN of a CTRL or TRAIN flit (R182). -/
def Flit.cmd (f : Flit) : Nat := f.le 0 2
def Flit.txn (f : Flit) : Nat := f.byte 2

end Sys2Proof

namespace Sys2Proof.Machine

/-- Flit types. -/
def FT.idle : Nat := 0
def FT.data : Nat := 1
def FT.hole : Nat := 2
def FT.ctrl : Nat := 3
def FT.train : Nat := 4

end Sys2Proof.Machine

namespace Sys2Proof

open Machine

/-- The CRC of R178: header bytes 0 to 11, then the payload as sent. -/
def Flit.crcOf (f : Flit) : Nat := crc32 (natLe 12 f.hdr.toNat ++ natLe 240 f.pay.toNat)

/-- The flit with its CRC in place. -/
def Flit.sealCrc (f : Flit) : Flit := { f with hdr := BitVec.ofNat 128 (putBits f.hdr.toNat 96 32 f.crcOf) }

end Sys2Proof

namespace Sys2Proof.Machine

/-- A flit from its fields, without CRC and not sealed. -/
def mkFlit (typ vc : Nat) (csv mk sh : Bool) (num ext : Nat) (pay : BitVec 1920) : Flit :=
  { hdr := BitVec.ofNat 128 (typ + 2 ^ 4 * vc + 2 ^ 7 * b2n csv + 2 ^ 8 * b2n mk + 2 ^ 10 * b2n sh + 2 ^ 12 * (num % 2 ^ 17) +
      2 ^ 32 * (ext % 2 ^ 64))
    pay := pay }

/-- The 12 bytes of an initialisation vector (R216): salt, then slot number, its least significant byte first (log
entry 13). -/
def gcmIv (k : GcmKey) (slot : Nat) : Nat := beNat (natLe 4 k.salt.toNat ++ natLe 8 slot)

end Sys2Proof.Machine

namespace Sys2Proof

open Machine

/-- The flit sealed in phase `kp` (R215). -/
def Flit.protect (f : Flit) (k : GcmKey) (kp : Bool) (slot : Nat) : Flit :=
  let h := f.hdr.toNat ||| 2 ^ 9 ||| (2 ^ 11 * b2n kp)
  let (ct, tag) := gcmSeal (natLe 32 k.key.toNat) (gcmIv k slot) (natLe 12 h) (natLe 224 f.pay.toNat)
  { hdr := BitVec.ofNat 128 h, pay := BitVec.ofNat 1920 (leNat (ct ++ tag)) }

/-- The flit opened, its payload bytes 224 to 239 zero, if it authenticates (R219). -/
def Flit.unprotect (f : Flit) (k : GcmKey) (slot : Nat) : Option Flit :=
  match gcmOpen (natLe 32 k.key.toNat) (gcmIv k slot) (natLe 12 f.hdr.toNat) (natLe 224 f.pay.toNat)
      (natLe 16 (f.le 224 16)) with
  | some pt => some { f with pay := BitVec.ofNat 1920 (leNat pt) }
  | none => none

end Sys2Proof

namespace Sys2Proof.Machine

/-- The payload of a HOLE flit (R181). -/
def holePay (reason ep ft : Nat) : BitVec 1920 :=
  BitVec.ofNat 1920 (reason + 2 ^ 8 * (ep % 2 ^ 20) + 2 ^ 32 * (ft % 2 ^ 64))

/-- Hole reasons (R181). -/
def Hole.lost : Nat := 1
def Hole.slotv : Nat := 2
def Hole.source : Nat := 3
def Hole.nowidth : Nat := 4

/-- A CTRL or TRAIN payload (R182): CMD, TXN, and arguments as a number placed at payload byte 4. -/
def ctrlPay (cmd txn args : Nat) : BitVec 1920 := BitVec.ofNat 1920 (cmd + 2 ^ 16 * (txn % 256) + 2 ^ 32 * args)

def CMD.remapReq : Nat := 1
def CMD.remapGo : Nat := 2
def CMD.remapDone : Nat := 3
def CMD.widthReq : Nat := 4
def CMD.widthAck : Nat := 5
def CMD.restoreReq : Nat := 6
def CMD.restoreAck : Nat := 7
def CMD.refuse : Nat := 8
def CMD.param : Nat := 0x10
def CMD.paramAck : Nat := 0x11
def CMD.delayReq : Nat := 0x12
def CMD.delayRsp : Nat := 0x13

end Sys2Proof.Machine
end

