-- ==== Sys2Proof/Machine/RsFec.lean ====
section
/-! DEFINITION. The codeword of R159 to R162: RS(544,514) over GF(2^10) with primitive polynomial x^10 + x^3 + 1, the
framing unit, and the scrambler. Symbol 0, sent first, is the coefficient of x^543, as in IEEE 802.3. -/

namespace Sys2Proof.Machine

/-- `n` steps of a product in GF(2^10): `a` the running multiple, `b` the bits left, `z` the sum. -/
def gfMulN : Nat → Nat → Nat → Nat → Nat
  | 0, _, _, z => z
  | n + 1, a, b, z =>
    gfMulN n (if a ≥ 512 then (2 * a) ^^^ 0x409 else 2 * a) (b / 2) (if b % 2 = 1 then z ^^^ a else z)

/-- The product in GF(2^10). -/
def gfMul (a b : Nat) : Nat := gfMulN 10 a b 0

/-- `a` to the power `e`, over the `n` lowest bits of `e`. -/
def gfPowN : Nat → Nat → Nat → Nat
  | 0, _, _ => 1
  | n + 1, a, e => let h := gfPowN n (gfMul a a) (e / 2); if e % 2 = 1 then gfMul a h else h

/-- `a` to the power `e`, `e` below 1024. -/
def gfPow (a e : Nat) : Nat := gfPowN 10 a e

/-- The inverse of a nonzero element. -/
def gfInv (a : Nat) : Nat := gfPow a 1022

/-- The value at `x` of the polynomial whose coefficients are given, the highest power first. -/
def gfEvalHi (cs : List Nat) (x : Nat) : Nat := cs.foldl (fun a c => gfMul a x ^^^ c) 0

/-- The value at `x` of the polynomial whose coefficients are given, the constant first. -/
def gfEvalLo (cs : List Nat) (x : Nat) : Nat := gfEvalHi cs.reverse x

/-- The thirty syndromes of a codeword's symbols. -/
def rsSyndromes (c : List Nat) : List Nat := (List.range 30).map fun j => gfEvalHi c (gfPow 2 j)

/-- The sum of two polynomials, the constant first. -/
def gfAddPoly : List Nat → List Nat → List Nat
  | [], q => q
  | p, [] => p
  | a :: p, b :: q => (a ^^^ b) :: gfAddPoly p q

/-- The state of the search for the error locator. -/
structure RsBm where
  c : List Nat
  b : List Nat
  l : Nat
  m : Nat
  bd : Nat

/-- One step of the search, for syndrome index `n`. -/
def rsBmStep (syn : List Nat) (x : RsBm) (n : Nat) : RsBm :=
  let d := (List.range (x.l + 1)).foldl (fun a i => a ^^^ gfMul (x.c.getD i 0) (if i ≤ n then syn.getD (n - i) 0 else 0)) 0
  if d = 0 then { x with m := x.m + 1 } else
  let k := gfMul d (gfInv x.bd)
  let c2 := gfAddPoly x.c (List.replicate x.m 0 ++ x.b.map (gfMul k))
  if 2 * x.l ≤ n then { c := c2, b := x.c, l := n + 1 - x.l, m := 1, bd := d } else { x with c := c2, m := x.m + 1 }

/-- The corrected symbols and the positions corrected, if the codeword lies within 15 symbols of a code word. -/
def rsCorrect (c : List Nat) : Option (List Nat × List Nat) :=
  let syn := rsSyndromes c
  if syn.all (· == 0) then some (c, []) else
  let bm := (List.range 30).foldl (rsBmStep syn) { c := [1], b := [1], l := 0, m := 1, bd := 1 }
  let pos := (List.range 544).filter fun i => gfEvalLo bm.c (gfPow 2 ((1023 - (543 - i)) % 1023)) == 0
  if bm.l > 15 || pos.length ≠ bm.l then none else
  -- the error evaluator: syndromes times locator modulo x^30
  let omega := (List.range 30).map fun k => (List.range (k + 1)).foldl (fun a i =>
    a ^^^ gfMul (bm.c.getD i 0) (syn.getD (k - i) 0)) 0
  let fix := fun i =>
    let xinv := gfPow 2 ((1023 - (543 - i)) % 1023)
    let x := gfPow 2 (543 - i)
    let deriv := (List.range 16).foldl (fun a k =>
      a ^^^ gfMul (bm.c.getD (2 * k + 1) 0) (gfPow xinv (2 * k))) 0
    gfMul x (gfMul (gfEvalLo omega xinv) (gfInv deriv))
  let c2 := pos.foldl (fun (c : List Nat) i => c.set i (c.getD i 0 ^^^ fix i)) c
  if (rsSyndromes c2).all (· == 0) then some (c2, pos) else none

/-- The thirty parity symbols of 514 message symbols: the remainder of the message times x^30 by the generator. -/
def rsGenerator : List Nat :=
  (List.range 30).foldl (fun g j => gfAddPoly (0 :: g) (g.map (gfMul (gfPow 2 j)))) [1]

def rsParity (msg : List Nat) : List Nat :=
  let g := (rsGenerator.reverse).drop 1
  msg.foldl (fun r m =>
    let k := m ^^^ r.headD 0
    List.zipWith (· ^^^ ·) (r.drop 1 ++ [0]) (g.map (gfMul k))) (List.replicate 30 0)

/-- `n` bits of the scrambler from state `st`, the first in bit 0, and the state after them: each bit is the sum of the
bits 28 and 31 steps back (R162). -/
def scramblerBits : Nat → Nat → Nat × Nat
  | 0, st => (0, st)
  | n + 1, st =>
    let b := (Nat.testBit st 30 != Nat.testBit st 27)
    let r := scramblerBits n ((2 * st) % 2 ^ 31 + b2n b)
    (2 * r.1 + b2n b, r.2)

/-- The scrambler's 5,120 bits for codeword number `cwn` of an epoch on the set with this LANE value. -/
def scramblerFor (lane cwn : Nat) : Nat :=
  let start := (0x7FFFFF00 + lane) % 2 ^ 31
  let st := (List.range cwn).foldl (fun st _ => (scramblerBits 5120 st).2) start
  (scramblerBits 5120 st).1

/-- The framing unit of R161 is valid: SYNC and even parity. -/
def fuValid (fu : Nat) : Bool :=
  decide (fu % 64 = 0b110100) && (((List.range 20).foldl (fun a i => a + b2n (Nat.testBit fu i)) 0) % 2 == 0)

def fuLane (fu : Nat) : Nat := bits fu 6 5
def fuCwn (fu : Nat) : Nat := bits fu 11 8

/-- The framing unit with this LANE and CWN. -/
def mkFu (lane cwn : Nat) : Nat :=
  let v := 0b110100 + 2 ^ 6 * lane + 2 ^ 11 * cwn
  let p := ((List.range 19).foldl (fun a i => a + b2n (Nat.testBit v i)) 0) % 2
  v + 2 ^ 19 * p

/-- A codeword as received: its framing unit, its 640 descrambled data bytes as a number, and the symbols corrected;
`detect` takes any nonzero syndrome as uncorrectable (R184). -/
def codewordOpen (detect : Bool) (cw : Nat) : Option (Nat × Nat × List Nat) :=
  let sym := (List.range 544).map fun j => bits cw (10 * j) 10
  match rsCorrect sym with
  | none => none
  | some (c, pos) =>
    if detect && pos ≠ [] then none else
    let fu := c.getD 0 0 + 2 ^ 10 * c.getD 1 0
    let data := ((c.drop 2).take 512).foldr (fun x a => a * 2 ^ 10 + x) 0
    some (fu, data ^^^ scramblerFor (fuLane fu) (fuCwn fu), pos)

/-- A codeword as sent: framing unit, scrambled data and parity. -/
def codewordSeal (lane cwn data : Nat) : Nat :=
  let d := data ^^^ scramblerFor lane cwn
  let fu := mkFu lane cwn
  let msg := [fu % 2 ^ 10, fu / 2 ^ 10] ++ (List.range 512).map fun j => bits d (10 * j) 10
  (msg ++ rsParity msg).foldr (fun x a => a * 2 ^ 10 + x) 0

end Sys2Proof.Machine
end

