-- ==== Sys2Proof/Machine/LinkBase.lean ====
section
/-! DEFINITION. Link groups: their registers, the flit slot grid, lanes and their words, Class S placement and holes, training
transitions, CTRL messages, credits and the replay buffer. -/

namespace Sys2Proof.Machine

/-- Training states (R168). -/
def TS.off : Nat := 0
def TS.signal : Nat := 1
def TS.align : Nat := 2
def TS.deskew : Nat := 3
def TS.param : Nat := 4
def TS.delay : Nat := 5
def TS.sync : Nat := 6
def TS.up : Nat := 7

def State.lg (s : State) (g : Nat) : LinkGroup := kget LinkGroup.init s.lnk.groups g
def State.setLg (s : State) (g : Nat) (x : LinkGroup) : State :=
  { s with lnk := { s.lnk with groups := kset LinkGroup.init s.lnk.groups g x } }
def State.modLg (s : State) (g : Nat) (f : LinkGroup → LinkGroup) : State := s.setLg g (f (s.lg g))
def State.lane (s : State) (l : Nat) : LaneState := kget LaneState.init s.lnk.lanes l
def State.setLane (s : State) (l : Nat) (x : LaneState) : State :=
  { s with lnk := { s.lnk with lanes := kset LaneState.init s.lnk.lanes l x } }

def State.tstate (s : State) (g : Nat) : Nat := s.f (F.LNK_LGn_STAT_TSTATE g)
def State.lgUp (s : State) (g : Nat) : Bool := s.tstate g == TS.up

/-- Lanes in a lane set at the group's rate (R157). -/
def State.setLanes (s : State) (g : Nat) : Nat :=
  if s.f (F.LNK_LGn_CFG_RATE g) = 2 then 1 else if s.f (F.LNK_LGn_CFG_RATE g) = 1 then 2 else 4

/-- Configured and present width in lanes (R226, R228). -/
def State.cfgWidth (s : State) (g : Nat) : Nat := 2 ^ s.f (F.LNK_LGn_CFG_WIDTH g)
def State.nowWidth (s : State) (g : Nat) : Nat := 2 ^ s.f (F.LNK_LGn_STAT_WIDTH g)

/-- Flit slots of a mark epoch for `w` lanes at the group's rate (R41). -/
def State.slotsFor (s : State) (g w : Nat) : Nat := 400 / s.setLanes g * w

/-- Flit slots of a mark epoch at the present width. -/
def State.spe (s : State) (g : Nat) : Nat := s.slotsFor g (s.nowWidth g)

/-- The fabric time, in phase units, at which slot `a`, counted from time 0, begins: the slots of an epoch share it evenly (R41;
DEDUCED, log entry 92). -/
def slotPhase (spe a : Nat) : Nat := a * 262144 / spe

/-- The fabric time, in phase units, of the first bit on the lanes of the flit of slot `a`, on a group of `n` lane sets of `s` lanes
(R164): the first bit of its first stripe, data bit 256 × (stripe position) of a codeword of 5,440 / s bits a lane in 25.6 cycles,
or of the codeword period that it opens. A part of a phase unit is dropped (DESIGN CHOICE, log entry 92). -/
def flitPhase (n s a : Nat) : Nat :=
  let period := 256 * a / (640 * n)
  let off := 256 * a % (640 * n)
  let sym := 2 + off / 32 / n * 256 / 10
  let bit := if off = 0 then 0 else sym / s * 10 + off / 32 / n * 256 % 10
  16384 * (5440 * period + bit * s) / 54400

/-- The first CK_CORE cycle at or after the beginning of slot `a`. -/
def slotCycle (spe a : Nat) : Nat := (a * 4096 + spe - 1) / spe

/-- The first slot that begins at or after CK_CORE cycle `t`. -/
def slotAt (spe t : Nat) : Nat := (t * spe + 4095) / 4096

/-- The slot's place in its shift. -/
def State.slotInShift (s : State) (spe a : Nat) : Nat := a % (s.shiftLen / 4096 * spe)

/-- The modes in which a group leaves OFF and trains (R652). -/
def State.trainMode (s : State) : Bool :=
  s.mode == Mode.train || s.mode == Mode.lock || s.running

/-- Tandem states (R401). -/
def TND.off : Nat := 0
def TND.train : Nat := 1
def TND.join : Nat := 2
def TND.joined : Nat := 3
def TND.solo : Nat := 4
def TND.fenced : Nat := 5
def TND.wait : Nat := 6

def State.tnd? (s : State) : Nat := s.f F.GLB_TND_STAT_STATE

/-- The active image has FLAGS.TANDEM (R107). -/
def State.tandemImage (s : State) : Bool := s.cfg.imageActive && (s.cfg.active.hdr.any fun h => Nat.testBit h.flags.toNat 0)

/-- A block with an active tandem image trains its groups only in JOINED or SOLO (R403). -/
def State.tandemTrains (s : State) : Bool := !s.tandemImage || s.tnd? == TND.joined || s.tnd? == TND.solo

/-- The tandem state is FENCED: the block acts for no identity (R412). -/
def State.fenced (s : State) : Bool := s.tnd? == TND.fenced

/-- The physical lane that DESKEW found to carry logical lane `l` of group `g` (R166). -/
def State.wirePhys (s : State) (g l : Nat) : Nat :=
  let x := s.lg g
  let n := s.setLanes g
  let base := s.f (F.LNK_LGn_CFG_BASE g)
  let i := ((List.range 16).find? fun i => x.rxPos.getD i i == (l - base) / n).getD ((l - base) / n)
  base + n * i + (kget [] x.rxOrd i).getD ((l - base) % n) ((l - base) % n)

/-- The physical lane on which logical lane `l` of group `g` is received (R166, R224): a spare in service for it, else its own. -/
def State.rxPhys (s : State) (g l : Nat) : Nat :=
  if s.f F.LNK_SPARE_STAT_RX16_LANE = l then 16 else if s.f F.LNK_SPARE_STAT_RX17_LANE = l then 17 else s.wirePhys g l

/-- The logical lanes of the group at its configured width, and those in use at the present width (R165, R210). -/
def State.cfgLanes (s : State) (g : Nat) : List Nat :=
  (List.range (s.cfgWidth g)).map fun i => s.f (F.LNK_LGn_CFG_BASE g) + i
def State.nowLanes (s : State) (g : Nat) : List Nat :=
  (List.range (s.nowWidth g)).map fun i =>
    s.f (F.LNK_LGn_CFG_BASE g) + s.f (F.LNK_LGn_STAT_SEL g) * s.nowWidth g + i

/-- The physical lanes of lane set `i` of the group as wired; 16 and 17 stand for the spares. In a set of several lanes a spare in
service stands in its lane's place (R207). -/
def State.setPhys (s : State) (g i : Nat) : List Nat :=
  let m := s.setLanes g
  if i ≥ 16 then [i] else
  (List.range m).map fun j =>
    let q := s.f (F.LNK_LGn_CFG_BASE g) + i * m + j
    if m = 1 then q else ((s.cfgLanes g).find? fun l => s.wirePhys g l == q).elim q fun l => s.rxPhys g l

/-- RX valid is active on every lane of the group (R168), a spare in service among them. -/
def State.groupSignal (s : State) (g : Nat) : Bool :=
  (s.cfgLanes g).all fun l => s.flag (F.LNK_Ln_STAT_SIG (s.rxPhys g l))

/-! ## Lane controls and transmit words (R151 to R163) -/

/-- Fields of LNK_SPARE_STAT for spare `p`, 16 or 17 (R224). -/
def spareTx (p : Nat) : Fld := if p = 16 then F.LNK_SPARE_STAT_TX16_LANE else F.LNK_SPARE_STAT_TX17_LANE
def spareTxLg (p : Nat) : Fld := if p = 16 then F.LNK_SPARE_STAT_TX16_LG else F.LNK_SPARE_STAT_TX17_LG
def spareRx (p : Nat) : Fld := if p = 16 then F.LNK_SPARE_STAT_RX16_LANE else F.LNK_SPARE_STAT_RX17_LANE
def spareRxLg (p : Nat) : Fld := if p = 16 then F.LNK_SPARE_STAT_RX16_LG else F.LNK_SPARE_STAT_RX17_LG

/-- A lane's number that stands for a spare not in service (R224). -/
def noLane : Nat := 0x1F

/-- The UP groups that may use spare `p` (R167), the lowest first. -/
def State.spareUsers (s : State) (p : Nat) : List Nat :=
  (List.range 8).filter fun g => s.lgUp g && s.flag (F.LNK_LGn_CTRL_EN g) && Nat.testBit (s.f (F.LNK_LGn_CFG_SPARE_OK g)) (p - 16)

/-- The group that drives transmit lane `l`: for a spare the one it serves, or one that keeps it in standby (R155, R167). -/
def State.txGroup (s : State) (l : Nat) : Option Nat :=
  if l < 16 then (List.range 8).find? fun g => s.tstate g != TS.off && (s.cfgLanes g).contains l
  else if s.f (spareTx l) ≠ noLane then (if s.tstate (s.f (spareTxLg l)) = TS.off then none else some (s.f (spareTxLg l)))
  else (s.spareUsers l).head?

/-- The group whose data lane `l` receives, or that keeps the spare for itself. -/
def State.rxGroup (s : State) (l : Nat) : Option Nat :=
  if l < 16 then s.txGroup l
  else if s.f (spareRx l) ≠ noLane then (if s.tstate (s.f (spareRxLg l)) = TS.off then none else some (s.f (spareRxLg l)))
  else (s.spareUsers l).head?

/-- The controls of lane `l` follow their conditions (R154, R155): electrical idle where no group drives it or TX_IDLE is set, and
the precoding of its group. -/
def State.syncLane (s : State) (l : Nat) : State :=
  let x := s.lane l
  let idle := (s.txGroup l).isNone || s.flag (F.LNK_Ln_CTRL_TX_IDLE l)
  let tx := (s.txGroup l).any fun g => s.flag (F.LNK_LGn_CFG_PRECODE_TX g)
  let rx := (s.rxGroup l).any fun g => s.flag (F.LNK_LGn_CFG_PRECODE_RX g)
  let s1 := if idle = x.idle then s else s.emit (.laneIdle l idle)
  let s2 := if tx = x.preTx && rx = x.preRx then s1 else s1.emit (.precode l tx rx)
  s2.setLane l { x with idle := idle, preTx := tx, preRx := rx, txLen := if idle then 0 else x.txLen, txBits := if idle then 0 else x.txBits }

def State.syncLanes (s : State) : State := (List.range 18).foldl (fun a l => a.syncLane l) s

/-- `len` bits join the stream of lane `l`, the first in bit 0; each 256 of them leave as a word (R152). The first argument bounds
the words. -/
def State.laneBits : Nat → State → Nat → Nat → Nat → State
  | 0, s, _, _, _ => s
  | fuel + 1, s, l, bits, len =>
    let x := s.lane l
    if x.idle then s else
    let all := x.txBits.toNat + 2 ^ x.txLen * bits
    if x.txLen + len < 256 then s.setLane l { x with txBits := BitVec.ofNat 256 all, txLen := x.txLen + len }
    else
      let used := 256 - x.txLen
      State.laneBits fuel ((s.setLane l { x with txBits := 0, txLen := 0 }).emit (.laneWord l (BitVec.ofNat 256 all))) l
        (bits / 2 ^ used) (len - used)

/-- The symbols of codeword `cw` that lane `j` of a set of `n` lanes carries (R160), as one number, and back from the lanes. -/
def laneSymbols (cw n j : Nat) : Nat :=
  (List.range (544 / n)).foldr (fun m a => a * 2 ^ 10 + bits cw (10 * (n * m + j)) 10) 0

def setSymbols (n : Nat) (lanes : List Nat) : Nat :=
  (List.range 544).foldr (fun k a => a * 2 ^ 10 + bits (lanes.getD (k % n) 0) (10 * (k / n)) 10) 0

/-- Codeword `cw` leaves on the physical lanes `ls` of a set (R160). -/
def State.sendCodeword (s : State) (ls : List Nat) (cw : Nat) : State :=
  let n := ls.length
  ((List.range n).zip ls).foldl (fun a (j, l) => a.laneBits 24 l (laneSymbols cw n j) (5440 / n)) s

/-- A codeword without flit data, with this LANE value: its data is free (R167, R209, R210). -/
def State.sendFill (s : State) (ls : List Nat) (lane cwn : Nat) : State :=
  let (i, s1) := s.draw
  s1.sendCodeword ls (codewordSeal lane cwn (Config.fillData i).toNat)

/-- The spares that logical lane `l` is sent on, and whether its own lane is still the one that a spare mirrors (R209). -/
def State.txSpares (s : State) (l : Nat) : List Nat := [16, 17].filter fun p => s.f (spareTx p) == l
def State.mirrors (s : State) (g l : Nat) : Bool :=
  s.txSpares l == ((s.lg g).remap.toList.filter fun r => !r.receiver && r.lane == l).map fun r => r.spare

/-- The codewords of one period of group `g` leave (R157 to R163): for each lane set in use its stripes, on the old lane and on the
spare while a remap mirrors it, on a spare alone once the remap is done, the old lane then carrying LANE = 0x1F (R209); idle codewords
on dropped lanes (R210); and standby codewords on the spares that this group keeps ready (R167). -/
def State.sendPeriod (s : State) (g cwn : Nat) (bytes : List Byte) : State :=
  let m := s.setLanes g
  let n := s.nowWidth g / m
  let base := s.f (F.LNK_LGn_CFG_BASE g)
  let first := base + s.f (F.LNK_LGn_STAT_SEL g) * s.nowWidth g
  let s1 := (List.range n).foldl (fun a i =>
    let data := ((List.range 20).map fun p => (bytes.drop (32 * (p * n + i))).take 32).flatten
    let l := first + i * m
    let ls := (List.range m).map fun j => l + j
    let cw := codewordSeal l cwn (leNat data)
    let b := (a.txSpares l).foldl (fun b p => b.sendCodeword [p] cw) a
    if (a.txSpares l).isEmpty || a.mirrors g l then b.sendCodeword ls cw else b.sendFill ls 0x1F cwn) s
  let s2 := (List.range (s.cfgWidth g / m)).foldl (fun a i =>
    let l := base + i * m
    if first ≤ l ∧ l < first + s.nowWidth g then a else a.sendFill ((List.range m).map fun j => l + j) l cwn) s1
  [16, 17].foldl (fun a p =>
    if a.f (spareTx p) = noLane && (a.spareUsers p).head? == some g then a.sendFill [p] 0x1E cwn else a) s2

/-- The bytes of the flit of slot `a` join the codeword period under way; a period whose bytes are all there leaves (R163). A period
of which a slot was not commanded sends no codeword (DESIGN CHOICE, log entry 93). -/
def State.stripeOut (s : State) (g a : Nat) (f : Flit) : State :=
  let x := s.lg g
  let size := 640 * (s.nowWidth g / s.setLanes g)
  let pos := 256 * a
  let head := if x.txPos = pos then x.txBuf else []
  let bs := natLe 16 f.hdr.toNat ++ natLe 240 f.pay.toNat
  let room := size - pos % size
  let whole := decide (head.length = pos % size)
  if room > 256 then s.setLg g { x with txBuf := if whole then head ++ bs else [], txPos := pos + 256 }
  else
    let s1 := s.setLg g { x with txBuf := bs.drop room, txPos := pos + 256 }
    if whole then s1.sendPeriod g (pos / size % 160) (head ++ bs.take room) else s1

/-! ## Class S: calendars, placement, holes -/

/-- The calendar that runs in a direction: the normal one, the fallback one at degraded width, or all open (R131, R211,
R213). -/
def State.liveCalendar (s : State) (g dir : Nat) : List Nat :=
  if !s.planLive then [] else
  if s.flag (F.LNK_LGn_STAT_DEGRADED g) then
    if s.flag (F.SCH_LGn_PEER_FALLBACK g) then s.cfg.active.calendar g dir (some (s.f (F.LNK_LGn_STAT_WIDTH g))) else []
  else s.cfg.active.calendar g dir none

/-- The group runs at a degraded width without a fallback calendar: its Class S egress flits are discarded (R213). -/
def State.noWidth (s : State) (g : Nat) : Bool := s.flag (F.LNK_LGn_STAT_DEGRADED g) && !s.flag (F.SCH_LGn_PEER_FALLBACK g)

/-- CSV on a Class S flit: kept from the way here, or set while a cause of R83 applies (R85). Plan suspension does not
touch transit. LG_VOID counts among the causes also where the peer's VOID alone sets it (DESIGN CHOICE, log entry 94). -/
def State.csvFor (s : State) (g : Nat) (transit was : Bool) : Bool :=
  let cls := (s.reg R.SCH_CLS_STAT).toNat
  was || decide (bits cls 0 7 &&& (if transit then 0b1101111 else 0b1111111) ≠ 0) || Nat.testBit cls (8 + g)

/-- A flit of `tag` in a slot that began at `ph` is counted in its shift: how many came before it there (R328; log entry 103). -/
def State.countTag (s : State) (ph tag : Nat) : Nat × State :=
  if s.sch.lastBoundary.any fun b => decide (ph < 64 * b.toNat) then
    (kget 0 s.lnk.landPrev tag, { s with lnk := { s.lnk with landPrev := kmod 0 s.lnk.landPrev tag (· + 1) } })
  else (kget 0 s.lnk.landK tag, { s with lnk := { s.lnk with landK := kmod 0 s.lnk.landK tag (· + 1) } })

/-- A Class S flit whose slot began on the sender's lanes at `ph`, in phase units: a queue tag's flit goes to the queue engine (R281),
a landing waits for its landing cycle (R328), a forward passes into the forwarding buffer of the outgoing group, up to 512 flits
(R191), unless that discards its Class S (R213). -/
def State.placeClassS (s : State) (g ph tag : Nat) (hole csv : Bool) (pay : BitVec 1920) : State :=
  let flight := s.cfg.active.lineDelay g + s.cfg.active.pmaIn g
  let land := (ph + flight + 96 * 64 + 63) / 64
  match s.cfg.active.tagKind tag with
  | .forward og =>
    if (s.lg og).fwd.length ≥ 512 || s.noWidth og then s else
    let same := s.f (F.LNK_LGn_STAT_WIDTH g) == s.f (F.LNK_LGn_STAT_WIDTH og) && s.f (F.LNK_LGn_CFG_RATE g) == s.f (F.LNK_LGn_CFG_RATE og)
    let out := (ph + flight + (if same then 160 else 192) * 64 + 63) / 64
    let c := csv || s.csvFor g true false
    s.modLg og fun x => { x with
      fwd := x.fwd ++ [{ tag := BitVec.ofNat 17 tag, hole := hole, csv := c, pay := pay, due := BitVec.ofNat 64 out, k := 0 }] }
  | _ =>
    let (k, s1) := (if csv then s.count (Cnt.lg g 14) 1 else s).countTag ph tag
    s1.modLg g fun x => { x with
      sLand := x.sLand ++ [{ tag := BitVec.ofNat 17 tag, hole := hole, csv := csv, pay := pay, due := BitVec.ofNat 64 land, k := k }] }

/-- A hole is produced for the Class S slot that began at `ph` (R84, R181, R192). -/
def State.produceHole (s : State) (g ph tag reason : Nat) : State :=
  (s.count (Cnt.lg g 4) 1).placeClassS g ph tag true false (holePay reason s.epid (ph / 64))

/-- Holes at the Class S slots from `a` up to `b` of ingress calendar `cal`, on a grid of `spe` slots an epoch: no flit of those
slots can arrive (R29, R84, R213). -/
def State.holesIn (s : State) (g spe a b : Nat) (cal : List Nat) (reason : Nat) : State :=
  if cal.isEmpty then s else
  (List.range (b - a)).foldl (fun t i =>
    let (cls, tag) := calAt cal (s.slotInShift spe (a + i))
    if cls = 0 then t.produceHole g (slotPhase spe (a + i)) tag reason else t) s

/-- The first slot whose flit may still arrive. -/
def State.nextArrival (s : State) (g : Nat) : Nat :=
  let flight := (s.f (F.SCH_LGn_DELAY_DELAY g) + s.cfg.active.pmaIn g) / 64
  max (s.lg g).inSlot (slotAt (s.spe g) (s.sch.ft.toNat - flight))

/-- The group's width becomes code `c`, block `sel`; the slot numbers of R216 go on without a gap. -/
def State.setWidth (s : State) (g c sel : Nat) : State :=
  let t := s.sch.ft.toNat / 4096 * 4096
  let old := slotAt (s.spe g) t
  let s1 := (s.setF (F.LNK_LGn_STAT_WIDTH g) c).setF (F.LNK_LGn_STAT_SEL g) sel
  let new := slotAt (s1.spe g) t
  s1.modLg g fun x => { x with
    egSlot := 0, inSlot := 0, txSlot := x.txSlot + (old : Int) - (new : Int), rxSlot := x.rxSlot + (old : Int) - (new : Int),
    rxPrev := x.rxPrev + (old : Int) - (new : Int) }

/-- The group's training context starts again at configured width (R168, R210). -/
def State.freshTraining (s : State) (g : Nat) : State :=
  let x := s.lg g
  let s1 := s.setLg g { x with
    paramSeen := false, ackSeen := false, peerKeep := false, dlyCount := 0, dlySum := 0,
    dlyAnswered := 0, dlyRsp := [], goodCw := [], rxCws := [], rxCarry := [], rxq := [], laneOwed := false, freed := [], ctrlQ := [], ctrlOut := [], ctrlAns := [], remap := none, width := none,
    restore := none, restoreAcked := false, goodEpochs := 0, dropSeen := [], dropBad := false, egSlot := 0, inSlot := 0,
    nakOut := false, nakOwed := false, ackOwed := false, accepted := 0, resend := x.replay.length, creditDue := false }
  let s2 := (((s1.setWidth g (s.f (F.LNK_LGn_CFG_WIDTH g)) 0).setB (F.LNK_LGn_STAT_DEGRADED g) false).setB
    (F.LNK_LGn_STAT_REMAP_BUSY g) false).setB (F.LNK_LGn_STAT_WIDTH_BUSY g) false
  let s3 := s2.setB (F.SCH_LGn_PEER_FALLBACK g) false
  (List.range 8).foldl (fun a v => a.setF (F.LNK_LGn_CREDv_TX_AVAIL g v) 0) s3

/-- IN_USE and LG of the lanes that receive for the group: set on those at the present width of an UP group (R225). -/
def State.markInUse (s : State) (g : Nat) : State :=
  (s.cfgLanes g).foldl (fun a l =>
    (a.setB (F.LNK_Ln_STAT_IN_USE (s.rxPhys g l)) (s.lgUp g && (s.nowLanes g).contains l)).setF (F.LNK_Ln_STAT_LG (s.rxPhys g l)) g) s

/-- The group leaves UP, if it is UP: EV_LNK_DOWN, the group-scoped void cause of lost training begins (R83, R169), and the Class S
slots of the epoch whose flits have not arrived become holes, as those of each later epoch do while the group is down (R29, R84). -/
def State.leaveUp (s : State) (g : Nat) : State :=
  if s.lgUp g then
    let s1 := s.raise (EV.lnkDown g)
    let s2 := (s1.cfgLanes g).foldl (fun a l => a.setB (F.LNK_Ln_STAT_IN_USE (a.rxPhys g l)) false) s1
    let s3 := s2.holesIn g (s2.spe g) (s2.nextArrival g) ((s2.sch.ft.toNat / 4096 + 1) * s2.spe g) (s2.liveCalendar g 1) Hole.lost
    (s3.setSchGroup g { s3.schGroup g with voidTrain := true }).refreshVoid
  else s

/-- Lanes treated as failed, or failing (R206): FAILED, EXCLUDE, no RX valid, or more corrected symbols than LNK_REMAP_THR.THR. -/
def State.laneBad (s : State) (l : Nat) : Bool :=
  s.flag (F.LNK_Ln_STAT_FAILED l) || s.flag (F.LNK_Ln_CTRL_EXCLUDE l) || !s.flag (F.LNK_Ln_STAT_SIG l) ||
    decide ((s.lane l).corrected > s.f F.LNK_REMAP_THR_THR)

/-- The spares that may serve the group and are not in service on the receive side (R167). -/
def State.freeSpares (s : State) (g : Nat) : List Nat :=
  [16, 17].filter fun p =>
    Nat.testBit (s.f (F.LNK_LGn_CFG_SPARE_OK g)) (p - 16) && s.f (spareRx p) == noLane &&
    s.flag (F.LNK_Ln_STAT_SIG p) && !s.flag (F.LNK_Ln_CTRL_EXCLUDE p) && !s.flag (F.LNK_Ln_STAT_FAILED p)

/-- Below 425 Gb/s a spare enters service through retraining (R207): one for each failed lane of the group, while spares are free.
The spec gives no message by which the sender learns of it: the receive side alone is set (DESIGN CHOICE, log entry 95). -/
def State.placeSpares (s : State) (g : Nat) : State :=
  if s.setLanes g = 1 || !s.flag (F.LNK_LGn_CTRL_REMAP_EN g) then s else
  (s.cfgLanes g).foldl (fun a l =>
    if !a.laneBad (a.rxPhys g l) then a else
    match a.freeSpares g with
    | p :: _ => ((a.setF (spareRx p) l).setF (spareRxLg p) g).setB (F.LNK_Ln_STAT_SPARE p) true
    | [] => a) s

/-- SIGNAL is left for ALIGN when every lane has a signal and the mode trains (R168, R652). -/
def State.pollSignal (s : State) (g : Nat) : State :=
  if s.tstate g = TS.signal && s.trainMode && s.groupSignal g then
    (s.setF (F.LNK_LGn_STAT_TSTATE g) TS.align).modLg g fun x => { x with entered := s.now, goodCw := [] }
  else s

/-- The group goes to SIGNAL; `keep` is the SEQ_KEEP that the next training sends (R169, R173). -/
def State.toSignal (s : State) (g : Nat) (keep : Bool) : State :=
  let up := s.lgUp g
  let s1 := (s.leaveUp g).freshTraining g
  let s2 := (s1.setF (F.LNK_LGn_STAT_TSTATE g) TS.signal).modLg g fun x => { x with entered := s.now, seqKeep := keep }
  ((if up then s2.placeSpares g else s2).syncLanes).pollSignal g

/-- A group that is enabled and active leaves OFF in a training mode (R168, R652). -/
def State.pollOff (s : State) (g : Nat) : State :=
  if s.tstate g = TS.off && s.flag (F.LNK_LGn_CTRL_EN g) && s.flag (F.LNK_LGn_CFG_ACTIVE g) && s.trainMode && s.tandemTrains then
    s.toSignal g (s.lg g).seqKeep
  else s

/-- The group goes to OFF, its lanes to electrical idle (R652). -/
def State.groupOff (s : State) (g : Nat) : State :=
  if s.tstate g = TS.off then s else
  (((s.leaveUp g).freshTraining g).setF (F.LNK_LGn_STAT_TSTATE g) TS.off).syncLanes

/-- A failure that retrains the group with SEQ_KEEP = 1 (R196, R203): its status bit is set. -/
def State.lgFail (s : State) (g : Nat) (x : Fld) : State := (s.hit x).toSignal g true

/-! ## CTRL messages (R182, R183) -/

/-- A CTRL or TRAIN flit waits to be sent. -/
def State.queueCtrl (s : State) (g typ : Nat) (pay : BitVec 1920) : State :=
  s.modLg g fun x => { x with ctrlQ := x.ctrlQ ++ [mkFlit typ 0 false false false 0 0 pay] }

/-- A CTRL request with a transaction number of its own, to be repeated until its answer arrives. -/
def State.sendRequest (s : State) (g cmd args : Nat) : State :=
  let t := (s.lg g).nextTxn
  let pay := ctrlPay cmd t.toNat args
  (s.queueCtrl g FT.ctrl pay).modLg g fun x =>
    { x with nextTxn := t + 1, ctrlOut := x.ctrlOut ++ [{ txn := t, pay := pay, sent := s.now }] }

/-- The answer to a request, remembered for its repetition. -/
def State.sendAnswer (s : State) (g : Nat) (txn cmd args : Nat) : State :=
  let pay := ctrlPay cmd txn args
  (s.queueCtrl g FT.ctrl pay).modLg g fun x =>
    { x with ctrlAns := ({ txn := BitVec.ofNat 8 txn, pay := pay, sent := s.now } :: x.ctrlAns).take 16 }

/-- The request of transaction `txn` has its answer. -/
def State.endRequest (s : State) (g txn : Nat) : State :=
  s.modLg g fun x => { x with ctrlOut := x.ctrlOut.filter fun r => r.txn.toNat != txn }

/-- The answer already given to transaction `txn`. -/
def State.answered (s : State) (g txn : Nat) : Option CtrlReq := (s.lg g).ctrlAns.find? fun r => r.txn.toNat == txn

/-- The present mark epoch, and an epoch number as sent in CTRL flits (R182). -/
def State.epochNo (s : State) : Nat := s.sch.ft.toNat / 4096
def epoch28 (e : Nat) : Nat := e % 2 ^ 28

/-! ## Credits and the replay buffer (R193 to R204) -/

def State.txAvail (s : State) (g v : Nat) : Nat := s.f (F.LNK_LGn_CREDv_TX_AVAIL g v)
def State.rxSize (s : State) (g v : Nat) : Nat := s.f (F.LNK_LGn_CREDv_RX_POOL g v)
def State.rxFree (s : State) (g v : Nat) : Nat := s.rxSize g v - kget 0 (s.lg g).rxUsed v

/-- The free space of pool `v` that PARAM advertises (R172): what is free less what will be returned as credits (R195). -/
def State.advertised (s : State) (g v : Nat) : Nat := s.rxFree g v - kget 0 (s.lg g).freed v

/-- The first landing slot of pool `v` in the group's landing region: the pools follow one another (R193; DESIGN CHOICE, log
entry 40). -/
def State.poolBase (s : State) (g v : Nat) : Nat := (List.range v).foldl (fun a u => a + s.rxSize g u) 0

/-- The staging memory address of landing slot `i` of the group (R193, R229). -/
def State.landAddr (s : State) (g i : Nat) : Nat := (65536 * s.f (F.LNK_LGn_LAND_BASE g) + 256 * i) % 2 ^ 26

/-- The staging memory address of the copy of flit number `n` in the group's replay buffer (R199, R293). -/
def State.replayAddr (s : State) (g n : Nat) : Nat :=
  (2 ^ 21 * (s.f F.STR_REPLAY_BASE + g) + 256 * (n % 8192)) % 2 ^ 26

/-- Landing slot `i` of pool `v` is freed: the credit waits to be returned (R195). -/
def State.freeSlot (s : State) (g v i : Nat) : State :=
  s.modLg g fun x =>
    let n := kget 0 x.freed v + 1
    { x with
      landHeld := kset [] x.landHeld v ((kget [] x.landHeld v).filter fun j => j != i)
      rxUsed := kset 0 x.rxUsed v (kget 0 x.rxUsed v - 1)
      freed := kset 0 x.freed v n
      freedAt := if x.freed.isEmpty then s.now else x.freedAt
      creditDue := x.creditDue || decide (n ≥ 2048) }

/-- UNACKED follows the replay buffer (R230). -/
def State.syncUnacked (s : State) (g : Nat) : State := s.setF (F.LNK_LGn_SEQ_UNACKED g) (s.lg g).replay.length

/-- An ACK of number `n` frees the flits up to it (R202); one beyond the last number sent is a protocol error (R196). -/
def State.ackUpTo (s : State) (g n : Nat) : State :=
  let x := s.lg g
  let oldest := (s.f (F.LNK_LGn_SEQ_TX_NEXT g) + 2 ^ 17 - x.replay.length) % 2 ^ 17
  let k := (n + 1 + 2 ^ 17 - oldest) % 2 ^ 17
  if k = 0 then s else
  if k ≤ x.replay.length then
    (s.setLg g { x with
      replay := x.replay.drop k, resend := min x.resend (x.replay.length - k), ackAt := s.now, timeouts := 0 }).syncUnacked g
  else if k < 2 ^ 16 then s.lgFail g (F.LNK_LGn_STAT_PROTO_ERR g)
  else s

/-- A NAK asks for every unacknowledged flit again (R202). -/
def State.replayAll (s : State) (g : Nat) : State := s.modLg g fun x => { x with resend := x.replay.length }

/-- The link control word of a received flit (R177). -/
def State.takeControlWord (s : State) (g w : Nat) : State :=
  let ack := bits w 0 17
  let s1 := if Nat.testBit w 17 then s.ackUpTo g ack else s
  if s.lgUp g && !s1.lgUp g then s1 else
  let s2 := if Nat.testBit w 17 && Nat.testBit w 18 then
      (s1.count (Cnt.lg g 8) 1).replayAll g
    else s1
  let v := bits w 19 3
  let n := bits w 22 12
  if n = 0 then s2 else
  let c := s2.txAvail g v + n
  if c > kget 0 (s2.lg g).peerPool v then s2.lgFail g (F.LNK_LGn_STAT_PROTO_ERR g)
  else s2.setF (F.LNK_LGn_CREDv_TX_AVAIL g v) c

/-- The link control word that the next flit without a mark carries, and the state after it has left (R177, R195, R200,
R201). -/
def State.makeControlWord (s : State) (g : Nat) : Nat × State :=
  let x := s.lg g
  let ackv := x.ackOwed || x.nakOwed
  let ack := (s.f (F.LNK_LGn_RSEQ_RX_NEXT g) + 2 ^ 17 - 1) % 2 ^ 17
  let pool := if x.creditDue && s.lgUp g then x.freed.head? else none
  let w := (if ackv then ack + 2 ^ 17 + 2 ^ 18 * b2n x.nakOwed else 0) +
    match pool with
    | some (v, n) => 2 ^ 19 * v + 2 ^ 22 * min n 4095
    | none => 0
  let freed := match pool with
    | some (v, n) => kset 0 x.freed v (n - min n 4095)
    | none => x.freed
  (w, s.setLg g { x with
    ackOwed := false, nakOwed := false, freed := freed
    accepted := if ackv then 0 else x.accepted
    ackSentAt := if ackv then s.now else x.ackSentAt
    creditDue := x.creditDue && !freed.isEmpty })

/-- The smallest key whose value satisfies `p`, taking keys `ks` in order. -/
def firstKey {α : Type} (d : α) (m : KMap α) (p : α → Bool) : List Nat → Option Nat
  | [] => none
  | k :: ks => if p (kget d m k) then some k else firstKey d m p ks

/-- Whether a new B-class flit of class `v` can leave: one waits and has a credit (R194). -/
def State.bReady (s : State) (g v : Nat) : Bool :=
  !(kget [] (s.lg g).bq v).isEmpty && (decide (0 < s.txAvail g v) || decide (0 < s.txAvail g 0))

/-- The class whose new flit an open slot of class `cls` takes: `cls` itself, then the others in round-robin order
(R189). -/
def State.pickClass (s : State) (g cls : Nat) : Option Nat :=
  if s.bReady g cls then some cls else
  ((List.range 7).map fun i => ((s.lg g).rr + i) % 7 + 1).find? fun v => s.bReady g v

end Sys2Proof.Machine
end

