-- ==== Sys2Proof/Machine/SoftFloat.lean ====
section
/-! DEFINITION. Floating point (R347 to R373): formats, rounding, flags, and the operations of drifts, of the reduction unit
and of threads. A result is the encoding and the flags it raises. -/

namespace Sys2Proof.Machine

/-- A format of R347: width, fraction bits, exponent bits; E4M3 has no infinity. -/
structure Fmt where
  w : Nat
  mb : Nat
  eb : Nat
  e4m3 : Bool
  deriving DecidableEq, Repr

def Fmt.f64 : Fmt := ⟨64, 52, 11, false⟩
def Fmt.f32 : Fmt := ⟨32, 23, 8, false⟩
def Fmt.f16 : Fmt := ⟨16, 10, 5, false⟩
def Fmt.bf16 : Fmt := ⟨16, 7, 8, false⟩
def Fmt.f8e5 : Fmt := ⟨8, 2, 5, false⟩
def Fmt.f8e4 : Fmt := ⟨8, 3, 4, true⟩

/-- Exponent bias, and the exponent of the subnormal unit. -/
def Fmt.bias (t : Fmt) : Nat := 2 ^ (t.eb - 1) - 1
def Fmt.qmin (t : Fmt) : Int := 1 - (t.bias : Int) - t.mb

/-- Flags (R361). -/
def FF.nv : Nat := 1
def FF.dz : Nat := 2
def FF.of : Nat := 4
def FF.uf : Nat := 8
def FF.nx : Nat := 16

/-- The canonical NaN (R350), infinity, zero, and the largest finite value, signed. -/
def Fmt.nan (t : Fmt) : Nat := if t.e4m3 then 0x7F else (2 ^ t.eb - 1) * 2 ^ t.mb + 2 ^ (t.mb - 1)
def Fmt.sgn (t : Fmt) (neg : Bool) (code : Nat) : Nat := code + b2n neg * 2 ^ (t.w - 1)
def Fmt.inf (t : Fmt) (neg : Bool) : Nat := t.sgn neg ((2 ^ t.eb - 1) * 2 ^ t.mb)
def Fmt.zero (t : Fmt) (neg : Bool) : Nat := t.sgn neg 0
def Fmt.maxCode (t : Fmt) : Nat := if t.e4m3 then 0x7E else (2 ^ t.eb - 1) * 2 ^ t.mb - 1
def Fmt.maxVal (t : Fmt) (neg : Bool) : Nat := t.sgn neg t.maxCode

/-- A decoded operand: a NaN and whether it signals, an infinity, or ± m · 2^e. -/
inductive FVal where
  | nan (signalling : Bool)
  | inf (neg : Bool)
  | fin (neg : Bool) (m : Nat) (e : Int)
  deriving DecidableEq, Repr

/-- The operand that `x` encodes (R347, R352). -/
def Fmt.decode (t : Fmt) (x : Nat) : FVal :=
  let neg := Nat.testBit x (t.w - 1)
  let ef := bits x t.mb t.eb
  let fr := bits x 0 t.mb
  if t.e4m3 && ef == 15 && fr == 7 then .nan false
  else if !t.e4m3 && ef == 2 ^ t.eb - 1 then (if fr = 0 then .inf neg else .nan (!Nat.testBit fr (t.mb - 1)))
  else if ef = 0 then .fin neg fr t.qmin
  else .fin neg (fr + 2 ^ t.mb) (t.qmin + (ef - 1 : Nat))

def FVal.isNan : FVal → Bool
  | .nan _ => true
  | _ => false

def FVal.isSnan : FVal → Bool
  | .nan b => b
  | _ => false

/-- Rounding modes (R355). -/
def RM.near : Nat := 0
def RM.zero : Nat := 1
def RM.up : Nat := 2
def RM.down : Nat := 3
def RM.stoch : Nat := 4

/-- `m` without its `k` lowest bits, rounded in `mode` (R355, R359; `r` are the generator's 24 bits), and whether it was
inexact. -/
def roundShift (mode r : Nat) (neg : Bool) (m k : Nat) : Nat × Bool :=
  let n := m >>> k
  let rem := m % 2 ^ k
  let half := 2 ^ k
  let up := match mode with
    | 0 => decide (2 * rem > half) || (decide (2 * rem = half ∧ 0 < k) && n % 2 == 1)
    | 1 => false
    | 2 => !neg && rem != 0
    | 3 => neg && rem != 0
    | _ => decide ((rem * 2 ^ 24) >>> k + r ≥ 2 ^ 24)
  (n + b2n (up && rem != 0), rem != 0)

/-- The exact value ± m · 2^e with m > 0 rounded to a format (R355 to R359, R364, R365): encoding and flags. -/
def Fmt.round (t : Fmt) (mode r : Nat) (neg : Bool) (m : Nat) (e : Int) : Nat × Nat :=
  let top : Int := e + Nat.log2 m
  let qu := top - t.mb
  let q := max qu t.qmin
  let at_ (q : Int) : Nat × Bool := if q ≤ e then (m * 2 ^ (e - q).toNat, false) else roundShift mode r neg m (q - e).toNat
  let (n, nx) := at_ q
  let nu := (at_ qu).1
  let tiny := decide (top + 1 < t.qmin + t.mb) || (decide (top < t.qmin + t.mb) && decide (nu < 2 ^ (t.mb + 1)))
  let code := (q - t.qmin).toNat * 2 ^ t.mb + n
  if code > t.maxCode then
    let m := t.maxVal neg
    let res := if t.e4m3 then m else match mode with
      | 1 => m
      | 2 => if neg then m else t.inf neg
      | 3 => if neg then t.inf neg else m
      | _ => t.inf neg
    (res, FF.of + FF.nx)
  else (t.sgn neg code, if nx then (if tiny then FF.uf + FF.nx else FF.nx) else 0)

/-- A canonical NaN, with NV where `nv` says. -/
def Fmt.nanRes (t : Fmt) (nv : Bool) : Nat × Nat := (t.nan, if nv then FF.nv else 0)

/-- The exact sum of two finite values rounded; a zero sum has the sign of R354. -/
def Fmt.sum (t : Fmt) (mode r : Nat) (na : Bool) (ma : Nat) (ea : Int) (nb : Bool) (mb : Nat) (eb : Int) : Nat × Nat :=
  let e := min ea eb
  let va : Int := (if na then -1 else 1) * (ma * 2 ^ (ea - e).toNat : Nat)
  let vb : Int := (if nb then -1 else 1) * (mb * 2 ^ (eb - e).toNat : Nat)
  let v := va + vb
  if v = 0 then (t.zero (if ma = 0 ∧ mb = 0 ∧ na = nb then na else mode == RM.down), 0)
  else t.round mode r (decide (v < 0)) v.natAbs e

/-- a + b; `sub` negates b. -/
def Fmt.add (t : Fmt) (mode r : Nat) (sub : Bool) (a b : Nat) : Nat × Nat :=
  match t.decode a, t.decode b with
  | .fin na ma ea, .fin nb mb eb => t.sum mode r na ma ea (nb != sub) mb eb
  | .inf na, .inf nb => if na = (nb != sub) then (t.inf na, 0) else t.nanRes true
  | .inf na, .fin _ _ _ => (t.inf na, 0)
  | .fin _ _ _, .inf nb => (t.inf (nb != sub), 0)
  | x, y => t.nanRes (x.isSnan || y.isSnan)

/-- a · b. -/
def Fmt.mul (t : Fmt) (mode r a b : Nat) : Nat × Nat :=
  match t.decode a, t.decode b with
  | .fin na ma ea, .fin nb mb eb =>
    if ma * mb = 0 then (t.zero (na != nb), 0) else t.round mode r (na != nb) (ma * mb) (ea + eb)
  | .inf na, .inf nb => (t.inf (na != nb), 0)
  | .inf na, .fin nb m _ => if m = 0 then t.nanRes true else (t.inf (na != nb), 0)
  | .fin na m _, .inf nb => if m = 0 then t.nanRes true else (t.inf (na != nb), 0)
  | x, y => t.nanRes (x.isSnan || y.isSnan)

/-- a · b + c, rounded once (R356); 0 · ∞ is invalid whatever c is (R362). -/
def Fmt.fma (t : Fmt) (mode r a b c : Nat) : Nat × Nat :=
  let x := t.decode a
  let y := t.decode b
  let z := t.decode c
  let snan := x.isSnan || y.isSnan || z.isSnan
  match x, y with
  | .nan _, _ => t.nanRes snan
  | _, .nan _ => t.nanRes snan
  | .inf _, .fin _ 0 _ => t.nanRes true
  | .fin _ 0 _, .inf _ => t.nanRes true
  | .fin na ma ea, .fin nb mb eb =>
    match z with
    | .nan b => t.nanRes b
    | .inf n => (t.inf n, 0)
    | .fin nc mc ec => t.sum mode r (na != nb) (ma * mb) (ea + eb) nc mc ec
  | x, y =>
    let np := (match x with | .inf n => n | .fin n _ _ => n | _ => false) !=
      (match y with | .inf n => n | .fin n _ _ => n | _ => false)
    match z with
    | .nan b => t.nanRes b
    | .inf n => if n = np then (t.inf n, 0) else t.nanRes true
    | .fin _ _ _ => (t.inf np, 0)

/-- a / b (R363, R374). -/
def Fmt.div (t : Fmt) (mode a b : Nat) : Nat × Nat :=
  match t.decode a, t.decode b with
  | .fin na ma ea, .fin nb mb eb =>
    let n := na != nb
    if mb = 0 then (if ma = 0 then t.nanRes true else (t.inf n, FF.dz))
    else if ma = 0 then (t.zero n, 0)
    else
      let k := t.mb + 4 + Nat.log2 mb
      let q := ma * 2 ^ k / mb
      let sticky := b2n (ma * 2 ^ k % mb != 0)
      t.round mode 0 n (2 * q + sticky) (ea - eb - k - 1)
  | .inf _, .inf _ => t.nanRes true
  | .inf na, .fin nb _ _ => (t.inf (na != nb), 0)
  | .fin na _ _, .inf nb => (t.zero (na != nb), 0)
  | x, y => t.nanRes (x.isSnan || y.isSnan)

/-- The integer square root of `n`, its bits below `k` found from the top. -/
def isqrt (n : Nat) : Nat → Nat → Nat
  | 0, r => r
  | k + 1, r => let c := r + 2 ^ k; if c * c ≤ n then isqrt n k c else isqrt n k r

/-- √a (R372). -/
def Fmt.sqrt (t : Fmt) (mode a : Nat) : Nat × Nat :=
  match t.decode a with
  | .nan s => t.nanRes s
  | .inf n => if n then t.nanRes true else (t.inf false, 0)
  | .fin n m e =>
    if m = 0 then (t.zero n, 0) else if n then t.nanRes true else
    let k := 2 * t.mb + 6 + b2n ((e - (2 * t.mb + 6 : Nat)) % 2 != 0)
    let v := m * 2 ^ k
    let root := isqrt v (Nat.log2 v / 2 + 1) 0
    t.round mode 0 false (2 * root + b2n (root * root != v)) ((e - k) / 2 - 1)

/-- Order of two finite values or infinities as signed numbers: −1, 0, 1. -/
def cmpFin (na : Bool) (ma : Nat) (ea : Int) (nb : Bool) (mb : Nat) (eb : Int) : Int :=
  let e := min ea eb
  let va : Int := (if na then -1 else 1) * (ma * 2 ^ (ea - e).toNat : Nat)
  let vb : Int := (if nb then -1 else 1) * (mb * 2 ^ (eb - e).toNat : Nat)
  if va < vb then -1 else if va = vb then 0 else 1

/-- The comparison of two numbers; `none` where one is a NaN. -/
def Fmt.cmp (t : Fmt) (a b : Nat) : Option Int :=
  match t.decode a, t.decode b with
  | .nan _, _ => none
  | _, .nan _ => none
  | .inf na, .inf nb => some (if na = nb then 0 else if na then -1 else 1)
  | .inf na, .fin _ _ _ => some (if na then -1 else 1)
  | .fin _ _ _, .inf nb => some (if nb then 1 else -1)
  | .fin na ma ea, .fin nb mb eb => some (cmpFin na ma ea nb mb eb)

/-- minimum and maximum (R368): −0 is less than +0. -/
def Fmt.minMax (t : Fmt) (isMax : Bool) (a b : Nat) : Nat × Nat :=
  match t.cmp a b with
  | none => t.nanRes ((t.decode a).isSnan || (t.decode b).isSnan)
  | some c =>
    let less := if c = 0 then Nat.testBit a (t.w - 1) else decide (c < 0)
    (if less != isMax then a % 2 ^ t.w else b % 2 ^ t.w, 0)

/-- ABS and NEG compute: a NaN gives the canonical NaN (R350, R352). -/
def Fmt.abs (t : Fmt) (a : Nat) : Nat × Nat :=
  match t.decode a with
  | .nan s => t.nanRes s
  | _ => (a % 2 ^ (t.w - 1), 0)

def Fmt.neg (t : Fmt) (a : Nat) : Nat × Nat :=
  match t.decode a with
  | .nan s => t.nanRes s
  | _ => ((a % 2 ^ t.w) ^^^ 2 ^ (t.w - 1), 0)

/-- Conversion between floating-point formats (R358, R369). -/
def Fmt.convert (src dst : Fmt) (mode r a : Nat) : Nat × Nat :=
  match src.decode a with
  | .nan s => dst.nanRes s
  | .inf n => if dst.e4m3 then dst.nanRes true else (dst.inf n, 0)
  | .fin n m e => if m = 0 then (dst.zero n, 0) else dst.round mode r n m e

/-- A signed integer to a format (R369). -/
def Fmt.ofInt (t : Fmt) (mode r : Nat) (v : Int) : Nat × Nat :=
  if v = 0 then (0, 0) else t.round mode r (decide (v < 0)) v.natAbs 0

/-- A format to an integer of `w` bits (R362): the result's bits. -/
def Fmt.toInt (t : Fmt) (mode r : Nat) (signed : Bool) (w a : Nat) : Nat × Nat :=
  let lo : Int := if signed then -(2 ^ (w - 1) : Nat) else 0
  let hi : Int := if signed then (2 ^ (w - 1) : Nat) - 1 else (2 ^ w : Nat) - 1
  match t.decode a with
  | .nan _ => (0, FF.nv)
  | .inf n => (wrapBits (if n then lo else hi) w, FF.nv)
  | .fin n m e =>
    let (q, nx) := if 0 ≤ e then (m * 2 ^ e.toNat, false) else roundShift mode r n m (-e).toNat
    let v : Int := if n then -(q : Int) else q
    if v < lo then (wrapBits lo w, FF.nv) else if v > hi then (wrapBits hi w, FF.nv) else (wrapBits v w, if nx then FF.nx else 0)

/-- The 24 bits of the generator (R360). -/
def srBits (seed ctr : Nat) : Nat :=
  let z0 : BitVec 64 := BitVec.ofNat 64 (seed + (ctr + 1) * 0x9e3779b97f4a7c15)
  let z1 := (z0 ^^^ (z0 >>> 30)) * 0xbf58476d1ce4e5b9#64
  let z2 := (z1 ^^^ (z1 >>> 27)) * 0x94d049bb133111eb#64
  ((z2 ^^^ (z2 >>> 31)) >>> 40).toNat

/-! ## Element types (R308, R348) -/

/-- The floating-point format of an element type code. -/
def typeFmt (t : Nat) : Option Fmt :=
  if t = 8 then some Fmt.f8e4 else if t = 9 then some Fmt.f8e5 else if t = 0xA then some Fmt.bf16
  else if t = 0xB then some Fmt.f16 else if t = 0xC then some Fmt.f32 else if t = 0xD then some Fmt.f64 else none

/-- Bytes of an element, and whether an integer type is signed. -/
def typeSize (t : Nat) : Nat :=
  if t ≤ 1 ∨ t = 8 ∨ t = 9 then 1 else if t ≤ 3 ∨ t = 0xA ∨ t = 0xB then 2 else if t ≤ 5 ∨ t = 0xC then 4 else 8
def typeSigned (t : Nat) : Bool := t % 2 == 1

/-- An integer element as a number. -/
def intVal (t a : Nat) : Int := if typeSigned t then sext a (8 * typeSize t) else (a % 2 ^ (8 * typeSize t) : Nat)

end Sys2Proof.Machine
end

