-- ==== Sys2Proof/Machine/StreamCmd.lean ====
section
/-! DEFINITION. Stream commands: their layout (R305, R306), checks (R310), addresses (R311) and element arithmetic (R309,
R317, R348). -/

namespace Sys2Proof.Machine

/-- Spaces (R307), modes (R306) and operations (R309). -/
def SP.none : Nat := 0
def SP.staging : Nat := 1
def SP.host : Nat := 2
def SP.ingress : Nat := 3
def SP.egress : Nat := 4
def SP.chained : Nat := 5
/-- The queue engine's side of a copy (R327); no command names it. -/
def SP.engine : Nat := 6
def AM.linear : Nat := 0
def AM.strided : Nat := 1
def AM.modulo : Nat := 2
def AM.bitrev : Nat := 3
def AM.gather : Nat := 4
def AM.scatter : Nat := 5
def SO.copy : Nat := 0
def SO.add : Nat := 1
def SO.sub : Nat := 2
def SO.mul : Nat := 3
def SO.fma : Nat := 4
def SO.axpy : Nat := 5
def SO.scale : Nat := 6
def SO.min : Nat := 7
def SO.max : Nat := 8
def SO.abs : Nat := 9
def SO.neg : Nat := 0xA
def SO.and_ : Nat := 0xB
def SO.or_ : Nat := 0xC
def SO.xor_ : Nat := 0xD

/-- Status codes (R339). -/
def SS.ok : Nat := 0
def SS.gather : Nat := 1
def SS.addr : Nat := 2
def SS.hmp : Nat := 3
def SS.poison : Nat := 4
def SS.hole : Nat := 5
def SS.trap : Nat := 6
def SS.badCmd : Nat := 7
def SS.mismatch : Nat := 8
def SS.chainTmo : Nat := 9
def SS.partner : Nat := 0xA
def SS.aborted : Nat := 0xB

/-- The descriptor at byte `o` of a command. -/
def opndAt (w o : Nat) : Opnd :=
  { addr := bits w (8 * o) 64, stride := bits w (8 * (o + 8)) 64, aux := bits w (8 * (o + 16)) 64,
    space := bits w (8 * (o + 24)) 8, mode := bits w (8 * (o + 25)) 8, typ := bits w (8 * (o + 26)) 8,
    idx := bits w (8 * (o + 27)) 8, hmp := bits w (8 * (o + 28)) 16, rsv := bits w (8 * (o + 30)) 16 }

/-- The command that 128 bytes spell. -/
def SCmd.ofWords (x : BitVec 1024) : SCmd :=
  let w := x.toNat
  { op := bits w 0 8, chain := bits w 8 8, round := bits w 16 3, fold := bits w 19 3, holePol := bits w 22 2,
    poisonFault := Nat.testBit w 24, fence := Nat.testBit w 25, traps := bits w 26 5, cplCh := bits w 32 10,
    cplEn := Nat.testBit w 42, evEn := Nat.testBit w 43, userTag := bits w 48 16, n := bits w 64 32 + 1, start := bits w 96 32,
    a := opndAt w 0x10, b := opndAt w 0x30, c := opndAt w 0x50, s := bits w (8 * 0x70) 64, user := bits w (8 * 0x78) 64,
    rsv := bits w 31 1 + bits w 44 4 }

/-! ## Checks (R310) -/

/-- Whether an operation uses operand B. -/
def usesB (op : Nat) : Bool := !(op == SO.copy || op == SO.scale || op == SO.abs || op == SO.neg)

/-- The ring length of an INGRESS operand, and the modulus of MODULO. -/
def Opnd.ring (o : Opnd) : Nat := o.aux % 2 ^ 32

/-- A descriptor that R306 and R307 allow in its position. A CHAINED destination has a type of its own; a CHAINED source takes
the type of C (log entry 21). -/
def Opnd.ok (o : Opnd) (dst : Bool) : Bool :=
  if o.space = SP.none then
    o.addr == 0 && o.stride == 0 && o.aux == 0 && o.mode == 0 && o.typ == 0 && o.idx == 0 && o.hmp == 0 && o.rsv == 0
  else if o.space > 5 || o.mode > 5 || o.typ > 0xD || decide (o.aux ≥ 2 ^ 32) || decide (o.hmp > 8) || o.rsv != 0 then false
  else if o.space = SP.chained then
    o.mode == 0 && o.addr == 0 && o.stride == 0 && o.aux == 0 && o.idx == 0 && o.hmp == 0 && (dst || o.typ == 0)
  else
    let modeOk :=
      if o.space ≤ SP.host then decide (o.mode ≤ 3) || o.mode == (if dst then AM.scatter else AM.gather)
      else o.mode == AM.linear && (if o.space = SP.ingress then !dst else dst)
    let idxOk :=
      if o.mode ≥ AM.gather then true
      else if o.mode = AM.bitrev then decide (1 ≤ o.idx) && decide (o.idx ≤ 24)
      else o.idx == 0
    modeOk && idxOk && !(o.mode == AM.modulo && o.ring == 0) &&
      (o.space != SP.ingress || (decide (o.stride ≤ o.addr) && decide (o.addr < o.stride + o.ring))) &&
      (o.space != SP.egress || (decide (o.addr < 2 ^ 17) && o.stride == 0 && o.aux == 0))

/-- A command that completes with BAD_CMD at drift `d` (R310). -/
def SCmd.bad (c : SCmd) (h : Half) (d : Nat) : Bool :=
  let flt := (typeFmt c.c.typ).isSome
  c.op > 0xD || c.round > 4 || c.fold > 6 || c.holePol > 2 || c.rsv != 0 ||
    c.a.space == SP.none || (c.b.space != SP.none) != usesB c.op || c.c.space == SP.none ||
    !c.a.ok false || !c.b.ok false || !c.c.ok true ||
    ((c.c.typ == 8 || c.c.typ == 9) && c.op != SO.copy) ||
    (flt && (decide (c.op ≥ SO.and_) || decide (c.fold ≥ 4))) ||
    decide (c.start ≥ c.n) || (c.fold != 0 && (c.start != 0 || c.c.mode != AM.linear)) ||
    (c.c.space == SP.egress && decide (h.tagKind c.c.addr ≠ .source d)) ||
    (c.chain == 0xFF && (c.a.space == SP.chained || c.b.space == SP.chained || c.c.space == SP.chained))

/-! ## Addresses (R311) and beats (R315) -/

def Opnd.size (o : Opnd) : Nat := typeSize o.typ
def Opnd.isize (o : Opnd) : Nat := if o.idx % 4 < 2 then 4 else 8
def Opnd.indexed (o : Opnd) : Bool := decide (o.mode ≥ AM.gather)

/-- Elements in a beat. -/
def SCmd.beat (c : SCmd) : Nat :=
  let m (o : Opnd) : Nat := if o.space = SP.none then 1 else o.size
  64 / max (m c.a) (max (m c.b) (m c.c))

/-- The low `b` bits of `v` reversed. -/
def revBits : Nat → Nat → Nat
  | 0, _ => 0
  | b + 1, v => v % 2 * 2 ^ b + revBits b (v / 2)

/-- The address of element `i`; `x` is the index read for it. -/
def Opnd.elemAddr (o : Opnd) (i x : Nat) : Nat :=
  let off : Int := match o.mode with
    | 0 => (i * o.size : Nat)
    | 1 => (i : Int) * sext o.stride 64
    | 2 => ((i : Int) * sext o.stride 64) % (o.ring : Int)
    | 3 => (o.size * (revBits o.idx (i % 2 ^ o.idx) + 2 ^ o.idx * (i / 2 ^ o.idx)) : Nat)
    | _ => (if o.idx % 2 = 1 then sext x (8 * o.isize) else (x : Int)) * (2 ^ (o.idx / 4) : Nat)
  wrapBits ((o.addr : Int) + off) 64

/-- The address of index element `i`. -/
def Opnd.indexAddr (o : Opnd) (i : Nat) : Nat := (o.stride + i * o.isize) % 2 ^ 64

/-- The port that a host access uses (R306). -/
def Opnd.port (o : Opnd) (a : Nat) : Nat := if o.hmp < 8 then o.hmp else bits a 12 3

/-! ## Elements (R309, R348, R369) -/

/-- An element converted to another type: bits and flags. -/
def convertElem (src dst mode r v : Nat) : Nat × Nat :=
  if src = dst then (v, 0) else
  match typeFmt src, typeFmt dst with
  | none, none => (wrapBits (intVal src v) (8 * typeSize dst), 0)
  | none, some t => t.ofInt mode r (intVal src v)
  | some t, none => t.toInt mode r (typeSigned dst) (8 * typeSize dst) v
  | some t, some u => t.convert u mode r v

/-- An operation on integers of type `typ`: the low bits of the exact result (R348). -/
def arithInt (typ op a b s : Nat) : Nat :=
  let x := intVal typ a
  let y := intVal typ b
  let z := intVal typ s
  let v : Int :=
    if op = SO.add then x + y else if op = SO.sub then x - y else if op = SO.mul then x * y
    else if op = SO.fma then x * y + z else if op = SO.axpy then x * z + y else if op = SO.scale then x * z
    else if op = SO.min then min x y else if op = SO.max then max x y
    else if op = SO.abs then (if x < 0 then -x else x) else if op = SO.neg then -x
    else if op = SO.and_ then ((a &&& b : Nat) : Int) else if op = SO.or_ then ((a ||| b : Nat) : Int)
    else if op = SO.xor_ then ((a ^^^ b : Nat) : Int) else x
  wrapBits v (8 * typeSize typ)

/-- An operation on floating-point values (R309, R356, R368). -/
def arithFmt (t : Fmt) (op mode r a b s : Nat) : Nat × Nat :=
  if op = SO.add then t.add mode r false a b
  else if op = SO.sub then t.add mode r true a b
  else if op = SO.mul then t.mul mode r a b
  else if op = SO.fma then t.fma mode r a b s
  else if op = SO.axpy then t.fma mode r a s b
  else if op = SO.scale then t.mul mode r a s
  else if op = SO.min then t.minMax false a b
  else if op = SO.max then t.minMax true a b
  else if op = SO.abs then t.abs a
  else if op = SO.neg then t.neg a
  else (a, 0)

/-- The ARITH stage in type `typ`; COPY runs none. -/
def arithElem (typ op mode r a b s : Nat) : Nat × Nat :=
  if op = SO.copy then (a, 0) else
  match typeFmt typ with
  | some t => arithFmt t op mode r a b s
  | none => (arithInt typ op a b s, 0)

/-- One element combined under an operator of FOLD or of a REDUCE entry (R305, R379): 1 ADD, 2 MIN, 3 MAX, 4 AND, 5 OR,
6 XOR. -/
def foldOp (op : Nat) : Nat :=
  if op = 1 then SO.add else if op = 2 then SO.min else if op = 3 then SO.max else if op = 4 then SO.and_
  else if op = 5 then SO.or_ else SO.xor_

/-- The counter of the generator (R360). -/
def srCtr (stage tag index sub : Nat) : Nat := index % 2 ^ 32 + 2 ^ 32 * (sub % 2 ^ 12) + 2 ^ 44 * stage + 2 ^ 48 * (tag % 2 ^ 16)

/-- One combining step of a fold (R317): an absent operand lets the other pass. -/
def SCmd.combine (c : SCmd) (seed stage index sub : Nat) : Option Nat → Option Nat → Option Nat × Nat
  | none, y => (y, 0)
  | x, none => (x, 0)
  | some x, some y =>
    let p := arithElem c.c.typ (foldOp c.fold) c.round (srBits seed (srCtr stage c.userTag index sub)) x y 0
    (some p.1, p.2)

/-- The steps within a beat: pairs of lanes, level by level, until one value remains. `first` is the first element of the
beat, `width` the elements a lane covers. A step that raises a trapped flag ends the fold (R335). -/
def SCmd.pairUp (c : SCmd) (seed first : Nat) : Nat → Nat → Nat → List (Option Nat) → Option Nat × Nat
  | 0, _, _, xs => (xs.headD none, 0)
  | fuel + 1, level, width, xs =>
    if xs.length ≤ 1 then (xs.headD none, 0) else
    let pairs := (List.range ((xs.length + 1) / 2)).map fun j =>
      c.combine seed 2 (first + 2 * j * width) level ((xs[2 * j]?).getD none) ((xs[2 * j + 1]?).getD none)
    let fl := pairs.foldl (fun a p => a ||| p.2) 0
    if fl &&& c.traps ≠ 0 then (none, fl) else
    let (v, f2) := SCmd.pairUp c seed first fuel (level + 1) (2 * width) (pairs.map fun p => p.1)
    (v, fl ||| f2)

/-- The final combination of the eight accumulators. -/
def SCmd.joinAcc (c : SCmd) (seed : Nat) (a : List (Option Nat)) : Option Nat × Nat :=
  let at_ (i : Nat) : Option Nat := (a[i]?).getD none
  let p0 := c.combine seed 4 0 0 (at_ 0) (at_ 1)
  let p1 := c.combine seed 4 0 1 (at_ 2) (at_ 3)
  let p2 := c.combine seed 4 0 2 (at_ 4) (at_ 5)
  let p3 := c.combine seed 4 0 3 (at_ 6) (at_ 7)
  let f1 := p0.2 ||| p1.2 ||| p2.2 ||| p3.2
  if f1 &&& c.traps ≠ 0 then (none, f1) else
  let l := c.combine seed 4 0 4 p0.1 p1.1
  let r := c.combine seed 4 0 5 p2.1 p3.1
  let f2 := f1 ||| l.2 ||| r.2
  if f2 &&& c.traps ≠ 0 then (none, f2) else
  let v := c.combine seed 4 0 6 l.1 r.1
  (v.1, f2 ||| v.2)

/-- Element `i` from its source values: conversion, then the operation. A source that comes over the crossbar is in the type
of C already (R321). -/
def SCmd.compute (c : SCmd) (seed i a b : Nat) : Nat × Nat :=
  let conv (o : Opnd) (sub v : Nat) : Nat × Nat :=
    if o.space = SP.chained ∨ o.space = SP.none then (v, 0)
    else convertElem o.typ c.c.typ c.round (srBits seed (srCtr 1 c.userTag i sub)) v
  let x := conv c.a 0 a
  let y := conv c.b 1 b
  let z := arithElem c.c.typ c.op c.round (srBits seed (srCtr 0 c.userTag i 0)) x.1 y.1 (c.s % 2 ^ (8 * c.c.size))
  (z.1, x.2 ||| y.2 ||| z.2)

/-- CONVERT and ARITH run (R316). -/
def SCmd.converts (c : SCmd) : Bool :=
  let diff (o : Opnd) : Bool := o.space != SP.none && o.space != SP.chained && o.typ != c.c.typ
  diff c.a || diff c.b
def SCmd.ariths (c : SCmd) : Bool := c.op != SO.copy

end Sys2Proof.Machine
end

