-- ==== Sys2Proof/Machine/StreamRead.lean ====
section
/-! DEFINITION. What the ports of a drift read (R298, R311 to R315, R329, R337): the elements of a beat out of the staging words that the
ports hold, or the word that a port lacks. The answers of host memory come with the command. -/

namespace Sys2Proof.Machine

/-! ## The bank-slot map (R297, R298) -/

/-- An entry of the map. -/
structure MapEnt where
  start : Nat
  len : Nat
  bank0 : Nat
  bstep : Nat
  drift : Nat
  port : Nat
  per : Nat
  deriving DecidableEq, Repr

/-- The entries of a half for a drift's port. -/
def Half.mapFor (h : Half) (d port : Nat) : List MapEnt :=
  let o := 0x40 + 8 * h.rd ST.bankslot 0 0 4
  ((List.range (h.rd ST.bankslot 0 4 4)).map fun i =>
    let e := h.rd ST.bankslot 0 (o + 16 * i) 16
    { start := bits e 0 26, len := bits e 32 32, bank0 := bits e 64 9, bstep := bits e 80 9, drift := bits e 96 8,
      port := bits e 104 8, per := bits e 112 8 : MapEnt }).filter fun e => e.drift == d && e.port == port && decide (0 < e.per)

/-- An access in `cycle` of a shift of `len` cycles, in `bank`, is one of the map's. -/
def mapHit (len : Nat) (es : List MapEnt) (cycle bank : Nat) : Bool :=
  es.any fun e =>
    let c := cycle % len
    let k := (c - e.start) / e.per
    decide (e.start ≤ c) && (c - e.start) % e.per == 0 && decide (k < e.len) && (e.bank0 + k * e.bstep) % 512 == bank

/-- How many accesses the map has from cycle `a` to cycle `b`. -/
def mapDue (len : Nat) (es : List MapEnt) (a b : Nat) : Nat :=
  (List.range (b / len + 1 - a / len)).foldl (fun n i =>
    es.foldl (fun m e =>
      let t := (a / len + i) * len + e.start
      let lo := (a - t + e.per - 1) / e.per
      let hi := if b < t then 0 else min e.len ((b - t) / e.per + 1)
      m + (hi - lo)) n) 0

/-! ## Ports -/

def PortSt.init : PortSt := { held := [], hits := 0, first := none, last := none, reqs := [] }

def RingSt.init : RingSt :=
  { slot := 0, off := 0, seen := false, p := 240, hole := false, csv := false, drawn := false, skip := 0 }

def Member.port (m : Member) (p : Nat) : PortSt := kget PortSt.init m.ports p
def Member.setPort (m : Member) (p : Nat) (x : PortSt) : Member := { m with ports := kset PortSt.init m.ports p x }

/-- Drift `d`'s access through port `p` to word `w` in a cycle has scheduled rank (R298). -/
def State.slotRank (s : State) (d p cycle w : Nat) : Bool :=
  s.planLive && mapHit s.shiftLen (s.cfg.active.mapFor d p) cycle (w % 512)

/-- What an access in `cycle` leaves in its port. -/
def PortSt.touch (x : PortSt) (cycle : Nat) (hit : Bool) : PortSt :=
  { x with hits := x.hits + b2n hit, first := x.first.or (some cycle), last := some cycle }

/-- The staging word that a port lacks: port and word. -/
abbrev Lack := Nat × Nat

/-- Word `w` as port `p` holds it: bytes and poison. -/
def Member.heldWord (m : Member) (p w : Nat) : Except Lack (List Byte × Bool) :=
  match (m.port p).held.find? fun h => h.1 == w with
  | some h => .ok h.2
  | none => .error (p, w)

/-- `n` bytes at staging address `a` through port `p`, in one word or two (R313). -/
def Member.span (m : Member) (p a n : Nat) : Except Lack (List Byte × Bool) := do
  let k := min n (64 - a % 64)
  let (x, bad) ← m.heldWord p (a / 64)
  let bs := (x.drop (a % 64)).take k
  if k = n then return (bs, bad)
  let (y, worse) ← m.heldWord p (a / 64 + 1)
  return (bs ++ y.take (n - k), bad || worse)

/-! ## Host memory (R313, R318) -/

/-- A host access is added to the requests of a port, which merge consecutive bytes up to a 4 KiB boundary (R318). -/
def addReq (reqs : List (Nat × Nat)) (a n : Nat) : List (Nat × Nat) :=
  (hostChunks a n).foldl (fun rs c => match rs with
    | r :: rest => if r.1 + r.2 = c.1 ∧ c.1 % 4096 ≠ 0 then (r.1, r.2 + c.2) :: rest else c :: r :: rest
    | [] => [c]) reqs

/-- The 4 KiB pages, and the 128-byte blocks, that `n` bytes at `a` touch. -/
def unitsOf (u a n : Nat) : List Nat := (List.range ((a + n - 1) / u + 1 - a / u)).map fun i => a / u + i

/-- The host's byte at `a`. -/
def ioByte (io : StreamIo) (a : Nat) : Byte := match io.bytes.find? fun e => e.1 == a with
  | some e => e.2
  | none => 0
def ioRead (io : StreamIo) (a n : Nat) : List Byte := (List.range n).map fun i => ioByte io ((a + i) % 2 ^ 64)

/-- Bytes read, their poison, whether the access fails, and the host accesses made: port, address, length. -/
structure Fetched where
  bytes : List Byte
  poison : Bool
  fail : Bool
  host : List (Nat × Nat × Nat)
  deriving DecidableEq, Repr

/-- `n` bytes at `a` of a space through port `p`. -/
def Member.fetch (m : Member) (io : StreamIo) (p space a n : Nat) : Except Lack Fetched :=
  if space = SP.engine then .ok { bytes := (m.data.drop a).take n, poison := false, fail := false, host := [] }
  else if space = SP.host then
    .ok { bytes := ioRead io a n, poison := (unitsOf 128 a n).any fun b => io.poison.contains b,
          fail := (unitsOf 4096 a n).any fun b => io.rdErr.contains b, host := [(p, a, n)] }
  else if a + n > 2 ^ 26 then .ok { bytes := [], poison := false, fail := true, host := [] }
  else (m.span p a n).map fun x => { bytes := x.1, poison := x.2, fail := false, host := [] }

/-! ## INGRESS (R329) -/

/-- The slot after `slot` in the ring. -/
def Opnd.nextSlot (o : Opnd) (slot : Nat) : Nat := if slot + 256 - o.stride ≥ o.ring then o.stride else slot + 256

/-- The trailer of the present slot is read. `none` where it does not lie in staging memory. -/
def Member.ringTrailer (m : Member) (p : Nat) (r : RingSt) : Except Lack (Option RingSt) :=
  if r.slot + 256 > 2 ^ 26 then .ok none else
  (m.span p (r.slot + 240) 16).map fun x =>
    let t := leNat x.1
    some { r with seen := true, p := if Nat.testBit t 19 then 224 else 240, hole := Nat.testBit t 17, csv := Nat.testBit t 18 }

/-- The ring stands at its next payload byte to draw, after the bytes to pass over. The first argument bounds the slots. -/
def Member.ringSeek : Nat → Member → Opnd → Nat → RingSt → Except Lack (Option RingSt)
  | 0, _, _, _, _ => .ok none
  | fuel + 1, m, o, p, r => do
    match (← if r.seen then .ok (some r) else m.ringTrailer p r) with
    | none => return none
    | some x =>
      if x.off + x.skip ≥ x.p then
        Member.ringSeek fuel m o p { RingSt.init with slot := o.nextSlot x.slot, skip := x.skip - (x.p - x.off) }
      else return some { x with off := x.off + x.skip, skip := 0 }

/-- What an element has drawn from a ring: bytes, poison, whether one came from a hole slot; the hole slots, and CSV, of the slots that
it is the first to draw from. -/
structure RingDrawn where
  bytes : List Byte
  poison : Bool
  hole : Bool
  holes : Nat
  csv : Bool
  deriving DecidableEq, Repr

/-- `n` payload bytes drawn one after another, and the ring after them. -/
def Member.ringDraw : Nat → Member → Opnd → Nat → RingSt → Except Lack (Option (RingDrawn × RingSt))
  | 0, _, _, _, r => .ok (some ({ bytes := [], poison := false, hole := false, holes := 0, csv := false }, r))
  | n + 1, m, o, p, r => do
    match (← m.ringSeek (r.skip / 224 + 3) o p r) with
    | none => return none
    | some x =>
      let (bs, poison) ← m.span p (x.slot + x.off) 1
      match (← Member.ringDraw n m o p { x with off := x.off + 1, drawn := true }) with
      | none => return none
      | some (y, r2) =>
        return some ({ bytes := bs ++ y.bytes, poison := poison || y.poison, hole := x.hole || y.hole
                       holes := y.holes + b2n (x.hole && !x.drawn), csv := y.csv || (x.csv && !x.drawn) }, r2)

/-! ## One operand of one element -/

/-- The rank of FOP in the order A, B, index of A, index of B, index of C, C (R333). -/
def fopRank (f : Nat) : Nat := if f = 0 then 0 else if f = 1 then 1 else if f = 3 then 2 else if f = 5 then 3 else if f = 4 then 4 else 5

def causeOf (status fop : Nat) : Cause := { rank := fopRank fop, status := status, fop := fop }

def Got.none : Got := { val := 0, poison := false, cause := .none }
def Got.stopped (c : Cause) : Got := { Got.none with cause := some c }

/-- The status of a failed access to an operand (R312, R337). -/
def Opnd.failStatus (o : Opnd) : Nat := if o.indexed then SS.gather else if o.space = SP.host then SS.hmp else SS.addr

/-- The address of element `i` of an operand, or the cause met in its index array, read through port `ip` (R311, R337); with the host
accesses made. -/
def Member.elemAddr (m : Member) (io : StreamIo) (o : Opnd) (ip i : Nat) : Except Lack (Nat × Option Cause × List (Nat × Nat × Nat)) :=
  if o.indexed then
    (m.fetch io ip o.space (o.indexAddr i) o.isize).map fun x =>
      (o.elemAddr i (leNat x.bytes), if x.fail || x.poison then some (causeOf SS.gather ip) else none, x.host)
  else .ok (o.elemAddr i 0, none, [])

/-- What an operand gives for one element, the ring after it, the hole slots and CSV met first, and the host accesses made. -/
structure Drawn where
  got : Got
  ring : RingSt
  holes : Nat
  csv : Bool
  host : List (Nat × Nat × Nat)
  deriving DecidableEq, Repr

def Drawn.of (g : Got) (r : RingSt) (host : List (Nat × Nat × Nat)) : Drawn := { got := g, ring := r, holes := 0, csv := false, host := host }

/-- Element `i` of source operand `o` (port `p`, index port `ip`); `r` is where an INGRESS operand stands. -/
def Member.drawOne (m : Member) (io : StreamIo) (o : Opnd) (p ip i : Nat) (r : RingSt) : Except Lack Drawn :=
  let give (bs : List Byte) (poison : Bool) : Got :=
    { val := leNat bs, poison := poison, cause := if poison && m.cmd.poisonFault then some (causeOf SS.poison p) else none }
  if o.space = SP.none ∨ o.space = SP.chained then .ok (Drawn.of Got.none r [])
  else if o.space = SP.ingress then do
    match (← m.ringDraw o.size o p r) with
    | none => return Drawn.of (Got.stopped (causeOf SS.addr p)) r []
    | some (x, r2) =>
      let g :=
        if !x.hole then give x.bytes x.poison
        else if m.cmd.holePol = 2 then Got.stopped (causeOf SS.hole p)
        else if m.cmd.holePol = 1 then Got.none
        else give x.bytes true
      return { got := g, ring := r2, holes := x.holes, csv := x.csv, host := [] }
  else do
    let (a, c, h) ← m.elemAddr io o ip i
    match c with
    | some c => return Drawn.of (Got.stopped c) r h
    | none =>
      let x ← m.fetch io p o.space a o.size
      return Drawn.of (if x.fail then Got.stopped (causeOf o.failStatus p) else give x.bytes x.poison) r (h ++ x.host)

/-- Elements `i` and on of an operand, `k` of them, up to one that a cause stops. -/
def Member.draws (m : Member) (io : StreamIo) (o : Opnd) (p ip : Nat) : Nat → Nat → RingSt → Except Lack (List Drawn)
  | 0, _, _ => .ok []
  | k + 1, i, r => do
    let x ← m.drawOne io o p ip i r
    if x.got.cause.isSome then return [x]
    let rest ← Member.draws m io o p ip k (i + 1) x.ring
    return x :: rest

/-- The destination of a terminal's element lies in staging memory, or stops the command (R312). -/
def destCause (c : SCmd) (a : Nat) : Option Cause :=
  if c.c.space = SP.staging ∧ a + c.c.size > 2 ^ 26 then some (causeOf (if c.c.indexed then SS.gather else SS.addr) 2) else none

/-- Where element `i` is stored. A fold has one result, at C.ADDR (R317). -/
def Member.destOne (m : Member) (io : StreamIo) (i : Nat) : Except Lack (Nat × Option Cause × List (Nat × Nat × Nat)) :=
  let c := m.cmd
  if c.c.space = SP.staging ∨ c.c.space = SP.host then
    (m.elemAddr io c.c 4 (if c.fold = 0 then i else 0)).map fun x => (x.1, x.2.1.or (destCause c x.1), x.2.2)
  else .ok (0, none, [])

/-- Where elements `i` and on are stored, `k` of them, up to one that a cause stops. -/
def Member.dests (m : Member) (io : StreamIo) : Nat → Nat → Except Lack (List (Nat × Option Cause × List (Nat × Nat × Nat)))
  | 0, _ => .ok []
  | k + 1, i => do
    let x ← m.destOne io i
    if x.2.1.isSome then return [x]
    let rest ← Member.dests m io k (i + 1)
    return x :: rest

/-! ## A beat (R315) -/

/-- Where the INGRESS operand at port `p` stands before its next element: at the beginning of a command, at the element START (R329). -/
def Member.ringAt (m : Member) (o : Opnd) (p : Nat) : RingSt :=
  if m.beat = 0 then
    let k := o.addr - o.stride
    { RingSt.init with slot := o.stride + 256 * (k / 256), off := k % 256, skip := m.cmd.start * o.size }
  else kget RingSt.init m.rings p

/-- A beat whole at a member: its elements, where its rings stand after it, and the host accesses made. -/
structure BeatRead where
  els : List ElemIn
  rings : KMap RingSt
  host : List (Nat × Nat × Nat)
  deriving DecidableEq, Repr

/-- The member's next beat out of what its ports hold, or the words that they lack. Each port reads in element order (R315). -/
def Member.readBeat (m : Member) (io : StreamIo) (ctx : RunCtx) : Except (List Lack) BeatRead :=
  let i := ctx.start + m.beat * ctx.beat
  let k := min ctx.beat (ctx.count - i)
  let a := m.draws io m.cmd.a 0 3 k i (m.ringAt m.cmd.a 0)
  let b := m.draws io m.cmd.b 1 5 k i (m.ringAt m.cmd.b 1)
  let c := m.dests io k i
  match a, b, c with
  | .ok xs, .ok ys, .ok zs =>
    let none_ := Drawn.of Got.none RingSt.init []
    .ok {
      els := (List.range k).map fun j =>
        let x := xs.getD j none_
        let y := ys.getD j none_
        let z := zs.getD j (0, none, [])
        { a := x.got, b := y.got, addr := z.1, cause := z.2.1, holes := x.holes + y.holes, csv := x.csv || y.csv }
      rings := kset RingSt.init (kset RingSt.init m.rings 0 ((xs.getLast?).elim RingSt.init fun x => x.ring)) 1
        ((ys.getLast?).elim RingSt.init fun x => x.ring)
      host := (xs.flatMap fun x => x.host) ++ (ys.flatMap fun x => x.host) ++ (zs.flatMap fun x => x.2.2) }
  | _, _, _ =>
    let lack {α : Type} (x : Except Lack α) : List Lack := match x with
      | .error e => [e]
      | .ok _ => []
    .error (lack a ++ lack b ++ lack c)

/-- After a beat a port keeps the word that it read last, with parts not yet used (R315), and of an INGRESS operand the word of its
slot's trailer too. -/
def PortSt.keep (x : PortSt) (ring : Option RingSt) : PortSt :=
  { x with held := x.held.take 1 ++ ((x.held.drop 1).filter fun h => match ring with
    | some r => h.1 == (r.slot + 240) / 64
    | none => false) }

/-- The member has read its beat in `cycle`: it waits to be combined. The first one is held up by the host, where it reads host memory:
`lat` cycles (R316: typical timing only). -/
def Member.beatDone (m : Member) (x : BeatRead) (cycle lat : Nat) : Member :=
  let ring (p : Nat) : Option RingSt :=
    if (p = 0 ∧ m.cmd.a.space = SP.ingress) ∨ (p = 1 ∧ m.cmd.b.space = SP.ingress) then some (kget RingSt.init x.rings p) else none
  let m1 := x.host.foldl (fun (y : Member) h =>
    let p := y.port h.1
    y.setPort h.1 { p with reqs := addReq p.reqs h.2.1 h.2.2 }) m
  { m1 with
    ports := m1.ports.map fun e => (e.1, e.2.keep (ring e.1))
    rings := x.rings, beat := m.beat + 1, next := cycle + 1, 
    ready := m.ready ++ [{ at_ := if m.beat = 0 && !x.host.isEmpty then cycle + lat else cycle, els := x.els }] }

end Sys2Proof.Machine
end

