-- ==== Sys2Proof/Machine/StreamRun.lean ====
section
/-! DEFINITION. How drifts execute their commands (R291, R298, R300, R313 to R337, R341): cycle by cycle, each staging access against the
others that ask for its bank, each beat as its elements have been read, each store in its cycle. -/

namespace Sys2Proof.Machine

/-! ## Drifts and runs -/

def State.drift (s : State) (d : Nat) : Drift := kget Drift.init s.str.drifts d

/-- STR_Dd_STAT.STATE (R346). -/
def driftState (held : List DCmd) : Nat :=
  if held.any fun c => c.deferred then 3
  else if held.any fun c => decide (c.phase = .running) then 2
  else if held.any fun c => decide (c.phase = .chainWait) then 1
  else 0

/-- Drift `d` becomes `x`. The cycles that it has spent in RUN, CHAIN_WAIT or DEFER count up to now (R341). -/
def State.setDrift (s : State) (d : Nat) (x : Drift) : State :=
  let old := s.drift d
  let t := s.sch.ft.toNat
  let s1 := if driftState old.held = 0 then s else s.count (Cnt.drift d 3) (t - old.busyAt)
  { s1 with str := { s1.str with
    drifts := kset Drift.init s1.str.drifts d { x with busyAt := if driftState x.held = 0 then 0 else t } } }

def Member.init (d : Nat) (c : SCmd) (delay lateBy : Nat) (late : Bool) (next : Nat) : Member :=
  { d := d, cmd := c, delay := delay, lateBy := lateBy, ports := [], rings := [], beat := 0, next := next, ready := [], data := []
    writes := [], sends := [], stores := [], pay := [], payEls := 0, payBad := 0, payAt := 0, acc := List.replicate 8 none, lanes := []
    foldPoison := false, flags := 0, holes := 0, csv := false, late := late, elements := 0, bad := 0 }

/-- The beats of a run. -/
def RunCtx.beats (x : RunCtx) : Nat := (x.count - x.start + x.beat - 1) / x.beat

def Run.member (r : Run) (d : Nat) : Option Member := r.ms.find? fun m => m.d == d
def Run.setMember (r : Run) (m : Member) : Run := { r with ms := r.ms.map fun x => if x.d = m.d then m else x }

/-- The member that writes. -/
def Run.term (r : Run) : Option Member := r.member r.ctx.term

/-- The run of number `id`. -/
def State.run (s : State) (id : Nat) : Option Run := s.str.runs.find? fun r => r.id == id

/-- The newest run of drift `d`. -/
def State.runOf (s : State) (d : Nat) : Option Run := s.str.runs.reverse.find? fun r => (r.member d).isSome

/-- A run goes on as `r`: elements and poisoned elements that its members have written or sent since are counted, and STR_Dd_DONE shows
those of the present command (R334, R341, R346). -/
def State.setRun (s : State) (r : Run) : State :=
  match s.run r.id with
  | none => s
  | some old =>
    let s1 := { s with str := { s.str with runs := s.str.runs.map fun x => if x.id = r.id then r else x } }
    (old.ms.zip r.ms).foldl (fun a (x, y) =>
      let a1 := if x.elements = y.elements then a else
        let b := a.count (Cnt.drift y.d 2) (y.elements - x.elements)
        if (s.runOf y.d).elim true fun z => z.id == r.id then b.setReg (R.STR_Dd_DONE (y.d % 16)) (BitVec.ofNat 32 y.elements) else b
      if x.bad = y.bad then a1 else a1.count (Cnt.drift y.d 6) (y.bad - x.bad)) s1

/-! ## Writing -/

/-- The 64 places of a word, filled where bytes have been written. -/
abbrev Overlay := List (Option Byte)

/-- Bytes put over a word from place `o` upward. -/
def overlay (x : Overlay) (o : Nat) (bs : List Byte) : Overlay :=
  x.take o ++ (bs.map some) ++ x.drop (o + bs.length)

/-- The runs of filled places: offset and bytes. -/
def runsOf : Nat → Overlay → List (Nat × List Byte)
  | _, [] => []
  | o, none :: xs => runsOf (o + 1) xs
  | o, some b :: xs =>
    match runsOf (o + 1) xs with
    | (p, bs) :: rest => if p = o + 1 then (o, b :: bs) :: rest else (o, [b]) :: (p, bs) :: rest
    | [] => [(o, [b])]

/-- Bytes at `a` put over the words that a beat writes: words in the order of their first byte (R314). -/
def putBeat (ws : List (Nat × Overlay × Bool)) (a : Nat) (bs : List Byte) (poison : Bool) : List (Nat × Overlay × Bool) :=
  let put1 (l : List (Nat × Overlay × Bool)) (w o : Nat) (b : List Byte) : List (Nat × Overlay × Bool) :=
    if b.isEmpty then l
    else if l.any fun x => x.1 == w then
      l.map fun x => if x.1 = w then (w, overlay x.2.1 o b, x.2.2 || poison) else x
    else l ++ [(w, overlay (List.replicate 64 none) o b, poison)]
  let k := 64 - a % 64
  put1 (put1 ws (a / 64) (a % 64) (bs.take k)) (a / 64 + 1) 0 (bs.drop k)

/-- The group whose egress calendar carries stream tag `tag`, if an active group's does (R319). -/
def State.egressGroup (s : State) (tag : Nat) : Option Nat :=
  (List.range 8).find? fun g => s.flag (F.LNK_LGn_CFG_ACTIVE g) &&
    (s.cfg.active.calendar g 0 none).any fun e => calClass e == 0 && calTag e == tag

/-- P of an EGRESS destination, and whether its flits are discarded (R319). -/
def State.egressP (s : State) (tag : Nat) : Nat :=
  match s.egressGroup tag with
  | some g => if s.flag (F.LNK_LGn_CFG_PROT g) then 224 else 240
  | none => 240
def State.egressOpen (s : State) (tag : Nat) : Option Nat :=
  match s.egressGroup tag with
  | none => none
  | some g =>
    let narrow := s.flag (F.LNK_LGn_STAT_DEGRADED g) && !s.flag (F.SCH_LGn_PEER_FALLBACK g)
    if s.lgUp g && !narrow && (s.running || s.mode == Mode.drain) then some g else none

/-! ### EGRESS (R319) -/

/-- Payload bytes of an EGRESS destination gathered so far become a flit that is whole in cycle `at_`. -/
def Member.cut (m : Member) (at_ : Nat) : Member :=
  { m with
    pay := [], payEls := 0, payBad := 0
    sends := m.sends ++ [{ at_ := at_, ready := max at_ m.payAt, bytes := m.pay, els := m.payEls, bad := m.payBad }] }

/-- An element's bytes for the egress payload of `p` bytes, entering SEND in `cycle`: the flit may be on the lanes 52 cycles after its
first element has entered (R30, R143, R319). -/
def Member.pack (m : Member) (p : Nat) (bs : List Byte) (poison : Bool) (cycle : Nat) : Member :=
  let m1 := { m with
    pay := m.pay ++ bs, payEls := m.payEls + 1, payBad := m.payBad + b2n poison
    payAt := if m.pay.isEmpty then cycle + 52 else m.payAt }
  if m1.pay.length ≥ p then m1.cut cycle else m1

/-- The first payload of a terminal enters its group's egress buffer, as a hole where an element is poisoned, or is discarded (R319,
R334). While the buffer holds 512 flits it waits, and the command is late. -/
def State.sendOne (s : State) (r : Run) (m : Member) (x : LateFlit) : State :=
  let m1 := { m with sends := m.sends.drop 1 }
  match s.egressOpen m.cmd.c.addr with
  | none => s.setRun (r.setMember { m1 with csv := true })
  | some g =>
    if (s.lg g).egress.length ≥ 512 then s.setRun (r.setMember { m with late := true }) else
    let f : SFlit :=
      { tag := BitVec.ofNat 17 m.cmd.c.addr, hole := decide (0 < x.bad), csv := false
        pay := if 0 < x.bad then holePay Hole.source s.epid x.ready else BitVec.ofNat 1920 (leNat x.bytes)
        due := BitVec.ofNat 64 x.ready, k := 0 }
    (s.setRun (r.setMember { m1 with elements := m1.elements + x.els, bad := m1.bad + x.bad })).modLg g fun y =>
      { y with egress := y.egress ++ [f] }

/-! ## One beat through all members -/

/-- What has come over the crossbar for the present element: target drift, operand, bits, poison. -/
abbrev Crossing := List (Nat × Nat × Nat × Bool)

/-- The least of several causes of one element, with the drift that met it (R333). -/
def leastCause : List (Nat × Cause) → Option (Nat × Cause)
  | [] => none
  | x :: xs => match leastCause xs with
    | none => some x
    | some y => if x.2.rank ≤ y.2.rank then some x else some y

/-- One element at one member: the value with its poison and destination address, or nothing where a cause stops it. -/
def Member.elem (m : Member) (ctx : RunCtx) (x : Crossing) (i : Nat) (e : ElemIn) : Option (Nat × Bool × Nat) × List Cause × Member :=
  let c := m.cmd
  let from_ (o : Opnd) (p : Nat) (g : Got) : Option Got :=
    if o.space ≠ SP.chained then some g else
    (x.find? fun y => y.1 == m.d && y.2.1 == p).map fun y =>
      { val := y.2.2.1, poison := y.2.2.2, cause := if y.2.2.2 && c.poisonFault then some (causeOf SS.poison p) else none }
  match from_ c.a 0 e.a, from_ c.b 1 e.b with
  | some a, some b =>
    let causes := a.cause.toList ++ b.cause.toList ++ e.cause.toList
    let m1 := { m with holes := m.holes + e.holes, csv := m.csv || e.csv }
    if !causes.isEmpty then (none, causes, m1) else
    let (v, fl) := c.compute ctx.seed i a.val b.val
    let m2 := { m1 with flags := m1.flags ||| fl }
    if fl &&& c.traps ≠ 0 then (none, [{ rank := 6, status := SS.trap, fop := 0 }], m2)
    else (some (v, a.poison || b.poison, e.addr), [], m2)
  | _, _ => (none, [], m)

/-- One element through all members, feeders first (R321); `ins` gives what each has read. What the terminal writes comes last: bits,
poison, address. A cause at any member stops the run there (R333). -/
def Run.elem (r : Run) (ins : List (Nat × List ElemIn)) (j i : Nat) : Run × Option (Nat × Bool × Nat) :=
  let step := r.ms.foldl (fun (acc : List Member × Crossing × List (Nat × Cause) × Option (Nat × Bool × Nat)) m =>
    let (ms, x, cs, out) := acc
    let e := ((ins.find? fun y => y.1 == m.d).elim [] fun y => y.2).getD j
      { a := Got.none, b := Got.none, addr := 0, cause := none, holes := 0, csv := false }
    let (v, causes, m1) := m.elem r.ctx x i e
    let cs1 := cs ++ causes.map fun c => (m.d, c)
    match v with
    | none => (ms ++ [m1], x, cs1, out)
    | some (bits, poison, a) =>
      if m.d = r.ctx.term then
        let m2 := if m.cmd.fold ≠ 0 then { m1 with lanes := m1.lanes ++ [some bits], foldPoison := m1.foldPoison || poison } else m1
        (ms ++ [m2], x, cs1, some (bits, poison, a))
      else match r.ctx.feeds.find? fun f => f.1 == m.d with
        | some f =>
          (ms ++ [{ m1 with elements := m1.elements + 1, bad := m1.bad + b2n poison }], (f.2.1, f.2.2, bits, poison) :: x, cs1, out)
        | none => (ms ++ [m1], x, cs1, out)) ([], [], [], none)
  let (ms, _, cs, out) := step
  match leastCause cs with
  | some (d, c) =>
    ({ r with ms := (r.ms.zip ms).map (fun (x, y) => { y with elements := x.elements, bad := x.bad }), stop := some (i, d, c) }, none)
  | none => ({ r with ms := ms }, out)

/-- Elements `j` and on of a beat that begins with element `i0`, `n` of them, until a cause stops the run; what is to be written comes
with its element. -/
def Run.elems : Nat → Run → List (Nat × List ElemIn) → Nat → Nat → Run × List (Nat × Nat × Bool × Nat)
  | 0, r, _, _, _ => (r, [])
  | n + 1, r, ins, i0, j =>
    if r.stop.isSome then (r, []) else
    let (r1, out) := r.elem ins j (i0 + j)
    let (r2, rest) := Run.elems n r1 ins i0 (j + 1)
    (r2, match out with
      | some (v, p, a) => (i0 + j, v, p, a) :: rest
      | none => rest)

/-- The terminal stores the elements of a beat that entered ARITH `cycle` + path (R316): staging words one a cycle, host stores as
requests, egress bytes in payloads of `p` bytes, the queue engine's bytes as they are. -/
def Member.storeBeat (m : Member) (ctx : RunCtx) (p cycle : Nat) (els : List (Nat × Nat × Bool × Nat)) : Member :=
  let c := m.cmd
  let out := cycle + ctx.path + (if c.ariths then 5 else 0) + 2
  let n := c.c.size
  let bad := (els.filter fun e => e.2.2.1).length
  if c.c.space = SP.egress then els.foldl (fun a e => a.pack p (natLe n e.2.1) e.2.2.1 out) m
  else if c.c.space = SP.host then
    { m with stores := els.foldl (fun l e => { el := e.1, addr := e.2.2.2, bytes := natLe n e.2.1, poison := e.2.2.1 } :: l) m.stores }
  else if c.c.space = SP.engine then
    { m with data := m.data ++ els.flatMap fun e => natLe n e.2.1, elements := m.elements + els.length, bad := m.bad + bad }
  else
    let ws := els.foldl (fun l e => putBeat l e.2.2.2 (natLe n e.2.1) e.2.2.1) []
    let last (k : Nat) : Bool := k + 1 == ws.length
    { m with writes := m.writes ++ ((List.range ws.length).zip ws).map fun (k, w, o, poison) =>
        ({ at_ := out + 6 + k, word := w, runs := runsOf 0 o, poison := poison
           els := if last k then els.length else 0, bad := if last k then bad else 0 } : LateWrite) }

/-- A beat's lanes enter the fold (R317). `b` is the beat's number, `first` its first element. -/
def Member.foldBeat (m : Member) (ctx : RunCtx) (b first : Nat) : Member × Bool :=
  let c := m.cmd
  let (v, f1) := c.pairUp ctx.seed first 7 1 1 (m.lanes ++ List.replicate (ctx.beat - m.lanes.length) none)
  if f1 &&& c.traps ≠ 0 then ({ m with lanes := [], flags := m.flags ||| f1 }, true) else
  let k := b % 8
  let (a, f2) := c.combine ctx.seed 3 first k ((m.acc[k]?).getD none) v
  ({ m with lanes := [], acc := m.acc.set k a, flags := m.flags ||| f1 ||| f2 }, decide (f2 &&& c.traps ≠ 0))

def trapCause : Cause := { rank := 6, status := SS.trap, fop := 0 }

/-- The last beat has gone through, or a cause stopped the run: the fold's result is stored, the last payload is padded (R317, R319). -/
def Run.close (r : Run) (p cycle : Nat) : Run :=
  match r.term with
  | none => { r with closed := true }
  | some m =>
    let c := m.cmd
    let r1 : Run :=
      if c.fold = 0 ∨ r.stop.isSome then r else
      let (v, fl) := c.joinAcc r.ctx.seed m.acc
      let m1 := { m with flags := m.flags ||| fl }
      match v with
      | some v =>
        if fl &&& c.traps ≠ 0 then { (r.setMember m1) with stop := some (0, m.d, trapCause) }
        else r.setMember (m1.storeBeat r.ctx p (cycle + 5 * (Nat.log2 r.ctx.beat + 4)) [(0, v, m.foldPoison, c.c.elemAddr 0 0)])
      | none => { (r.setMember m1) with stop := some (0, m.d, trapCause) }
    let r2 := match r1.term with
      | some x => if x.pay.isEmpty then r1
        else r1.setMember (x.cut (cycle + r.ctx.path + (if c.ariths then 5 else 0) + 2))
      | none => r1
    { r2 with closed := true }

/-- The next beat, read by every member, is combined (R316, R323): it enters when the last operand has come, at one beat a cycle and
after the words that the beat before writes. -/
def Run.combine (r : Run) (p : Nat) : Run :=
  let ins := r.ms.filterMap fun m => (m.ready.head?).map fun b => (m, b)
  if r.stop.isSome || r.ctx.stuck || decide (r.beat ≥ r.ctx.beats) || decide (ins.length ≠ r.ms.length) then r else
  let cycle := ins.foldl (fun c e => max c (e.2.at_ - e.1.delay)) r.enter
  let i0 := r.ctx.start + r.beat * r.ctx.beat
  let k := min r.ctx.beat (r.ctx.count - i0)
  let r1 : Run := { r with ms := r.ms.map fun m => { m with ready := m.ready.drop 1 } }
  let (r2, els) := Run.elems k r1 (ins.map fun e => (e.1.d, e.2.els)) i0 0
  let backlog (x : Run) : Nat := (x.term).elim 0 fun m => m.writes.length
  let r3 : Run := match r2.term with
    | none => r2
    | some m =>
      if m.cmd.fold = 0 then r2.setMember (m.storeBeat r.ctx p cycle els)
      else if r2.stop.isSome then r2 else
      let (m1, trap) := m.foldBeat r.ctx r.beat i0
      if trap then { (r2.setMember m1) with stop := some (0, m.d, trapCause) } else r2.setMember m1
  let r4 : Run := { r3 with beat := r.beat + 1, enter := cycle + max 1 (backlog r3 - backlog r2) }
  if r4.stop.isSome || r4.beat == r.ctx.beats then r4.close p cycle else r4

/-! ## The accesses of a cycle -/

/-- A store of the run that has come due before `cycle` has not been made: no further beat begins (log entry 101). -/
def Run.overdue (r : Run) (cycle : Nat) : Bool :=
  r.ms.any fun m => (m.writes.head?).any (fun w => decide (w.at_ < cycle)) || (m.sends.head?).any fun f => decide (f.at_ < cycle)

/-- The cycle from which a member may read its next beat: beats enter one a cycle, and a member runs ahead of another by no more beats
than its reads precede that one's (R315, R323, log entry 101). -/
def Run.readFrom (r : Run) (m : Member) : Option Nat :=
  if r.stop.isSome || decide (m.beat ≥ r.ctx.beats) || r.ms.any (fun x => decide (x.beat + (x.delay - m.delay) < m.beat)) then none
  else some (max m.next (r.enter + m.delay + (m.beat - r.beat)))

/-- Whether a member may read in `cycle`. No new beat begins in HALT (R647). -/
def State.mayRead (s : State) (r : Run) (m : Member) (cycle : Nat) : Bool :=
  s.mode != Mode.halt && !r.ctx.stuck && !r.overdue cycle && (r.readFrom m).any fun c => decide (c ≤ cycle)

/-- An access that a drift asks for: its run, drift, port and staging word. -/
structure Ask where
  run : Nat
  d : Nat
  port : Nat
  word : Nat
  deriving DecidableEq, Repr

/-- The accesses that drifts ask for in `cycle`: each port makes at most one in a cycle (R315). -/
def State.drawAsks (s : State) (cycle : Nat) : List Ask :=
  s.str.runs.flatMap fun r => r.ms.flatMap fun m =>
    let free (p : Nat) : Bool := (m.port p).last != some cycle
    let reads := if !s.mayRead r m cycle then [] else
      match m.readBeat r.io r.ctx with
      | .ok _ => []
      | .error l => (l.filter fun e => free e.1).map fun e => ({ run := r.id, d := m.d, port := e.1, word := e.2 } : Ask)
    reads ++ (match m.writes.head? with
      | some w => if w.at_ ≤ cycle && free 2 then [{ run := r.id, d := m.d, port := 2, word := w.word }] else []
      | none => [])

/-- An access that has won its bank is made: the port takes the word read, or writes its next one. -/
def State.grant (s : State) (a : Ask) (cycle : Nat) (hit : Bool) : State :=
  match (s.run a.run).bind fun r => (r.member a.d).map fun m => (r, m) with
  | none => s
  | some (r, m) =>
    let x := (m.port a.port).touch cycle hit
    if a.port = 2 then
      match m.writes with
      | [] => s
      | w :: rest =>
        let m1 := { (m.setPort 2 x) with writes := rest, elements := m.elements + w.els, bad := m.bad + w.bad }
        (s.smemPutMask w.word w.runs w.poison (.drift hit)).setRun (r.setMember m1)
    else
      let (bs, poison, s1) := s.smemAccess a.word (.drift hit)
      s1.setRun (r.setMember (m.setPort a.port { x with held := (a.word, bs, poison) :: x.held }))

/-- Accesses at scheduled rank in `cycle`, the lower-numbered drift first (R291): one that meets another retries unscheduled. -/
def State.grantSched (s : State) (cycle : Nat) : State :=
  ((List.range 16).flatMap fun d => (s.drawAsks cycle).filter fun a => a.d == d && s.slotRank d a.port cycle a.word).foldl (fun t a =>
    let b := a.word % 512
    if t.str.taken cycle b true then t.loseBank cycle b else
    let t1 := if t.str.taken cycle b false then t.loseBank cycle b else t
    ({ t1 with str := { t1.str with used := { cyc := cycle, bank := b, sched := true } :: t1.str.used } }).grant a cycle true) s

/-- The remaining accesses of `cycle`: each bank that is free serves one drift, by its round-robin order (R291). The drifts that lose
count the cycle in BANK_STALL_CYC (R341). -/
def State.grantRest (s : State) (cycle : Nat) : State :=
  let asks := s.drawAsks cycle
  let winner (b : Nat) : Option Ask :=
    if s.str.taken cycle b false then none else
    (s.str.order b).findSome? fun i => asks.find? fun a => a.d == i && a.word % 512 == b
  let wins (a : Ask) : Bool := winner (a.word % 512) == some a
  let s1 := (asks.filter wins).foldl (fun t a =>
    let b := a.word % 512
    let x := t.str.served b a.d
    ({ t with str := { x with used := { cyc := cycle, bank := b, sched := false } :: x.used } }).grant a cycle false) s
  let lost := asks.filter fun a => !wins a
  let s2 := lost.foldl (fun t a => t.loseBank cycle (a.word % 512)) s1
  (List.range 16).foldl (fun t d => if lost.any fun a => a.d == d then t.count (Cnt.drift d 4) 1 else t) s2

/-- The members of a run whose next beat is whole take it. A drift whose last beat has been read is free for its next command (R324). -/
def State.takeBeats (s : State) (id cycle : Nat) : State :=
  match s.run id with
  | none => s
  | some r =>
    r.ms.foldl (fun t m =>
      if !t.mayRead r m cycle then t else
      match m.readBeat r.io r.ctx with
      | .error _ => t
      | .ok x =>
        let m1 := m.beatDone x cycle r.io.lat
        let t1 := match t.run id with
          | some y => t.setRun (y.setMember m1)
          | none => t
        if m1.beat < r.ctx.beats then t1
        else t1.setDrift m.d { t1.drift m.d with freeAt := cycle + 1 }) s

/-- The payloads of a run that are whole enter their egress buffer. The first argument bounds them. -/
def State.takeSends : Nat → State → Nat → Nat → State
  | 0, s, _, _ => s
  | fuel + 1, s, id, cycle =>
    match (s.run id).bind fun r => (r.term).bind fun m => (m.sends.head?).map fun x => (r, m, x) with
    | none => s
    | some (r, m, x) =>
      if x.at_ > cycle then s else
      let t := s.sendOne r m x
      if (t.run id).bind (fun y => y.term.map fun z => z.sends.length) = some m.sends.length then t
      else State.takeSends fuel t id cycle

/-! ## The end of a run -/

/-- A piece of a host write request: its first element, whether that element began in an earlier request, address, bytes,
poison, elements and poisoned elements that it completes. -/
structure WriteReq where
  el : Nat
  split : Bool
  addr : Nat
  bytes : List Byte
  poison : Bool
  els : Nat
  bad : Nat
  deriving DecidableEq, Repr

/-- Elements stored to host memory, oldest first, as requests (R313, R318, R334). -/
def writeReqs (st : List HostStore) : List WriteReq :=
  (st.foldl (fun (acc : List WriteReq) e =>
    let parts := hostChunks e.addr e.bytes.length
    (((List.range parts.length).zip parts).foldl (fun l (k, a, n) =>
      let bs := (e.bytes.drop (a - e.addr)).take n
      let last := b2n (k + 1 == parts.length)
      match l with
      | r :: rest =>
        if r.addr + r.bytes.length = a ∧ a % 4096 ≠ 0 ∧ r.poison = e.poison then
          { r with bytes := r.bytes ++ bs, els := r.els + last, bad := r.bad + last * b2n e.poison } :: rest
        else { el := e.el, split := decide (0 < k), addr := a, bytes := bs, poison := e.poison, els := last, bad := last * b2n e.poison } :: l
      | [] => [{ el := e.el, split := decide (0 < k), addr := a, bytes := bs, poison := e.poison, els := last, bad := last * b2n e.poison }]) acc)) []).reverse

/-- The requests leave in order; the first that is answered with an error ends the command (R331). -/
def State.sendWrites (s : State) (io : StreamIo) (src : Nat) (m : Member) : List WriteReq → State × Member × Option WriteReq
  | [] => (s, m, none)
  | r :: rest =>
    let err := (unitsOf 4096 r.addr r.bytes.length).any fun b => io.wrErr.contains b
    let s1 := s.hmpAtOnce (m.cmd.c.port r.addr) r.addr r.bytes.length src (some (r.bytes, r.poison)) (!err) io.lat
    if err then (s1, m, some r)
    else State.sendWrites s1 io src { m with elements := m.elements + r.els, bad := m.bad + r.bad } rest

/-- The host read requests of a member's ports (R318). -/
def State.sendReads (s : State) (io : StreamIo) (src : Nat) (m : Member) : State :=
  m.ports.foldl (fun a p =>
    let o := if p.1 = 0 ∨ p.1 = 3 then m.cmd.a else if p.1 = 1 ∨ p.1 = 5 then m.cmd.b else m.cmd.c
    p.2.reqs.reverse.foldl (fun x r =>
      x.hmpAtOnce (o.port r.1) r.1 r.2 src none (!((unitsOf 4096 r.1 r.2).any fun b => io.rdErr.contains b)) io.lat) a) s

/-- A due access was not made at scheduled rank (R298). -/
def State.slotMiss (s : State) (m : Member) : Bool :=
  s.planLive && m.ports.any fun p =>
    match p.2.first, p.2.last with
    | some f, some l => decide (p.2.hits < mapDue s.shiftLen (s.cfg.active.mapFor m.d p.1) (f - m.lateBy) l)
    | _, _ => false

/-- The words of a completion record but for the time (R338). -/
def recordBits (d : Nat) (c : SCmd) (status fop resume flags holes : Nat) (late slotMiss csv part : Bool) : BitVec 256 :=
  BitVec.ofNat 256 (status % 256 + 2 ^ 8 * d + 2 ^ 12 * b2n late + 2 ^ 13 * b2n slotMiss + 2 ^ 14 * b2n csv + 2 ^ 15 * b2n part +
    2 ^ 16 * (flags % 32) + 2 ^ 24 * fop + 2 ^ 32 * c.userTag + 2 ^ 48 * c.chain + 2 ^ 64 * (resume % 2 ^ 32) +
    2 ^ 96 * (holes % 2 ^ 32) + 2 ^ 192 * c.user)

/-- What the run leaves with member `m`'s command: STATUS, RESUME and the record (R330 to R335). A cause at drift 16 is every member's
(R647). -/
def Run.ending (r : Run) (m : Member) (miss part : Bool) (c : DCmd) (since : Nat) : DCmd :=
  let folds := r.ms.any fun m => m.cmd.fold != 0
  let (status, fop, resume, p) := match r.stop with
    | none => (SS.ok, 0, m.cmd.n, false)
    | some (i, d, x) =>
      let at_ := if folds then 0 else i
      if d = m.d ∨ d = 16 then (x.status, x.fop, at_, part) else (SS.partner, 0, at_, false)
  { c with
    phase := .running, run := none, since := BitVec.ofNat 64 since, status := BitVec.ofNat 8 status, resume := BitVec.ofNat 32 resume
    record := recordBits m.d m.cmd status fop (resume % 2 ^ 32) m.flags m.holes m.late miss m.csv p
    qe := c.qe.map fun j => if j.wr then j else { j with bytes := m.data } }

/-- Every store of the run but those to host memory has been made by `cycle`: its host requests are made, and its commands are complete
(R324, R331). -/
def State.finishRun (s : State) (r : Run) (cycle : Nat) : State :=
  let src (m : Member) : Nat := if m.cmd.a.space = SP.engine ∨ m.cmd.c.space = SP.engine then 0x10 else m.d
  let s1 := r.ms.foldl (fun a m => a.sendReads r.io (src m) m) s
  let (s2, r2, part) := match r.term with
    | none => (s1, r, false)
    | some m =>
      let (t, m1, err) := s1.sendWrites r.io (src m) m (writeReqs m.stores.reverse)
      let r1 := r.setMember m1
      let t1 := t.setRun r1
      match err with
      | none => (t1, r1, false)
      | some w => (t1, { r1 with stop := some (w.el, m.d, causeOf (if m.cmd.c.indexed then SS.gather else SS.hmp) 2) }, w.split)
  let host := r2.ms.any fun m => !m.stores.isEmpty
  let since := cycle + 1 + (if host then r.io.lat else 0)
  let s3 := { s2 with str := { s2.str with runs := s2.str.runs.filter fun x => x.id != r.id } }
  r2.ms.foldl (fun a m =>
    let x := a.drift m.d
    a.setDrift m.d { x with
      held := x.held.map fun c => if c.run = some r.id then r2.ending m (s.slotMiss m) part c since else c
      freeAt := if m.beat < r2.ctx.beats then cycle + 1 else x.freeAt }) s3

/-- P of the run's payloads (R319). -/
def State.runP (s : State) (r : Run) : Nat := (r.term).elim 240 fun m => s.egressP m.cmd.c.addr

/-- The runs go on in `cycle` with what their ports have got. -/
def State.runsGo (s : State) (cycle : Nat) : State :=
  (s.str.runs.map fun r => r.id).foldl (fun a id =>
    let b := a.takeBeats id cycle
    let c := match b.run id with
      | some r =>
        let r1 := r.combine (b.runP r)
        b.setRun (if r1.stop.isSome && !r1.closed then r1.close (b.runP r) cycle else r1)
      | none => b
    let e := State.takeSends 520 c id cycle
    match e.run id with
    | some r => if r.closed && r.ms.all (fun m => m.writes.isEmpty && m.sends.isEmpty) then e.finishRun r cycle else e
    | none => e) s

/-- One CK_CORE cycle of the drifts. -/
def State.streamCycle (s : State) (cycle : Nat) : State :=
  let s1 := ((s.grantSched cycle).grantRest cycle).runsGo cycle
  { s1 with str := { s1.str with
    cyc := cycle + 1, asks := []
    used := s1.str.used.filter fun u => decide (cycle < u.cyc)
    lost := s1.str.lost.filter fun e => decide (cycle < e.1) } }

/-- The next cycle in which a run has something to do. -/
def State.runNext (s : State) (r : Run) : Option Nat :=
  let reads := if s.mode = Mode.halt ∨ r.ctx.stuck then [] else r.ms.filterMap fun m => r.readFrom m
  let writes := r.ms.filterMap fun m => (m.writes.head?).map fun w => w.at_
  let sends := r.ms.filterMap fun m => (m.sends.head?).bind fun f =>
    match s.egressOpen m.cmd.c.addr with
    | some g => if (s.lg g).egress.length ≥ 512 then none else some f.at_
    | none => some f.at_
  let ended := if r.stop.isSome && !r.closed || r.closed && r.ms.all fun m => m.writes.isEmpty && m.sends.isEmpty then [0] else []
  let late := r.ms.any fun m => (m.sends.head?).any fun _ => (s.egressOpen m.cmd.c.addr).any fun g => decide ((s.lg g).egress.length ≥ 512)
  ((if late then [] else reads) ++ (writes ++ sends ++ ended)).min?

/-- The next cycle in which any run has something to do. -/
def State.streamNext (s : State) : Option Nat :=
  ((s.str.runs.filterMap fun r => s.runNext r).min?).map fun c => max c s.str.cyc

/-- The drifts run through the cycles before `t`. The first argument bounds the cycles. -/
def State.runTo : Nat → State → Nat → State
  | 0, s, _ => s
  | fuel + 1, s, t =>
    match s.streamNext with
    | none => s
    | some c => if c < t then State.runTo fuel (s.streamCycle c) t else s

/-- The drifts have run up to the present fabric time. What hardware set before the present CK_CTL cycle is no event of it (R15). -/
def State.catchUp (s : State) : State :=
  if s.str.runs.isEmpty then s else
  let t := s.sch.ft.toNat
  let fuel := t - s.str.cyc + 1
  let s1 := State.runTo fuel s (t - s.core % ctlCycles)
  let s2 := State.runTo fuel { s1 with hits := s.hits } t
  { s2 with str := { s2.str with cyc := max t s2.str.cyc } }

/-- What the drifts ask of the present cycle is known, and its accesses at scheduled rank have been made (R28). -/
def State.meet (s : State) : State :=
  if s.str.runs.isEmpty then s else
  let s1 := s.catchUp
  let t := s1.str.cyc
  let s2 := if t = s1.sch.ft.toNat then s1.grantSched t else s1
  { s2 with str := { s2.str with asks := (s2.drawAsks t).map fun a => (a.d, a.word % 512) } }

/-- BUSY_CYC of every drift counts up to the present cycle (R65, R341). -/
def State.tallyBusy (s : State) : State :=
  (List.range 16).foldl (fun a d => if driftState (a.drift d).held = 0 then a else a.setDrift d (a.drift d)) s

/-- A cycle as fabric time numbers it after a step by `n`. -/
def moved (n : Int) (t : Nat) : Nat := (t + n).toNat

def Member.moveBy (n : Int) (m : Member) : Member :=
  { m with
    next := moved n m.next, payAt := moved n m.payAt
    ports := m.ports.map fun p => (p.1, { p.2 with first := p.2.first.map (moved n), last := p.2.last.map (moved n) })
    ready := m.ready.map fun b => { b with at_ := moved n b.at_ }
    writes := m.writes.map fun w => { w with at_ := moved n w.at_ }
    sends := m.sends.map fun f => { f with at_ := moved n f.at_, ready := moved n f.ready } }

def Drift.moveBy (n : Int) (x : Drift) : Drift :=
  let at64 (t : BitVec 64) : BitVec 64 := BitVec.ofInt 64 (t.toNat + n)
  { x with
    freeAt := moved n x.freeAt, postedAt := moved n x.postedAt, unblockedAt := moved n x.unblockedAt, busyAt := moved n x.busyAt
    held := x.held.map fun c => { c with commit := at64 c.commit, since := at64 c.since } }

/-- ACQUIRE steps fabric time by `n` cycles (R53): what the drifts, and the banks of staging memory, have yet to do keeps its distance. -/
def State.moveDrifts (s : State) (n : Int) : State :=
  { s with dbg := { s.dbg with writes := s.dbg.writes.map (moved n) }, str := { s.str with
    drifts := s.str.drifts.map fun e => (e.1, e.2.moveBy n)
    runs := s.str.runs.map fun r => { r with enter := moved n r.enter, ms := r.ms.map (Member.moveBy n) }
    cyc := moved n s.str.cyc
    used := s.str.used.map fun u => { u with cyc := moved n u.cyc }
    lost := s.str.lost.map fun e => (moved n e.1, e.2) } }

/-- `n` CK_CORE cycles pass, the drifts at work in them. -/
def State.pass (s : State) (n : Nat) : State := (s.wait n).catchUp

/-- Time moves forward to the CK_CORE cycle `t`, if that lies ahead (log entry 1), the drifts at work until then. -/
def State.passTo (s : State) (t : Nat) : State := (s.waitTo t).catchUp

/-- Time moves forward to the fabric time `t`, if that lies ahead (log entry 1), the drifts at work until then. -/
def State.passFt (s : State) (t : Nat) : State := (s.waitFt t).catchUp

/-- Time moves forward to `p`, a fabric time with its phase (R38), the drifts at work until then. -/
def State.passPhase (s : State) (p : Nat) : State := (s.waitPhase p).catchUp

/-- The drifts run on until `stop` holds or nothing is left that they could do by themselves: a command that waits for a drift takes
that long. The first argument bounds the cycles. -/
def State.runUntil : Nat → State → (State → Bool) → State
  | 0, s, _ => s
  | fuel + 1, s, stop =>
    if stop s then s else
    match s.streamNext with
    | none => s
    | some c => State.runUntil fuel (s.streamCycle c) stop

end Sys2Proof.Machine
end

