-- ==== Sys2Proof/Machine/PinEngine.lean ====
section
/-! DEFINITION. The SB pins, the pin engines and the timers (R541 to R543, R562 to R582). -/

namespace Sys2Proof.Machine

def State.pe (s : State) (n : Nat) : PinEngine := kget PinEngine.init s.sbd.pe n
def State.setPe (s : State) (n : Nat) (x : PinEngine) : State :=
  { s with sbd := { s.sbd with pe := kset PinEngine.init s.sbd.pe n x } }
def State.modPe (s : State) (n : Nat) (f : PinEngine → PinEngine) : State := s.setPe n (f (s.pe n))
def State.tm (s : State) (m : Nat) : Timer := kget Timer.init s.sbd.tm m
def State.setTm (s : State) (m : Nat) (x : Timer) : State :=
  { s with sbd := { s.sbd with tm := kset Timer.init s.sbd.tm m x } }
def State.modTm (s : State) (m : Nat) (f : Timer → Timer) : State := s.setTm m (f (s.tm m))

/-! ## Pins -/

/-- The owner code of pin `n` (R541). -/
def State.pinOwner (s : State) (n : Nat) : Nat := bits (s.reg (R.SBD_PINSELi (n / 4))).toNat (8 * (n % 4)) 5

/-- The owner codes in use (R541). -/
def ownerOk (c : Nat) : Bool := c == 0 || c == 1 || decide (c ≥ 8)

/-- The pin of position `p` of engine `n`, if the position is VALID (R562). -/
def State.pePin (s : State) (n p : Nat) : Option Nat :=
  let b := bits (s.reg (R.PEn_PINMAP_LO n + 4 * (p / 4))).toNat (8 * (p % 4)) 8
  if b ≥ 128 then some (b % 32) else none

/-- Output value and enable of pin `i`, by its owner (R541, R562, R581); every pin is high-impedance while MAIN is off. -/
def State.pinDrive (s : State) (i : Nat) : Bool × Bool :=
  let c := s.pinOwner i
  if !s.crp.mainUp || c = 0 then (false, false)
  else if c = 1 then (Nat.testBit (s.reg R.SBD_GPIO_OUT).toNat i, Nat.testBit (s.reg R.SBD_GPIO_OE).toNat i)
  else if c < 16 then
    match ((List.range 8).reverse).find? fun p => s.pePin (c - 8) p == some i with
    | some p => (Nat.testBit (s.pe (c - 8)).out.toNat p, Nat.testBit (s.pe (c - 8)).oe.toNat p)
    | none => (false, false)
  else (s.flag (F.TMm_STAT_OUT (c - 16)) != s.flag (F.TMm_CTRL_OUT_INV (c - 16)), true)

/-- How late a unit sees the pads (R543): two cycles of CK_SB for a pin engine, of CK_CTL for a timer and for SBD_PIN_IN. -/
def peLag : Nat := 2 * sbCycles
def ctlLag : Nat := 2 * ctlCycles

/-- The level of pin `i` that a unit `lag` CK_CORE cycles behind the pads sees: what the block drove there then, else what comes from
outside, as synchronised. -/
def State.pinSeen (s : State) (lag i : Nat) : Bool :=
  match s.sbd.drv.find? fun e => e.pin == i && decide (e.from_ + lag ≤ s.core) with
  | some e => if e.en then e.lvl else Nat.testBit s.sbd.pads.toNat i
  | none => Nat.testBit s.sbd.pads.toNat i

/-- The changes that some unit may not have seen yet at `now`, and before them the last one of each pin that every unit has. -/
def drvRecent (now : Nat) (es : List PadDrive) : List PadDrive :=
  (es.foldl (fun (a : List PadDrive × List Nat) e =>
    if a.2.contains e.pin then a else (a.1 ++ [e], if e.from_ + peLag ≤ now then e.pin :: a.2 else a.2)) ([], [])).1

/-- The pins follow their owners, and a change leaves the block (R542); it shows at the pads `lag` CK_CORE cycles later. -/
def State.updatePinsIn (s : State) (lag : Nat) : State :=
  let ps := (List.range 32).map fun i => (i, s.pinDrive i)
  let lvl := ps.foldl (fun a p => a + 2 ^ p.1 * b2n (p.2.1 && p.2.2)) 0
  let en := ps.foldl (fun a p => a + 2 ^ p.1 * b2n p.2.2) 0
  if lvl = s.sbd.outLvl.toNat ∧ en = s.sbd.outEn.toNat then s else
  let new := ps.filter fun p => (p.2.1 && p.2.2) != s.sbd.outLvl.getLsbD p.1 || p.2.2 != s.sbd.outEn.getLsbD p.1
  let drv := new.map fun p => ({ pin := p.1, from_ := s.core + lag, lvl := p.2.1, en := p.2.2 } : PadDrive)
  ({ s with sbd := { s.sbd with
      outLvl := BitVec.ofNat 32 lvl, outEn := BitVec.ofNat 32 en, drv := drvRecent s.core (drv ++ s.sbd.drv) } } : State).emit
    (.sbPins (BitVec.ofNat 32 lvl) (BitVec.ofNat 32 en))
def State.updatePins (s : State) : State := s.updatePinsIn 0

/-- The next fabric time that is a multiple of `n` and at which nothing of the kind has yet happened. -/
def State.nextEdge (s : State) (n : Nat) (last : Option (BitVec 64)) : Nat :=
  let t := s.sch.ft.toNat
  if t % n = 0 && last != some s.sch.ft then t else (t / n + 1) * n

/-- SBD_PINSELi takes a value; reserved owners keep the field (R20, R541). -/
def State.ownerSet (s : State) (i data : Nat) : State :=
  let old := (s.reg (R.SBD_PINSELi i)).toNat
  let new := (List.range 4).foldl (fun a j =>
    let c := bits data (8 * j) 5
    a + 2 ^ (8 * j) * (if ownerOk c then c else bits old (8 * j) 5)) 0
  (s.setReg (R.SBD_PINSELi i) (BitVec.ofNat 32 new)).updatePins

/-- A write of SBD_PINSELi: the change shows from the next CK_SB cycle on (R542). -/
def State.ownerWrite (s : State) (i data : Nat) : State := (s.passFt (s.nextEdge 64 (some s.sch.ft))).ownerSet i data

/-! ## Pin engines -/

def peMask (e : Nat) : Nat := bits e 0 8
def peVal (e : Nat) : Nat := bits e 8 8
def peDir (e : Nat) : Nat := bits e 16 8
def pePinop (e : Nat) : Nat := bits e 24 2
def peSout (e : Nat) : Bool := Nat.testBit e 26
def peOpos (e : Nat) : Nat := bits e 27 3
def peIpos (e : Nat) : Nat := bits e 30 3
def peShift (e : Nat) : Nat := bits e 33 2
def peFop (e : Nat) : Nat := bits e 35 3
def peBcld (e : Nat) : Bool := Nat.testBit e 38
def peWrap (e : Nat) : Bool := Nat.testBit e 39
def peTest (e : Nat) : Nat := bits e 40 4
def peNx (e : Nat) : Nat := bits e 44 8
def peImm (e : Nat) : Nat := bits e 52 11
def peEvt (e : Nat) : Bool := Nat.testBit e 63

/-- A reserved code or combination (R563, R564). -/
def peBad (e : Nat) : Bool :=
  pePinop e == 3 || peShift e == 3 || peFop e == 7 || decide (peTest e ≥ 9) ||
  ((peFop e == 1 || peFop e == 2) && peShift e != 0) ||
  (peFop e == 5 && (peBcld e || peShift e != 0)) || (peSout e && peShift e == 0)

/-- Depths of the feed and catch FIFO. -/
def State.feedDepth (s : State) (n : Nat) : Nat := s.f (F.PEn_DEPTH_FEED n)
def State.catchDepth (s : State) (n : Nat) : Nat := s.f (F.PEn_DEPTH_CATCH n)

/-- A held program and BASE become active (R573). -/
def State.peTake (s : State) (n : Nat) : State :=
  match (s.pe n).held with
  | some (prog, base) => (s.modPe n fun x => { x with prog := prog, held := none }).setF (F.PEn_BASE_BOTTOM n) base.toNat
  | none => s

/-- EN is cleared: a held copy becomes active at once (R567, R573). -/
def State.peStop (s : State) (n : Nat) : State :=
  ((s.setB (F.PEn_CTRL_EN n) false).setB (F.PEn_STAT_STALLED n) false).peTake n

/-- EN is set: S takes BOTTOM; SR, BC and MF are cleared (R567). -/
def State.peStart (s : State) (n : Nat) : State :=
  (s.setB (F.PEn_CTRL_EN n) true).modPe n fun x =>
    { x with s := BitVec.ofNat 8 (s.f (F.PEn_BASE_BOTTOM n)), sr := 0, bc := 0, mf := false }

/-- The present CK_SB cycle. -/
def State.sbCyc (s : State) : Nat := s.core / sbCycles

/-- Words that engine `x` finds in its feed and catch FIFO in CK_SB cycle `c`: those held before the software accesses of that cycle
(R570). -/
def PinEngine.feedSeen (x : PinEngine) (c : Nat) : Nat :=
  match x.sw with
  | some (b, f, _) => if b = c then min f x.feed.length else x.feed.length
  | none => x.feed.length
def PinEngine.catchSeen (x : PinEngine) (c : Nat) : Nat :=
  match x.sw with
  | some (b, _, k) => if b = c then max k x.catch_.length else x.catch_.length
  | none => x.catch_.length

/-- Software accesses a FIFO of the engine in CK_SB cycle `c`. -/
def PinEngine.touched (x : PinEngine) (c : Nat) : PinEngine :=
  { x with sw := match x.sw with
    | some (b, f, k) => if b = c then some (b, f, k) else some (c, x.feed.length, x.catch_.length)
    | none => some (c, x.feed.length, x.catch_.length) }

/-- The successor entry (R565): NX, BOTTOM at a wrap, where a held program becomes active, or the next. -/
def State.peNext (s : State) (n e : Nat) (taken : Bool) : State :=
  if taken then s.modPe n fun x => { x with s := BitVec.ofNat 8 (peNx e) }
  else if peWrap e then
    let s1 := s.peTake n
    s1.modPe n fun x => { x with s := BitVec.ofNat 8 (s1.f (F.PEn_BASE_BOTTOM n)) }
  else s.modPe n fun x => { x with s := x.s + 1 }

/-- The engine runs entry `e` for one CK_SB cycle (R563 to R570); its outputs are at the pads in the next one (R565). -/
def State.peRun (s : State) (n e : Nat) : State :=
  let x := s.pe n
  let fop := peFop e
  let feedEmpty := x.feedSeen s.sbCyc == 0
  let catchFull := decide (x.catchSeen s.sbCyc ≥ s.catchDepth n)
  if peBad e then ((s.peStop n).hit (F.PEn_STAT_PROG_ERR n)).raise (EV.pe n)
  else if ((fop = 1 ∨ fop = 5) ∧ feedEmpty) ∨ ((fop = 3 ∨ fop = 6) ∧ catchFull) then
    (s.setB (F.PEn_STAT_STALLED n) true).count (Cnt.sbe 3) 1
  else
    let inb := match s.pePin n (peIpos e) with
      | some i => s.pinSeen peLag i
      | none => false
    let t := peTest e
    let taken := t == 1 || (t == 2 && inb) || (t == 3 && !inb) || (t == 4 && x.bc != 0) || (t == 5 && x.mf) ||
      (t == 6 && feedEmpty) || (t == 7 && catchFull) || (t == 8 && x.sr == 0)
    let word := x.feed.headD 0
    let fed := (fop = 1 ∨ fop = 2 ∨ fop = 5) ∧ ¬ feedEmpty
    let bitOut := if peShift e = 1 then Nat.testBit x.sr.toNat 31 else Nat.testBit x.sr.toNat 0
    let sr := if (fop = 1 ∨ fop = 2) ∧ ¬ feedEmpty then word
      else if peShift e = 1 then BitVec.ofNat 32 (2 * x.sr.toNat + b2n inb)
      else if peShift e = 2 then BitVec.ofNat 32 (x.sr.toNat / 2 + 2 ^ 31 * b2n inb)
      else x.sr
    let bc := if peBcld e then BitVec.ofNat 11 (peImm e)
      else if fop = 5 then BitVec.ofNat 11 word.toNat
      else if peShift e ≠ 0 then BitVec.ofNat 11 (x.bc.toNat - 1)
      else x.bc
    let m := peMask e
    let out0 := if pePinop e = 1 then (x.out.toNat &&& (255 ^^^ m)) ||| (peVal e &&& m)
      else if pePinop e = 2 then x.out.toNat ^^^ m else x.out.toNat
    let out := if peSout e then putBits out0 (peOpos e) 1 (b2n bitOut) else out0
    let oe := if pePinop e = 1 then (x.oe.toNat &&& (255 ^^^ m)) ||| (peDir e &&& m) else x.oe.toNat
    let caught := if fop = 3 ∨ (fop = 4 ∧ ¬ catchFull) then [x.sr] else if fop = 6 then [BitVec.ofNat 32 x.bc.toNat] else []
    let y : PinEngine := { x with
      sr := sr, bc := bc
      mf := if fop = 2 then feedEmpty else x.mf
      feed := if fed then x.feed.drop 1 else x.feed
      catch_ := x.catch_ ++ caught
      caught := if x.catch_.isEmpty && !caught.isEmpty then some s.sbCyc else x.caught
      out := BitVec.ofNat 8 out, oe := BitVec.ofNat 8 oe }
    let s1 := (s.setPe n y).setB (F.PEn_STAT_STALLED n) false
    let s2 := if fop = 2 ∧ feedEmpty then s1.hit (F.PEn_STAT_MISS_E n) else s1
    let s3 := if fop = 4 ∧ catchFull then s2.hit (F.PEn_STAT_CATCH_OVF n) else s2
    let s4 := s3.peNext n e taken
    (if peEvt e then s4.raise (EV.pe n) else s4).updatePinsIn sbCycles

/-- A write of PEn_CTRL (R567, R573). -/
def State.peCtrl (s : State) (n data : Nat) : State :=
  let was := s.flag (F.PEn_CTRL_EN n)
  let en := Nat.testBit data 0
  let s1 := s.setB (F.PEn_CTRL_HOTSWAP n) (Nat.testBit data 1)
  let s2 := if Nat.testBit data 3 then s1.modPe n fun x => { x with feed := [], catch_ := [], sw := none, caught := none } else s1
  let s3 := if Nat.testBit data 4 then s2.modPe n fun x => { x with held := none } else s2
  if en && !was then s3.peStart n else if was && !en then s3.peStop n else s3

/-- A write of PEn_FEED (R569, R570). -/
def State.peFeed (s : State) (n : Nat) (w : Word) : State :=
  if (s.pe n).feed.length ≥ s.feedDepth n then s.hit (F.PEn_STAT_FEED_OVF n)
  else s.modPe n fun x => let y := x.touched s.sbCyc; { y with feed := y.feed ++ [w] }

/-- A read of PEn_CATCH (R569): of a FIFO that was empty before the engine's catch of the same CK_SB cycle it takes nothing (R570). -/
def State.peCatch (s : State) (n : Nat) : Word × State :=
  match (s.pe n).catch_ with
  | [] => (0, s.hit (F.PEn_STAT_EMPTY_RD n))
  | w :: rest =>
    if (s.pe n).caught = some s.sbCyc then (0, s.hit (F.PEn_STAT_EMPTY_RD n))
    else (w, s.modPe n fun x => { x.touched s.sbCyc with catch_ := rest })

/-- A rejected write: error status and PROG_ERR (R572). -/
def State.peReject (s : State) (n : Nat) : Bool × State := (true, s.hit (F.PEn_STAT_PROG_ERR n))

/-- A write of word `w` of the program store window (R572, R573), and whether it completes with error status. -/
def State.peProg (s : State) (n w data : Nat) : Bool × State :=
  let x := s.pe n
  let put (p : KMap (BitVec 64)) : KMap (BitVec 64) :=
    kset 0 p (w / 2) (BitVec.ofNat 64 (putBits (kget 0 p (w / 2) : BitVec 64).toNat (32 * (w % 2)) 32 data))
  if !s.flag (F.PEn_CTRL_EN n) then (false, s.setPe n { x with prog := put x.prog })
  else if !s.flag (F.PEn_CTRL_HOTSWAP n) then s.peReject n
  else
    let (p, b) := x.held.getD (x.prog, BitVec.ofNat 8 (s.f (F.PEn_BASE_BOTTOM n)))
    (false, s.setPe n { x with held := some (put p, b) })

/-- A write of PEn_BASE (R572, R573). -/
def State.peBase (s : State) (n data : Nat) : Bool × State :=
  let x := s.pe n
  if !s.flag (F.PEn_CTRL_EN n) then (false, s.setF (F.PEn_BASE_BOTTOM n) data)
  else if !s.flag (F.PEn_CTRL_HOTSWAP n) then s.peReject n
  else
    let (p, _) := x.held.getD (x.prog, 0)
    (false, s.setPe n { x with held := some (p, BitVec.ofNat 8 data) })

/-- A write of a PINMAP register (R572). -/
def State.pePinmap (s : State) (n : Nat) (hi : Bool) (data : Nat) : Bool × State :=
  if s.flag (F.PEn_CTRL_EN n) then s.peReject n
  else (false, (s.setReg (if hi then R.PEn_PINMAP_HI n else R.PEn_PINMAP_LO n) (BitVec.ofNat 32 (data &&& 0x9F9F9F9F))).updatePins)

/-- A write of PEn_DEPTH (R571, R572): reserved depths keep their field. -/
def State.peDepth (s : State) (n data : Nat) : Bool × State :=
  if s.flag (F.PEn_CTRL_EN n) then s.peReject n else
  let pick (new old : Nat) : Nat := if 1 ≤ new ∧ new ≤ 12 then new else old
  let fd := pick (bits data 0 4) (s.feedDepth n)
  let cd := pick (bits data 8 4) (s.catchDepth n)
  let others := ((List.range 8).filter fun i => i != n).foldl (fun a i => a + s.feedDepth i + s.catchDepth i) 0
  if !(s.pe n).feed.isEmpty || !(s.pe n).catch_.isEmpty || decide (others + fd + cd > 64) then
    (false, s.hit (F.PEn_STAT_PROG_ERR n))
  else (false, (s.setF (F.PEn_DEPTH_FEED n) fd).setF (F.PEn_DEPTH_CATCH n) cd)

/-- A PINPROG section at activation: the store of a disabled engine is replaced, that of one with HOTSWAP is held, any
other engine keeps its program (R137). -/
def State.peImage (s : State) (n : Nat) (prog : KMap (BitVec 64)) : State :=
  if !s.flag (F.PEn_CTRL_EN n) then s.modPe n fun x => { x with prog := prog }
  else if s.flag (F.PEn_CTRL_HOTSWAP n) then
    s.modPe n fun x => { x with held := some (prog, BitVec.ofNat 8 (s.f (F.PEn_BASE_BOTTOM n))) }
  else s.hit (F.PEn_STAT_PROG_ERR n)

/-! ## Timers -/

/-- The domain of timer `m` runs: MAIN, or the headframe for TM14 and TM15 (R574). -/
def State.tmRuns (s : State) (m : Nat) : Bool :=
  s.flag (F.TMm_CTRL_EN m) &&
    (s.crp.mainUp || (decide (m ≥ 14) && s.crp.headOn && s.f (F.TMm_CTRL_CLKSEL m) == 1))

/-- The gate lets a step through (R575). -/
def State.tmGate (s : State) (m : Nat) : Bool :=
  !s.flag (F.TMm_CTRL_GATE_EN m) || s.pinSeen ctlLag (s.f (F.TMm_CTRL_GATE_PIN m)) == s.flag (F.TMm_CTRL_GATE_POL m)

/-- Time passes for `n` steps of the timer's clock (R574): CK_CTL cycles, or CK_LF cycles of 26.2144 µs. -/
def State.tmWait (s : State) (m n : Nat) : State :=
  if s.f (F.TMm_CTRL_CLKSEL m) = 0 then s.pass (8 * n)
  else if s.f (F.TMm_CTRL_CLKSEL m) = 1 then s.pass (n * 524288 / 10)
  else s

/-- COUNT equals the compare value: OUT, CMPF and the event (R576). -/
def State.tmMatch (s : State) (m : Nat) : State :=
  ((s.setB (F.TMm_STAT_OUT m) true).hit (F.TMm_STAT_CMPF m)).raise (EV.tmCmp m)

/-- An expiry (R577, R582), but for the LINK step of the next timer. -/
def State.tmExpiry (s : State) (m : Nat) : State :=
  let s1 := ((s.hit (F.TMm_STAT_EXP m)).setF (F.TMm_STAT_LAP m) 0).raise (EV.tmExp m)
  let s2 := if s1.crp.mainUp then s1.count (Cnt.sbe 4) 1 else s1
  let s3 := if s2.flag (F.TMm_CTRL_ONESHOT m) then s2.setB (F.TMm_CTRL_EN m) false else s2
  if s3.flag (F.TMm_CTRL_WAKE m) then
    if m = 14 then { s3 with crp := { s3.crp with wake14 := true } }
    else if m = 15 then { s3 with crp := { s3.crp with wake15 := true } } else s3
  else s3

/-- A lap end of timer `m` by itself (R576, R577), an expiry where LAP equals LAPS. -/
def State.tmLapOver (s : State) (m : Nat) : State :=
  let lap := s.f (F.TMm_STAT_LAP m)
  let load := s.reg (R.TMm_LOAD m)
  let cmp := s.reg (R.TMm_CMP m)
  let s1 := ((s.setReg (R.TMm_COUNT m) load).modTm m fun x => { x with cmp := cmp }).setB (F.TMm_STAT_OUT m) false
  let s2 := if lap = s.f (F.TMm_CTRL_LAPS m) then s1.tmExpiry m else s1.setF (F.TMm_STAT_LAP m) (lap + 1)
  (if load = cmp then s2.tmMatch m else s2).updatePins

/-- `n` steps that end no lap: COUNT falls by `n`, and meets the compare value on the way or not (R576). -/
def State.tmDown (s : State) (m n : Nat) : State :=
  let c := (s.reg (R.TMm_COUNT m)).toNat
  let cmp := (s.tm m).cmp.toNat
  let s1 := s.setReg (R.TMm_COUNT m) (BitVec.ofNat 32 (c - n))
  if c - n ≤ cmp ∧ cmp < c then (s1.tmMatch m).updatePins else s1

/-- A lap end of timer `m`, and the LINK steps that follow an expiry: timer m + 1 takes one where its CLKSEL is LINK, it runs and its
gate is open, and so on (R574, R575, R577). The first argument bounds the chain. -/
def State.tmLapChain : Nat → State → Nat → State
  | 0, s, m => s.tmLapOver m
  | k + 1, s, m =>
    let s1 := s.tmLapOver m
    let n := m + 1
    if s.f (F.TMm_STAT_LAP m) = s.f (F.TMm_CTRL_LAPS m) ∧ n < 16 ∧ s1.f (F.TMm_CTRL_CLKSEL n) = 2 ∧ s1.tmRuns n = true ∧ s1.tmGate n = true then
      if s1.reg (R.TMm_COUNT n) = 0 then State.tmLapChain k s1 n else s1.tmDown n 1
    else s1
def State.tmLapEnd (s : State) (m : Nat) : State := State.tmLapChain 16 s m

/-- One step that the gate lets through (R576). -/
def State.tmStep (s : State) (m : Nat) : State := if s.reg (R.TMm_COUNT m) = 0 then s.tmLapEnd m else s.tmDown m 1

/-- The present lap runs to its end. -/
def State.tmLap (s : State) (m : Nat) : State :=
  let c := (s.reg (R.TMm_COUNT m)).toNat
  ((s.tmWait m c).tmDown m c |>.tmWait m 1).tmLapEnd m

/-- Laps run until an expiry, at most `n` of them. -/
def State.tmLaps (s : State) (m : Nat) : Nat → State
  | 0 => s
  | n + 1 => if s.f (F.TMm_STAT_LAP m) = s.f (F.TMm_CTRL_LAPS m) then s.tmLap m else (s.tmLap m).tmLaps m n

/-- Both buffers apply (R578, R579). -/
def State.tmLoad (s : State) (m : Nat) : State :=
  (((s.setReg (R.TMm_COUNT m) (s.reg (R.TMm_LOAD m))).modTm m fun x => { x with cmp := s.reg (R.TMm_CMP m) }).setB
    (F.TMm_STAT_OUT m) false).updatePins

/-- A write of TMm_CTRL (R578, R579, R582, R591): reserved clock codes keep the field. -/
def State.tmCtrl (s : State) (m data : Nat) : State :=
  let was := s.flag (F.TMm_CTRL_EN m)
  let clk := bits data 2 2
  let clk1 := if clk = 3 ∨ (clk = 2 ∧ m = 0) then s.f (F.TMm_CTRL_CLKSEL m) else clk
  let d1 := putBits data 2 2 clk1 &&& 0xFF1FFFEF
  let d2 := if m < 14 then putBits d1 20 1 0 else d1
  let s1 := (s.setReg (R.TMm_CTRL m) (BitVec.ofNat 32 d2)).updatePins
  let en := Nat.testBit data 0
  if en && !was then (s1.setF (F.TMm_STAT_LAP m) 0).tmLoad m
  else if Nat.testBit data 4 then (s1.pass ctlCycles).tmLoad m
  else s1

/-- The synchronised level of the capture pin becomes `v` (R580, R581). -/
def State.tmCapture (s : State) (m : Nat) (v : Bool) : State :=
  let x := s.tm m
  let pin := s.f (F.TMm_CTRL_CAP_PIN m)
  let s1 := { s with sbd := { s.sbd with pads := BitVec.ofNat 32 (putBits s.sbd.pads.toNat pin 1 (b2n v)) } }
  let s2 := s1.setTm m { x with pin := v, capAt := some (s.ctlCyc, s.reg (R.TMm_CAP m), s.flag (F.TMm_STAT_OVR m)) }
  let e := s.f (F.TMm_CTRL_CAP_EDGE m)
  if s.crp.mainUp && ((!x.pin && v && Nat.testBit e 0) || (x.pin && !v && Nat.testBit e 1)) then
    let s3 := if s2.flag (F.TMm_STAT_CAPV m) then s2.hit (F.TMm_STAT_OVR m) else s2
    ((s3.setReg (R.TMm_CAP m) (s3.reg (R.TMm_COUNT m))).setB (F.TMm_STAT_CAPV m) true).raise (EV.tmCap m)
  else s1.setTm m { x with pin := v }

/-- A read of TMm_CAP (R580): with a capture of the same CK_CTL cycle it returns the old value, and the new one stays unread, without an
overwrite. -/
def State.tmCapRead (s : State) (m : Nat) : Word × State :=
  match (s.tm m).capAt with
  | some (c, old, ovr) =>
    if c = s.ctlCyc then (old, (s.setB (F.TMm_STAT_OVR m) ovr).modTm m fun x => { x with capAt := none })
    else (s.reg (R.TMm_CAP m), s.setB (F.TMm_STAT_CAPV m) false)
  | none => (s.reg (R.TMm_CAP m), s.setB (F.TMm_STAT_CAPV m) false)

end Sys2Proof.Machine
end

