-- ==== Sys2Proof/Machine/ImageCheck.lean ====
section
/-! DEFINITION. The checks that the loader makes on an image (R106 to R114, R125 to R129, and the format rules of each
section): header, directory, section formats, cross checks, signature. A fault is a code of R129 and the directory index
of the section it lies in. -/

namespace Sys2Proof.Machine

/-- A number of `n` bytes at offset `o`. -/
def leAt (bs : List Byte) (o n : Nat) : Nat := leNat ((bs.drop o).take n)

/-- A fault: code, and section. -/
abbrev ImgFault := Nat × Option Nat

/-- The code if the condition holds. -/
def faultIf (c : Bool) (code : Nat) : List Nat := if c then [code] else []

/-- The least of the codes found. -/
def leastCode : List Nat → Option Nat
  | [] => none
  | c :: cs => some (cs.foldl min c)

/-- The lowest code, and the lowest section index among the faults with that code (R126). -/
def worst (fs : List ImgFault) : Option ImgFault :=
  match leastCode (fs.map fun f => f.1) with
  | none => none
  | some c => some (c, leastCode ((fs.filter fun f => f.1 == c).filterMap fun f => f.2))

/-! ## Header (R107) -/

/-- The fields of the header kept with an image. -/
def parseHdr (b : List Byte) : ImgHdr :=
  { planId := BitVec.ofNat 64 (leAt b 0x10 8), imageLen := leAt b 0x18 4, nSect := leAt b 0x1C 2
    flags := BitVec.ofNat 8 (leAt b 0x1F 1), endpoint := BitVec.ofNat 20 (leAt b 0x20 4), k := leAt b 0x24 1, svn := leAt b 0x25 1
    keySlot := leAt b 0x26 1, actShift := leAt b 0x28 8, sigOff := leAt b 0x3C 4 }

/-- FLAGS bits (R107). -/
def ImgHdr.tandem (h : ImgHdr) : Bool := Nat.testBit h.flags.toNat 0
def ImgHdr.returnOk (h : ImgHdr) : Bool := Nat.testBit h.flags.toNat 1
def ImgHdr.hotOk (h : ImgHdr) : Bool := Nat.testBit h.flags.toNat 2

/-- The faults of the header's 256 bytes (R106, R107, R116, R129). -/
def State.hdrFaults (s : State) (b : List Byte) : List Nat :=
  let h := parseHdr b
  let rel := leAt b 0x0C 4
  let active := s.cfg.imageActive
  let lc := s.lifecycle
  faultIf (leAt b 0 4 != 0x31495359 || leAt b 4 2 != 2 || leAt b 6 2 != 0x100 || leAt b 0x38 4 != 0x100) 0x01 ++
  faultIf (leAt b 0xF8 4 != crc32 (b.take 0xF8) || bits h.flags.toNat 3 5 != 0 || bits (leAt b 0x20 4) 20 12 != 0 ||
    bits rel 24 8 != 0 || decide (h.keySlot > 3) || leAt b 0x27 1 != 0 || leAt b 0x40 184 != 0 || leAt b 0xFC 4 != 0) 0x02 ++
  faultIf (leAt b 8 4 != 0x59566400 || bits rel 16 8 != 2 || decide (bits rel 8 8 > 4)) 0x03 ++
  faultIf (h.imageLen % 64 != 0 || decide (h.imageLen > 32 * 2 ^ 20) || h.imageLen != h.sigOff + 256 || h.sigOff % 64 != 0 ||
    decide (h.sigOff < 0x100 + 32 * h.nSect)) 0x04 ++
  faultIf (leAt b 0x1E 1 != 7) 0x05 ++
  faultIf (decide (h.k < 12) || decide (h.k > 26) || (active && h.k != s.k)) 0x06 ++
  faultIf (h.planId == 0 || h.planId.toNat == s.planId) 0x07 ++
  faultIf (active && h.endpoint.toNat != s.epid) 0x08 ++
  faultIf (decide (h.nSect < 1) || decide (h.nSect > 512)) 0x09 ++
  faultIf (lc == LC.end_ || (lc == LC.return_ && !h.returnOk)) 0x0E ++
  faultIf (active && !h.hotOk) 0x20

/-! ## Directory (R108 to R110, R695) -/

/-- Entry `i` from its 32 bytes. -/
def parseDir (i : Nat) (b : List Byte) : DirEnt :=
  { idx := i, typ := leAt b 0 2, inst := leAt b 2 2, off := leAt b 8 4, len := leAt b 0xC 4, dest := leAt b 0x10 4,
    scrc := leAt b 0x14 4, clean := leAt b 4 4 == 0 && leAt b 0x18 8 == 0 }

/-- The largest LENGTH of a section type (R110), if the type is assigned. -/
def sectLimit (t : Nat) : Option Nat :=
  [(1, 4096), (2, 512), (3, 2 ^ 17), (4, 2 ^ 17), (5, 2 ^ 20), (6, 4096), (7, 2 ^ 18), (8, 2 ^ 19), (9, 2 ^ 18), (10, 2048),
   (11, 2 ^ 16), (12, 2 ^ 16), (13, 1024), (14, 2 ^ 19), (15, 3932160), (16, 2 ^ 25), (17, 256), (18, 2 ^ 20)].lookup t

/-- The size of a section's destination region (R695); a NOTE section has none. -/
def sectRegion (t : Nat) : Option Nat :=
  if t = 8 then some 49152 else if t = 16 then some (2 ^ 26) else if t = 18 then none else sectLimit t

/-- INST values that R110 allows. -/
def instOk (t i : Nat) : Bool :=
  if t = 2 then decide (i < 2) else if t = 3 then decide (i < 16)
  else if t = 4 then decide (i < 2048) && bits i 4 4 == 0
  else if t = 10 then decide (i < 8) else i == 0

/-- Sections whose destination is plan memory. -/
def inPlan (t : Nat) : Bool := decide (1 ≤ t ∧ t ≤ 13) || t == 17

/-- The bytes of the half that a section's region occupies (R695). -/
def planRoom (e : DirEnt) : Nat := if inPlan e.typ then (e.dest + e.len + 63) / 64 * 64 else 0

/-- The faults of directory entry `e` after the entries `prev`, the nearest first (R108, R109, R110, R120, R695). -/
def State.dirFaults (s : State) (h : ImgHdr) (prev : List DirEnt) (e : DirEnt) : List Nat :=
  let lastEnd := match prev with
    | [] => 0x100 + 32 * h.nSect
    | p :: _ => p.off + p.len
  let room := prev.foldl (fun a p => a + planRoom p) (planRoom e)
  faultIf (!e.clean || e.len == 0 || e.off % 64 != 0 || decide (e.off < lastEnd) || decide (e.off + e.len > h.sigOff) ||
    (decide (1 ≤ e.typ ∧ e.typ ≤ 14) && prev.any fun p => decide (p.typ ≥ 15))) 0x09 ++
  faultIf ((sectLimit e.typ).isNone || !instOk e.typ e.inst) 0x0A ++
  faultIf ((sectLimit e.typ).any (fun l => decide (e.len > l)) || (sectRegion e.typ).any (fun r => decide (e.dest + e.len > r)) ||
    decide (room > 2 ^ 22)) 0x0C ++
  faultIf (s.cfg.imageActive && (e.typ == 15 || e.typ == 16)) 0x1A

/-! ## Section formats (code 0x0D) -/


/-- A LINKS entry (R220). -/
structure LinkEnt where
  active : Bool
  classS : Bool
  prot : Bool
  width : Nat
  rate : Nat
  base : Nat
  fbMask : Nat
  spareOk : Nat
  lineDelay : Nat
  pmaIn : Nat
  peer : Nat
  landBase : Nat
  landSlots : Nat
  pools : Nat
  cretInt : Nat
  replayLimit : Nat
  fecMode : Nat
  deriving DecidableEq, Repr

/-- Entry from its 64 bytes as a number. -/
def parseLink (r : Nat) : LinkEnt :=
  { active := Nat.testBit r 0, classS := Nat.testBit r 1, prot := Nat.testBit r 2, width := bits r 8 8, rate := bits r 16 8
    base := bits r 24 8, fbMask := bits r 32 8, spareOk := bits r 40 8, lineDelay := bits r 64 24, pmaIn := bits r 96 16
    peer := bits r 128 20, landBase := bits r 160 10, landSlots := bits r 176 16
    pools := (List.range 8).foldl (fun a i => a + bits r (192 + 16 * i) 16) 0
    cretInt := bits r 320 10, replayLimit := bits r 340 4, fecMode := bits r 336 4 }

/-- Lanes of a lane set at a rate, and the flit slots of a mark epoch (R41, R157). -/
def rateSet (rate : Nat) : Nat := if rate = 2 then 1 else if rate = 1 then 2 else 4
def LinkEnt.spe (e : LinkEnt) (w : Nat) : Nat := 400 / rateSet e.rate * 2 ^ w

/-- The checks of R221 on the eight entries. -/
def linksFault (es : List LinkEnt) : Bool :=
  let act := es.filter fun e => e.active
  let one (e : LinkEnt) : Bool :=
    decide (e.width > 4) || decide (e.rate > 2) || decide (2 ^ e.width < rateSet e.rate) || e.base % 2 ^ e.width != 0 ||
    decide (e.base + 2 ^ e.width > 16) || e.pools != e.landSlots || decide (e.landBase * 65536 + e.landSlots * 256 > 2 ^ 26) ||
    decide (e.cretInt < 16) || e.replayLimit == 0 || e.fecMode != 0
  let lanes := (act.map fun e => (List.range (2 ^ e.width)).map fun i => e.base + i).flatten
  let peers (b : Nat) := (act.filter fun e => Nat.testBit e.spareOk b).map fun e => e.peer
  let differ (ps : List Nat) : Bool := match ps with
    | [] => false
    | p :: rest => rest.any fun q => q != p
  act.any one || !decide lanes.Nodup || differ (peers 0) || differ (peers 1)

/-- A stream table entry breaks R295. -/
def streamFault (e : Nat) : Bool :=
  let k := bits e 0 2
  if k = 0 then e != 0 else if k = 1 then bits e 6 58 != 0
  else if k = 2 then bits e 36 28 != 0 || bits e 20 16 == 0 else bits e 5 59 != 0

/-- An entry of a REDUCE section of `len` bytes breaks the format (R379, R380). -/
def redEntBad (len r : Nat) : Bool :=
  let typ := bits r 16 4
  let op := bits r 20 3
  let nc := bits r 32 16
  Nat.testBit r 23 || decide (op < 1) || decide (op > 6) || decide (typ ≥ 0xE) || typ == 8 || typ == 9 || (decide (op ≥ 4) && decide (typ ≥ 8)) ||
    decide (bits r 24 8 > 4) || decide (nc < 1) || decide (nc > 4096) || bits r 128 32 == 0 || bits r 128 32 % typeSize typ != 0 ||
    bits r 215 9 != 0 || bits r 224 32 != 0 || decide (bits r 160 32 + 4 * nc > len)

/-- The contributor lists of a REDUCE section as a whole break its format, wherever they lie (R380): what is left to its last byte. -/
def listsFault (b : List Byte) : Bool :=
  (List.range (leAt b 0 4)).any fun i =>
    let r := leAt b (64 + 32 * i) 32
    let list := chunks 4 ((b.drop (bits r 160 32)).take (4 * bits r 32 16))
    list.any (fun e => bits e 20 12 != 0) || !decide list.Nodup

/-- LENGTH and DEST break the format of a section (R125): known as its first byte arrives. -/
def lengthFault (t dest n : Nat) : Bool :=
  if t = 1 then n != 4096
  else if t = 2 then n != 512
  else if t = 3 ∨ t = 4 ∨ t = 14 then n % 4 != 0
  else if t = 7 ∨ t = 11 then n % 16 != 0
  else if t = 8 then n != 49152
  else if t = 10 then n % 8 != 0 || dest % 8 != 0
  else if t = 12 then n % 8 != 0
  else if t = 13 then n != 1024 || dest != 0
  else false

/-- The word at section byte `o` breaks the format of a BANKSLOT section of `len` bytes as far as the stream phase checks it (R294,
R295); `sec x n` is the number that the `n` bytes from section byte `x` spell. -/
def bankslotWord (o len w : Nat) (sec : Nat → Nat → Nat) : Bool :=
  if o = 0 then decide (bits w 0 32 > 65536) || len != 64 + 8 * bits w 0 32 + 16 * bits w 32 32
  else if o < 64 then w != 0
  else decide (o < 64 + 8 * sec 0 4) && streamFault w

/-- The word at section byte `o` breaks the format of a REDUCE section (R379, R380): the header, an entry at its end, and what a
contributor list says so far. -/
def reduceWord (o m len w : Nat) (sec : Nat → Nat → Nat) : Bool :=
  let n := sec 0 4
  let ent (i : Nat) : Nat := sec (64 + 32 * i) 32
  if o = 0 then
    decide (n < 1) || decide (n > 4096) || decide (64 + 32 * n > len) || decide (65536 * (bits w 32 16 + bits w 48 16) > 2 ^ 26)
  else if o < 64 then w != 0
  else if o < 64 + 32 * n then
    let i := (o - 64) / 32
    (o + 8) % 32 == 0 && (redEntBad len (ent i) || (List.range i).any fun j => bits (ent j) 0 16 == bits (ent i) 0 16)
  else (List.range (m / 4)).any fun h => (List.range n).any fun i =>
    let x := o + 4 * h
    let cl := bits (ent i) 160 32
    decide (cl ≤ x) && decide (x < cl + 4 * bits (ent i) 32 16) && (x - cl) % 4 == 0 &&
      (bits (sec x 4) 20 12 != 0 || (List.range ((x - cl) / 4)).any fun j => sec (cl + 4 * j) 4 == sec x 4)

/-- The word at section byte `o`, of which `m` bytes belong to the section, ends a record that breaks the format of the section (code
0x0D, R125): the section's LENGTH, the number that its last `n` bytes so far spell, and those from byte `x` on. -/
def recordFault (t o m len : Nat) (back : Nat → Nat) (sec : Nat → Nat → Nat) : Bool :=
  let w := back 8
  if t = 1 then
    let r := back 32
    (o + 8) % 32 == 0 && (bits r 10 6 != 0 || bits r 27 5 != 0 || bits r 49 15 != 0 || bits r 81 15 != 0 ||
      bits r 96 3 != 0 || bits r 224 32 != 0)
  else if t = 2 then
    (List.range (m / 2)).any fun i => let e := bits w (16 * i) 16; bits e 8 8 != 0 || (bits e 0 1 == 1 && bits e 1 7 != 0)
  else if t = 3 ∨ t = 4 then
    (List.range (m / 4)).any fun i => let e := bits w (32 * i) 32; calClass e != 0 && calTag e != 0
  else if t = 5 then bankslotWord o len w sec
  else if t = 7 then
    let r := back 16
    (o + 8) % 16 == 0 && (bits r 48 80 != 0 || decide (bits r 32 8 > 3) || decide (bits r 40 8 > 7) ||
      (decide (o ≥ 24) && decide (bits (back 32) 0 16 > bits r 0 16)))
  else if t = 8 then if o < 0x4000 then bits w 8 56 != 0 else bits w 21 43 != 0
  else if t = 9 then reduceWord o m len w sec
  else if t = 10 then peBad w
  else if t = 11 then (o + 8) % 16 == 0 && bits (back 16) 96 32 != 0
  else if t = 13 then
    if o ≥ 0x200 then w != 0 else
    let r := back 64
    (o + 8) % 64 == 0 && (bits r 5 3 != 0 || bits r 48 16 != 0 || bits r 88 8 != 0 || bits r 148 12 != 0 || bits r 352 160 != 0 ||
      linksFault ((List.range (o / 64 + 1)).map fun i => parseLink (sec (64 * i) 64)))
  else false

/-! ## Cross checks -/

/-- The eight LINKS entries of a half. -/
def Half.links (h : Half) : List LinkEnt := (List.range 8).map fun i => parseLink (h.rd ST.links 0 (64 * i) 64)
def Half.link (h : Half) (g : Nat) : LinkEnt := parseLink (h.rd ST.links 0 (64 * g) 64)

/-- The directory index of a section. -/
def Half.idxOf (h : Half) (t i : Nat) : Option Nat := (h.find t i).map fun x => x.idx

/-- Shift slots of a group at a width code. -/
def Half.shiftSlots (h : Half) (g w : Nat) : Nat := 2 ^ (h.hdr.elim 12 fun x => x.k) / 4096 * (h.link g).spe w

/-- The calendars and fallback calendars of active groups: section, group, direction, width code, entries. -/
def Half.calendars (h : Half) : List (Sect × Nat × Nat × Nat × List Nat) :=
  h.sects.filterMap fun x =>
    let g := bits x.inst 1 3
    let e := h.link g
    if (x.typ = ST.calendar ∨ x.typ = ST.fallback) ∧ e.active then
      some (x, g, x.inst % 2, if x.typ = ST.calendar then e.width else bits x.inst 8 3, chunks 4 x.bytes)
    else none

/-- Code 0x12: sections that the directory `dir` misses or names too often, and FB_MASK bits without their sections (R110, R221). -/
def Half.missing (h : Half) (dir : List DirEnt) : List ImgFault :=
  let cnt (t i : Nat) := dir.filter fun x => x.typ == t && x.inst == i
  let need (t i : Nat) : List ImgFault := match cnt t i with
    | [] => [(0x12, none)]
    | [_] => []
    | _ :: y :: _ => [(0x12, some y.idx)]
  let most (t i : Nat) : List ImgFault := match cnt t i with
    | _ :: y :: _ => [(0x12, some y.idx)]
    | _ => []
  let act (g : Nat) := (h.link g).active
  ([(1, 0), (2, 0), (2, 1), (5, 0), (6, 0), (7, 0), (8, 0), (11, 0), (12, 0), (13, 0), (14, 0)].map fun p => need p.1 p.2).flatten ++
  ((List.range 16).map fun i => if act (i / 2) then need 3 i else (cnt 3 i).map fun x => (0x12, some x.idx)).flatten ++
  (((dir.filter fun x => x.typ == 4).map fun x => most 4 x.inst)).flatten ++
  (if h.hdr.any fun x => x.tandem then [] else (cnt 17 0).map fun x => (0x12, some x.idx)) ++
  ([(9, 0), (15, 0), (16, 0), (17, 0)].map fun p => most p.1 p.2).flatten ++ ((List.range 8).map fun i => most 10 i).flatten ++
  (((List.range 8).map fun g => (List.range 8).map fun c =>
    if act g && Nat.testBit (h.link g).fbMask c && ((cnt 4 (256 * c + 2 * g)).isEmpty || (cnt 4 (256 * c + 2 * g + 1)).isEmpty) then
      [((0x12, h.idxOf 13 0) : ImgFault)] else []).flatten).flatten

/-- A THREADS entry as a number of 32 bytes, and its fields (R424). -/
def Half.threadEnt (h : Half) (t : Nat) : Nat := h.rd ST.threads 0 (32 * t) 32
def teExists (e : Nat) : Bool := Nat.testBit e 0
def teFull (e : Nat) : Bool := Nat.testBit e 1
def teVec (e : Nat) : Bool := Nat.testBit e 2
def teShstk (e : Nat) : Bool := Nat.testBit e 3
def teHandler (e : Nat) : Bool := Nat.testBit e 4
def teFaultSelf (e : Nat) : Bool := Nat.testBit e 5
def teKeep (e : Nat) : Bool := Nat.testBit e 6
def teSec (e : Nat) : Bool := Nat.testBit e 7
def tePriv (e : Nat) : Bool := Nat.testBit e 8
def teCt (e : Nat) : Bool := Nat.testBit e 9
def tePoolW (e : Nat) : Nat := bits e 16 8
def teHmp (e : Nat) : Nat := bits e 24 3
def teEntry (e : Nat) : Nat := bits e 32 17
def teVecBase (e : Nat) : Nat := bits e 64 17
def teSp0 (e : Nat) : Nat := bits e 96 32
def teStkLo (e : Nat) : Nat := bits e 128 32
def teStkHi (e : Nat) : Nat := bits e 160 32
def teSsBase (e : Nat) : Nat := bits e 192 16
def teSsLen (e : Nat) : Nat := bits e 208 16


/-- Code 0x13: the thread profiles (R426). -/
def Half.threadsBad (h : Half) : Bool :=
  let es := (List.range 128).map fun t => (t, h.threadEnt t)
  let ex := es.filter fun p => teExists p.2
  let pipe (p : Nat) := ex.filter fun q => q.1 / 64 == p
  let words (p : Nat) : Nat := (pipe p).foldl (fun a q => a + if teFull q.2 then 128 else 8) 0
  let vecs (p : Nat) : Nat := ((pipe p).filter fun q => teVec q.2).length
  let code := match h.find ST.code 0 with
    | some x => (x.dest + x.bytes.length) / 4
    | none => 0
  let t0 := h.threadEnt 0
  let one (e : Nat) : Bool :=
    (teVec e && !teFull e) || decide (teStkHi e > secBase) || decide (teStkLo e > teStkHi e) || decide (teSp0 e < teStkLo e) ||
    decide (teSp0 e > teStkHi e) || (teShstk e && teSsLen e == 0) ||
    (decide (teSsLen e ≠ 0) && (decide (teSsBase e * 64 < 0x2000) || decide (64 * (teSsBase e + teSsLen e) > secSize))) ||
    decide (teEntry e ≥ code) || decide (teVecBase e + 256 > code)
  let shadow := ex.filter fun q => teSsLen q.2 != 0
  let meet (a b : Nat × Nat) : Bool := a.1 != b.1 && decide (teSsBase a.2 < teSsBase b.2 + teSsLen b.2) && decide (teSsBase b.2 < teSsBase a.2 + teSsLen a.2)
  decide (words 0 > 6144) || decide (words 1 > 6144) || decide (vecs 0 > 8) || decide (vecs 1 > 8) ||
  !(teExists t0 && teFull t0 && tePriv t0) || ex.any (fun q => one q.2) || shadow.any fun a => shadow.any fun b => meet a b

/-- Roster entry `s` of a pipe (R418). -/
def Half.rosterEnt (h : Half) (pipe s : Nat) : Nat := h.rd ST.roster pipe (2 * s) 2
/-- The thread that roster slot `s` names; `none` for POOL. -/
def Half.rosterThread (h : Half) (pipe s : Nat) : Option Nat :=
  let e := h.rosterEnt pipe s
  if e % 2 = 1 then none else some (bits e 1 7)

/-- Code 0x14: a roster names a thread that does not exist or is on the other pipe (R418). -/
def Half.rosterBad (h : Half) (pipe : Nat) : Bool :=
  (List.range 256).any fun i => match h.rosterThread pipe i with
    | some t => !teExists (h.threadEnt t) || t / 64 != pipe
    | none => false

/-- The owner and class of queue `q` in the QUEUES section; (0, 0) for a queue that no entry covers (R234). -/
def Half.queueOwner (h : Half) (q : Nat) : Nat × Nat :=
  match (chunks 16 (h.bytes ST.queues 0)).find? fun r =>
    let n := if bits r 16 16 = 0 then 65536 else bits r 16 16
    decide (bits r 0 16 ≤ q) && decide (q < bits r 0 16 + n) with
  | some r => (bits r 32 8, bits r 40 8)
  | none => (0, 0)

/-- Code 0x19: the queue partitions (R234). -/
def Half.queuesBad (h : Half) : Bool :=
  let es := (chunks 16 (h.bytes ST.queues 0)).map fun r => (bits r 0 16, if bits r 16 16 = 0 then 65536 else bits r 16 16, bits r 32 8, bits r 40 8)
  let rec overlap : List (Nat × Nat × Nat × Nat) → Bool
    | a :: b :: rest => decide (b.1 < a.1 + a.2.1) || overlap (b :: rest)
    | _ => false
  overlap es || es.any fun (f, n, o, c) => decide (f + n > 65536) || (c == 0) != (o == 3)

/-- The Class S runs of a calendar as (tag, slots, first slot). -/
def sRuns : Nat → List Nat → List (Nat × Nat × Nat)
  | _, [] => []
  | p, e :: es => if calClass e = 0 then (calTag e, calRun e, p) :: sRuns (p + calRun e) es else sRuns (p + calRun e) es

/-- The slots of a calendar that carry Class S, with their tags, in order. -/
def sSlots (c : List Nat) : List (Nat × Nat) := ((sRuns 0 c).map fun (t, n, p) => (List.range n).map fun i => (t, p + i)).flatten

/-- The egress groups whose calendars (fallback calendars too) carry each tag. -/
def Half.egressTags (h : Half) : List (Nat × Nat) :=
  ((h.calendars.filter fun c => c.2.2.1 == 0).map fun (_, g, _, _, es) => (sRuns 0 es).map fun r => (g, r.1)).flatten

/-- Code 0x15: runs that do not fill the shift, the tags that they name, and the entries of the tag table (R186, R296). -/
def Half.calendarFaults (h : Half) : List ImgFault :=
  let eg := h.egressTags
  let bad (g dir tag : Nat) : Bool := (dir == 0 && eg.any fun p => p.2 == tag && p.1 != g) ||
    match h.tagKind tag with
    | .queue q => (h.queueOwner q).1 != 3
    | .source _ => dir == 1
    | .forward o => if dir = 0 then o != g else (h.link o).prot != (h.link g).prot
    | .landing _ _ => dir == 0
    | .unused => true
  let cal := h.calendars.filterMap fun (x, g, dir, w, es) =>
    if es.foldl (fun a e => a + calRun e) 0 ≠ h.shiftSlots g w ∨ (sRuns 0 es).any fun r => bad g dir r.1 then
      some ((0x15, some x.idx) : ImgFault) else none
  let tags := (List.range (h.rd ST.bankslot 0 0 4)).any fun t => match h.tagKind t with
    | .landing b n => decide ((b + n) * 256 > 2 ^ 26)
    | .forward o => !(h.link o).active || !eg.contains (o, t)
    | _ => false
  cal ++ (if tags then [(0x15, h.idxOf ST.bankslot 0)] else [])

/-- The largest number of flits held at once, for pairs of (ready, sent) times (R212): a flit counts from the time it is
ready until the time it is sent. -/
def mostHeld (fs : List (Nat × Nat)) : Nat :=
  (fs.map fun f => (fs.filter fun x => decide (x.1 ≤ f.1) && decide (f.1 < x.2)).length).foldl max 0

/-- Codes 0x16 and 0x0D of a fallback calendar (R211, R212, R221). -/
def Half.fallbackFaults (h : Half) : List ImgFault :=
  let undeclared := h.sects.filterMap fun x =>
    let e := h.link (bits x.inst 1 3)
    if x.typ = ST.fallback ∧ !(e.active && Nat.testBit e.fbMask (bits x.inst 8 3)) then some ((0x16, some x.idx) : ImgFault) else none
  let each := h.calendars.filterMap fun (x, g, dir, w, es) =>
    if x.typ ≠ ST.fallback then none else
    let e := h.link g
    let norm := sSlots (h.calendar g dir none)
    let fb := sSlots es
    let t (spe p : Nat) : Nat := p * 262144 / spe
    let held := if dir = 0 then mostHeld ((norm.zip fb).map fun (a, b) => (t (e.spe e.width) a.2, t (e.spe w) b.2))
      else
        let outs := (List.range 8).map fun o =>
          let out := sSlots (h.calendar o 0 none)
          let tags := (fb.filter fun p => h.tagKind p.1 == .forward o).map fun p => p.1
          mostHeld ((tags.eraseDups.map fun tag =>
            let sent := out.filter fun p => p.1 == tag
            let rdy := fb.filter fun p => p.1 == tag
            (List.range rdy.length).map fun i =>
              (t (e.spe w) (rdy.getD i (0, 0)).2, match sent[i]? with
                | some q => t ((h.link o).spe (h.link o).width) q.2
                | none => 2 ^ 64)).flatten)
        outs.foldl max 0
    if norm.map (fun p => p.1) ≠ fb.map (fun p => p.1) ∨ held > 512 then some ((0x16, some x.idx) : ImgFault) else none
  let rec crosses (spe p : Nat) : List Nat → Bool
    | [] => false
    | r :: rs => (p / spe != (p + calRun r - 1) / spe) || crosses spe (p + calRun r) rs
  let cut := h.calendars.filterMap fun (x, g, _, w, es) =>
    if x.typ = ST.fallback ∧ crosses ((h.link g).spe w) 0 es then some ((0x0D, some x.idx) : ImgFault) else none
  undeclared ++ each ++ cut

/-- Code 0x0D: ROUTE entries that name inactive groups (R258). -/
def Half.routeBad (h : Half) : Bool :=
  (chunks 8 ((h.bytes ST.route 0).take 0x4000)).any fun v =>
    Nat.testBit v 0 && (!(h.link (bits v 1 3)).active || (Nat.testBit v 4 && !(h.link (bits v 5 3)).active))

/-- A bank-slot map entry (R297). -/
structure SlotEnt where
  start : Nat
  len : Nat
  bank0 : Nat
  bstep : Nat
  drift : Nat
  port : Nat
  per : Nat
  deriving DecidableEq, Repr

def parseSlot (r : Nat) : SlotEnt :=
  { start := bits r 0 32, len := bits r 32 32, bank0 := bits r 64 16, bstep := bits r 80 16, drift := bits r 96 8, port := bits r 104 8,
    per := bits r 112 8 }

/-- The slot entries of a half. -/
def Half.slots (h : Half) : List SlotEnt :=
  (chunks 16 ((h.bytes ST.bankslot 0).drop (64 + 8 * h.rd ST.bankslot 0 0 4))).map parseSlot

/-- Code 0x0D: the bank-slot map (R299). -/
def Half.slotsBad (h : Half) : Bool :=
  let raw := chunks 16 ((h.bytes ST.bankslot 0).drop (64 + 8 * h.rd ST.bankslot 0 0 4))
  let one (r : Nat) : Bool :=
    let e := parseSlot r
    bits r 26 6 != 0 || decide (e.bank0 ≥ 512) || decide (e.bstep ≥ 512) || bits r 120 8 != 0 || decide (e.port > 5) ||
    !(e.per == 1 || e.per == 2 || e.per == 4 || e.per == 8) || decide (e.drift > 15) || decide (e.len < 1) || decide (e.len > 2 ^ 26) ||
    decide (e.start + (e.len - 1) * e.per ≥ 2 ^ (h.hdr.elim 12 fun x => x.k))
  let rec order : List Nat → Bool
    | a :: b :: rest => decide (bits b 0 32 < bits a 0 32) || order (b :: rest)
    | _ => false
  raw.any one || order raw

/-- Two entries of the map meet in one bank in one cycle (R299). -/
def slotsMeet (a b : SlotEnt) : Bool :=
  (List.range a.len).any fun k =>
    let c := a.start + k * a.per
    decide (b.start ≤ c) && (c - b.start) % b.per == 0 && decide ((c - b.start) / b.per < b.len) &&
      (a.bank0 + k * a.bstep) % 512 == (b.bank0 + (c - b.start) / b.per * b.bstep) % 512

/-- An access of an entry lies in cycle `c` and bank `b`. -/
def slotHits (e : SlotEnt) (c b : Nat) : Bool :=
  decide (e.start ≤ c) && (c - e.start) % e.per == 0 && decide ((c - e.start) / e.per < e.len) &&
    (e.bank0 + (c - e.start) / e.per * e.bstep) % 512 == b

/-- The Class S landings of an ingress calendar: cycle in the shift and first word (R299, R328). -/
def Half.landings (h : Half) (g w : Nat) (es : List Nat) : List (Nat × Nat) :=
  let e := h.link g
  let len := 2 ^ (h.hdr.elim 12 fun x => x.k)
  let rec go (seen : KMap Nat) : List (Nat × Nat) → List (Nat × Nat)
    | [] => []
    | (tag, p) :: rest =>
      match h.tagKind tag with
      | .landing base n =>
        let k := kget 0 seen tag
        let cyc := (p * 262144 / e.spe w + e.lineDelay + e.pmaIn + 96 * 64 + 63) / 64
        (cyc % len, 4 * (base + k % n)) :: go (kset 0 seen tag (k + 1)) rest
      | _ => go seen rest
  go [] (sSlots es)

/-- Code 0x17: two scheduled accesses in one bank in one cycle (R299). -/
def Half.banksBad (h : Half) : Bool :=
  let es := h.slots
  let rec pairs : List SlotEnt → Bool
    | [] => false
    | a :: rest => rest.any (slotsMeet a) || pairs rest
  let lands := (h.calendars.filter fun c => c.2.2.1 == 1).map fun (_, g, _, w, cal) => (g, h.landings g w cal)
  let meet (a b : Nat × Nat) : Bool := a.1 == b.1 && (List.range 4).any fun i => (List.range 4).any fun j => (a.2 + i) % 512 == (b.2 + j) % 512
  let rec self : List (Nat × Nat) → Bool
    | [] => false
    | a :: rest => rest.any (meet a) || self rest
  pairs es || lands.any (fun l => self l.2 || l.2.any fun a => (List.range 4).any fun i => es.any fun e => slotHits e a.1 ((a.2 + i) % 512)) ||
    lands.any fun l => lands.any fun m => decide (l.1 < m.1) && l.2.any fun a => m.2.any (meet a)

/-- A CHAIN entry as a number of 32 bytes (R320). -/
def Half.chains (h : Half) : List Nat := chunks 32 (h.bytes ST.chain 0)
def chMembers (c : Nat) : Nat := bits c 0 16
def chTerm (c : Nat) : Nat := bits c 16 8
def chFeed (c d : Nat) : Nat := bits c (32 + 8 * d) 8
def feedTo (f : Nat) : Nat := bits f 0 4
def feedOp (f : Nat) : Nat := bits f 4 1
def feedValid (f : Nat) : Bool := Nat.testBit f 5

/-- Code 0x0D of a CHAIN section (R321). -/
def Half.chainFormat (h : Half) : Bool :=
  (h.bytes ST.chain 0).length % 32 != 0 || h.chains.any fun c =>
    bits c 24 8 != 0 || bits c 160 96 != 0 || (List.range 16).any fun d => bits (chFeed c d) 6 2 != 0

/-- Code 0x18 of a chain (R321). -/
def chainBad (c : Nat) : Bool :=
  let member (d : Nat) := Nat.testBit (chMembers c) d
  let t := chTerm c
  let feeds := (List.range 16).filter fun d => feedValid (chFeed c d)
  let rec reaches : Nat → Nat → Bool
    | 0, d => d == t
    | n + 1, d => d == t || reaches n (feedTo (chFeed c d))
  decide (t > 15) || !member t || feedValid (chFeed c t) ||
  (List.range 16).any (fun d => (member d && d != t && (!feedValid (chFeed c d) || !member (feedTo (chFeed c d)))) || (!member d && feedValid (chFeed c d))) ||
  !decide (feeds.map fun d => (feedTo (chFeed c d), feedOp (chFeed c d))).Nodup ||
  (List.range 16).any fun d => member d && !reaches 16 d

/-- Code 0x1B: an EXPERT or GUARD entry names an unassigned offset or bit, or a register marked B (R111, R112). -/
def expertBad (off mask : Nat) : Bool :=
  match (if off % 4 = 0 then regAt off else none) with
  | some d => !d.expert || mask &&& (2 ^ 32 - 1 - (d.rw ||| d.img ||| d.wo)) != 0
  | none => true

/-- The contents of a TANDEM section break R397. -/
def tandemBad (b : List Byte) : Bool :=
  let lat (o : Nat) : Bool := leAt b o 1 == 0 || decide (leAt b o 1 > 24)
  b.length != 256 || decide (leAt b 0 1 > 1) || decide (leAt b 1 1 > 1) || lat 2 || lat 3 || leAt b 4 2 == 0 ||
    decide (leAt b 6 1 > 15) || leAt b 7 1 != 0 || leAt b 8 4 == 0 || decide (leAt b 8 4 > 1000000) || leAt b 12 244 != 0

/-- Code 0x1F: the TANDEM section of an image whose FLAGS name one is missing in the directory `dir`, or has come and breaks R397. One that
comes after the cross phase is looked at as it arrives (log entry 100). -/
def Half.tandemFaults (h : Half) (dir : List DirEnt) : List ImgFault :=
  if (h.hdr.any fun x => x.tandem) && !(dir.any fun e => e.typ == ST.tandem) then [(0x1F, none)]
  else (h.sects.filter fun x => x.typ == ST.tandem && tandemBad x.bytes).map fun x => (0x1F, some x.idx)

/-- Every fault that the cross phase finds (R126) in a half whose image has the directory `dir`. `ecc` is a section with an uncorrectable
error. -/
def Half.crossFaults (h : Half) (dir : List DirEnt) (ecc : Option Nat) : List ImgFault :=
  let at_ (c : Bool) (code t i : Nat) : List ImgFault := if c then [(code, h.idxOf t i)] else []
  h.missing dir ++ at_ h.threadsBad 0x13 ST.threads 0 ++ at_ (h.rosterBad 0) 0x14 ST.roster 0 ++ at_ (h.rosterBad 1) 0x14 ST.roster 1 ++
  h.calendarFaults ++ h.fallbackFaults ++ at_ h.routeBad 0x0D ST.route 0 ++ at_ h.slotsBad 0x0D ST.bankslot 0 ++
  (if h.slotsBad then [] else at_ h.banksBad 0x17 ST.bankslot 0) ++ at_ h.chainFormat 0x0D ST.chain 0 ++
  at_ (h.chains.any chainBad) 0x18 ST.chain 0 ++ at_ h.queuesBad 0x19 ST.queues 0 ++
  at_ ((chunks 16 (h.bytes ST.expert 0)).any fun r => expertBad (bits r 0 32) (bits r 32 32)) 0x1B ST.expert 0 ++
  at_ ((chunks 8 (h.bytes ST.guard 0)).any fun r => expertBad (bits r 0 32) (bits r 32 32)) 0x1B ST.guard 0 ++
  h.tandemFaults dir ++
  match ecc with
  | some i => [(0x1C, some i)]
  | none => []

/-! ## Signature (R114, R116) -/

/-- An unsigned image, as a BLANK block accepts it (R116). -/
def unsignedSig (sig : List Byte) : Bool := (sig.take 192).all fun b => b == 0

/-- The faults that the signature phase finds, from the image bytes before SIG_OFF and the signature block. In BLANK a block with SIG_R and
SIG_S zero whose QX or QY is not is neither checked nor unsigned, and fails with 0x10 (DESIGN CHOICE, log entry 98). -/
def State.sigFaults (s : State) (h : ImgHdr) (body sig : List Byte) : List Nat :=
  let lc := s.lifecycle
  let num (o : Nat) : Nat := beNat ((sig.drop o).take 48)
  let checked := lc != LC.blank || num 0x60 != 0 || num 0x90 != 0
  let keys := s.f F.CFG_KEY_STAT_PRESENT
  let revoked := s.f F.CFG_KEY_STAT_REVOKED
  let hash := ((List.range 12).map fun i => natLe 4 (s.reg (R.CFG_KEYHn_i h.keySlot i)).toNat).flatten
  let keyBad := !Nat.testBit keys h.keySlot || Nat.testBit revoked h.keySlot || sha384 (sig.take 96) != hash
  let sigBad := !ecdsaVerify (num 0) (num 0x30) (num 0x60) (num 0x90) (beNat (sha384 body))
  if checked then
    faultIf keyBad 0x0F ++ faultIf sigBad 0x10 ++ faultIf (lc != LC.blank && decide (h.svn < s.f F.CFG_KEY_STAT_MIN_SVN)) 0x11
  else faultIf (!unsignedSig sig) 0x10

end Sys2Proof.Machine
end

