-- ==== Sys2Proof/Machine/LinkCtrl.lean ====
section
/-! DEFINITION. Training messages (R172 to R174), CTRL messages (R182, R183), and how a failing lane is resolved (R206 to
R214). -/

namespace Sys2Proof.Machine

/-! ## PARAM and DELAY -/

/-- The arguments of a PARAM flit (R172, R182), as a number whose byte 0 is payload byte 4. -/
def State.paramArgs (s : State) (g : Nat) : Nat :=
  let flags := b2n (s.lg g).seqKeep + 2 * s.f (F.LNK_LGn_CFG_PROT g) + 4 * s.f (F.LNK_LGn_CFG_CLASS_S g)
  let pools := (List.range 8).foldl (fun a v => a + 2 ^ (16 * v) * (s.advertised g v % 2 ^ 16)) 0
  s.epid + 2 ^ 32 * s.f (F.LNK_LGn_CFG_WIDTH g) + 2 ^ 40 * s.f (F.LNK_LGn_CFG_RATE g) +
    2 ^ 48 * s.f (F.LNK_LGn_CFG_BASE g) + 2 ^ 56 * flags + 2 ^ 96 * pools +
    2 ^ 224 * s.f (F.LNK_LGn_RSEQ_RX_NEXT g)

/-- Whether the peer's parameters match this end's (R172). -/
def State.paramMatch (s : State) (g : Nat) (f : Flit) : Bool :=
  f.byte 8 == s.f (F.LNK_LGn_CFG_WIDTH g) && f.byte 9 == s.f (F.LNK_LGn_CFG_RATE g) &&
  bits (f.byte 11) 2 1 == s.f (F.LNK_LGn_CFG_CLASS_S g) && bits (f.byte 11) 1 1 == s.f (F.LNK_LGn_CFG_PROT g) &&
  (!s.cfg.imageActive || bits (f.le 4 4) 0 20 == s.cfg.active.peerId g)

/-- Both ends have acknowledged matching parameters: the sequence state is kept only when both keep it (R173), credits
start from the free space advertised (R194), and the group enters DELAY. -/
def State.endParam (s : State) (g : Nat) (f : Flit) : State :=
  let x := s.lg g
  if !(x.paramSeen && x.ackSeen) then s else
  let keep := x.seqKeep && x.peerKeep
  let s1 := if keep then s.ackUpTo g ((f.le 32 4 + 2 ^ 17 - 1) % 2 ^ 17) else
    (((s.modLg g fun x => { x with replay := [], resend := 0 }).setF (F.LNK_LGn_SEQ_TX_NEXT g) 0).setF
      (F.LNK_LGn_RSEQ_RX_NEXT g) 0).syncUnacked g
  if s1.tstate g ≠ TS.param then s1 else
  let held := fun v => ((s1.lg g).replay.filter fun b => (if b.sh then 0 else b.vc.toNat) == v).length
  let s2 := (List.range 8).foldl (fun a v =>
    (a.setF (F.LNK_LGn_CREDv_TX_AVAIL g v) (f.le (16 + 2 * v) 2 - held v)).modLg g fun x =>
      { x with peerPool := kset 0 x.peerPool v (if keep then max (kget 0 x.peerPool v) (f.le (16 + 2 * v) 2) else f.le (16 + 2 * v) 2) }) s1
  (s2.setF (F.LNK_LGn_STAT_TSTATE g) TS.delay).modLg g fun x =>
    { x with entered := s.now, resend := x.replay.length, ackAt := s.now }

/-- A PARAM or PARAM_ACK flit (R172). -/
def State.takeParam (s : State) (g : Nat) (f : Flit) (ack : Bool) : State :=
  if s.tstate g = TS.param then
    if !s.paramMatch g f then s.hit (F.LNK_LGn_STAT_PEER_ERR g) else
    let keep := Nat.testBit (f.byte 11) 0
    if ack then
      (s.modLg g fun x => { x with ackSeen := true, peerKeep := keep }).endParam g f
    else
      let s1 := s.queueCtrl g FT.train (ctrlPay CMD.paramAck f.txn (s.paramArgs g))
      (s1.modLg g fun x => { x with paramSeen := true, peerKeep := keep }).endParam g f
  else if !ack && (s.tstate g = TS.delay || s.tstate g = TS.sync) then
    s.queueCtrl g FT.train (ctrlPay CMD.paramAck f.txn (s.paramArgs g))
  else s

/-- The measurement is complete at both ends: the group waits for the next epoch in SYNC (R168). -/
def State.endDelay (s : State) (g : Nat) : State :=
  if s.tstate g = TS.delay && decide ((s.lg g).dlyCount ≥ 16) && decide ((s.lg g).dlyAnswered ≥ 16) then
    (s.setF (F.LNK_LGn_STAT_TSTATE g) TS.sync).modLg g fun x => { x with entered := s.now }
  else s

/-- A DELAY_REQ that arrived at time stamp `arr` is answered in the next epoch (R174). -/
def State.takeDelayReq (s : State) (g : Nat) (f : Flit) (arr : Nat) : State :=
  if s.tstate g = TS.param || s.tstate g = TS.delay || s.tstate g = TS.sync then
    let t2 := (arr + 2 ^ 64 - s.f F.SCH_PMA_LAT_RX_LAT) % 2 ^ 64
    let pay := ctrlPay CMD.delayRsp f.txn (2 ^ 32 * f.le 8 8 + 2 ^ 96 * t2)
    s.modLg g fun x => { x with dlyRsp := x.dlyRsp ++ [pay] }
  else s

/-- The measured delay differs by more than 32 phase units from the declared one (R49). -/
def State.checkDelay (s : State) (g : Nat) : State :=
  let d := s.f (F.SCH_LGn_DELAY_DELAY g)
  let w := s.cfg.active.lineDelay g
  let bad := s.cfg.imageActive && (decide (d > w + 32) || decide (w > d + 32))
  ((s.setB (F.SCH_LGn_PEER_DELAY_MISMATCH g) bad).setSchGroup g { s.schGroup g with voidDelay := bad }).refreshVoid

/-- A DELAY_RSP that arrived at time stamp `arr` completes an exchange; the sixteenth gives the delay (R174), 0 where the mean
comes out negative (DESIGN CHOICE, log entry 91). -/
def State.takeDelayRsp (s : State) (g : Nat) (f : Flit) (arr : Nat) : State :=
  if s.tstate g = TS.delay && decide ((s.lg g).dlyCount < 16) then
    let t4 := (arr + 2 ^ 64 - s.f F.SCH_PMA_LAT_RX_LAT) % 2 ^ 64
    let d := sext (t4 + 2 ^ 65 - f.le 8 8 - f.le 24 8 + f.le 16 8) 64
    let s1 := s.modLg g fun x => { x with dlyCount := x.dlyCount + 1, dlySum := x.dlySum + d }
    if (s1.lg g).dlyCount < 16 then s1 else
    let mean := ((s1.lg g).dlySum + 16).fdiv 32
    let s2 := s1.setSchGroup g { s1.schGroup g with measured := true }
    ((s2.setF (F.SCH_LGn_DELAY_DELAY g) mean.toNat).checkDelay g).endDelay g
  else s

/-- A TRAIN flit that passed its CRC: in UP it sends the group to SIGNAL, else the training state handles it (R190). -/
def State.trainMsg (s : State) (g : Nat) (f : Flit) (arr : Nat) : State :=
  if s.lgUp g then s.toSignal g true
  else if s.tstate g < TS.param then s
  else if f.cmd = CMD.param then s.takeParam g f false
  else if f.cmd = CMD.paramAck then s.takeParam g f true
  else if f.cmd = CMD.delayReq then s.takeDelayReq g f arr
  else if f.cmd = CMD.delayRsp then s.takeDelayRsp g f arr
  else s

/-! ## Lane failures, remaps and width changes -/

/-- The spare arrives no later than the group's alignment point, which DESKEW has fixed (R171, R208). -/
def State.spareInTime (s : State) (g p : Nat) : Bool := decide (s.f (F.LNK_Ln_STAT_SKEW p) ≤ (s.lg g).alignAt)

/-- The largest permitted width code below the present one with an aligned block that holds no failed lane, and the lowest
such block (R158, R210). -/
def State.pickWidth (s : State) (g : Nat) : Option (Nat × Nat) :=
  let least := if s.setLanes g = 1 then 0 else if s.setLanes g = 2 then 1 else 2
  let codes := ((List.range (s.f (F.LNK_LGn_STAT_WIDTH g))).reverse).filter fun c => decide (least ≤ c)
  let base := s.f (F.LNK_LGn_CFG_BASE g)
  codes.findSome? fun c =>
    ((List.range (s.cfgWidth g / 2 ^ c)).find? fun j =>
      (List.range (2 ^ c)).all fun i => !s.laneBad (s.rxPhys g (base + j * 2 ^ c + i))).map fun j => (c, j)

/-- A width change is asked for, or the group retrains: the second and third ways of R207. -/
def State.resolveByWidth (s : State) (g : Nat) : State :=
  match (if s.flag (F.LNK_LGn_CTRL_DEGRADE_EN g) then s.pickWidth g else none) with
  | some (c, j) =>
    ((s.sendRequest g CMD.widthReq (c + 2 ^ 8 * j)).setB (F.LNK_LGn_STAT_WIDTH_BUSY g) true).modLg g fun x =>
      { x with width := some { code := c, block := j, epoch := none } }
  | none => s.toSignal g true

/-- A failing or failed logical lane of an UP group is resolved in the first way of R207 that applies; the loss of every lane
retrains (R169). While a remap or a width change is in progress it stays owed. -/
def State.resolveLane (s : State) (g l : Nat) : State :=
  let x := s.lg g
  if !s.lgUp g then s else
  if (s.nowLanes g).all fun k => s.laneBad (s.rxPhys g k) then s.toSignal g true else
  if x.remap.isSome || x.width.isSome then s.setLg g { x with laneOwed := true } else
  match (if s.flag (F.LNK_LGn_CTRL_REMAP_EN g) && s.setLanes g = 1 then s.freeSpares g else []) with
  | [] => s.resolveByWidth g
  | p :: ps =>
    match (p :: ps).find? fun p => s.spareInTime g p with
    | some p =>
      ((s.sendRequest g CMD.remapReq (l + 2 ^ 8 * p)).setB (F.LNK_LGn_STAT_REMAP_BUSY g) true).modLg g fun x =>
        { x with remap := some { lane := l, spare := p, receiver := true, epoch := none, valid := 0, done := false } }
    | none => (s.hit (F.LNK_LGn_STAT_REMAP_REFUSED g)).resolveByWidth g

/-- The group that physical lane `p` receives for, and the logical lane (R166, R224): a spare's from LNK_SPARE_STAT, any other lane's by
the wiring that DESKEW found, unless a spare has taken its place. -/
def State.logicalOf (s : State) (p : Nat) : Option (Nat × Nat) :=
  if p ≥ 16 then (if s.f (spareRx p) = noLane then none else some (s.f (spareRxLg p), s.f (spareRx p)))
  else ((List.range 8).find? fun g => s.flag (F.LNK_LGn_CFG_ACTIVE g) && (s.cfgLanes g).contains p).bind fun g =>
    ((s.cfgLanes g).find? fun l => s.rxPhys g l == p).map fun l => (g, l)

/-- The logical lane that physical lane `p` serves, if its group uses it now, is to be resolved (R206, R207). -/
def State.resolvePhys (s : State) (p : Nat) : State :=
  match s.logicalOf p with
  | some (g, l) => if (s.nowLanes g).contains l then s.resolveLane g l else s
  | none => s

/-- Physical lane `p` fails: counted, FAILED is set, and the group that it serves resolves it (R206, R207). -/
def State.laneFail (s : State) (p : Nat) : State :=
  ((s.count (Cnt.lane p 3) 1).hit (F.LNK_Ln_STAT_FAILED p)).resolvePhys p

/-! ## CTRL messages received -/

/-- REMAP_REQ at the sender: REMAP_GO names an epoch at least one epoch ahead (R209); a busy spare is refused. -/
def State.takeRemapReq (s : State) (g : Nat) (f : Flit) : State :=
  let l := f.byte 4
  let p := f.byte 5
  if p ≠ 16 ∧ p ≠ 17 then s else
  if s.f (spareTx p) ≠ 0x1F || (s.lg g).remap.isSome || !Nat.testBit (s.f (F.LNK_LGn_CFG_SPARE_OK g)) (p - 16) then
    s.sendAnswer g f.txn CMD.refuse (CMD.remapReq + 2 ^ 8 * 1)
  else
    let e := s.epochNo + 2
    ((s.sendAnswer g f.txn CMD.remapGo (l + 2 ^ 8 * p + 2 ^ 32 * epoch28 e)).setB (F.LNK_LGn_STAT_REMAP_BUSY g) true).modLg g fun x =>
      { x with remap := some { lane := l, spare := p, receiver := false, epoch := some e, valid := 0, done := false } }

/-- The epoch nearest to the present one that has these low 28 bits. -/
def State.fullEpoch (s : State) (e : Nat) : Nat :=
  let now := s.epochNo
  let c := now / 2 ^ 28 * 2 ^ 28 + e % 2 ^ 28
  if c + 2 ^ 27 < now then c + 2 ^ 28 else if now + 2 ^ 27 < c && decide (2 ^ 28 ≤ c) then c - 2 ^ 28 else c

/-- REMAP_GO at the receiver: from its epoch the spare carries the lane (R209). -/
def State.takeRemapGo (s : State) (g : Nat) (f : Flit) : State :=
  match (s.lg g).remap with
  | some r =>
    if r.receiver && r.lane == f.byte 4 && r.spare == f.byte 5 then
      (s.endRequest g f.txn).modLg g fun x => { x with remap := some { r with epoch := some (s.fullEpoch (f.le 8 4)) } }
    else s
  | none => s

/-- REMAP_DONE at the sender: from the next epoch it stops driving the old lane (R209). -/
def State.takeRemapDone (s : State) (g : Nat) (f : Flit) : State :=
  match (s.lg g).remap with
  | some r =>
    if !r.receiver && r.lane == f.byte 4 && r.spare == f.byte 5 then
      s.modLg g fun x => { x with remap := some { r with done := true, epoch := some (s.epochNo + 1) } }
    else s
  | none => s

/-- WIDTH_REQ at the sender: WIDTH_ACK names a switch epoch at least two epochs ahead (R210). -/
def State.takeWidthReq (s : State) (g : Nat) (f : Flit) : State :=
  let c := f.byte 4
  let least := if s.setLanes g = 1 then 0 else if s.setLanes g = 2 then 1 else 2
  if !s.flag (F.LNK_LGn_CTRL_DEGRADE_EN g) || decide (c ≥ s.f (F.LNK_LGn_STAT_WIDTH g)) || decide (c < least) ||
      decide (f.byte 5 ≥ s.cfgWidth g / 2 ^ c) then
    s.sendAnswer g f.txn CMD.refuse (CMD.widthReq + 2 ^ 8 * 2)
  else
    let e := s.epochNo + 3
    ((s.sendAnswer g f.txn CMD.widthAck (c + 2 ^ 8 * f.byte 5 + 2 ^ 32 * epoch28 e)).setB (F.LNK_LGn_STAT_WIDTH_BUSY g) true).modLg g
      fun x => { x with width := some { code := c, block := f.byte 5, epoch := some e } }

/-- WIDTH_ACK at the receiver fixes the switch epoch (R210). -/
def State.takeWidthAck (s : State) (g : Nat) (f : Flit) : State :=
  match (s.lg g).width with
  | some w =>
    if w.code == f.byte 4 && w.block == f.byte 5 then
      (s.endRequest g f.txn).modLg g fun x => { x with width := some { w with epoch := some (s.fullEpoch (f.le 8 4)) } }
    else s
  | none => s

/-- The decision point of shift boundary `n` has passed (R65). -/
def State.decisionPassed (s : State) (n : Nat) : Bool := decide (n * s.shiftLen ≤ s.sch.ft.toNat + 16384)

/-- RESTORE_REQ names the first boundary at least 32,768 cycles away (R214). -/
def State.askRestore (s : State) (g : Nat) : State :=
  let n := (s.sch.ft.toNat + 32768 + s.shiftLen - 1) / s.shiftLen
  ((s.sendRequest g CMD.restoreReq (2 ^ 32 * n)).setB (F.LNK_LGn_STAT_WIDTH_BUSY g) true).modLg g fun x =>
    { x with restore := some n, restoreAcked := false, goodEpochs := 0 }

/-- RESTORE_REQ at the sender (R214). -/
def State.takeRestoreReq (s : State) (g : Nat) (f : Flit) : State :=
  let n := f.le 8 8
  if s.decisionPassed n then s.sendAnswer g f.txn CMD.refuse (CMD.restoreReq + 2 ^ 8 * 3)
  else
    ((s.sendAnswer g f.txn CMD.restoreAck (2 ^ 32 * n)).setB (F.LNK_LGn_STAT_WIDTH_BUSY g) true).modLg g fun x =>
      { x with restore := some n, restoreAcked := true }

/-- RESTORE_ACK at the receiver: past the boundary's decision point it is refused, and a later boundary asked for
(R214). -/
def State.takeRestoreAck (s : State) (g : Nat) (f : Flit) : State :=
  if (s.lg g).restore ≠ some (f.le 8 8) then s else
  let s1 := s.endRequest g f.txn
  if s.decisionPassed (f.le 8 8) then
    (s1.queueCtrl g FT.ctrl (ctrlPay CMD.refuse f.txn (CMD.restoreAck + 2 ^ 8 * 3))).askRestore g
  else s1.modLg g fun x => { x with restoreAcked := true }

/-- REFUSE ends the refused exchange (R182): a refused remap is reported and the lane resolved by the next way (R207), a
refused width change retrains, a refused restore is dropped. -/
def State.takeRefuse (s : State) (g : Nat) (f : Flit) : State :=
  let s1 := s.endRequest g f.txn
  if f.byte 4 = CMD.remapReq then
    if (s.lg g).remap.any fun r => r.receiver then
      (((s1.modLg g fun x => { x with remap := none }).setB (F.LNK_LGn_STAT_REMAP_BUSY g) false).hit
        (F.LNK_LGn_STAT_REMAP_REFUSED g)).resolveByWidth g
    else s1
  else if f.byte 4 = CMD.widthReq then
    if (s.lg g).width.isSome then s1.toSignal g true else s1
  else if f.byte 4 = CMD.restoreReq || f.byte 4 = CMD.restoreAck then
    (s1.modLg g fun x => { x with restore := none, restoreAcked := false }).setB (F.LNK_LGn_STAT_WIDTH_BUSY g) false
  else s1

/-- A CTRL flit that passed its checks; a request already answered gets the same answer again (R183). -/
def State.ctrlMsg (s : State) (g : Nat) (f : Flit) : State :=
  if !s.lgUp g then s else
  let req := f.cmd == CMD.remapReq || f.cmd == CMD.widthReq || f.cmd == CMD.restoreReq
  match (if req then s.answered g f.txn else none) with
  | some a => s.queueCtrl g FT.ctrl a.pay
  | none =>
    if f.cmd = CMD.remapReq then s.takeRemapReq g f
    else if f.cmd = CMD.remapGo then s.takeRemapGo g f
    else if f.cmd = CMD.remapDone then s.takeRemapDone g f
    else if f.cmd = CMD.widthReq then s.takeWidthReq g f
    else if f.cmd = CMD.widthAck then s.takeWidthAck g f
    else if f.cmd = CMD.restoreReq then s.takeRestoreReq g f
    else if f.cmd = CMD.restoreAck then s.takeRestoreAck g f
    else if f.cmd = CMD.refuse then s.takeRefuse g f
    else s

/-! ## What an epoch start does (R168, R209, R210, R214) -/

/-- SYNC ends at an epoch start: the group is UP, its lanes in use (R168, R169). -/
def State.epochUp (s : State) (g : Nat) : State :=
  if s.tstate g = TS.sync then
    let s1 := (s.setF (F.LNK_LGn_STAT_TSTATE g) TS.up).modLg g fun x =>
      { x with entered := s.now, seqKeep := true, ackAt := s.now, ackSentAt := s.now, goodEpochs := 0 }
    ((s1.markInUse g).syncLanes).raise (EV.lnkUp g)
  else s

/-- The other spare no longer serves lane `l`, which spare `p` has taken (R167, R209). -/
def State.dropSpareRx (s : State) (p l : Nat) : State :=
  let q := 33 - p
  if s.f (spareRx q) = l then
    ((s.setF (spareRx q) noLane).setB (F.LNK_Ln_STAT_SPARE q) false).setB (F.LNK_Ln_STAT_IN_USE q) false
  else s
def State.dropSpareTx (s : State) (p l : Nat) : State :=
  if s.f (spareTx (33 - p)) = l then s.setF (spareTx (33 - p)) noLane else s

/-- A remap's steps at an epoch start (R209). -/
def State.epochRemap (s : State) (g : Nat) : State :=
  match (s.lg g).remap with
  | none => s
  | some r =>
    let due := r.epoch.any fun e => decide (e ≤ s.epochNo)
    if r.receiver then
      if due && decide (r.valid ≥ 3) then
        let s0 := (s.setB (F.LNK_Ln_STAT_IN_USE (s.rxPhys g r.lane)) false).dropSpareRx r.spare r.lane
        let s1 := ((s0.setF (spareRx r.spare) r.lane).setF (spareRxLg r.spare) g).setB (F.LNK_Ln_STAT_SPARE r.spare) true
        let s2 := s1.markInUse g
        let pay := ctrlPay CMD.remapDone (s2.lg g).nextTxn.toNat (r.lane + 2 ^ 8 * r.spare + 2 ^ 32 * epoch28 s.epochNo)
        ((((s2.queueCtrl g FT.ctrl pay).modLg g fun x => { x with remap := none, nextTxn := x.nextTxn + 1 }).setB
          (F.LNK_LGn_STAT_REMAP_BUSY g) false).syncLanes).raise (EV.lnkRemap g)
      else s
    else if r.done then
      if due then
        ((((s.modLg g fun x => { x with remap := none }).setB (F.LNK_LGn_STAT_REMAP_BUSY g) false).dropSpareTx r.spare r.lane).syncLanes).raise
          (EV.lnkRemap g)
      else s
    else if due then ((s.setF (spareTx r.spare) r.lane).setF (spareTxLg r.spare) g).syncLanes
    else s

/-- A lane whose failure met a remap or a width change in progress is resolved once that is over (R207). -/
def State.epochResolve (s : State) (g : Nat) : State :=
  let x := s.lg g
  if x.laneOwed && s.lgUp g && x.remap.isNone && x.width.isNone then
    let s1 := s.setLg g { x with laneOwed := false }
    match (s1.nowLanes g).find? fun l => s1.laneBad (s1.rxPhys g l) with
    | some l => s1.resolveLane g l
    | none => s1
  else s

/-- The switch epoch of a width change (R210, R211, R213): without a fallback calendar the Class S flits that wait are discarded. -/
def State.epochWidth (s : State) (g : Nat) : State :=
  match (s.lg g).width with
  | none => s
  | some w =>
    if w.epoch.any fun e => decide (e ≤ s.epochNo) then
      let fb := Nat.testBit (s.f (F.LNK_LGn_CFG_FB_MASK g)) w.code
      let s1 := (((s.setWidth g w.code w.block).setB (F.LNK_LGn_STAT_DEGRADED g) true).setB
        (F.LNK_LGn_STAT_WIDTH_BUSY g) false).modLg g fun x =>
          { x with width := none, goodEpochs := 0, dropSeen := [], dropBad := false
                   egress := if fb then x.egress else [], fwd := if fb then x.fwd else [] }
      let s2 := ((s1.markInUse g).setB (F.SCH_LGn_PEER_FALLBACK g) fb).count (Cnt.lg g 13) 1
      ((s2.setSchGroup g { s2.schGroup g with voidWidth := !fb }).refreshVoid).raise (EV.lnkWidth g)
    else s

/-- The lane sets of the group that the present width drops, by their first logical lane (R210). -/
def State.droppedSets (s : State) (g : Nat) : List Nat :=
  (s.cfgLanes g).filter fun l => decide ((l - s.f (F.LNK_LGn_CFG_BASE g)) % s.setLanes g = 0) && !(s.nowLanes g).contains l

/-- Sixteen epochs in each of which every dropped lane set gave valid codewords make the receiver ask for full width (R214). -/
def State.epochRestore (s : State) (g : Nat) : State :=
  let x := s.lg g
  if s.lgUp g && s.flag (F.LNK_LGn_STAT_DEGRADED g) then
    let n := if !x.dropBad && (s.droppedSets g).all (fun l => x.dropSeen.contains l) then x.goodEpochs + 1 else 0
    let s1 := s.setLg g { x with goodEpochs := n, dropSeen := [], dropBad := false }
    if decide (n ≥ 16) && s.flag (F.LNK_LGn_CTRL_RESTORE_EN g) && x.restore.isNone && x.width.isNone then s1.askRestore g
    else s1
  else s

/-- The restore boundary: full width and the normal calendars (R214). -/
def State.boundaryRestore (s : State) (g : Nat) (n : Nat) : State :=
  let x := s.lg g
  if x.restore.any (fun r => decide (r ≤ n)) && x.restoreAcked then
    let s1 := (((s.setWidth g (s.f (F.LNK_LGn_CFG_WIDTH g)) 0).setB (F.LNK_LGn_STAT_DEGRADED g) false).setB
      (F.LNK_LGn_STAT_WIDTH_BUSY g) false).setB (F.SCH_LGn_PEER_FALLBACK g) false
    (((s1.markInUse g).modLg g fun x => { x with restore := none, restoreAcked := false, goodEpochs := 0 }).count (Cnt.lg g 13) 1).raise
      (EV.lnkWidth g)
  else s

end Sys2Proof.Machine
end

