-- ==== Sys2Proof/Machine/Marks.lean ====
section
/-! DEFINITION. Time marks as sent (R44, R45) and the servo's words on them. -/

namespace Sys2Proof.Machine

/-- Servo states (R52). -/
def TL.free : Nat := 0
def TL.acquire : Nat := 1
def TL.track : Nat := 2
def TL.locked : Nat := 3
def TL.holdover : Nat := 4
def TL.winder : Nat := 5

def State.servo (s : State) : Nat := s.f F.SCH_TL_STAT_STATE

/-- Roles (R93). -/
def Role.follower : Nat := 0
def Role.winder : Nat := 1
def Role.standby : Nat := 2

/-- This block is the secondary of a pair (R394). -/
def State.secondary (s : State) : Bool := s.tandemImage && s.flag F.GLB_TND_STAT_ROLE

/-- The link group whose marks the servo follows: UP_LG, or ALT_LG while UP_SEL is 1 (R51, R54); the secondary of a pair
follows the tandem marks, called group 8 here (R408), and in SOLO the group of SOLO_UP (R413). -/
def State.upstream (s : State) : Nat :=
  let solo := s.cfg.active.rd ST.tandem 0 6 1
  if s.secondary && (s.tnd? == TND.joined || s.tnd? == TND.fenced) then 8
  else if s.secondary && s.tnd? == TND.solo && Nat.testBit solo 3 then bits solo 0 3
  else if s.flag F.SCH_TL_STAT_UP_SEL then s.f F.SCH_TL_CFG_ALT_LG else s.f F.SCH_TL_CFG_UP_LG

/-- The winder's endpoint ID as this endpoint sends it: its own when it is the active winder (R45, R58), else the one
from upstream, and SCH_TL_WINDER.ID until one has been assembled (DESIGN CHOICE, log entry 88). -/
def State.winderId (s : State) : Nat :=
  if s.servo = TL.winder then s.epid
  else match (s.schGroup s.upstream).winder with
    | some w => w.toNat
    | none => s.f F.SCH_TL_WINDER_ID

/-- The AUX word of the mark that opens epoch `e` (R45). -/
def State.auxWord (s : State) (e : Nat) : Nat :=
  let p := s.planId
  let t := e * 4096
  match e % 8 with
  | 0 => bits p 0 16
  | 1 => bits p 16 16
  | 2 => bits p 32 16
  | 3 => bits p 48 16
  | 4 => bits t 40 16
  | 5 => bits t 56 8 + 2 ^ 8 * s.k
  | 6 => bits s.winderId 0 16
  | _ => bits s.winderId 16 4

/-- Two's complement of `v`, saturated to `w` bits. -/
def satSigned (v : Int) (w : Nat) : Nat :=
  wrapBits (max (-(2 ^ (w - 1) : Nat)) (min ((2 ^ (w - 1) : Nat) - 1) v)) w

/-- A droop hold is in progress (R663). -/
def State.droopHold (s : State) : Bool := s.flag F.CRP_DROOP_STAT_HOLD

/-- SWAP as the mark of epoch `e` carries it: SWAP_PEND, but the old value at the decision point's own epoch (R65). -/
def State.swapBit (s : State) (e : Nat) : Bool :=
  s.flag F.SCH_BSTAT_SWAP_PEND && !(s.cfg.armedFor.any fun n => n * s.shiftLen == e * 4096 + 16384)

/-- The mark that opens epoch `e` (R44). -/
def State.markWord (s : State) (e : Nat) : Nat :=
  let terr := if s.servo = TL.winder then 0 else s.fi F.SCH_TL_STAT_ERR
  let cls := (s.reg R.SCH_CLS_STAT).toNat
  epoch28 e + 2 ^ 28 * satSigned terr 5 + 2 ^ 33 * s.f F.SCH_TL_STAT_HOPS + 2 ^ 38 * s.servo +
    2 ^ 41 * bits cls 4 1 + 2 ^ 42 * b2n (decide (bits cls 0 7 &&& 0b1101111 ≠ 0) || s.fenced) +
    2 ^ 43 * b2n (s.sch.droopSinceMark || s.droopHold) + 2 ^ 44 * b2n (s.swapBit e) + 2 ^ 48 * s.auxWord e

end Sys2Proof.Machine
end

