-- ==== Sys2Proof/Machine/Staging.lean ====
section
/-! DEFINITION. Accesses to staging memory by requesters other than the drifts (R28, R289, R291), each served by its bank, and the
scrubber (R290). -/

namespace Sys2Proof.Machine

/-- A drift's access in cycle `c` to bank `b` that goes before one of `who` (R291). -/
def StrState.ahead (x : StrState) (who : SmemWho) (c b : Nat) : Bool :=
  c == x.cyc && x.asks.any fun a => a.2 == b && (match who, who.turn with
    | .scrub, _ => true
    | _, some i => ((x.order b).takeWhile fun j => j != i).contains a.1
    | _, none => false)

/-- Bank `b` serves `who`, in cycle `c` or in the first one after it in which no other goes before it (R28). The first argument bounds
the cycles. -/
def State.serveFrom : Nat → State → SmemWho → Nat → Nat → State
  | 0, s, _, _, _ => s
  | fuel + 1, s, who, b, c =>
    if s.str.taken c b (who == .landing) || s.str.ahead who c b then State.serveFrom fuel (s.loseBank c b) who b (c + 1) else
    let x := { s.str with used := { cyc := c, bank := b, sched := who == .landing } :: s.str.used }
    { s with str := (match who.turn with
      | some i => x.served b i
      | none => x) }

/-- An access of `who` to bank `b`, asked for at the present fabric time: what it takes of the bank's cycles, after what the drifts have
done there. The access itself is made with its command (log entry 102). -/
def State.serve (s0 : State) (who : SmemWho) (b : Nat) : State :=
  let s := s0.meet
  let t := s.sch.ft.toNat
  match who with
  | .drift _ => s
  | _ =>
    let old := if s.str.runs.isEmpty then t else min t s.str.cyc
    let s1 := { s with str := { s.str with
      used := s.str.used.filter fun u => decide (old ≤ u.cyc)
      lost := s.str.lost.filter fun e => decide (old ≤ e.1) } }
    State.serveFrom (s1.str.used.length + 2) s1 who b t

/-- A read of 64-byte word `w`, its bank's service with it: bytes, and whether they are poisoned. -/
def State.smemWord (s : State) (w : Nat) (who : SmemWho) : List Byte × Bool × State := (s.serve who (w % 512)).smemAccess w who

/-- `n` bytes at staging address `a`, which may cross words: bytes, and whether any word was poisoned. The first argument
bounds the words. -/
def State.smemSpan : Nat → State → Nat → Nat → SmemWho → List Byte × Bool × State
  | 0, s, _, _, _ => ([], false, s)
  | fuel + 1, s, a, n, who =>
    if n = 0 then ([], false, s) else
    let m := min n (64 - a % 64)
    let (bs, p, s1) := s.smemWord (a / 64 % 2 ^ 20) who
    let (rest, q, s2) := State.smemSpan fuel s1 (a + m) (n - m) who
    (((bs.drop (a % 64)).take m) ++ rest, p || q, s2)

def State.smemGet (s : State) (a n : Nat) (who : SmemWho) : List Byte × Bool × State := State.smemSpan (n / 64 + 2) s a n who

/-- A write within one staging word: one access. -/
def State.smemPut1 (s : State) (a : Nat) (bs : List Byte) (poison : Bool) (who : SmemWho) : State :=
  ((s.serve who (a / 64 % 512)).smemPutRun a bs poison).count (Cnt.smem who.counter) 1

/-- A write of `bs` at staging address `a`, word by word. The first argument bounds the words. -/
def State.smemPutSpan : Nat → State → Nat → List Byte → Bool → SmemWho → State
  | 0, s, _, _, _, _ => s
  | fuel + 1, s, a, bs, p, who =>
    if bs.isEmpty then s else
    let m := 64 - a % 64
    State.smemPutSpan fuel (s.smemPut1 (a % 2 ^ 26) (bs.take m) p who) (a + m) (bs.drop m) p who

def State.smemPut (s : State) (a : Nat) (bs : List Byte) (poison : Bool) (who : SmemWho) : State :=
  State.smemPutSpan (bs.length / 64 + 2) s a bs poison who

/-- STAGING_SCRUB (R290): the scrubber's read of its next word and what it does with it. -/
def State.scrubStaging (s : State) : State :=
  if !s.flag F.STR_CFG_SCRUB_EN then s else
  let w := s.str.scrub
  let (_, _, s1) := s.smemWord w .scrub
  let en := s.flag F.STR_CFG_ECC_EN
  let bad := en && lanesDouble s.str.ecc (8 * w) 8
  let fix := en && decide (lanesSingle s.str.ecc (8 * w) 8 > 0)
  let s2 := { s1 with str := { s1.str with
    mem := if fix then corrected s1.str.mem s1.str.ecc (8 * w) 8 else s1.str.mem
    ecc := if fix then s1.str.ecc.filter fun e => e.lane / 8 != w || e.bit.isNone else s1.str.ecc
    poison := if bad then insertNat w s1.str.poison else s1.str.poison
    scrub := (w + 1) % 2 ^ 20 } }
  s2.count (Cnt.smem 7) 1

end Sys2Proof.Machine
end

