-- ==== Sys2Proof/Machine/LinkFlow.lean ====
section
/-! DEFINITION. Flits on the lanes: egress slots (R188, R189), ingress checks (R190), holes (R84), replay (R199 to R203) and
link protection (R215 to R219). -/

namespace Sys2Proof.Machine

/-! ## Egress -/

/-- The first element of a list that satisfies `p`, and the list without it. -/
def takeFirst {α : Type} (p : α → Bool) : List α → Option (α × List α)
  | [] => none
  | x :: xs => if p x then some (x, xs) else (takeFirst p xs).map fun r => (r.1, x :: r.2)

/-- TRAIN time stamps are filled in as the flit leaves: t1 of DELAY_REQ and t3 of DELAY_RSP (R174). -/
def State.stampTrain (s : State) (f : Flit) (phase : Nat) : Flit :=
  let t := (phase + s.f F.SCH_PMA_LAT_TX_LAT) % 2 ^ 64
  if f.typ = FT.train ∧ f.cmd = CMD.delayReq then { f with pay := BitVec.ofNat 1920 (putBits f.pay.toNat 64 64 t) }
  else if f.typ = FT.train ∧ f.cmd = CMD.delayRsp then { f with pay := BitVec.ofNat 1920 (putBits f.pay.toNat 192 64 t) }
  else f

/-- The transmit key slot of phase KP. -/
def State.txKey (s : State) (g : Nat) : GcmKey :=
  kget { key := 0, salt := 0 } (s.lg g).keys (s.f (F.LNK_LGn_GCM_CTRL_TX_KP g))

/-- Flit `f`, its EXT open, leaves in slot `a`: with the mark in the first slot of an epoch, else with a link control word
(R42, R177); sealed while protection is on (R215); with its CRC (R178). -/
def State.sendFlit (s : State) (g a : Nat) (f : Flit) : State :=
  let spe := s.spe g
  let marked := a % spe == 0 && decide (s.tstate g ≥ TS.param)
  let (w, s1) := if marked then (s.markWord (a / spe), s) else s.makeControlWord g
  let f1 := s.stampTrain f (flitPhase (s.nowWidth g / s.setLanes g) (s.setLanes g) a)
  let h := putBits f1.hdr.toNat 32 64 w ||| (2 ^ 8 * b2n marked)
  let f2 : Flit := { f1 with hdr := BitVec.ofNat 128 h }
  let f3 := if s.flag (F.LNK_LGn_STAT_PROT_ON g) && f.typ ≠ FT.train then
      f2.protect (s.txKey g) (s.flag (F.LNK_LGn_GCM_CTRL_TX_KP g)) ((a : Int) + (s.lg g).txSlot).toNat
    else f2
  let s2 := (s1.modLg g fun x => { x with egSlot := a + 1 }).emit (.flit g a f3.sealCrc)
  let s3 := if marked then (s2.count (Cnt.sch 0) 1).emit (.mark g (BitVec.ofNat 64 w)) else s2
  s3.stripeOut g a f3.sealCrc

/-- A Class S slot tagged `tag` (R188): the next ready flit of the tag, or a HOLE with REASON SOURCE. Outside RUN,
DEGRADED and DRAIN it carries a hole (R647). -/
def State.sendClassS (s : State) (g a tag : Nat) : State :=
  let x := s.lg g
  let fwd := match s.cfg.active.tagKind tag with
    | .forward _ => true
    | _ => false
  let t := slotCycle (s.spe g) a
  let data := (s.running || s.mode == Mode.drain) && !s.fenced
  let pick := if fwd then takeFirst (fun (f : SFlit) => f.tag.toNat == tag && decide (f.due.toNat ≤ t)) x.fwd
    else takeFirst (fun (f : SFlit) => f.tag.toNat == tag && decide (f.due.toNat ≤ t)) x.egress
  let s0 := s.count (Cnt.lg g 0) 1
  match pick with
  | some (f, rest) =>
    let s1 := s0.setLg g (if fwd then { x with fwd := rest } else { x with egress := rest })
    let csv := s.csvFor g fwd f.csv
    let s2 := if (f.hole || !data) && fwd then s1.count (Cnt.lg g 5) 1 else s1
    if data then s2.sendFlit g a (mkFlit (if f.hole then FT.hole else FT.data) 0 csv false false tag 0 f.pay)
    else s2.sendFlit g a (mkFlit FT.hole 0 csv false false tag 0 (holePay Hole.source s.epid t))
  | none =>
    let s1 := if fwd then s0.count (Cnt.lg g 5) 1 else s0
    s1.sendFlit g a (mkFlit FT.hole 0 (s.csvFor g fwd false) false false tag 0 (holePay Hole.source s.epid t))

/-- The slot's share of stalled cycles (R199). -/
def slotCycles (spe a : Nat) : Nat := slotCycle spe (a + 1) - slotCycle spe a

/-- The pool's lowest landing slot that holds no flit (R193). -/
def State.openSlot (s : State) (g v : Nat) : Nat :=
  let held := kget [] (s.lg g).landHeld v
  ((List.range (s.rxSize g v)).find? fun i => !held.contains i).getD 0

/-- A flit of pool `v` lands in slot `i` (R193): its 256 bytes. -/
def State.landIn (s : State) (g v i : Nat) (f : Flit) : State :=
  (s.smemPut (s.landAddr g (s.poolBase g v + i)) (natLe 16 f.hdr.toNat ++ natLe 240 f.pay.toNat) false .flit).modLg g fun x =>
    { x with landHeld := kset [] x.landHeld v (kget [] x.landHeld v ++ [i]) }

/-- A landing slot is read: whether its flit can be used (R683, code 6). A poisoned one is logged. -/
def State.readLanding (s : State) (g v i : Nat) : Bool × State :=
  let (_, bad, s1) := s.smemGet (s.landAddr g (s.poolBase g v + i)) 256 .flit
  if bad || s.storeFault 6 g then (false, s1.logUe 6 g) else (true, s1)

/-- A segment of message `m` is sent: the message's timer starts again (R268). -/
def State.segSent (s : State) (m : Option (Nat × Nat)) : State :=
  match m with
  | none => s
  | some (dst, reqId) => { s with que := { s.que with
      out := s.que.out.map fun y => if y.dst = dst ∧ y.reqId = reqId then { y with timer := some s.que.msgClock } else y } }

/-- A flit in transit leaves its landing slot, read for the copy (R195): whether it can be sent. -/
def State.leaveLanding (s : State) (o : Option (Nat × Nat × Nat)) : Bool × State :=
  match o with
  | none => (true, s)
  | some (g, v, i) =>
    let (ok, s1) := s.readLanding g v i
    (ok, s1.freeSlot g v i)

/-- A new B-class DATA flit of class `v` leaves, its copy written to the replay buffer in staging memory (R194, R195, R199). One whose
landing slot cannot be read is dropped (R683). -/
def State.sendB (s0 : State) (g a v : Nat) : State :=
  match kget [] (s0.lg g).bq v with
  | [] => s0
  | b :: rest =>
    let (ok, s) := (s0.modLg g fun x => { x with bq := kset [] x.bq v rest }).leaveLanding b.origin
    if !ok then (s.count (Cnt.lg g 12) 1).sendFlit g a (mkFlit FT.idle 0 false false false 0 0 0) else
    let x := s.lg g
    let own := decide (0 < s.txAvail g v)
    let pool := if own then v else 0
    let n := s.f (F.LNK_LGn_SEQ_TX_NEXT g)
    let s1 := (s.setF (F.LNK_LGn_CREDv_TX_AVAIL g pool) (s.txAvail g pool - 1)).setF (F.LNK_LGn_SEQ_TX_NEXT g) (n + 1)
    let s2 := s1.setLg g { x with
      rr := v % 7
      replay := x.replay ++ [{ num := BitVec.ofNat 17 n, vc := BitVec.ofNat 3 v, sh := !own }]
      ackAt := if x.replay.isEmpty then s.now else x.ackAt }
    let f := mkFlit FT.data v false false (!own) n 0 b.pay
    let s3 := s2.smemPut (s.replayAddr g n) (natLe 16 f.hdr.toNat ++ natLe 240 f.pay.toNat) false .flit
    (((s3.segSent b.msg).syncUnacked g).count (Cnt.lg g 1) 1).sendFlit g a f

/-- The payload of flit number `n` from its copy in the replay buffer (R202, R293), with what the read counts; `none` where the copy
cannot be read (R683, code 7). -/
def State.replayPay (s : State) (g n : Nat) : Option (BitVec 1920) × State :=
  let (bs, bad, s1) := s.smemGet (s.replayAddr g n + 16) 240 .flit
  if bad || s.storeFault 7 g then (none, s1.logUe 7 g) else (some (BitVec.ofNat 1920 (leNat bs)), s1)

/-- LINK reset of group `g` (R658). -/
def State.linkReset (s : State) (g : Nat) : State :=
  let sticky := [F.LNK_LGn_STAT_TRAIN_FAIL g, F.LNK_LGn_STAT_PEER_ERR g, F.LNK_LGn_STAT_PROTO_ERR g,
    F.LNK_LGn_STAT_REPLAY_FAIL g, F.LNK_LGn_STAT_LAND_OVF g, F.LNK_LGn_STAT_SLOT_VIOL g, F.LNK_LGn_STAT_REMAP_REFUSED g]
  let s1 := if s.tstate g = TS.off then s else s.toSignal g false
  let s2 := sticky.foldl (fun a x => a.setB x false) s1
  let s3 := ((s2.setReg (R.LNK_LGn_SEQ g) 0).setReg (R.LNK_LGn_RSEQ g) 0).setB (F.LNK_LGn_STAT_PROT_ON g) false
  let s4 := (List.range 8).foldl (fun a v => a.setF (F.LNK_LGn_CREDv_TX_AVAIL g v) 0) s3
  let s5 := (((s4.setB (F.LNK_LGn_GCM_CTRL_ARMED g) false).setF (F.LNK_LGn_GCM_CTRL_TX_KP g) 0).setB
    (F.LNK_LGn_GCM_CTRL_ON g) false).setF (F.LNK_LGn_GCM_CTRL_SLOT_VALID g) 0
  s5.modLg g fun x => { x with
    replay := [], resend := 0, landQ := [], landHeld := [], rxUsed := [], freed := [], creditDue := false, peerPool := [], keys := [], arm := none,
    rxOn := false, rxKp := false, txSlot := 0, rxSlot := 0, rxPrev := 0, seqKeep := false, accepted := 0, timeouts := 0 }

/-- A flit slot of a group in training: a waiting TRAIN flit, in PARAM a PARAM flit, else IDLE (R168). -/
def State.sendTraining (s : State) (g a : Nat) : State :=
  let x := s.lg g
  match x.ctrlQ with
  | f :: rest => (s.setLg g { x with ctrlQ := rest }).sendFlit g a f
  | [] =>
    if s.tstate g = TS.param then
      s.sendFlit g a (mkFlit FT.train 0 false false false 0 0 (ctrlPay CMD.param 0 (s.paramArgs g)))
    else (s.count (Cnt.lg g 12) 1).sendFlit g a (mkFlit FT.idle 0 false false false 0 0 0)

/-- An open slot of class `cls` (R189). -/
def State.sendOpen (s : State) (g a cls : Nat) : State :=
  let x := s.lg g
  let full := (s.running || s.mode == Mode.drain) && !s.fenced
  match x.ctrlQ with
  | f :: rest => (s.setLg g { x with ctrlQ := rest }).sendFlit g a f
  | [] =>
    if full && decide (0 < x.resend) then
      match x.replay[x.replay.length - x.resend]? with
      | some b =>
        match (s.setLg g { x with resend := x.resend - 1 }).replayPay g b.num.toNat with
        | (some pay, s1) =>
          ((s1.count (Cnt.lg g 9) 1).count (Cnt.lg g 1) 1).sendFlit g a (mkFlit FT.data b.vc.toNat false false b.sh b.num.toNat 0 pay)
        | (none, s1) => (s1.linkReset g).sendTraining g a
      | none => s
    else
      let waiting := decide (x.bq ≠ [])
      match (if full && decide (x.replay.length < 8192) then s.pickClass g cls else none) with
      | some v => s.sendB g a v
      | none =>
        let s1 := if full && waiting then s.count (Cnt.lg g 11) (slotCycles (s.spe g) a) else s
        (s1.count (Cnt.lg g 12) 1).sendFlit g a (mkFlit FT.idle 0 false false false 0 0 0)

/-- Slot `a` of group `g` opens. -/
def State.egressAt (s : State) (g a : Nat) : State :=
  if !s.lgUp g then s.sendTraining g a else
  if s.mode = Mode.halt then (s.count (Cnt.lg g 12) 1).sendFlit g a (mkFlit FT.idle 0 false false false 0 0 0) else
  let (cls, tag) := calAt (s.liveCalendar g 0) (s.slotInShift (s.spe g) a)
  if cls = 0 then s.sendClassS g a tag else s.sendOpen g a cls

/-- The group's next flit slot: the first one not used that begins at or after the present cycle. -/
def State.nextSlot (s : State) (g : Nat) : Nat := max (s.lg g).egSlot (slotAt (s.spe g) s.sch.ft.toNat)

/-! ## Ingress -/

/-- A slot violation (R190). -/
def State.slotViolation (s : State) (g a cls tag : Nat) : State :=
  let s1 := (s.hit (F.LNK_LGn_STAT_SLOT_VIOL g)).raise (EV.lnkSlotv g)
  if cls = 0 then s1.produceHole g (slotPhase (s.spe g) a) tag Hole.slotv else s1

/-- A NAK is asked for, unless one is unresolved and REPLAY_TMO has not passed (R200). -/
def State.askNak (s : State) (g : Nat) : State :=
  let x := s.lg g
  if x.nakOut && decide (s.now < x.nakAt + 64 * s.f (F.LNK_LGn_PARM_REPLAY_TMO g)) then s else
  (s.setLg g { x with nakOut := true, nakAt := s.now, nakOwed := true }).count (Cnt.lg g 7) 1

/-- What arrived in slot `a` is lost: a hole in a Class S slot, a NAK in an open one (R84, R200). -/
def State.lostFlit (s : State) (g a cls tag : Nat) : State :=
  if cls = 0 then s.produceHole g (slotPhase (s.spe g) a) tag Hole.lost else s.askNak g

/-- A B-class DATA flit that passed its checks in an open slot (R196, R197, R200). -/
def State.takeB (s : State) (g : Nat) (f : Flit) : State :=
  let x := s.lg g
  let e := s.f (F.LNK_LGn_RSEQ_RX_NEXT g)
  let behind := (e + 2 ^ 17 - f.num) % 2 ^ 17
  if behind = 0 then
    let pool := if f.sh then 0 else f.vc
    if x.landQ.length ≥ 128 then (s.hit (F.LNK_LGn_STAT_LAND_OVF g)).askNak g
    else if s.rxFree g pool = 0 then s.lgFail g (F.LNK_LGn_STAT_PROTO_ERR g)
    else
      (s.setLg g { x with
        landQ := x.landQ ++ [f]
        rxUsed := kset 0 x.rxUsed pool (kget 0 x.rxUsed pool + 1)
        nakOut := false
        accepted := x.accepted + 1
        ackSentAt := if x.accepted = 0 then s.now else x.ackSentAt }).setF (F.LNK_LGn_RSEQ_RX_NEXT g) (e + 1)
  else if behind ≤ 2 ^ 16 then s.count (Cnt.lg g 10) 1
  else s.askNak g

/-- The slot number of R216 for receive slot `a`: a slot before the boundary at which the present phase began counts in the phase
before it. -/
def State.rxCount (s : State) (g a : Nat) : Nat :=
  let n := (a : Int) + (s.lg g).rxSlot
  if n < 0 then ((a : Int) + (s.lg g).rxPrev).toNat else n.toNat

/-- The flit opened, if it is sealed; `none` where authentication fails (R219). -/
def State.openFlit (s : State) (g a : Nat) (f : Flit) : Option Flit :=
  if f.typ = FT.train then some f else
  if f.prot then
    let i := 2 + b2n f.kp
    if Nat.testBit (s.f (F.LNK_LGn_GCM_CTRL_SLOT_VALID g)) i then
      f.unprotect (kget { key := 0, salt := 0 } (s.lg g).keys i) (s.rxCount g a)
    else none
  else if s.flag (F.LNK_LGn_GCM_CTRL_REQUIRE g) then none else some f

/-- The slot in which a flit arrives whose first bit came at `arr`, in phase units: the one its mark's EPOCH opens; the one of a flit
assembled from codewords, by its place `k` in the epoch; else the one whose flit is due nearest to `arr`, none taken twice (log
entry 7). -/
def State.arrivalSlot (s : State) (g : Nat) (k : Option Nat) (f : Option Flit) (arr : Nat) : Nat :=
  let spe := s.spe g
  let flight := s.f (F.SCH_LGn_DELAY_DELAY g) + s.cfg.active.pmaIn g
  let near := ((arr - flight) * spe + 131072) / 262144
  match k, f with
  | some k, _ => near + (k + spe + spe / 2 - near % spe) % spe - spe / 2
  | none, some f => if f.mk? then s.fullEpoch (bits f.ext 0 28) * spe else max (s.lg g).inSlot near
  | none, none => max (s.lg g).inSlot near

/-- A flit that fails its checks is counted, and what its slot was due is lost in an UP group (R179, R219). -/
def State.badFlit (s : State) (g a cls tag c : Nat) : State :=
  let s1 := s.count (Cnt.lg g c) 1
  if s.lgUp g then s1.lostFlit g a cls tag else s1

/-- An arriving flit in slot `a` (R176 to R190): checks of CRC, seal and reserved values in every state from PARAM on, then the
training state's handling of a TRAIN flit, the link control word, and in an UP group the ingress calendar. -/
def State.ingressFlit (s : State) (g a : Nat) (f : Option Flit) (arr : Nat) : State :=
  let (cls, tag) := if s.lgUp g then calAt (s.liveCalendar g 1) (s.slotInShift (s.spe g) a) else (1, 0)
  match f with
  | none => if s.lgUp g then s.lostFlit g a cls tag else s
  | some f =>
    if f.crc ≠ f.crcOf then s.badFlit g a cls tag 6 else
    match s.openFlit g a f with
    | none => s.badFlit g a cls tag 15
    | some f =>
      if f.reserved then
        let s1 := s.count (Cnt.lg g 6) 1
        if cls = 0 then s1.produceHole g (slotPhase (s.spe g) a) tag Hole.lost else s1
      else
        let s1 := if f.mk? then s else s.takeControlWord g f.ext
        if f.typ = FT.train then s1.trainMsg g f arr
        else if !s1.lgUp g then s1 else
        if cls = 0 then
          if f.vc = 0 && f.typ == FT.data && f.num == tag then
            (s1.count (Cnt.lg g 2) 1).placeClassS g (slotPhase (s.spe g) a) tag false f.csv f.pay
          else if f.vc = 0 && f.typ == FT.hole then
            ((s1.count (Cnt.lg g 2) 1).count (Cnt.lg g 4) 1).placeClassS g (slotPhase (s.spe g) a) tag true f.csv f.pay
          else s1.slotViolation g a cls tag
        else if f.typ = FT.idle then s1
        else if f.typ = FT.ctrl then s1.ctrlMsg g f
        else if f.typ = FT.data && f.vc ≠ 0 then (s1.count (Cnt.lg g 3) 1).takeB g f
        else s1.slotViolation g a cls tag

/-- The flit of the group's next ingress slot, or its loss, its first bit at `arr`: one assembled from codewords where State holds
one, else the command's own (log entry 8). -/
def State.ingress (s : State) (g : Nat) (f : Option Flit) (arr : Nat) : State :=
  if s.tstate g < TS.param then s else
  let s1 := s.passPhase arr
  let take (k : Option Nat) (f : Option Flit) (b : State) : State :=
    let a := b.arrivalSlot g k f arr
    (b.modLg g fun x => { x with inSlot := a + 1 }).ingressFlit g a f (arr % 2 ^ 64)
  match (s1.lg g).rxq with
  | (k, h) :: rest => take (some k) h (s1.modLg g fun x => { x with rxq := rest })
  | [] => take none f s1

/-- The holes of the epoch that begins, on the normal ingress calendar: with REASON NOWIDTH at a degraded width without a fallback
calendar (R213), with REASON LOST while an active group is down (R29, R84). -/
def State.epochHoles (s : State) (g : Nat) : State :=
  if !s.planLive || !s.flag (F.LNK_LGn_CFG_ACTIVE g) then s else
  let full := s.slotsFor g (s.cfgWidth g)
  let e := s.epochNo
  let cal := s.cfg.active.calendar g 1 none
  if !s.lgUp g then s.holesIn g full (e * full) ((e + 1) * full) cal Hole.lost
  else if s.noWidth g then s.holesIn g full (e * full) ((e + 1) * full) cal Hole.nowidth
  else s

/-! ## Link protection (R217, R218) -/

/-- Whether key slot `slot` of direction `dir` (0 transmit, 1 receive) is in use (R217). -/
def State.keyInUse (s : State) (g dir slot : Nat) : Bool :=
  if dir = 0 then s.flag (F.LNK_LGn_STAT_PROT_ON g) && s.f (F.LNK_LGn_GCM_CTRL_TX_KP g) == slot
  else (s.lg g).rxOn && b2n (s.lg g).rxKp == slot

/-- A write of LNK_LGn_KEY_CMD with LOAD: key and salt move into the slot and the registers read zero, or KEY_ERR. -/
def State.keyLoad (s : State) (g dir slot : Nat) : State :=
  if s.keyInUse g dir slot then s.hit (F.LNK_LGn_GCM_CTRL_KEY_ERR g) else
  let key := leNat (((List.range 8).map fun w => natLe 4 (s.reg (R.LNK_LGn_KEYw g w)).toNat).flatten)
  let i := 2 * dir + slot
  let s1 := s.modLg g fun x => { x with
    keys := kset { key := 0, salt := 0 } x.keys i { key := BitVec.ofNat 256 key, salt := s.reg (R.LNK_LGn_SALT g) } }
  let s2 := (List.range 8).foldl (fun a w => a.setReg (R.LNK_LGn_KEYw g w) 0) s1
  (s2.setReg (R.LNK_LGn_SALT g) 0).setF (F.LNK_LGn_GCM_CTRL_SLOT_VALID g)
    (s.f (F.LNK_LGn_GCM_CTRL_SLOT_VALID g) ||| 2 ^ i)

/-- A write of LNK_LGn_KEY_CMD with ERASE (R232). -/
def State.keyErase (s : State) (g dir slot : Nat) : State :=
  if s.keyInUse g dir slot then s.hit (F.LNK_LGn_GCM_CTRL_KEY_ERR g) else
  let i := 2 * dir + slot
  (s.modLg g fun x => { x with keys := kdel x.keys i }).setF (F.LNK_LGn_GCM_CTRL_SLOT_VALID g)
    (putBits (s.f (F.LNK_LGn_GCM_CTRL_SLOT_VALID g)) i 1 0)

/-- The key slot that a direction takes at its switch: slot 0 when protection is off, else the other one (R218). -/
def State.nextKey (s : State) (g dir : Nat) : Nat :=
  if dir = 0 then (if s.flag (F.LNK_LGn_STAT_PROT_ON g) then 1 - s.f (F.LNK_LGn_GCM_CTRL_TX_KP g) else 0)
  else (if (s.lg g).rxOn then 1 - b2n (s.lg g).rxKp else 0)

/-- A write of LNK_LGn_GCM_ARM_LO arms the switch, or is refused (R218). -/
def State.gcmArm (s : State) (g : Nat) : State :=
  let n := s.reg64 (R.LNK_LGn_GCM_ARM_LO g) (R.LNK_LGn_GCM_ARM_HI g)
  let v := s.f (F.LNK_LGn_GCM_CTRL_SLOT_VALID g)
  if decide (n * s.shiftLen < s.sch.ft.toNat + 4096) || !Nat.testBit v (s.nextKey g 0) || !Nat.testBit v (2 + s.nextKey g 1) then
    s.hit (F.LNK_LGn_GCM_CTRL_KEY_ERR g)
  else (s.modLg g fun x => { x with arm := some n }).setB (F.LNK_LGn_GCM_CTRL_ARMED g) true

/-- The armed boundary (R216, R218): protection begins in phase 0, or the phase toggles, in each direction. Flits of the phase before
that are still in flight keep their own count. -/
def State.boundaryGcm (s : State) (g n : Nat) : State :=
  let x := s.lg g
  if x.arm.any fun m => decide (m ≤ n) then
    let a : Int := slotAt (s.spe g) (n * s.shiftLen)
    let s1 := (s.setLg g { x with arm := none }).setB (F.LNK_LGn_GCM_CTRL_ARMED g) false
    if !s.flag (F.LNK_LGn_GCM_CTRL_EN g) && !s.flag (F.LNK_LGn_STAT_PROT_ON g) then s1 else
    let tk := s.nextKey g 0
    let rk := s.nextKey g 1
    (((s1.setF (F.LNK_LGn_GCM_CTRL_TX_KP g) tk).setB (F.LNK_LGn_GCM_CTRL_ON g) true).setB (F.LNK_LGn_STAT_PROT_ON g) true).modLg g
      fun x => { x with rxOn := true, rxKp := rk == 1, txSlot := -a, rxSlot := -a, rxPrev := x.rxSlot }
  else s

end Sys2Proof.Machine
end

