-- ==== Sys2Proof/Machine/TandemBase.lean ====
section
/-! DEFINITION. Words of the tandem port (R399, R400, R621). -/

namespace Sys2Proof.Machine

/-- KIND codes (R621). -/
def TK.train : Nat := 1
def TK.mark : Nat := 2
def TK.control : Nat := 3
def TK.segment : Nat := 4

/-- TND_TX_CRC of a word (R621). -/
def tndCrc (kind data : Nat) : Nat := crc32 (natLe 1 kind ++ natLe 512 data)

/-- A word leaves the tandem port. -/
def State.sendTandem (s : State) (kind data : Nat) : State :=
  s.emit (.tandem { kind := BitVec.ofNat 3 kind, data := BitVec.ofNat 4096 data, crc := BitVec.ofNat 32 (tndCrc kind data) })

/-- The tandem mark of the epoch in progress: the mark in bytes 0 to 7, the causes of R409 in bytes 8 and 9 (R408). -/
def State.tandemMark (s : State) : State :=
  if s.tnd? = TND.joined then
    s.sendTandem TK.mark (s.markWord s.epochNo + 2 ^ 64 * bits (s.reg R.SCH_CLS_STAT).toNat 0 6)
  else s

/-- Messages of KIND CONTROL, whose layout the spec leaves open (log entry 14): data byte 0 names the message, its
arguments follow from byte 8. -/
def CW.join : Nat := 1
def CW.ready : Nat := 2
def CW.cancel : Nat := 3
def CW.id : Nat := 4
def CW.ackLow : Nat := 5

/-- A control word leaves for the partner of a joined block. -/
def State.sendControl (s : State) (code args : Nat) : State := s.sendTandem TK.control (code + 2 ^ 64 * args)

end Sys2Proof.Machine
end

