-- ==== Sys2Proof/Machine/ChanBase.lean ====
section
/-! DEFINITION. Channels (R451 to R456): words, holds, and the hardware writers. -/

namespace Sys2Proof.Machine

def State.chan (s : State) (ch : Nat) : Chan := kget Chan.init s.btp.chans ch
def State.setChan (s : State) (ch : Nat) (c : Chan) : State :=
  { s with btp := { s.btp with chans := kset Chan.init s.btp.chans ch c } }

/-- The CK_THR cycle. -/
def State.thr (s : State) : Nat := s.core / thrCycles

/-- Word `w` enters the channel (R452): a word without END takes or keeps the write hold, one with END releases it. While
the rest of a reset reader's message is discarded it does not arrive (R456). -/
def chanPush (c : Chan) (w : ChanWord) (h : Holder) : Chan :=
  let c1 := { c with whold := if w.fin then none else some h }
  if c.dropping then (if w.fin then { c1 with dropping := false, rhold := none } else c1)
  else { c1 with words := c1.words ++ [w] }

/-- Word `w` is the first that the channel gives: it leaves; a reader that reads a word without END holds the channel
(R452). -/
def chanPop (c : Chan) (w : ChanWord) (h : Holder) : Chan :=
  { c with words := c.words.tail, rhold := if w.fin then none else some h }

/-- The hardware writers go on as far as room and holds allow (R452, R454). The first argument bounds the words. -/
def State.chanPump : Nat → State → Nat → State
  | 0, s, _ => s
  | fuel + 1, s, ch =>
    let c := s.chan ch
    let free := match c.whold with
      | some (.thread _) => false
      | _ => true
    match c.hw with
    | (o, w :: ws) :: rest =>
      if !free || (decide (c.words.length ≥ 4) && !c.dropping) then s else
      let c1 := chanPush c { data := w, fin := ws.isEmpty, brk := false, at_ := s.thr, sched := false } .hw
      State.chanPump fuel (s.setChan ch { c1 with hw := if ws.isEmpty then rest else (o, ws) :: rest }) ch
    | (_, []) :: rest => State.chanPump fuel (s.setChan ch { c with hw := rest }) ch
    | [] => s

/-- A hardware unit writes a message of words to channel `ch`. -/
def State.hwSend (s : State) (ch : Nat) (who : ChanWaiter) (words : List (BitVec 64)) : State :=
  let c := s.chan ch
  State.chanPump 64 (s.setChan ch { c with hw := c.hw ++ [(who, words)] }) ch

/-- A message of `who` waits at channel `ch` with words still to write. -/
def State.hwWaits (s : State) (ch : Nat) (who : ChanWaiter) : Bool := (s.chan ch).hw.any fun m => decide (m.1 = who)

/-- The words of a record of `n` 64-bit words. -/
def recordWords (r : Nat) (n : Nat) : List (BitVec 64) := (List.range n).map fun i => BitVec.ofNat 64 (r >>> (64 * i))

end Sys2Proof.Machine
end

