-- ==== Sys2Proof/Machine/ThreadBase.lean ====
section
/-! DEFINITION. Threads (R417 to R450): their THREADS entries, rosters and own slots, registers and status word, states, the
waits of a long stall, the entry to an alert or a fault, and the THREAD reset. -/

namespace Sys2Proof.Machine

/-! ## Entries and rosters (R418 to R420, R424) -/

def State.thread (s : State) (t : Nat) : Thread := kget Thread.init s.btp.threads t
def State.setThread (s : State) (t : Nat) (x : Thread) : State :=
  { s with btp := { s.btp with threads := kset Thread.init s.btp.threads t x } }
def State.modThread (s : State) (t : Nat) (f : Thread → Thread) : State := s.setThread t (f (s.thread t))
def State.modBtp (s : State) (f : BtpState → BtpState) : State := { s with btp := f s.btp }

/-- A field of thread `t`'s THREADS entry in a half. -/
def Half.tcfg (h : Half) (t off n : Nat) : Nat := h.rd ST.threads 0 (32 * t + off) n

/-- Bits of FLAGS. -/
def TF.exists_ : Nat := 0
def TF.full : Nat := 1
def TF.vec : Nat := 2
def TF.shstk : Nat := 3
def TF.handler : Nat := 4
def TF.faultSelf : Nat := 5
def TF.keep : Nat := 6
def TF.sec : Nat := 7
def TF.priv : Nat := 8
def TF.ct : Nat := 9

def Half.tflag (h : Half) (t b : Nat) : Bool := Nat.testBit (h.tcfg t 0 2) b
def State.tflag (s : State) (t b : Nat) : Bool := s.cfg.active.tflag t b
def Half.poolW (h : Half) (t : Nat) : Nat := h.tcfg t 2 1
def State.threadPort (s : State) (t : Nat) : Nat := s.cfg.active.tcfg t 3 1 % 8
def Half.entry (h : Half) (t : Nat) : Nat := h.tcfg t 4 4
def State.vecBase (s : State) (t : Nat) : Nat := s.cfg.active.tcfg t 8 4
def Half.sp0 (h : Half) (t : Nat) : Nat := h.tcfg t 0x0C 4
def State.stkLo (s : State) (t : Nat) : Nat := s.cfg.active.tcfg t 0x10 4
def State.stkHi (s : State) (t : Nat) : Nat := s.cfg.active.tcfg t 0x14 4
def Half.ssBase (h : Half) (t : Nat) : Nat := 64 * h.tcfg t 0x18 2
def Half.ssEnd (h : Half) (t : Nat) : Nat := h.ssBase t + 64 * h.tcfg t 0x1A 2

/-- The pipe of a thread (R27). -/
def pipeOf (t : Nat) : Nat := if t < 64 then 0 else 1

/-- A pipe's roster: 256 entries (R418). -/
def Half.roster (h : Half) (p : Nat) : List Nat := chunks 2 (h.bytes ST.roster p)

/-- The slots of a roster whose entry is `e`. -/
def slotsOf (r : List Nat) (e : Nat) : List Nat := ((List.range r.length).zip r).filterMap fun x => if x.2 = e then some x.1 else none

/-- The slots that name thread `t`, and whether it is a scheduled thread (R419). -/
def Half.schedSlots (h : Half) (t : Nat) : List Nat := slotsOf (h.roster (pipeOf t)) (2 * t)
def Half.isSched (h : Half) (t : Nat) : Bool := (h.roster (pipeOf t)).contains (2 * t)
def State.isSched (s : State) (t : Nat) : Bool := s.cfg.active.isSched t

/-- The roster weight (R419). -/
def State.weight (s : State) (t : Nat) : Nat :=
  if s.isSched t then (s.cfg.active.schedSlots t).length else s.cfg.active.poolW t

/-- The present CK_THR cycle by fabric time (R417); a cycle that has begun counts as past. -/
def State.cyc (s : State) : Nat := (s.sch.ft.toNat + 1) / 2

/-- Slots of a list with cycles below `c`, from cycle 0. -/
def countTo (slots : List Nat) (c : Nat) : Nat := c / 256 * slots.length + (slots.filter fun x => decide (x < c % 256)).length

/-- The number of the first own slot of `x` at or after cycle `c`. -/
def Thread.slotAt (x : Thread) (slots : List Nat) (c : Nat) : Nat := x.base + countTo slots c - countTo slots x.baseCyc

/-- The CK_THR cycle of own slot `i`. -/
def Thread.slotCyc (x : Thread) (slots : List Nat) (i : Nat) : Nat :=
  let j := i + countTo slots x.baseCyc - x.base
  j / slots.length * 256 + (slots[j % slots.length]?).getD 0

/-- The numbering of own slots starts again from cycle `c'` where it stands at cycle `c`; `old` and `new` are the slots that
name the thread before and after. -/
def Thread.rebase (x : Thread) (old : List Nat) (c c' : Nat) : Thread :=
  { x with base := if old.isEmpty then x.base else x.slotAt old c, baseCyc := c', earliest := 0, usable := [] }

/-- Every thread's own slots are numbered on from where they stand, with the time at cycle `c'`. -/
def State.rebaseThreads (s : State) (c' : Nat) : State :=
  (List.range 128).foldl (fun a t => a.modThread t fun x => if x = Thread.init then x else
    x.rebase (s.cfg.active.schedSlots t) s.cyc c') { s with btp := { s.btp with nextCyc := [], granted := [] } }

/-! ## The status word (R435) -/

def Thread.srf (x : Thread) (lo w : Nat) : Nat := bits x.sr.toNat lo w
def Thread.srb (x : Thread) (b : Nat) : Bool := Nat.testBit x.sr.toNat b
def Thread.setSrf (x : Thread) (lo w v : Nat) : Thread := { x with sr := BitVec.ofNat 32 (putBits x.sr.toNat lo w v) }
def Thread.setSrb (x : Thread) (b : Nat) (v : Bool) : Thread := x.setSrf b 1 (b2n v)

/-- Bit positions of SR. -/
def SR.z : Nat := 0
def SR.n : Nat := 1
def SR.c : Nat := 2
def SR.v : Nat := 3
def SR.p : Nat := 4
def SR.ae : Nat := 8
def SR.al : Nat := 9
def SR.priv : Nat := 10
def SR.sec : Nat := 11
def SR.ct : Nat := 12
def SR.che : Nat := 13
def SR.chb : Nat := 14
def SR.chv : Nat := 15
def SR.rm : Nat := 16
def SR.ff : Nat := 18
def SR.fe : Nat := 23

/-- PRIV, SEC and CT. -/
def srMode : Nat := 0x1C00

/-- SR with the mode bits of `v`. -/
def withMode (sr v : BitVec 32) : BitVec 32 := (sr &&& ~~~(BitVec.ofNat 32 srMode)) ||| (v &&& BitVec.ofNat 32 srMode)

/-- SR as a frame saves it: with the newest mode (R436). -/
def Thread.srSaved (x : Thread) : BitVec 32 :=
  match x.srNew.getLast? with
  | some p => withMode x.sr p.1
  | none => x.sr

/-! ## States (R437) -/

def TST.none : BitVec 3 := 0
def TST.ready : BitVec 3 := 1
def TST.blocked : BitVec 3 := 2
def TST.hmpWait : BitVec 3 := 3
def TST.halted : BitVec 3 := 4
def TST.faulted : BitVec 3 := 5
def TST.doubleFault : BitVec 3 := 6
def TST.stopped : BitVec 3 := 7

/-- The state that BTP_TH_STAT shows: NONE for a thread without a THREADS entry. -/
def State.thState (s : State) (t : Nat) : BitVec 3 := if s.tflag t TF.exists_ then (s.thread t).st else TST.none

/-- A scheduled thread is halted (R464). -/
def State.schedHalted (s : State) : Bool := s.btp.threads.any fun e => e.2.st == TST.halted && s.tflag e.1 TF.exists_ && s.isSched e.1
def State.refreshHalt (s : State) : State := s.setB F.BTP_STAT_SCHED_HALT s.schedHalted

/-- Threads may issue in the present mode (R647): none while memories wake (R529), T0 alone in SAFE. -/
def State.threadsRun (s : State) (t : Nat) : Bool :=
  let m := s.mode
  ((decide (Mode.standby ≤ m ∧ m ≤ Mode.drain)) || (m == Mode.safe && t == 0)) && (s.thread t).started && s.planLive &&
    !s.flag F.MEM_STAT_WAKE_T && !s.flag F.MEM_STAT_WAKE_S && s.tflag t TF.exists_

/-! ## Events of a thread (R441, R677) -/

/-- The lowest pending source routed to thread `t`, in wait set `wset` where one is named. -/
def State.threadEvent (s : State) (t : Nat) (wset : Option Nat) : Option Nat :=
  s.pendingEvents.find? fun n => s.f (F.EVT_ROUTEn_DEST n) == 1 && s.f (F.EVT_ROUTEn_THREAD n) == t &&
    (match wset with
      | none => true
      | some w => s.f (F.EVT_ROUTEn_WSET n) == w)

/-- An event is to become an alert at the thread's next instruction boundary (R441). -/
def State.alertDue (s : State) (t : Nat) : Bool :=
  let x := s.thread t
  x.srb SR.ae && !x.srb SR.al && x.ans.isEmpty && (s.threadEvent t none).isSome

/-! ## Waits (R422, R452, R457) -/

def State.lamp (s : State) (l : Nat) : Lamp := kget Lamp.init s.btp.lamps l
def State.setLamp (s : State) (l : Nat) (x : Lamp) : State :=
  { s with btp := { s.btp with lamps := kset Lamp.init s.btp.lamps l x } }

/-- CK_THR cycles since the thread's wait began. -/
def State.waited (s : State) (x : Thread) : Nat := (s.now - x.waitSince) / thrCycles

/-- The thread waits no longer: it leaves its wait queue, and the time counts in CH_BLOCK_CYC or LAMP_WAIT_CYC. -/
def State.leaveWait (s : State) (t : Nat) : State :=
  let x := s.thread t
  let s1 := match x.wait with
    | .chanRead ch _ =>
      (s.setChan ch { s.chan ch with waiters := (s.chan ch).waiters.filter fun u => u != t }).count (Cnt.btp 6) (s.waited x)
    | .chanWrite ch _ _ =>
      (s.setChan ch { s.chan ch with waiters := (s.chan ch).waiters.filter fun u => u != t }).count (Cnt.btp 6) (s.waited x)
    | .lamp l => (s.setLamp l { s.lamp l with waiters := (s.lamp l).waiters.filter fun u => u != t }).count (Cnt.btp 5) (s.waited x)
    | _ => s
  s1.modThread t fun x => { x with wait := .none }

/-- A queue of waiters that thread `t` joins: the longest wait first, the lower number first among those that began in the same
CK_THR cycle (R452). -/
def State.joinQueue (s : State) (ws : List Nat) (t : Nat) : List Nat :=
  let late (u : Nat) : Bool := decide ((s.thread u).waitSince / thrCycles = s.now / thrCycles) && decide (t < u)
  ws.takeWhile (fun u => !late u) ++ [t] ++ ws.dropWhile (fun u => !late u)

/-- The thread begins a long stall in state `st`; a wait that goes on keeps its place and its time. -/
def State.beginWait (s : State) (t : Nat) (w : Wait) (st : BitVec 3) : State :=
  let x := s.thread t
  if x.wait = w then s.modThread t fun x => { x with st := st } else
  let s1 := (s.leaveWait t).modThread t fun x => { x with st := st, wait := w, waitSince := s.now }
  match w with
  | .chanRead ch _ => s1.setChan ch { s1.chan ch with waiters := s1.joinQueue (s1.chan ch).waiters t }
  | .chanWrite ch _ _ => s1.setChan ch { s1.chan ch with waiters := s1.joinQueue (s1.chan ch).waiters t }
  | .lamp l => s1.setLamp l { s1.lamp l with waiters := s1.joinQueue (s1.lamp l).waiters t }
  | _ => s1

/-! ## Instruction ends (R432, R436, R504) -/

/-- The instruction store's word at index `pc` (R477). -/
def Half.code (h : Half) (pc : Nat) : Nat := h.rd ST.code 0 (4 * pc) 4

/-- Loop levels that the profile has. -/
def loopLevels (full : Bool) : List Nat := if full then [3, 2, 1, 0] else [0]

def Thread.lsOf (x : Thread) (n : Nat) : Nat := (kget 0 x.ls n : BitVec 17).toNat
def Thread.leOf (x : Thread) (n : Nat) : Nat := (kget 0 x.le n : BitVec 17).toNat
def Thread.lcOf (x : Thread) (n : Nat) : Nat := (kget 0 x.lc n : BitVec 32).toNat
def Thread.setLc (x : Thread) (n v : Nat) : Thread := { x with lc := kset 0 x.lc n (BitVec.ofNat 32 v) }

/-- The loop ends at PC, the highest level first (R504): the thread, and where it goes on. -/
def Thread.loopEnd (x : Thread) (next : Nat) : List Nat → Thread × Nat
  | [] => (x, next)
  | n :: ns =>
    let c := x.lcOf n
    if c ≠ 0 ∧ x.leOf n = x.pc.toNat then
      if c ≠ 1 then (x.setLc n (c - 1), x.lsOf n) else (x.setLc n 0).loopEnd next ns
    else x.loopEnd next ns

/-- One more instruction has completed: the modes of R436 come nearer, and take effect. -/
def Thread.ageSr (x : Thread) : Thread :=
  let aged := x.srNew.map fun p => (p.1, p.2 - 1)
  let sr := aged.foldl (fun a p => if p.2 = 0 then withMode a p.1 else a) x.sr
  { x with sr := sr, srNew := aged.filter fun p => decide (p.2 ≠ 0) }

/-- The instruction at PC completes and the thread goes on at `next`, by way of the loop ends there. -/
def Thread.finish (x : Thread) (full : Bool) (next : Nat) : Thread :=
  let p := x.loopEnd next (loopLevels full)
  { p.1 with pc := BitVec.ofNat 17 p.2, st := TST.ready, wait := .none, ans := [], skipMatch := false }

/-- The instruction at PC of thread `t` completes without a branch. -/
def State.finishInstr (s : State) (t : Nat) : State :=
  (s.leaveWait t).modThread t fun x => x.ageSr.finish (s.tflag t TF.full) (x.pc.toNat + 1)

/-! ## Store buffers (R430, R522, R524) -/

/-- The port accesses of the other pipe to word `w` in CK_THR cycle `c`. -/
def State.metBy (s : State) (p c w : Nat) : List PortAcc :=
  (kget [] s.mem.lastAcc (1 - p)).filter fun a => a.cyc == c && a.word == w

/-- An access of pipe `p` is remembered; those of cycles gone by are not. -/
def State.noteAcc (s : State) (p : Nat) (a : PortAcc) : State :=
  s.modMem fun m => { m with
    lastAcc := kset [] m.lastAcc p ((kget [] m.lastAcc p).filter (fun x => decide (s.cyc ≤ x.cyc + 1)) ++ [a]) }

/-- The pipe whose port is the later one (R524). -/
def State.laterPort (s : State) : Nat := 1 - s.f F.MEM_CONFLICT_WIN

/-- The flag, record and event of a meeting at word `w` (R525): `rw` of a read and a write. -/
def State.meeting (s : State) (rw : Bool) (w : Nat) : State :=
  let l := s.laterPort
  let x := if rw then (if l = 0 then F.MEM_STAT_BUSY_A else F.MEM_STAT_BUSY_B)
    else if l = 0 then F.MEM_STAT_WLOST_A else F.MEM_STAT_WLOST_B
  let s1 := (((s.hit x).setF F.MEM_CONF_ADDR_ADDR w).setB F.MEM_CONF_ADDR_KIND rw).setF F.MEM_CONF_ADDR_LATER l
  if rw then (if s1.flag F.MEM_CONFLICT_EV_RW then s1.raise EV.tmemRw else s1)
  else if s1.flag F.MEM_CONFLICT_EV_WW then s1.raise EV.tmemWw else s1

/-- A plain access of record. -/
def plainAcc (c w kind t : Nat) (before : List Byte) : PortAcc :=
  { cyc := c, word := w, kind := kind, before := before, thread := t, rd := 0, op := 0, size := 0, off := 0, a := 0, b := 0 }

/-- Thread `t`'s port reads word `w` in cycle `c`: 8 bytes and whether they are poisoned. Where it meets a write, each byte is
the byte before or the byte written (R525). -/
def State.thrRead (s : State) (t c w : Nat) : List Byte × Bool × State :=
  let p := pipeOf t
  let (bs, bad, s1) := s.tmemWord w
  match (s.metBy p c w).find? fun a => a.kind != 0 with
  | none => (bs, bad, s1.noteAcc p (plainAcc c w 0 t bs))
  | some a =>
    let (i, s2) := s1.draw
    let m := Config.mixMask i
    let mixed := (List.range 8).map fun j => if m.getLsbD j then bs.getD j 0 else a.before.getD j 0
    (mixed, false, (s2.meeting true w).noteAcc p (plainAcc c w 0 t bs))

/-- Thread `t`'s port writes `bs` at address `a`, within one word, in cycle `c` (R522, R525). -/
def State.thrWrite (s : State) (t c a : Nat) (bs : List Byte) : State :=
  let p := pipeOf t
  let w := a / 8
  let met := s.metBy p c w
  let now := Memory.read s.mem.mem (8 * w) 8
  match met.find? fun x => x.kind != 0 with
  | some x =>
    let s1 := if s.laterPort = p then s else (s.modMem fun m => { m with mem := Memory.write m.mem (8 * w) x.before }).tmemPut1 a bs
    (s1.meeting false w).noteAcc p (plainAcc c w 1 t x.before)
  | none =>
    let s1 := if met.isEmpty then s else s.meeting true w
    (s1.tmemPut1 a bs).noteAcc p (plainAcc c w 1 t now)

/-- Where a data address lies (R428), and the address there: thread memory, the secure partition, staging memory, host
memory. -/
inductive Target where
  | tmem (a : Nat)
  | sec (a : Nat)
  | smem (a : Nat)
  | host (a : Nat)
  deriving DecidableEq, Repr

/-- The target of an access of `n` bytes at `a`; none outside the ranges and across them. -/
def target (a n : Nat) : Option Target :=
  let e := a + n
  if e ≤ secBase then some (.tmem a)
  else if secBase ≤ a ∧ e ≤ 0x400000 then some (.sec a)
  else if 2 ^ 32 ≤ a ∧ e ≤ 2 ^ 32 + 2 ^ 26 then some (.smem (a - 2 ^ 32))
  else if 2 ^ 63 ≤ a ∧ e ≤ 2 ^ 64 then some (.host (a - 2 ^ 63))
  else none

/-- The two halves of an access of `n` bytes at `a` (R431): one where it is aligned. -/
def halves (a n : Nat) : List (Nat × Nat) := if a % n = 0 then [(a, n)] else [(a, n - a % n), (a + n - a % n, a % n)]

/-- Bytes written to thread memory through the port, word by word. The first argument bounds the words. -/
def State.wordSpan : Nat → State → Nat → Nat → Nat → List Byte → State
  | 0, s, _, _, _, _ => s
  | fuel + 1, s, t, c, a, bs =>
    if bs.isEmpty then s else
    let m := 8 - a % 8
    State.wordSpan fuel (s.thrWrite t c a (bs.take m)) t c (a + m) (bs.drop m)

/-- Bytes written where `a` lies, with permission checked before (R429, R532): a write to a held partition is
discarded. Host memory is not written here. -/
def State.putNow (s : State) (t c a : Nat) (bs : List Byte) : State :=
  match target a bs.length with
  | some (.tmem x) => State.wordSpan (bs.length / 8 + 2) s t c x bs
  | some (.sec x) => if s.secHeld then s else State.wordSpan (bs.length / 8 + 2) s t c x bs
  | some (.smem x) => s.smemPut x bs false .thread
  | _ => s

/-- A write to host memory leaves for the thread's port; `rest` is the second half still to write (R431). -/
def State.hostStore (s : State) (t a : Nat) (bs rest : List Byte) (second : Bool) : State :=
  (s.hostWrite (s.threadPort t) (a - 2 ^ 63) bs false 0x11 (.threadStore t (s.thread t).gen a rest second)).modThread t fun x =>
    { x with pendingWr := x.pendingWr + 1 }

/-- The oldest buffered store of thread `t` is written in cycle `c`. -/
def State.drainOne (s : State) (t c : Nat) : State :=
  match (s.thread t).stores with
  | [] => s
  | (a, bs) :: rest =>
    let s1 := s.modThread t fun x => { x with stores := rest }
    if a < 2 ^ 63 then s1.putNow t c a bs else
    match halves a bs.length with
    | [(a1, n), _] => s1.hostStore t a1 (bs.take n) (bs.drop n) false
    | _ => s1.hostStore t a bs [] false

/-- Every buffered store of thread `t` is written. -/
def State.drainAll (s : State) (t c : Nat) : State := (s.thread t).stores.foldl (fun a _ => a.drainOne t c) s

/-! ## Alert and fault entry (R442 to R449) -/

/-- Cause codes (R440). -/
def TC.event : Nat := 1
def TC.winOvf : Nat := 2
def TC.winUnf : Nat := 3
def TC.fpTrap : Nat := 4
def TC.soft : Nat := 5
def TC.illegal : Nat := 0x10
def TC.priv : Nat := 0x11
def TC.access : Nat := 0x12
def TC.bus : Nat := 0x13
def TC.partialStore : Nat := 0x14
def TC.poison : Nat := 0x15
def TC.vgather : Nat := 0x16
def TC.shadow : Nat := 0x17
def TC.lamp : Nat := 0x18
def TC.channel : Nat := 0x19
def TC.break_ : Nat := 0x1A
def TC.stack : Nat := 0x1B

/-- What an entry records beside the thread's registers: the cause, flags of a trap, the event number, the data address. -/
structure Trap where
  cause : Nat
  flags : Nat
  event : Nat
  addr : Nat
  deriving DecidableEq, Repr

/-- The 64 bytes of a frame (R445). `low` and `high` are the halves of the word at 0x10. -/
def frameBytes (x : Thread) (low high addr word : Nat) : List Byte :=
  natLe 8 x.pc.toNat ++ natLe 8 x.srSaved.toNat ++ natLe 4 low ++ natLe 4 high ++ natLe 8 addr ++ natLe 8 x.lr.toNat ++
    natLe 8 x.sp.toNat ++ natLe 8 (x.vl % 2 ^ 16 + 2 ^ 16 * (x.vstart % 2 ^ 16)) ++ natLe 8 word

/-- The lamps that thread `t` holds. -/
def State.lampsOf (s : State) (t : Nat) : List Nat := (s.btp.lamps.filter fun e => e.2.owner == some t).map fun e => e.1

/-- A fault log entry, or its loss (R447). -/
def State.logFault (s : State) (t : Nat) (df : Bool) (cause pc addr : Nat) : State :=
  let e : FaultEntry :=
    { thread := t, df := df, cause := BitVec.ofNat 8 cause, lamps := min 4095 (s.lampsOf t).length, pc := BitVec.ofNat 17 pc,
      addr := BitVec.ofNat 64 addr }
  let s1 := if s.btp.flog.length < 32 then s.modBtp fun b => { b with flog := b.flog ++ [e] }
    else (s.satF F.BTP_FLOG_STAT_LOST 1).hit F.BTP_STAT_FLOG_OVF
  (s1.count (Cnt.btp 3) 1).raise EV.btpFault

/-- The stack pointer is invalid for stacking (R448). -/
def State.badStack (s : State) (t : Nat) : Bool :=
  let sp := (s.thread t).sp.toNat
  sp % 8 != 0 || decide (sp < s.stkLo t + 64) || decide (sp > s.stkHi t)

/-- Entry to an alert, or with `fault` to a fault, of the instruction at PC (R445 to R449). An alert other than EVENT in a
handler, or of a thread without one, is a fault (R446); T0's faults enter its handler (R439). -/
def State.enter (s0 : State) (t : Nat) (fault : Bool) (e : Trap) : State :=
  let s := (s0.drainAll t s0.cyc).leaveWait t
  let x := s.thread t
  let al := x.srb SR.al
  let isFault := fault || (al && e.cause != TC.event) || !s.tflag t TF.handler
  let halted := x.st == TST.halted
  let word := s.cfg.active.code x.pc.toNat
  let low := e.cause + 2 ^ 8 * b2n isFault + 2 ^ 9 * e.flags
  let base := { x with cause := BitVec.ofNat 8 e.cause, ans := [], srNew := [], sr := x.sr, skipMatch := false }
  let go (y : Thread) (st : BitVec 3) : Thread := if halted then { y with prev := st } else { y with st := st }
  let stk := s.badStack t
  if stk || (t = 0 && isFault && al) then
    let low2 := if stk then TC.stack + 2 ^ 8 + 2 ^ 9 * e.flags else low
    let f := frameBytes x low2 (if stk then e.cause else e.event) e.addr word
    let s1 := if s.secHeld then s else s.tmemPut (secBase + 64 * t) f
    let s2 := (s1.setThread t (go { base with waitSince := s.now } TST.doubleFault)).logFault t true e.cause x.pc.toNat e.addr
    if t = 0 then (s2.hit F.BTP_STAT_T0_DF).raise EV.btpT0Df else s2
  else
    let f := frameBytes x low e.event e.addr word
    let s1 := s.tmemPut (x.sp.toNat - 64) f
    let y := (({ base with sp := x.sp - 64 }).setSrb SR.al true).setSrb SR.ae false
    let stop := isFault && t != 0 && !(s.tflag t TF.faultSelf && !al)
    let s2 := s1.setThread t (if stop then go { y with waitSince := s.now } TST.faulted else
      go { y with pc := BitVec.ofNat 17 (s.vecBase t + 8 * e.cause) } TST.ready)
    if isFault then s2.logFault t false e.cause x.pc.toNat e.addr else s2

/-- A thread that halts at time `now`: what it waits for it has waited for since before (R472). -/
def Thread.halt (now : Nat) (x : Thread) : Thread :=
  { x with prev := x.st, st := TST.halted, waitSince := if x.wait = .none then now else x.waitSince }

/-- The thread halts for debug (R463): it keeps its registers, holds, lamps and wait-queue places. -/
def State.haltThread (s : State) (t : Nat) : State :=
  if (s.thread t).st = TST.halted then s else (s.modThread t (Thread.halt s.now)).refreshHalt

/-- An alert of a thread that waits resumes it first: the entry of an event, of cause `e`. -/
def State.enterEvent (s : State) (t n : Nat) : State :=
  (s.clearEvent n).enter t false { cause := TC.event, flags := 0, event := n, addr := 0 }

/-! ## THREAD reset (R427, R456, R459, R482) -/

/-- A channel whose writer is reset: the words of its message in the FIFO go, and a broken END word ends it. -/
def Chan.breakMessage (c : Chan) (at_ : Nat) : Chan :=
  let kept := (c.words.reverse.dropWhile fun w => !w.fin).reverse
  let w : ChanWord := { data := 0, fin := true, brk := true, at_ := at_, sched := false }
  if c.dropping then { c with whold := none, dropping := false, rhold := none } else { c with whold := none, words := kept ++ [w] }

/-- A channel whose reader is reset: the rest of the message goes, now and as it arrives. -/
def Chan.dropMessage (c : Chan) : Chan :=
  let rest := (c.words.dropWhile fun w => !w.fin)
  if rest.isEmpty then { c with words := [], dropping := true } else { c with words := rest.tail, rhold := none }

/-- The channels that thread `t` holds are released (R456). -/
def State.breakHolds (s : State) (t : Nat) : State :=
  s.btp.chans.foldl (fun a e =>
    let c := a.chan e.1
    let c1 := if c.whold = some (.thread t) then c.breakMessage a.thr else c
    let c2 := if c1.rhold = some (.thread t) then c1.dropMessage else c1
    if c2 = c then a else State.chanPump 8 (a.setChan e.1 c2) e.1) s

/-- A thread that starts at ENTRY (R482): registers as the entry of half `h` gives them, in state `st`. Its place among
its own slots is kept. -/
def Thread.fresh (x : Thread) (h : Half) (t : Nat) (st : BitVec 3) : Thread :=
  let sr := 2 ^ SR.priv * b2n (h.tflag t TF.priv) + 2 ^ SR.sec * b2n (h.tflag t TF.sec) + 2 ^ SR.ct * b2n (h.tflag t TF.ct)
  { Thread.init with
    st := st, sr := BitVec.ofNat 32 sr, sp := BitVec.ofNat 64 (h.sp0 t), ssp := h.ssBase t, pc := BitVec.ofNat 17 (h.entry t),
    gen := x.gen + 1, started := x.started, base := x.base, baseCyc := x.baseCyc, own := x.own, cause := x.cause }

/-- A THREAD reset: buffered stores complete, waits end, channel holds are broken, lamps stay held (R456, R459). -/
def State.resetThread (s : State) (t : Nat) (h : Half) (st : BitVec 3) : State :=
  let s1 := ((s.drainAll t s.cyc).leaveWait t).breakHolds t
  (s1.modThread t fun x => { x.fresh h t st with waitSince := s.now }).refreshHalt

/-! ## The all-blocked detector (R460, R461) -/

/-- A thread counts as blocked for the detector. -/
def State.countsBlocked (s : State) (t : Nat) : Bool :=
  let st := (s.thread t).st
  st == TST.blocked || st == TST.halted || st == TST.faulted || st == TST.doubleFault || st == TST.stopped

/-- A hardware producer has input pending (R460). -/
def State.inputPending (s : State) : Bool :=
  (s.btp.threads.any fun e => e.2.st == TST.hmpWait || decide (e.2.pendingWr ≠ 0) || (s.threadEvent e.1 none).isSome) ||
  (s.btp.chans.any fun e => !e.2.hw.isEmpty) || !s.que.exc.isEmpty || s.que.cpl.any (fun c => decide (c.stage = 3)) ||
  (s.str.drifts.any fun e => e.2.held.any fun c => Nat.testBit c.words.toNat 42 && c.qe.isNone) ||
  ((List.range 16).any fun m => s.flag (F.TMm_CTRL_EN m) && s.f (F.EVT_ROUTEn_DEST (EV.tmExp m)) == 1)

/-- The threads other than T0 with a roster weight. -/
def State.weighted (s : State) : List Nat :=
  (List.range 128).filter fun t => t != 0 && s.tflag t TF.exists_ && decide (s.weight t ≠ 0)

/-- Since when the detector's condition has held, and its arming (R461). -/
def State.settleBlocked (s : State) : State :=
  if !s.flag F.BTP_DLK_EN || !s.cfg.imageActive then
    if s.btp.blockedSince.isNone then s else s.modBtp fun b => { b with blockedSince := none }
  else
    let ts := s.weighted
    let all := ts.all s.countsBlocked
    let arm := ts.any fun t => let st := (s.thread t).st; st == TST.ready || st == TST.hmpWait
    let since := if all && !s.inputPending then (if s.btp.blockedSince.isSome then s.btp.blockedSince else some s.now) else none
    s.modBtp fun b => { b with blockedSince := since, allArmed := b.allArmed || arm }

end Sys2Proof.Machine
end

