-- ==== Sys2Proof/Machine/Servo.lean ====
section
/-! DEFINITION. The time-lock servo (R50 to R61) and the checks on received marks (R46, R71, R86). -/

namespace Sys2Proof.Machine

def State.modSch (s : State) (f : SchState → SchState) : State := { s with sch := f s.sch }
def State.modSg (s : State) (g : Nat) (f : SchGroup → SchGroup) : State := s.setSchGroup g (f (s.schGroup g))

/-- HOLD_EPOCHS in CK_CORE cycles. -/
def State.holdCycles (s : State) : Nat := 4096 * s.f F.SCH_TL_CFG_HOLD_EPOCHS

/-- The time lock is in budget (R59, R61). -/
def State.inBudget (s : State) : Bool :=
  if s.servo = TL.winder then true else
  (s.servo == TL.locked || (s.servo == TL.holdover && decide (s.sch.ft.toNat ≤ s.sch.since.toNat + s.holdCycles))) &&
    decide (s.sch.upLock.toNat ≥ TL.locked)

/-- The LOCK cause begins when the budget is broken (R83). -/
def State.lockCause (s old : State) : State :=
  if old.inBudget && !s.inBudget then s.setCause F.SCH_CLS_STAT_LOCK true else s

/-- The present steering in units of 0.001 ppm. -/
def State.steer (s : State) : Int := s.fi F.SCH_TL_FREQ_STEER

/-- The steering becomes `v`, within the limit of R57, and is presented on PLL_STEER (R598). -/
def State.setSteer (s : State) (v : Int) : State :=
  let w := wrapBits (max (-200000) (min 200000 v)) 32
  (s.setF F.SCH_TL_FREQ_STEER w).emit (.pllSteer (BitVec.ofNat 32 w))

/-- The servo enters state `t`; the counts that a state keeps start again. ACQD reads 1 in WINDER and else what ACQUIRE has made
it (R53); a winder runs at the nominal ratio (R51). -/
def State.setServo (s : State) (t : Nat) : State :=
  if s.servo = t then s else
  let s1 := ((s.setF F.SCH_TL_STAT_STATE t).count (Cnt.sch 4) 1).modSch fun x =>
    { x with good := 0, acqAux := [], acqRun := 0, since := x.ft }
  let s2 := s1.setB F.SCH_TL_STAT_ACQD (t == TL.winder || s1.sch.stepped)
  if t = TL.winder then
    let s3 := s2.setF F.SCH_TL_STAT_HOPS 0
    if s3.steer = 0 then s3 else s3.setSteer 0
  else if t = TL.free then s2.setB F.SCH_TL_STAT_UP_SEL false
  else if t = TL.holdover && s.flag F.SCH_TL_CFG_ALT_EN && s.upstream != 8 then s2.setB F.SCH_TL_STAT_UP_SEL true
  else s2

/-- A steering update on a mark: by at most 2 ppm in TRACK and 0.05 ppm in LOCKED (R52), none while frozen (R95). -/
def State.steerStep (s : State) : State :=
  let lim := if s.servo = TL.track then 2000 else 50
  if s.flag F.SCH_TL_CTRL_FREEZE || !(s.servo == TL.track || s.servo == TL.locked) then s else
  let (i, s1) := s.draw
  s1.setSteer (s1.steer + max (-lim) (min lim (Config.servoStep i)))

/-- An epoch ends: its steering joins those of the last 16 epochs (R52). -/
def State.steerEpoch (s : State) : State := s.modSch fun x => { x with steerHist := (s.steer :: x.steerHist).take 16 }

/-- HOLDOVER is entered: steering frozen at the mean of the last 16 epochs (R52, R53), rounded towards minus infinity, and over
the epochs passed where they are fewer than 16 (DESIGN CHOICE, log entry 84). -/
def State.enterHoldover (s : State) : State :=
  let h := s.sch.steerHist
  let s1 := s.setServo TL.holdover
  if h.isEmpty || s.flag F.SCH_TL_CTRL_FREEZE then s1 else s1.setSteer (h.foldl (· + ·) 0 / (h.length : Int))

/-- An upstream mark is missing (R53). -/
def State.servoMiss (s : State) (g : Nat) : State :=
  if g ≠ s.upstream then s else
  let s1 := s.modSch fun x => { x with good := 0, acqAux := [], acqRun := 0, missRun := x.missRun + 1 }
  if s1.servo = TL.locked && decide (s1.sch.missRun ≥ 2) then s1.enterHoldover else s1

/-- The mark of an epoch is missing on group `g` (R46, R101). -/
def State.markMiss (s : State) (g : Nat) : State :=
  (((s.count (Cnt.sch 2) 1).setB (F.SCH_LGn_PEER_MARK_MISS g) true).servoMiss g).lockCause s

/-! ## Marks received -/

def mkEpoch (m : Nat) : Nat := bits m 0 28
def mkTerr (m : Nat) : Int := sext (bits m 28 5) 5
def mkHops (m : Nat) : Nat := bits m 33 5
def mkLock (m : Nat) : Nat := bits m 38 3
def mkAux (m : Nat) : Nat := bits m 48 16

/-- The AUX word is kept, and the winder ID assembled when its second part arrives (R45, R46). Where the word 6 of that cycle was
missed, the last word 6 received is taken (DESIGN CHOICE, log entry 85). -/
def State.takeAux (s : State) (g m : Nat) : State :=
  let i := mkEpoch m % 8
  s.modSg g fun x =>
    let aux := kset 0 x.aux i (BitVec.ofNat 17 (2 ^ 16 + mkAux m))
    let w6 := (kget 0 aux 6 : BitVec 17).toNat
    { x with
      aux := aux
      winder := if i = 7 ∧ w6 ≥ 2 ^ 16 then some (BitVec.ofNat 20 (w6 % 2 ^ 16 + 2 ^ 16 * bits (mkAux m) 0 4)) else x.winder }

/-- The assembled winder ID names neither the winder nor the standby winder (R46). -/
def State.foreignWinder (s : State) (g : Nat) : Bool :=
  (s.schGroup g).winder.any fun w => w.toNat != s.f F.SCH_TL_WINDER_ID && w.toNat != s.f F.SCH_TL_STANDBY_ID

/-- The plan checks of R71: the SWAP flag at the epoch before a boundary, and the plan ID fragments. -/
def State.planCheck (s : State) (g m : Nat) : State :=
  let e := s.fullEpoch (mkEpoch m)
  let swap := Nat.testBit m 44
  let s1 := if (e + 1) * 4096 % s.shiftLen = 0 && swap != s.flag F.SCH_BSTAT_SWAP_PEND then
      s.modSg g fun x => { x with mismatchAtB := true }
    else s
  let i := mkEpoch m % 8
  if i ≥ 4 then s1 else
  if mkAux m = bits s.planId (16 * i) 16 then
    s1.modSg g fun x =>
      let ok := if i = 0 then 1 else if x.planOk = i then i + 1 else 0
      { x with planOk := ok, planDiffers := x.planDiffers && ok != 4 }
  else
    (s1.modSg g fun x => { x with planOk := 0, planDiffers := true, voidPlan := true }).setB (F.SCH_LGn_PEER_PLAN_MISMATCH g) true

/-- The peer's status from its mark (R86, R101). -/
def State.peerStatus (s : State) (g m : Nat) : State :=
  ((((((s.setF (F.SCH_LGn_PEER_PEER_LOCK g) (mkLock m)).setB (F.SCH_LGn_PEER_PEER_VOID g) (Nat.testBit m 42)).setB
    (F.SCH_LGn_PEER_PEER_PSUSP g) (Nat.testBit m 41)).setB (F.SCH_LGn_PEER_PEER_DROOP g) (Nat.testBit m 43)).setB
    (F.SCH_LGn_PEER_PEER_SWAP g) (Nat.testBit m 44)).setF (F.SCH_LGn_PEER_PEER_HOPS g) (mkHops m)).setB
    (F.SCH_LGn_PEER_MARK_MISS g) false

/-- The fabric time of the epoch that a mark opens, in phase units: by the receiver's own upper bits (R50). -/
def State.markPhase (s : State) (m : Nat) : Nat := 64 * (4096 * s.fullEpoch (mkEpoch m))

/-- The sender's full fabric time at its mark, from a full AUX cycle (R45, R53). -/
def acquiredTime (aux : KMap (BitVec 17)) (m : Nat) : Nat :=
  let e := mkEpoch m
  let w4 := (kget 0 aux 4 : BitVec 17).toNat % 2 ^ 16 + b2n (decide ((e + 4) % 8 > e))
  let w5 := (kget 0 aux 5 : BitVec 17).toNat % 2 ^ 8 + b2n (decide ((e + 3) % 8 > e ∧ w4 % 2 ^ 16 = 0))
  4096 * e + 2 ^ 40 * (w4 % 2 ^ 16) + 2 ^ 56 * (w5 % 2 ^ 8)

/-- The tracking error is recorded: ERR, TL_ERR_MAX, and the excursions of R56. -/
def State.recordErr (s : State) (e : Int) : State :=
  let s1 := (s.setF F.SCH_TL_STAT_ERR (wrapBits (max (-127) (min 127 e)) 8)).countMax (Cnt.sch 3) e.natAbs
  if !s1.running then s1 else
  let far := decide (e.natAbs > 512 * 64)
  let s2 := if far && !s1.sch.far then s1.raise EV.tlFar else s1
  s2.modSch fun x => { x with far := far }

/-- In ACQUIRE a valid mark is collected; the eighth in a row steps fabric time, so that the marks' grid, epochs and
boundaries are those of the stepped time, and sets ACQD (R53, R55, R175). `a` is the arrival and `d` the flight, in phase
units. -/
def State.acquire (s : State) (m : Nat) (a d : Int) : State :=
  let run := s.sch.acqRun + 1
  let aux := kset 0 s.sch.acqAux (mkEpoch m % 8) (BitVec.ofNat 17 (2 ^ 16 + mkAux m))
  if run < 8 ∨ aux.length < 8 then
    (s.recordErr (a - ((s.markPhase m : Int) + d - mkTerr m))).modSch fun x => { x with acqRun := run, acqAux := aux, since := x.ft }
  else
  let want : Int := 64 * (acquiredTime aux m : Int) + d - mkTerr m
  let step := (want - a).fdiv 64
  let ft := (s.sch.ft.toNat + step) % (2 ^ 64 : Nat)
  let s0 := (s.rebaseThreads ((ft.toNat + 1) / 2)).modSch fun x => { x with stepped := true }
  let s1 := (s0.setServo TL.track).modSch fun x =>
    { x with ft := BitVec.ofNat 64 ft.toNat, lastEpoch := none, lastBoundary := none, decided := none, winderHeard := BitVec.ofNat 64 ft.toNat }
  let e := a + 64 * step - want
  let s2 := s1.recordErr e
  (List.range 8).foldl (fun b g =>
    let next := (b.epochNo + 1) * b.spe g
    b.modLg g fun x => { x with egSlot := next, inSlot := 0, txBuf := [], txPos := 256 * next }) (s2.moveDrifts step)

/-- The servo takes an upstream mark (R50, R53). The mark that brings it to TRACK is not one of the 16 good marks for LOCKED: the
count begins with the next (DESIGN CHOICE, log entry 86). -/
def State.servoMark (s : State) (m : Nat) (a d : Int) : State :=
  let s0 := (s.setF F.SCH_TL_STAT_HOPS (min 31 (mkHops m + 1))).modSch fun x =>
    { x with missRun := 0, upLock := BitVec.ofNat 3 (mkLock m), standbyExpired := false }
  let e := a - ((s0.markPhase m : Int) + d - mkTerr m)
  if s0.servo = TL.acquire then s0.acquire m a d else
  let s1 := s0.recordErr e
  let n := e.natAbs
  if s1.servo = TL.free then
    if s1.mode = Mode.lock ∨ (s1.mode = Mode.train ∧ !s1.flag F.SCH_TL_STAT_ACQD) then (s1.setServo TL.acquire).acquire m a d
    else (s1.setServo TL.track).steerStep
  else if s1.servo = TL.track then
    let good := if n ≤ 6 ∧ mkLock m ≥ TL.locked ∧ mkLock m ≤ TL.winder then s1.sch.good + 1 else 0
    let s2 := s1.modSch fun x => { x with good := good }
    (if good ≥ 16 then s2.setServo TL.locked else s2).steerStep
  else if s1.servo = TL.locked then (if n > 8 then s1.setServo TL.track else s1).steerStep
  else s1

/-- In HOLDOVER a mark of the upstream or the alternate group relocks (R53, R54). Where a mark of UP_LG does while UP_SEL is 1,
UP_SEL stays 1 and ALT_LG is followed (DESIGN CHOICE, log entry 87). -/
def State.holdoverMark (s : State) (m : Nat) (a d : Int) : State :=
  let e := a - ((s.markPhase m : Int) + d - mkTerr m)
  let s1 := (s.recordErr e).modSch fun x => { x with missRun := 0, upLock := BitVec.ofNat 3 (mkLock m) }
  let s2 := s1.setF F.SCH_TL_STAT_HOPS (min 31 (mkHops m + 1))
  if e.natAbs ≤ 8 ∧ s.sch.ft.toNat ≤ s.sch.since.toNat + s.holdCycles then s2.setServo TL.locked else s2

/-- The servo's part of a valid mark on group `g` (8: the tandem), with the change of budget. -/
def State.servoTake (s : State) (g m : Nat) (a d : Int) : State :=
  let heard := (s.schGroup g).winder.any fun w => w.toNat == s.f F.SCH_TL_WINDER_ID
  let s0 := if heard then s.modSch fun x => { x with winderHeard := x.ft } else s
  if s.servo = TL.winder then s0
  else if s.servo = TL.holdover then
    if g = s.upstream || (s.upstream != 8 && (g == s.f F.SCH_TL_CFG_UP_LG || (s.flag F.SCH_TL_CFG_ALT_EN && g == s.f F.SCH_TL_CFG_ALT_LG))) then
      (s0.holdoverMark m a d).lockCause s
    else s0
  else if g = s.upstream then (s0.servoMark m a d).lockCause s
  else s0

/-- A mark received on link group `g`, its first bit at phase time `arr`, is evaluated within 112 cycles (R50). -/
def State.markReceived (s : State) (g m arr : Nat) : State :=
  let s0 := (s.passPhase arr).passFt (arr / 64 + 112)
  let s1 := (s0.count (Cnt.sch 1) 1).takeAux g m
  if s1.foreignWinder g then s1.markMiss g else
  let d := s.f (F.SCH_LGn_DELAY_DELAY g) + s.cfg.active.pmaIn g
  ((s1.peerStatus g m).planCheck g m).servoTake g m arr d

/-! ## Timed transitions -/

/-- A servo state that the role fixes: a winder is in WINDER, any other endpoint is not unless it took over (R51, R53). -/
def State.settleServo (s : State) : State :=
  if s.f F.SCH_TL_CFG_ROLE = Role.winder && s.servo != TL.winder && s.upstream != 8 then s.setServo TL.winder
  else if s.servo = TL.winder && (s.f F.SCH_TL_CFG_ROLE = Role.follower || s.upstream == 8) then (s.setServo TL.free).lockCause s
  else if s.servo = TL.acquire && s.mode != Mode.train && s.mode != Mode.lock then s.setServo TL.free
  else s

/-- RELOCK (R53, R95): a winder returns to WINDER, any other endpoint to FREE; ACQD is cleared. -/
def State.relock (s : State) : State :=
  let s1 := (s.setB F.SCH_TL_STAT_ACQD (s.servo == TL.winder)).modSch fun x =>
    { x with good := 0, missRun := 0, acqAux := [], acqRun := 0, standbyExpired := false, stepped := false }
  if s.f F.SCH_TL_CFG_ROLE = Role.winder then s1.setServo TL.winder
  else (s1.setServo TL.free).lockCause s

end Sys2Proof.Machine
end

