-- ==== Sys2Proof/Machine/Settle.lean ====
section
/-! DEFINITION. What holds continuously, made to hold at the end of every command: the servo states that the role fixes
(R51), the modes that follow a condition (R648, R650), the void causes that follow a register (R83), the sticky causes (R99)
and the IRQ lines (R679), the liveness output (R399), and the condition of the all-blocked detector (R461). -/

namespace Sys2Proof.Machine

/-- Every group with ACTIVE and EN set is UP (R648). -/
def State.allGroupsUp (s : State) : Bool :=
  (List.range 8).all fun g => !(s.flag (F.LNK_LGn_CFG_ACTIVE g) && s.flag (F.LNK_LGn_CTRL_EN g)) || s.lgUp g

/-- The degraded condition (R650). -/
def State.degradedCond (s : State) : Bool :=
  ((List.range 8).any fun g => s.flag (F.LNK_LGn_CFG_ACTIVE g) && s.flag (F.LNK_LGn_CTRL_EN g) &&
    (!s.lgUp g || s.flag (F.LNK_LGn_STAT_DEGRADED g))) || s.tnd? == TND.solo

/-- TRAIN leads to LOCK when every group is UP; RUN and DEGRADED follow the degraded condition (R648, R650). -/
def State.settleMode (s : State) : State :=
  if s.mode = Mode.train && s.allGroupsUp && s.tandemTrains then s.setMode Mode.lock
  else if s.mode = Mode.run && s.degradedCond then s.setMode Mode.degraded
  else if s.mode = Mode.degraded && !s.degradedCond then s.setMode Mode.run
  else s

/-- The CONTRACT cause is CONTRACT_STAT.VOID; the TANDEM cause begins while PCAUSE is nonzero (R83, R409). -/
def State.settleCauses (s : State) : State :=
  let s1 := s.refreshVoid
  let s2 := if s1.flag F.CONTRACT_STAT_VOID = s1.flag F.SCH_CLS_STAT_CONTRACT then s1
    else s1.setCause F.SCH_CLS_STAT_CONTRACT (s1.flag F.CONTRACT_STAT_VOID)
  if s2.f F.GLB_TND_STAT_PCAUSE ≠ 0 && !s2.flag F.SCH_CLS_STAT_TANDEM then s2.setCause F.SCH_CLS_STAT_TANDEM true else s2

/-- SCH_CLS_CAUSE holds every cause that applies now (R99). -/
def State.settleSticky (s : State) : State :=
  s.setReg R.SCH_CLS_CAUSE (s.reg R.SCH_CLS_CAUSE ||| s.reg R.SCH_CLS_STAT)

/-- The liveness output follows its condition (R399). -/
def State.settleLive (s : State) : State :=
  let v := s.crp.mainUp && s.cfg.imageActive && s.mode != Mode.halt && s.mode != Mode.safe
  if v = s.tnd.live then s else { s with tnd := { s.tnd with live := v } }.emit (.tandemLive v)

/-- Everything that holds continuously. -/
def State.settle (s : State) : State := (((s.settleServo.settleMode.settleLive).settleBlocked).settleCauses.settleSticky).updateIrq

/-- The outcome of a command whose effect is `s`. -/
def done (s : State) : Host.Outcome State Fault Refusal := .next s.settle

end Sys2Proof.Machine
end

