-- ==== Sys2Proof/Machine/SchedRows.lean ====
section
/-! DEFINITION. The commands of the schedule unit, but for the shift boundary (R41 to R76), and the shift report (R72 to
R79). -/

namespace Sys2Proof.Machine

/-! ## Mark epochs -/

/-- The next epoch start that has not been taken: the present cycle, if it opens an epoch, else the next multiple of
4,096. -/
def State.nextEpoch (s : State) : Nat :=
  let t := s.sch.ft.toNat
  if t % 4096 = 0 && s.sch.lastEpoch != some s.sch.ft then t else (t / 4096 + 1) * 4096

/-- A group in DELAY sends a DELAY_REQ in each epoch until sixteen exchanges are done, and the answers it owes (R174). -/
def State.epochDelay (s : State) (g : Nat) : State :=
  let x := s.lg g
  let owed := x.dlyRsp
  let s1 := if owed.isEmpty then s else
    ((s.modLg g fun x => { x with
      dlyRsp := [], dlyAnswered := x.dlyAnswered + owed.length
      ctrlQ := x.ctrlQ ++ owed.map fun p => mkFlit FT.train 0 false false false 0 0 p }).endDelay g)
  if s1.tstate g = TS.delay && decide (x.dlyCount < 16) then
    s1.queueCtrl g FT.train (ctrlPay CMD.delayReq x.dlyCount 0)
  else s1

/-- What the epoch start does on group `g`: the changes bound to it, then the flit of its first slot with the mark (R41,
R42, R168, R209, R210, R213, R214). -/
def State.epochGroup (s : State) (g : Nat) : State :=
  if s.tstate g < TS.param then s.epochHoles g else
  let s1 := (((((s.epochUp g).epochRemap g).epochWidth g).epochRestore g).epochResolve g).epochDelay g
  let s2 := s1.epochHoles g
  let a := s2.epochNo * s2.spe g
  if (s2.lg g).egSlot ≤ a then s2.egressAt g a else s2

/-- MARK_EPOCH_START (R41). -/
def execMarkEpochStart (s : State) : Host.Outcome State Fault Refusal :=
  if !s.crp.mainUp then done s else
  let s1 := s.passFt s.nextEpoch
  let s2 := s1.modSch fun x => { x with lastEpoch := some x.ft }
  let s3 := if s2.servo = TL.holdover then s2.steerEpoch.count (Cnt.sch 5) 1 else s2.steerEpoch
  let s4 := if (List.range 8).any fun g => s3.flag (F.SCH_LGn_PEER_PEER_VOID g) then s3.count (Cnt.sch 7) 1 else s3
  let s5 := ((List.range 8).foldl (fun a g => a.epochGroup g) s4).tandemMark
  done (s5.modSch fun x => { x with droopSinceMark := s5.droopHold })

/-- TIME_MARK_RECEIVE (R50): a group takes marks from the PARAM state onward (R55). -/
def execTimeMarkReceive (g : Fin 8) (mark : BitVec 64) (arr : BitVec 70) (s : State) : Host.Outcome State Fault Refusal :=
  if s.tstate g.val < TS.param then done s else done (s.markReceived g.val mark.toNat arr.toNat)

/-- MARK_MISSING (R46). -/
def execMarkMissing (g : Fin 8) (s : State) : Host.Outcome State Fault Refusal := done (s.markMiss g.val)

/-- HOLDOVER_EXPIRY (R53). -/
def execHoldoverExpiry (s : State) : Host.Outcome State Fault Refusal :=
  if s.servo ≠ TL.holdover then done s else
  let s1 := s.passFt (s.sch.since.toNat + s.holdCycles)
  let s2 := (s1.setServo TL.free).modSch fun x =>
    { x with standbyExpired := s.f F.SCH_TL_CFG_ROLE == Role.standby, winderHeard := x.ft }
  done (s2.lockCause s)

/-- ACQUIRE_TIMEOUT (R53). -/
def execAcquireTimeout (s : State) : Host.Outcome State Fault Refusal :=
  if s.servo ≠ TL.acquire then done s else
  done ((s.passFt (s.sch.since.toNat + s.holdCycles)).setServo TL.free)

/-- WINDER_TAKEOVER (R53, R58). -/
def execWinderTakeover (s : State) : Host.Outcome State Fault Refusal :=
  if s.servo = TL.free && s.f F.SCH_TL_CFG_ROLE = Role.standby && s.sch.standbyExpired then
    let s1 := (s.passFt (s.sch.winderHeard.toNat + s.holdCycles)).setServo TL.winder
    done (s1.modSch fun x => { x with standbyExpired := false })
  else done s

/-! ## Decision point -/

/-- The first boundary whose decision point is not past and has not been taken. -/
def State.nextDecision (s : State) : Nat :=
  let n := (s.sch.ft.toNat + 16384 + s.shiftLen - 1) / s.shiftLen
  match s.sch.decided with
  | some d => max n (d + 1)
  | none => n

/-- The swap of a pair needs both ready flags (R410, R414). -/
def State.pairReady (s : State) : Bool :=
  !s.tandemImage || !(s.tnd? == TND.joined || s.tnd? == TND.wait) || (s.tnd.ready && s.tnd.pReady)

/-- STAGED codes (R147). -/
def SG.empty : Nat := 0
def SG.loading : Nat := 1
def SG.checking : Nat := 2
def SG.valid : Nat := 3
def SG.armed : Nat := 4
def SG.pending : Nat := 5

def State.staged (s : State) : Nat := s.f F.CFG_STAT_STAGED
def State.setStaged (s : State) (v : Nat) : State :=
  let s1 := s.setF F.CFG_STAT_STAGED v
  if v = SG.empty ∨ v = SG.loading ∨ v = SG.checking then s1.setReg64 R.CFG_STG_PLAN_LO R.CFG_STG_PLAN_HI 0 else s1
def State.modCfg (s : State) (f : CfgState → CfgState) : State := { s with cfg := f s.cfg }

/-- SWAP_DECISION_POINT (R65, R69, R134). -/
def execSwapDecisionPoint (s : State) : Host.Outcome State Fault Refusal :=
  if !s.crp.mainUp then done s else
  let n := s.nextDecision
  let s1 := (s.passFt (n * s.shiftLen - 16384)).modSch fun x => { x with decided := some n }
  if s1.cfg.armedFor ≠ some n then done s1 else
  if s1.staged = SG.armed && s1.pairReady then done ((s1.setStaged SG.pending).setB F.SCH_BSTAT_SWAP_PEND true)
  else
    let s2 := (s1.hit F.SCH_BSTAT_SWAP_MISS).modCfg fun x => { x with armedFor := none, hdrArms := false }
    let s3 := s2.modSch fun x => { x with missed := some n }
    done (if s3.staged = SG.armed then s3.setStaged SG.valid else s3)

/-- The pending swap is cancelled (R70): it shows from its boundary on. -/
def State.cancelSwap (s : State) : State :=
  if s.flag F.SCH_BSTAT_SWAP_PEND then
    ((s.setB F.SCH_BSTAT_SWAP_PEND false).hit F.SCH_BSTAT_SWAP_CANCEL).modSch fun x => { x with cancelled := s.cfg.armedFor }
  else s

/-- SWAP_CANCEL (R70): an uncorrectable error in a staged half after the decision point. A pair tells its partner
(R410). -/
def execSwapCancel (s : State) : Host.Outcome State Fault Refusal :=
  if s.flag F.SCH_BSTAT_SWAP_PEND then
    let s1 := s.cancelSwap.modCfg fun c => { c with staged := Half.empty }
    done (if s1.tnd? = TND.joined then s1.sendControl CW.cancel 0 else s1)
  else done s

/-! ## The shift report -/

/-- Microseconds, rounded up, of a time in CK_CORE cycles. -/
def usCeil (c : Nat) : Nat := (c + usCycles - 1) / usCycles

/-- Droop hold time in the present shift, with the part of a hold in progress (R87, R664). -/
def State.droopNow (s : State) : Nat :=
  s.sch.droopCycles + match s.crp.holdStart with
    | some t => s.now - t
    | none => 0

/-- The header words of the report of the shift that ends at boundary `n` (R78), SEQ and CRC still zero. -/
def State.reportHeader (s : State) (n : Nat) (swapped : Bool) : List Word :=
  let w (v : Nat) : Word := BitVec.ofNat 32 v
  let d (v : Nat) : List Word := [w v, w (v / 2 ^ 32)]
  let kf := s.k + 2 ^ 8 * b2n swapped + 2 ^ 9 * b2n (s.sch.missed == some n) + 2 ^ 10 * b2n (s.sch.cancelled == some n) +
    2 ^ 11 * b2n s.sch.saturated
  [w 0x53520001, 0] ++ d (n - 1) ++ d s.planId ++ d ((n - 1) * s.shiftLen) ++
    [w kf, s.sch.voidCauses] ++ d (match s.sch.voidFirst with | some t => t.toNat | none => 2 ^ 64 - 1) ++
    [w (usCeil s.droopNow), w s.sch.droopEvents, 0, 0]

/-- The 2,048 words of a bank from its header and shadow (R77), with SEQ and CRC in place (R78). -/
def reportWords (hdr : List Word) (seq : Nat) (shadow : KMap (BitVec 64)) : List Word :=
  let h := hdr.set 1 (BitVec.ofNat 32 (seq % 2 ^ 24))
  let body := ((List.range 1016).map fun i =>
    let v := (kget 0 shadow (0x40 + 8 * i) : BitVec 64).toNat
    [BitVec.ofNat 32 v, BitVec.ofNat 32 (v / 2 ^ 32)]).flatten
  let bytes := (((h.take 14) ++ body).map fun w => natLe 4 w.toNat).flatten
  (h.set 14 (BitVec.ofNat 32 (crc32 bytes))) ++ body

/-- A bank as a sparse table of its words. -/
def bankOf (ws : List Word) : KMap Word := ((List.range ws.length).zip ws).filter fun e => e.2 != 0

/-- The words of a bank. -/
def State.bank (s : State) (b : Nat) : KMap Word := if b = 0 then s.sch.bank0 else s.sch.bank1

/-- The 8,192 bytes of a bank. -/
def State.bankBytes (s : State) (b : Nat) : List Byte :=
  ((List.range 2048).map fun i => natLe 4 (kget 0 (s.bank b) i : Word).toNat).flatten

/-- The report in progress ends without its header: its writes that wait at HMP0 are not sent (R76). -/
def State.dropReport (s : State) : State :=
  let s1 := s.hmpDrop 0 fun r => match r.who with
    | .report _ _ => true
    | _ => false
  (s1.setB F.SCH_RPT_STAT_WR_BUSY false).modSch fun y => { y with writer := none }

/-- A report not completely written when the next one is published is abandoned (R76). -/
def State.abandonReport (s : State) : State :=
  if s.sch.writer.isSome then s.dropReport.hit F.SCH_RPT_STAT_WR_SKIP else s

/-- The report writer starts on the published bank (R74): bytes 0x40 to 0x1FFF, in requests that cross no 4 KiB boundary. -/
def State.startWriter (s0 : State) (bank seq : Nat) : State :=
  let s := s0
  let base := s.reg64 R.SCH_RPT_ADDR_LO R.SCH_RPT_ADDR_HI + 8192 * s.f F.SCH_RPT_WIDX_IDX
  let bs := s0.bankBytes bank
  let parts := hostChunks (base + 0x40) (8192 - 0x40)
  let s1 := (s0.setB F.SCH_RPT_STAT_WR_BUSY true).modSch fun x =>
    { x with writer := some { bank := bank, seq := seq, base := base, outstanding := parts.length, header := false } }
  parts.foldl (fun a p => a.hostWrite 0 p.1 ((bs.drop (p.1 - base)).take p.2) false 0x13 (.report seq false)) s1

/-- REPORT_PUBLISH (R65): the filled bank is published 1,024 cycles after the boundary. -/
def execReportPublish (s : State) : Host.Outcome State Fault Refusal :=
  match s.sch.lastBoundary with
  | none => done s
  | some b =>
    if !s.flag F.SCH_RPT_STAT_FILLING then done s else
    let s1 := s.passFt (b.toNat + 1024)
    let seq := (s1.f F.SCH_RPT_STAT_SEQ + 1) % 2 ^ 24
    let bank := 1 - s1.f F.SCH_RPT_STAT_BANK
    let ws := bankOf (reportWords s1.sch.shadowHdr seq s1.sch.shadow)
    let s2 := s1.modSch fun x => if bank = 0 then { x with bank0 := ws } else { x with bank1 := ws }
    let s3 := (((((s2.abandonReport).setF F.SCH_RPT_STAT_BANK bank).setF F.SCH_RPT_STAT_SEQ seq).setB F.SCH_RPT_STAT_FILLING false).setB
      F.SCH_RPT_STAT_VALID true).raise EV.shift
    done (if s3.flag F.SCH_RPT_CTRL_WR_EN then s3.startWriter bank seq else s3)

/-- The response of a write of report `seq` (R75, R76): after the last of the body's the header is written; the header's
own ends the report and raises EV_RPT. An error stops the report and leaves WIDX. -/
def State.reportResponse (s : State) (seq : Nat) (header ok : Bool) : State :=
  match s.sch.writer with
  | none => s
  | some w =>
    if w.seq ≠ seq then s
    else if !ok then
      (s.hit F.SCH_RPT_STAT_WR_ERR).dropReport
    else if header then
      let size := 2 ^ s.f F.SCH_RPT_CTRL_RING_LOG2
      (((s.setF F.SCH_RPT_WIDX_IDX ((s.f F.SCH_RPT_WIDX_IDX + 1) % size)).setB F.SCH_RPT_STAT_WR_BUSY false).modSch fun x =>
        { x with writer := none }).raise EV.rpt
    else if w.outstanding = 1 then
      (s.modSch fun x => { x with writer := some { w with outstanding := 0, header := true } }).hostWrite 0 w.base
        ((s.bankBytes w.bank).take 64) false 0x13 (.report seq true)
    else s.modSch fun x => { x with writer := some { w with outstanding := w.outstanding - 1 } }

end Sys2Proof.Machine
end

