-- ==== Sys2Proof/Machine/Loader.lean ====
section
/-! DEFINITION. Loading an image (R118 to R129) and arming it (R132 to R134). -/

namespace Sys2Proof.Machine

/-- A load is in progress (STAGED is LOADING or CHECKING). -/
def State.loading (s : State) : Bool := s.staged == SG.loading || s.staged == SG.checking

/-- The loader's reads that wait at HMP0 are not issued any more (R124). -/
def State.dropReads (s : State) : State :=
  let mine (r : HmpReq) : Bool := match r.who with
    | .loader _ _ => true
    | _ => false
  let n := ((s.hmpPort 0).reqs.filter mine).length
  (s.hmpDrop 0 mine).modCfg fun c => { c with hmpOut := c.hmpOut - n }

/-- The load ends with a failure (R126): CODE and SECT, STAGED to EMPTY, EV_IMG_FAIL. -/
def State.failLoad (s0 : State) (f : ImgFault) : State :=
  let s := s0.dropReads
  let s1 := ((((s.setF F.CFG_STAT_CODE f.1).setF F.CFG_STAT_SECT (f.2.getD 0x1FF)).setB F.CFG_STAT_SECT_V f.2.isSome).setStaged
    SG.empty).modCfg fun c => { c with
      staged := Half.empty, crossStart := none, sigStart := none, armedFor := none, hdrArms := false, hmpData := [] }
  s1.raise EV.imgFail

/-- The decision point of boundary `n` has passed (R65, R133). -/
def State.decisionPast (s : State) (n : Nat) : Bool :=
  decide (n * s.shiftLen < s.sch.ft.toNat + 16384) || s.sch.decided.any fun d => decide (d ≥ n)

/-- Every phase has passed (R127): VALID, or ARMED where an arm stands; an image whose decision point has passed has missed
(R69). -/
def State.loadValid (s : State) : State :=
  if !(s.cfg.received && s.cfg.crossOk && s.cfg.sigOk) then s else
  let id := s.cfg.staged.hdr.elim 0 fun h => h.planId.toNat
  let s1 := (((s.setReg64 R.CFG_STG_PLAN_LO R.CFG_STG_PLAN_HI id).setF F.CFG_STAT_CODE 0).setF F.CFG_STAT_SECT 0x1FF).setB
    F.CFG_STAT_SECT_V false
  let s2 := match s1.cfg.armedFor with
    | none => s1.setStaged SG.valid
    | some n =>
      if s1.decisionPast n then
        ((s1.setStaged SG.valid).hit F.SCH_BSTAT_SWAP_MISS).modCfg fun c => { c with armedFor := none, hdrArms := false }
      else s1.setStaged SG.armed
  s2.raise EV.imgDone

/-- The bytes of the load so far, from offset `o`, `n` of them. -/
def rxBytes (rx : List (BitVec 64)) (o n : Nat) : List Byte :=
  let newest := rx.length * 8
  let words := (rx.take ((newest - o + 7) / 8)).reverse
  (((words.map fun w => natLe 8 w.toNat).flatten).drop (o % 8)).take n

/-! ## The cross and signature phases (R126) -/

/-- The CK_CTL cycle (R64) that holds the CK_CORE cycle `t`. -/
def State.ctlAt (s : State) (t : Nat) : Nat := (t + (s.core - s.now)) / ctlCycles

/-- When the cross phase and the signature phase report. The signature phase cannot end before the signature block has
come (log entry 15). -/
def State.crossDue (s : State) : Nat :=
  let n := s.cfg.dir.foldl (fun a e => if e.typ ≤ 14 then a + e.len else a) 0
  s.cfg.crossStart.getD 0 + ctlCycles * ((n + 63) / 64)

def State.sigDue (s : State) : Nat := max (s.cfg.sigStart.getD 0 + ctlCycles * 25000) s.cfg.lastWord

/-- What the two phases find. -/
def State.crossResult (s : State) (ecc : Option Nat) : Option ImgFault := worst (s.cfg.staged.crossFaults s.cfg.dir ecc)
def State.sigResult (s : State) : Option ImgFault :=
  match s.cfg.staged.hdr with
  | none => none
  | some h => worst ((s.sigFaults h (rxBytes s.cfg.rx 0 h.sigOff) (rxBytes s.cfg.rx h.sigOff 256)).map fun c => (c, none))

def State.crossWaits (s : State) : Bool := s.loading && s.cfg.crossStart.isSome && !s.cfg.crossOk
def State.sigWaits (s : State) : Bool := s.loading && s.cfg.sigStart.isSome && !s.cfg.sigOk && s.cfg.received

/-- The failure of the cross phase, and of the signature phase, if it reports in the CK_CTL cycle that holds `t`. -/
def State.crossAt (s : State) (t : Nat) : Option ImgFault :=
  if s.crossWaits && s.ctlAt s.crossDue == s.ctlAt t then s.crossResult none else none
def State.sigAt (s : State) (t : Nat) : Option ImgFault :=
  if s.sigWaits && s.ctlAt s.sigDue == s.ctlAt t then s.sigResult else none

/-- The lower code of two failures that are reported in one CK_CTL cycle (R126). -/
def lowerFault (a b : Option ImgFault) : Option ImgFault :=
  match a, b with
  | some x, some y => if y.1 < x.1 then some y else some x
  | some x, none => some x
  | none, y => y

/-- A failure that the stream phase finds now (R126): a lower code that another phase reports in the same CK_CTL cycle is the one
reported. -/
def State.failStream (s : State) (f : ImgFault) : State :=
  s.failLoad ((lowerFault (lowerFault (some f) (s.crossAt s.now)) (s.sigAt s.now)).getD f)

/-! ## The stream phase (R125) -/

/-- The header's 256 bytes have arrived: its check, and arming by ACT_SHIFT (R125, R132). -/
def State.takeHeader (s : State) (b : List Byte) : State :=
  match leastCode (s.hdrFaults b) with
  | some c => s.failStream (c, none)
  | none =>
    let h := parseHdr b
    let s1 := s.modCfg fun c => { c with staged := { hdr := some h, sects := [] } }
    if h.actShift = 0 then s1
    else if s1.decisionPast h.actShift then
      (s1.hit F.CFG_STAT_ARM_ERR).modCfg fun c => { c with armedFor := none, hdrArms := false }
    else s1.modCfg fun c => { c with armedFor := some h.actShift, hdrArms := true }

/-- The cross phase starts once the last section of types 0x0001 to 0x000E has been written (R125). -/
def State.startCross (s : State) (off nSect : Nat) : State :=
  if s.cfg.crossStart.isNone && s.cfg.dir.length == nSect &&
      s.cfg.dir.all (fun e => decide (e.typ ≥ 15) || decide (e.off + e.len ≤ off)) then
    s.modCfg fun c => { c with crossStart := some s.now }
  else s

/-- A directory entry has arrived. -/
def State.takeDirEntry (s : State) (h : ImgHdr) (i : Nat) (b : List Byte) : State :=
  let e := parseDir i b
  match leastCode (s.dirFaults h s.cfg.dir.reverse e) with
  | some c => s.failStream (c, some i)
  | none => (s.modCfg fun c => { c with dir := c.dir ++ [e] })

/-- The number that the last `n` bytes received up to image offset `o` spell. -/
def rxBack (rx : List (BitVec 64)) (n : Nat) : Nat := leNat (((rx.take (n / 8)).reverse.map fun w => natLe 8 w.toNat).flatten)

/-- A word that ends at image offset `o` and lies in section `e`: format, CRC at the last byte, and the writes of TMEM and
SMEM sections. -/
def State.takeSectWord (s : State) (e : DirEnt) (o : Nat) (w : BitVec 64) : State :=
  let p := o - 8 - e.off
  let m := min 8 (e.len - p)
  let bs := natLe 8 w.toNat
  let last := decide (o ≥ e.off + e.len)
  let all := if last then rxBytes s.cfg.rx e.off e.len else []
  let faults : List ImgFault :=
    (if bits w.toNat (8 * m) 64 != 0 then [(0x09, none)] else []) ++
    (if (p = 0 && lengthFault e.typ e.dest e.len) ||
        recordFault e.typ p m e.len (rxBack s.cfg.rx) (fun x n => leNat (rxBytes s.cfg.rx (e.off + x) n)) ||
        (last && e.typ == ST.reduce && listsFault all) then [(0x0D, some e.idx)] else []) ++
    (if last && crc32 all != e.scrc then [(0x0B, some e.idx)] else []) ++
    (if last && e.typ == ST.tandem && s.cfg.crossOk && tandemBad all then [(0x1F, some e.idx)] else [])
  match worst faults with
  | some f => s.failStream f
  | none =>
    let s1 := if e.typ = ST.tmem then s.tmemPut (e.dest + p) (bs.take m)
      else if e.typ = ST.smem then s.smemPut (e.dest + p) (bs.take m) false .loader else s
    if last && decide (e.typ ≤ 14 ∨ e.typ = ST.tandem) then
      s1.modCfg fun c => { c with staged := { c.staged with
        sects := c.staged.sects ++ [{ idx := e.idx, typ := e.typ, inst := e.inst, dest := e.dest, bytes := all }] } }
    else s1

/-- One word of the image (R121, R125), wherever it comes from. -/
def State.takeWord (s : State) (w : BitVec 64) : State :=
  let o := 8 * s.cfg.rx.length + 8
  let s1 := (s.modCfg fun c => { c with rx := w :: c.rx, lastWord := s.now }).setF F.CFG_PROGRESS_BYTES o
  let s2 := match s1.cfg.staged.hdr with
    | none => if o = 256 then s1.takeHeader (rxBytes s1.cfg.rx 0 256) else s1
    | some h =>
      let dirEnd := 256 + 32 * h.nSect
      if o ≤ dirEnd then
        if o % 32 = 0 then s1.takeDirEntry h (o / 32 - 9) (rxBytes s1.cfg.rx (o - 32) 32) else s1
      else match s1.cfg.dir.find? fun (e : DirEnt) => decide (e.off < o) && decide (o - 8 < e.off + e.len) with
        | some e => s1.takeSectWord e o w
        | none => if o ≤ h.sigOff ∧ w ≠ 0 then s1.failStream (0x09, none) else s1
  match s2.cfg.staged.hdr with
  | none => s2
  | some h =>
    if !s2.loading then s2 else
    let s3 := if o ≥ 256 + 32 * h.nSect then s2.startCross o h.nSect else s2
    let s4 := if o = h.sigOff then s3.modCfg fun c => { c with sigStart := some s3.now } else s3
    if o < h.imageLen then s4
    else ((s4.setStaged SG.checking).modCfg fun c => { c with received := true }).loadValid

/-- The port shows CFG_READY (R606): a load from the port is in progress and its last byte has not come. -/
def State.cfgReady (s : State) : Bool := s.crp.mainUp && s.staged == SG.loading && !s.cfg.fromHost && !s.cfg.received

/-- CFG_WORD (R121, R605, R606): at most one word in a CK_CTL cycle. -/
def execCfgWord (w : BitVec 64) (s : State) : Host.Outcome State Fault Refusal :=
  if s.cfgReady then done (((s.passTo (s.cfg.lastWord + ctlCycles)).emit (.cfgTaken true)).takeWord w)
  else done (s.emit (.cfgTaken false))

/-- CFG_TIMEOUT (R122). -/
def execCfgTimeout (s : State) : Host.Outcome State Fault Refusal :=
  if s.cfgReady then done ((s.passTo (s.cfg.lastWord + 2 ^ 24 * ctlCycles)).failStream (0x1D, none)) else done s

/-! ## From host memory (R123, R124) -/

/-- The loader's next read requests: the header alone first, then pieces that cross no 4 KiB boundary, with 16 at most
outstanding. CFG_SRC is read anew for each request (DESIGN CHOICE, log entry 99). The first argument bounds their number. -/
def State.loaderAsk : Nat → State → State
  | 0, s => s
  | fuel + 1, s =>
    let total := match s.cfg.staged.hdr with
      | some h => h.imageLen
      | none => 256
    if s.cfg.hmpOut ≥ 16 ∨ s.cfg.hmpAsked ≥ total then s else
    let a := s.reg64 R.CFG_SRC_LO R.CFG_SRC_HI + s.cfg.hmpAsked
    let n := min (total - s.cfg.hmpAsked) (4096 - a % 4096)
    let s1 := s.hostRead 0 a n 0x12 (.loader s.cfg.hmpAsked s.cfg.gen)
    State.loaderAsk fuel (s1.modCfg fun c => { c with hmpAsked := c.hmpAsked + n, hmpOut := c.hmpOut + 1 })

/-- Image words from host memory, four in a CK_CTL cycle at most (R123). -/
def State.feedWords : State → List Nat → State
  | s, [] => s
  | s, w :: ws =>
    if s.staged = SG.loading then
      State.feedWords (((s.passTo (s.cfg.lastWord + ctlCycles / 4))).takeWord (BitVec.ofNat 64 w)) ws
    else s

/-- Data that has come is taken in image order. The first argument bounds the pieces. -/
def State.feedHost : Nat → State → State
  | 0, s => s
  | fuel + 1, s =>
    match s.cfg.hmpData.find? fun e => e.1 == 8 * s.cfg.rx.length with
    | none => s
    | some (off, bs) =>
      State.feedHost fuel ((s.modCfg fun c => { c with hmpData := c.hmpData.filter fun e => e.1 != off }).feedWords (chunks 8 bs))

/-- The answer to a loader read (R123, R124): `none` for an error response. -/
def State.loaderData (s : State) (off gen : Nat) (data : Option (List Byte)) : State :=
  let s0 := s.modCfg fun c => { c with hmpOut := c.hmpOut - 1 }
  if gen ≠ s.cfg.gen ∨ !(s.loading && s.cfg.fromHost) then s0 else
  match data with
  | none => s0.failStream (0x1D, none)
  | some bs =>
    let s1 := s0.modCfg fun c => { c with hmpData := (off, bs) :: c.hmpData }
    let s2 := State.feedHost (s1.cfg.hmpData.length + 1) s1
    if s2.staged = SG.loading then State.loaderAsk 16 s2 else s2

/-! ## Start, abort, arm, disarm -/

/-- A start is refused (R118). -/
def State.startRefused (s : State) : Bool := s.loading || s.staged == SG.pending || s.flag F.SCH_BSTAT_SWAP_PEND

/-- A start by CFG_CTRL.START (R118, R119). -/
def State.startLoad (s : State) : State :=
  if s.startRefused then s.hit F.CFG_STAT_START_ERR else
  let s1 := (s.setStaged SG.loading).setF F.CFG_PROGRESS_BYTES 0
  let s2 := s1.modCfg fun c => { c with
    staged := Half.empty, rx := [], dir := [], hmpData := [], fromHost := s.flag F.CFG_CTRL_SRC, gen := c.gen + 1, lastWord := s.now
    hmpAsked := 0, armedFor := none, hdrArms := false, crossStart := none, sigStart := none, crossOk := false
    sigOk := false, received := false }
  if s2.cfg.fromHost then State.loaderAsk 1 s2 else s2

/-- CFG_CTRL.DISARM (R134): an image that its ACT_SHIFT armed stays closed to CFG_ARM (R132). -/
def State.disarmImage (s : State) : State :=
  if s.staged = SG.armed then (s.setStaged SG.valid).modCfg fun c => { c with armedFor := none } else s

/-- CFG_CTRL.ABORT (R128). -/
def State.abortLoad (s : State) : State := if s.loading then s.failStream (0x1E, none) else s.disarmImage

/-- Writes of CFG_ARM are refused (R132): the image's own ACT_SHIFT arms it. -/
def State.armLocked (s : State) : Bool := s.cfg.hdrArms

/-- A write of CFG_ARM_LO arms for the shift in CFG_ARM (R132, R133). -/
def State.armImage (s : State) : State :=
  let n := s.reg64 R.CFG_ARM_LO R.CFG_ARM_HI
  if s.decisionPast n || s.staged == SG.empty || s.staged == SG.pending then s.hit F.CFG_STAT_ARM_ERR
  else
    let s1 := s.modCfg fun c => { c with armedFor := some n }
    if s1.staged = SG.valid then s1.setStaged SG.armed else s1

/-! ## The ends of the phases (R126) -/

/-- CROSS_PHASE_DONE (R126). -/
def execCrossPhaseDone (ecc : Option (Fin 512)) (s : State) : Host.Outcome State Fault Refusal :=
  if !s.crossWaits then done s else
  let s1 := s.passTo s.crossDue
  let other := s1.sigAt s1.crossDue
  match s1.crossResult (ecc.map fun i => i.val) with
  | none => done ((s1.modCfg fun c => { c with crossOk := true }).loadValid)
  | some f => done (s1.failLoad ((lowerFault (some f) other).getD f))

/-- SIGNATURE_PHASE_DONE (R126). -/
def execSignaturePhaseDone (s : State) : Host.Outcome State Fault Refusal :=
  if !s.sigWaits then done s else
  let s1 := s.passTo s.sigDue
  let other := s1.crossAt s1.sigDue
  match s1.sigResult with
  | none => done ((s1.modCfg fun c => { c with sigOk := true }).loadValid)
  | some f => done (s1.failLoad ((lowerFault (some f) other).getD f))

end Sys2Proof.Machine
end

