-- ==== Sys2Proof/Machine/QueueBase.lean ====
section
/-! DEFINITION. The queue engine's shared operations: contexts (R235), peers (R260), segments (R244 to R247), routing (R257
to R259), exceptions (R278), completions (R272 to R277), and the copies it has drifts make (R327). -/

namespace Sys2Proof.Machine

def State.modQue (s : State) (f : QueState → QueState) : State := { s with que := f s.que }

/-! ## Contexts (R235) -/

/-- A field of a context: lowest bit and width. -/
structure QFld where
  lo : Nat
  w : Nat
  deriving DecidableEq, Repr

def QC.en : QFld := ⟨0, 1⟩
def QC.err : QFld := ⟨1, 1⟩
def QC.owner : QFld := ⟨2, 2⟩
def QC.cls : QFld := ⟨4, 3⟩
def QC.inorder : QFld := ⟨7, 1⟩
def QC.cplHost : QFld := ⟨8, 1⟩
def QC.cplChan : QFld := ⟨9, 1⟩
def QC.recv : QFld := ⟨10, 1⟩
def QC.winSpace : QFld := ⟨11, 1⟩
def QC.ringSpace : QFld := ⟨12, 1⟩
def QC.sqLog2 : QFld := ⟨16, 4⟩
def QC.cqLog2 : QFld := ⟨20, 4⟩
def QC.rqLog2 : QFld := ⟨24, 4⟩
def QC.sqProd : QFld := ⟨32, 16⟩
def QC.sqCons : QFld := ⟨48, 16⟩
def QC.sqBase : QFld := ⟨64, 64⟩
def QC.cqBase : QFld := ⟨128, 64⟩
def QC.cqProd : QFld := ⟨192, 16⟩
def QC.cqCons : QFld := ⟨208, 16⟩
def QC.rqProd : QFld := ⟨224, 16⟩
def QC.rqCons : QFld := ⟨240, 16⟩
def QC.rqBase : QFld := ⟨256, 64⟩
def QC.winBase : QFld := ⟨320, 64⟩
def QC.winLen : QFld := ⟨384, 64⟩
def QC.ev : QFld := ⟨448, 12⟩
def QC.ch : QFld := ⟨460, 10⟩
def QC.outst : QFld := ⟨480, 16⟩
def QC.lastErr : QFld := ⟨496, 8⟩
def QC.retryLimit : QFld := ⟨504, 4⟩
def QC.retxTmo : QFld := ⟨508, 4⟩

def State.qctx (s : State) (q : Nat) : BitVec 512 := kget 0 s.que.ctx q
def State.setQctx (s : State) (q : Nat) (c : BitVec 512) : State := s.modQue fun x => { x with ctx := kset 0 x.ctx q c }
def State.qf (s : State) (q : Nat) (x : QFld) : Nat := bits (s.qctx q).toNat x.lo x.w
def State.setQf (s : State) (q : Nat) (x : QFld) (v : Nat) : State :=
  s.setQctx q (BitVec.ofNat 512 (putBits (s.qctx q).toNat x.lo x.w v))
def State.qflag (s : State) (q : Nat) (x : QFld) : Bool := s.qf q x == 1

/-- Entries between a producer and a consumer index (R235). -/
def ringUsed (prod cons : Nat) : Nat := (prod + 65536 - cons) % 65536

/-- The completion ring has no free slot (R275). -/
def State.cqFull (s : State) (q : Nat) : Bool :=
  decide (ringUsed (s.qf q QC.cqProd) (s.qf q QC.cqCons) ≥ 2 ^ s.qf q QC.cqLog2)

/-- An uncorrectable error in the stored context (R683): EN cleared, ERR set, the started messages end without records. -/
def State.ctxGate (s : State) (q : Nat) : State :=
  if !s.storeFault 3 q then s else
  let s1 := (((s.logUe 3 q).setQf q QC.en 0).setQf q QC.err 1).modQue fun x => { x with
    out := x.out.filter fun m => m.q != q
    inject := x.inject.filter fun y => y.q != some q
    poisoned := insertNat q x.poisoned }
  { s1 with storeFaults := s1.storeFaults.filter fun f => f ≠ { unit := 3, index := q } }

/-! ## Copies by the drifts (R327) -/

/-- The drifts that the queue engine may use. -/
def State.qeDrifts (s : State) : List Nat :=
  let m := s.f F.STR_CFG_QE_DRIFTS
  if m = 0 then [15] else onesBelow m 16

/-- The named drift that holds the fewest commands and has a place, the lowest-numbered on a tie. -/
def State.pickDrift (s : State) : Option Nat :=
  s.qeDrifts.foldl (fun a d =>
    let n := (s.drift d).held.length
    if n ≥ 4 then a else match a with
      | none => some d
      | some b => if n < (s.drift b).held.length then some d else a) none

/-- The drift command of a copy. -/
def jobCmd (ft : BitVec 64) (j : QeJob) : DCmd :=
  { words := 0, malformed := false, src := .queueEngine, commit := ft, phase := .waiting, since := ft, deferred := false,
    counted := false, run := none, status := 0, resume := 0, record := 0, qe := some j }

/-- Copies that wait take places in drifts. The first argument bounds their number. -/
def State.dispatchJobs : Nat → State → State
  | 0, s => s
  | fuel + 1, s =>
    match s.que.jobs, s.pickDrift with
    | j :: rest, some d =>
      let x := s.drift d
      State.dispatchJobs fuel ((s.setDrift d { x with held := x.held ++ [jobCmd s.sch.ft j] }).modQue fun y => { y with jobs := rest })
    | _, _ => s

/-- The queue engine asks for copies. -/
def State.qeJobs (s : State) (js : List QeJob) : State := State.dispatchJobs 64 (s.modQue fun x => { x with jobs := x.jobs ++ js })

/-- The copies that read `len` bytes from `addr`. -/
def readJobs (who : JobFor) (port : Nat) (host : Bool) (addr len : Nat) : List QeJob :=
  (hostChunks addr len).map fun (a, n) =>
    { who := who, port := port, host := host, addr := a, len := n, off := a - addr, wr := false, bytes := [] }

/-- The copies that write `bs` at `addr`, where the message's data stands at offset `off`. -/
def writeJobs (who : JobFor) (port : Nat) (host : Bool) (addr off : Nat) (bs : List Byte) : List QeJob :=
  (hostChunks addr bs.length).map fun (a, n) =>
    { who := who, port := port, host := host, addr := a, len := n, off := off + (a - addr), wr := true,
      bytes := (bs.drop (a - addr)).take n }

/-- A piece of data joins the pieces that came, in order of offset. -/
def insPiece (p : Nat × List Byte) : List (Nat × List Byte) → List (Nat × List Byte)
  | [] => [p]
  | x :: xs => if p.1 ≤ x.1 then p :: x :: xs else x :: insPiece p xs

/-- The bytes of pieces in order. -/
def joinPieces (ps : List (Nat × List Byte)) : List Byte := (ps.map fun p => p.2).flatten

/-! ## Segments (R244 to R247) -/

/-- The payload of a segment: its route word and header, then the message header and data from byte 16 on. -/
def segPay (dst src hops reqId seg : Nat) (rsp last retx : Bool) (body : List Byte) : BitVec 1920 :=
  BitVec.ofNat 1920 (dst % 2 ^ 20 + 2 ^ 20 * (src % 2 ^ 20) + 2 ^ 40 * (hops % 32) + 2 ^ 64 * (reqId % 2 ^ 32) +
    2 ^ 96 * (seg % 2 ^ 24) + 2 ^ 120 * b2n rsp + 2 ^ 121 * b2n last + 2 ^ 122 * b2n retx + 2 ^ 128 * leNat (body.take 208))

/-- Fields of a segment. -/
def segDst (p : BitVec 1920) : Nat := bits p.toNat 0 20
def segSrc (p : BitVec 1920) : Nat := bits p.toNat 20 20
def segHops (p : BitVec 1920) : Nat := bits p.toNat 40 5
def segReqId (p : BitVec 1920) : Nat := bits p.toNat 64 32
def segNo (p : BitVec 1920) : Nat := bits p.toNat 96 24
def segRsp (p : BitVec 1920) : Bool := Nat.testBit p.toNat 120
def segLast (p : BitVec 1920) : Bool := Nat.testBit p.toNat 121
def segBytes (p : BitVec 1920) (o n : Nat) : List Byte := natLe n (bits p.toNat (8 * o) (8 * n))
def segLe (p : BitVec 1920) (o n : Nat) : Nat := bits p.toNat (8 * o) (8 * n)

/-- Data bytes in parts of 208, after the first. The first argument bounds the parts. -/
def dataParts : Nat → List Byte → List (List Byte)
  | 0, _ => []
  | fuel + 1, bs => if bs.isEmpty then [] else bs.take 208 :: dataParts fuel (bs.drop 208)

/-- The segments of a message with header `hdr` and data `bs`, of which the first segment holds `c` bytes (R247). -/
def messageSegs (dst src hops reqId : Nat) (rsp retx : Bool) (hdr : List Byte) (c : Nat) (bs : List Byte) : List (BitVec 1920) :=
  let parts := (hdr ++ bs.take c) :: dataParts (bs.length / 208 + 1) (bs.drop c)
  let n := parts.length
  ((List.range n).zip parts).map fun (i, body) => segPay dst src hops reqId i rsp (i + 1 == n) retx body

/-- Status codes (R272). -/
def QS.ok : Nat := 0
def QS.stale : Nat := 1
def QS.nobuf : Nat := 2
def QS.busy : Nat := 3
def QS.nopeer : Nat := 4
def QS.noroute : Nat := 5
def QS.bounds : Nat := 6
def QS.hmperr : Nat := 7
def QS.badop : Nat := 8
def QS.abandoned : Nat := 9
def QS.timeout : Nat := 0xA
def QS.poison : Nat := 0xB
def QS.barMismatch : Nat := 0xC
def QS.localHmperr : Nat := 0xD
def QS.descErr : Nat := 0xE
def QS.flushed : Nat := 0xF
def QS.dqInvalid : Nat := 0x10
def QS.hole : Nat := 0x11
def QS.redErr : Nat := 0x12

/-- Operation codes (R248). -/
def QO.send : Nat := 1
def QO.write : Nat := 2
def QO.read : Nat := 3
def QO.atomic : Nat := 4
def QO.reduce : Nat := 5
def QO.barrier : Nat := 6
def QO.ackonly : Nat := 7

/-- The segments of a response (R246). -/
def State.responseSegs (s : State) (dst reqId status op bytes data : Nat) (bs : List Byte) : List (BitVec 1920) :=
  let hdr := [BitVec.ofNat 8 status, BitVec.ofNat 8 op, 0, 0] ++ natLe 4 bytes ++ natLe 8 data
  messageSegs dst s.epid (s.f F.QUE_CFG_HOPS_INIT) reqId true false hdr 192 bs

/-! ## Exceptions (R278, R279) -/

def QX.nopeer : Nat := 1
def QX.routeMiss : Nat := 2
def QX.staleRx : Nat := 3
def QX.timeout : Nat := 4
def QX.barTmo : Nat := 5
def QX.barMismatch : Nat := 6
def QX.queueErr : Nat := 7
def QX.swapFlush : Nat := 8
def QX.refused : Nat := 9

/-- Exception records that wait enter the channel, one after another. The first argument bounds them. -/
def State.pumpExc : Nat → State → State
  | 0, s => s
  | fuel + 1, s =>
    let ch := s.f F.QUE_CFG_EXC_CHAN
    match s.que.exc with
    | r :: rest =>
      if s.hwWaits ch .queueEngine then s else
      State.pumpExc fuel (((s.modQue fun x => { x with exc := rest }).count (Cnt.que 15) 1).hwSend ch .queueEngine (recordWords r.toNat 4))
    | [] => s

/-- An exception record (R278): while the channel is full up to 64 wait, the one that is entering it among them, and a further one is lost
(R279). Two values in one word stand low half first (DESIGN CHOICE, log entry 107). -/
def State.exception (s : State) (typ status q peer reqId d1 d3 : Nat) : State :=
  if !s.flag F.QUE_CFG_EXC_EN then s
  else if s.que.exc.length + b2n (s.hwWaits (s.f F.QUE_CFG_EXC_CHAN) .queueEngine) ≥ 64 then s.hit F.QUE_STAT_EXC_LOST
  else
    let r := typ + 2 ^ 8 * status + 2 ^ 16 * q + 2 ^ 32 * peer + 2 ^ 64 * (reqId % 2 ^ 32) + 2 ^ 96 * (d1 % 2 ^ 32) +
      2 ^ 128 * s.sch.ft.toNat + 2 ^ 192 * (d3 % 2 ^ 64)
    State.pumpExc 65 (s.modQue fun x => { x with exc := x.exc ++ [BitVec.ofNat 256 r] })

/-! ## Routing (R257 to R259) -/

/-- The group that a destination's route entry gives now, if one is usable. -/
def State.routeGroup (s : State) (dst : Nat) : Option Nat :=
  let i := if dst / 1024 = s.epid / 1024 then dst % 1024 else 1024 + dst / 1024
  let e := if s.cfg.imageActive then s.cfg.active.rd ST.route 0 (8 * i) 8 else 0
  if !Nat.testBit e 0 then none
  else if s.lgUp (bits e 1 3) then some (bits e 1 3)
  else if Nat.testBit e 4 && s.lgUp (bits e 5 3) then some (bits e 5 3)
  else none

/-- A landing slot is freed: group, pool and slot (R195). Group 8 stands for no link, pool 8 for a Class S slot. -/
def State.freeLanding (s : State) (g pool slot : Nat) : State := if g < 8 ∧ pool < 8 then s.freeSlot g pool slot else s

/-- A segment waits for an open slot of group `g` on class `vc`. -/
def State.pushB (s : State) (g vc : Nat) (b : BWait) : State :=
  s.modLg g fun x => { x with bq := kset [] x.bq vc (kget [] x.bq vc ++ [b]) }

/-- A segment that reaches the local queue engine. Segment 0 of a request with a reserved operation is discarded (log
entry 19). -/
def State.deliver (s : State) (x : Seg) : State :=
  let op := bits x.bytes.toNat 128 4
  if !segRsp x.bytes && segNo x.bytes == 0 && (op == 0 || decide (op > 7)) then s.freeLanding x.g x.pool x.slot
  else s.modQue fun y => { y with rxq := y.rxq ++ [x] }

/-- A segment that holds no landing slot. -/
def looseSeg (g vc : Nat) (tag : Option Nat) (partner : Bool) (pay : BitVec 1920) : Seg :=
  { bytes := pay, g := g, vc := vc, pool := 8, slot := 0, tag := tag, fromPartner := partner }

/-- A route miss on `pay` (R259): segment 0 of a request is answered NOROUTE, with an exception. The answer comes second. -/
def State.routeMiss (s : State) (pay : BitVec 1920) : State × List (BitVec 1920) :=
  let s1 := (s.count (Cnt.que 10) 1).raise EV.queRoute
  if segRsp pay || segNo pay ≠ 0 then (s1, []) else
  let op := bits pay.toNat 128 4
  let s2 := s1.exception QX.routeMiss QS.noroute 0 (segSrc pay) (segReqId pay) (segDst pay) (segHops pay)
  (s2, s2.responseSegs (segSrc pay) (segReqId pay) QS.noroute op 0 0 [])

/-- The group whose egress calendar carries queue `q`'s tag (R281); the cross phase admits no second one (R296). -/
def State.schedGroup (s : State) (q : Nat) : Option Nat :=
  (List.range 8).find? fun g => (s.cfg.active.calendar g 0 none).any fun e => calClass e == 0 && calTag e == 0x10000 + q

/-- A segment of a scheduled queue enters its group's egress buffer (R191, R281). -/
def State.pushSched (s : State) (g q : Nat) (pay : BitVec 1920) : State :=
  s.modLg g fun x => { x with
    egress := x.egress ++ [{ tag := BitVec.ofNat 17 (0x10000 + q), hole := false, csv := false, pay := pay, due := 0, k := 0 }] }

/-! ### Injection (R29, R32, R256, R257)

The engine hands its segments to the link layer one at a time: a segment is handed when no other segment of its own waits on its class in
the group (DESIGN CHOICE, log entry 104). -/

/-- Segment `x` stays behind the waiting segment `y`: on the same way, or at the beginning of a later message of the same queue
(R256). -/
def State.behind (s : State) (x y : Inject) : Bool :=
  match x.sched, y.sched with
  | some a, some b => a.1 == b.1
  | none, none => (x.vc == y.vc && s.routeGroup (segDst x.pay) == s.routeGroup (segDst y.pay)) ||
      (x.q.isSome && x.q == y.q && segNo x.pay == 0 && segNo y.pay == 0)
  | _, _ => false

/-- A segment is handed over by its DST (R257), or is a route miss; `none` where it waits: for room, or for the end of a droop hold (R29,
R32). A scheduled queue's segment is discarded where its group sends no Class S data (R213, R319). -/
def State.handOne (s : State) (x : Inject) : Option State :=
  match x.sched with
  | some (g, q) =>
    if !s.lgUp g || s.noWidth g || !(s.running || s.mode == Mode.drain) then some s
    else if (s.lg g).egress.length ≥ 512 then none
    else some (s.pushSched g q x.pay)
  | none =>
    if s.flag F.CRP_DROOP_STAT_HOLD then none
    else if segDst x.pay = s.epid then some ((s.deliver (looseSeg 8 x.vc none false x.pay)).segSent x.msg)
    else match s.routeGroup (segDst x.pay) with
      | some g => if (kget [] (s.lg g).bq x.vc).any fun b => b.origin.isNone then none
          else some (s.pushB g x.vc { pay := x.pay, origin := none, msg := x.msg })
      | none =>
        let (s1, answer) := s.routeMiss x.pay
        some (answer.foldl (fun a p => a.deliver (looseSeg 8 x.vc none false p)) (s1.segSent x.msg))

/-- Every segment that can be handed over is. -/
def State.handOver (s : State) : State :=
  let r := s.que.inject.foldl (fun (a, kept) x =>
    if kept.any fun y => a.behind x y then (a, kept ++ [x]) else match a.handOne x with
      | some t => (t, kept)
      | none => (a, kept ++ [x])) (s, ([] : List Inject))
  r.1.modQue fun y => { y with inject := r.2 }

/-- The engine originates segments. -/
def State.originate (s : State) (xs : List Inject) : State := (s.modQue fun y => { y with inject := y.inject ++ xs }).handOver

/-- The segments of a message that have not been handed over are dropped. -/
def State.dropInject (s : State) (dst reqId : Nat) : State :=
  s.modQue fun y => { y with inject := y.inject.filter fun x => x.msg != some (dst, reqId) }

/-- Segments of a response, on class `vc` or on a scheduled queue's slots. -/
def responseInject (vc : Nat) (sched : Option (Nat × Nat)) (segs : List (BitVec 1920)) : List Inject :=
  segs.map fun p => { vc := vc, sched := sched, q := none, msg := none, pay := p }

/-- A B-class DATA flit that landed (R257): delivered, forwarded with HOPS one less, or a miss. A FENCED block discards
those addressed to the endpoint (R412). -/
def State.routeLanded (s : State) (g vc pool slot : Nat) (pay : BitVec 1920) : State :=
  let miss (a : State) : State :=
    let (a1, answer) := (a.freeLanding g pool slot).routeMiss pay
    a1.originate (responseInject vc none answer)
  if segDst pay = s.epid then
    (if s.fenced then s.freeLanding g pool slot
     else s.deliver { bytes := pay, g := g, vc := vc, pool := pool, slot := slot, tag := none, fromPartner := false })
  else if segHops pay = 0 then miss s
  else match s.routeGroup (segDst pay) with
    | some og => s.pushB og vc { pay := BitVec.ofNat 1920 (putBits pay.toNat 40 5 (segHops pay - 1)), origin := some (g, pool, slot), msg := none }
    | none => miss s

/-! ## Peers (R260 to R262) -/

/-- The slot of the peer with endpoint ID `id`. -/
def State.peerSlot (s : State) (id : Nat) : Option Nat := (s.que.peers.find? fun e => e.2.valid && e.2.id == id).map fun e => e.1
def State.peer (s : State) (i : Nat) : Peer := kget Peer.init s.que.peers i
def State.setPeer (s : State) (i : Nat) (p : Peer) : State := s.modQue fun x => { x with peers := kset Peer.init x.peers i p }
def State.modPeer (s : State) (id : Nat) (f : Peer → Peer) : State :=
  match s.peerSlot id with
  | some i => s.setPeer i (f (s.peer i))
  | none => s

/-- x − y as a signed 32-bit difference (R263). -/
def idDiff (x y : Nat) : Int := sext (x + 2 ^ 32 - y % 2 ^ 32) 32

/-- The lowest REQ_ID to `dst` without a final response, or TX_NEXT (R262). -/
def State.lowestOut (s : State) (dst txNext : Nat) : Nat :=
  (s.que.out.filter fun m => m.dst == dst && !m.final).foldl (fun a m => if idDiff m.reqId a < 0 then m.reqId else a) txNext

/-- ACK_LOW of a peer follows the outstanding messages; a changed one is reported to the partner (R407). -/
def State.refreshAckLow (s : State) (dst : Nat) : State :=
  match s.peerSlot dst with
  | none => s
  | some i =>
    let p := s.peer i
    let low := BitVec.ofNat 32 (s.lowestOut dst p.txNext.toNat)
    if low = p.ackLow then s else
    let s1 := s.setPeer i { p with ackLow := low }
    if s1.tnd? = TND.joined then s1.sendControl CW.ackLow (dst + 2 ^ 32 * low.toNat) else s1

/-- The ACK_LOW that requests to a peer carry (R262, R407). -/
def State.sentAckLow (s : State) (p : Peer) : Nat :=
  if s.tnd? = TND.joined && p.pAckSeen && decide (idDiff p.pAckLow.toNat p.ackLow.toNat < 0) then p.pAckLow.toNat else p.ackLow.toNat

/-! ## Completions (R272 to R277) -/

/-- A completion record without PHASE (R273). -/
def cplRecord (status op : Nat) (rx : Bool) (index reqId bytes peer data user : Nat) : BitVec 256 :=
  BitVec.ofNat 256 (status + 2 ^ 8 * op + 2 ^ 12 * b2n rx + 2 ^ 16 * (index % 65536) + 2 ^ 32 * (reqId % 2 ^ 32) +
    2 ^ 64 * (bytes % 2 ^ 32) + 2 ^ 96 * (peer % 2 ^ 20) + 2 ^ 128 * (data % 2 ^ 64) + 2 ^ 192 * (user % 2 ^ 64))

/-- The record keeps no descriptor before it waiting (R256): with INORDER every earlier message of the queue has
completed and its record has gone. -/
def State.cplReady (s : State) (c : Cpl) : Bool :=
  match c.order with
  | none => true
  | some o => !s.qflag c.q QC.inorder || (s.que.out.all (fun m => m.q != c.q || decide (m.order ≥ o)) &&
      s.que.cpl.all fun x => x.q != c.q || (match x.order with | some p => decide (p ≥ o) | none => true))

/-- The queue's HMP port (R233). -/
def qport (q : Nat) : Nat := q % 8

/-- The record `c` with PHASE for the present CQ_PROD (R273). -/
def State.withPhase (s : State) (c : Cpl) : Nat :=
  let v := s.qf c.q QC.cqProd
  c.record.toNat + 2 ^ 13 * b2n (!Nat.testBit v (s.qf c.q QC.cqLog2))

/-- The address of the ring slot at CQ_PROD. -/
def State.cqSlot (s : State) (q : Nat) : Nat := s.qf q QC.cqBase + 32 * (s.qf q QC.cqProd % 2 ^ s.qf q QC.cqLog2)

/-- The record of queue `q` whose writing has begun takes stage `st`. -/
def State.setStage (s : State) (q st : Nat) : State :=
  s.modQue fun x => { x with cpl := updFirst (fun c => c.q == q && decide (c.stage > 0)) (fun c => { c with stage := st }) x.cpl }

/-- The queue is drained of FLUSHED records: EN clears (R237). -/
def State.endFlush (s : State) (q : Nat) : State :=
  if s.que.flushing.contains q && s.que.out.all (fun m => m.q != q) && s.que.cpl.all (fun c => c.q != q || c.order.isNone) then
    (s.setQf q QC.en 0).modQue fun x => { x with flushing := x.flushing.filter fun y => y != q }
  else s

/-- Queue `q`'s record is posted (R277). -/
def State.cplPosted (s : State) (q : Nat) : State :=
  let s1 := s.modQue fun x => { x with cpl := x.cpl.filter fun c => !(c.q == q && decide (c.stage > 0)) }
  let s2 := if s1.qflag q QC.cplHost then s1.count (Cnt.que 8) 1 else s1
  let s3 := if s2.qflag q QC.cplChan then s2.count (Cnt.que 9) 1 else s2
  (s3.raiseGeneral (s3.qf q QC.ev)).endFlush q

/-- The channel copy of queue `q`'s record (R276): it enters once no earlier message of the engine waits there. -/
def State.cplChannel (s : State) (q : Nat) : State :=
  match s.que.cpl.find? fun c => c.q == q && decide (c.stage ≥ 3) with
  | none => s
  | some c =>
    let ch := s.qf q QC.ch
    if c.stage = 3 then
      if !s.qflag q QC.cplChan then s.cplPosted q
      else if s.hwWaits ch .queueEngine then s
      else
        let s1 := (s.setStage q 4).hwSend ch .queueEngine (recordWords c.record.toNat 4)
        if s1.hwWaits ch .queueEngine then s1 else s1.cplPosted q
    else if s.hwWaits ch .queueEngine then s else s.cplPosted q

/-- The next record of queue `q` starts on its way, unless one is (R275). In a ring in staging memory both writes take
place at once. -/
def State.cplStart (s : State) (q : Nat) : State :=
  if s.que.cpl.any fun c => c.q == q && decide (c.stage > 0) then s else
  match s.que.cpl.find? fun c => c.q == q && s.cplReady c with
  | none => s
  | some c =>
    let go (st : Nat) (a : State) : State := a.modQue fun x => { x with
      cpl := updFirst (fun y => decide (y = c)) (fun y => { y with stage := st, record := BitVec.ofNat 256 (s.withPhase c) }) x.cpl }
    if s.qflag q QC.cplHost then
      if s.cqFull q then s else
      let bs := natLe 32 (s.withPhase c)
      if s.qflag q QC.ringSpace then
        (((go 3 s).smemPut (s.cqSlot q) bs false .queue).setQf q QC.cqProd (s.qf q QC.cqProd + 1)).cplChannel q
      else (go 1 s).hostWrite (qport q) (s.cqSlot q + 4) (bs.drop 4) false 0x10 (.cplBody q 0)
    else (go 3 s).cplChannel q

/-- Records of queue `q` go on while they can. The first argument bounds them. -/
def State.pumpCpl : Nat → State → Nat → State
  | 0, s, _ => s
  | fuel + 1, s, q =>
    let n := s.que.cpl.length
    let s1 := s.cplStart q
    if s1.que.cpl.length < n then State.pumpCpl fuel s1 q else s1

/-- A record is posted at queue `q`. -/
def State.postCpl (s : State) (q : Nat) (rec : BitVec 256) (order : Option Nat) : State :=
  State.pumpCpl 64 (s.modQue fun x => { x with cpl := x.cpl ++ [{ q := q, record := rec, stage := 0, order := order }] }) q

/-- The response of a ring write (R275): the head after the body, then CQ_PROD advances. An error response sets the queue's ERR, and
after one to the body the record is dropped (log entry 17). -/
def State.cplResponse (s0 : State) (q : Nat) (head ok : Bool) : State :=
  let s := if ok then s0 else (s0.count (Cnt.que 11) 1).setQf q QC.err 1
  if head then State.pumpCpl 64 (((s.setStage q 3).setQf q QC.cqProd (s.qf q QC.cqProd + 1)).cplChannel q) q
  else if !ok then
    State.pumpCpl 64 ((s.modQue fun x => { x with cpl := x.cpl.filter fun c => !(c.q == q && decide (c.stage > 0)) }).endFlush q) q
  else match s.que.cpl.find? fun c => c.q == q && c.stage == 1 with
    | some c => (s.setStage q 2).hostWrite (qport q) (s.cqSlot q) (natLe 4 c.record.toNat) false 0x10 (.cplHead q 0)
    | none => s

end Sys2Proof.Machine
end

