-- ==== Sys2Proof/Machine/QueueReq.lean ====
section
/-! DEFINITION. The requester's side of the queue engine: doorbells (R240 to R242), descriptors (R238, R248), messages that
start, are sent, resent and completed (R262, R268 to R271), context and peer commands (R236, R237, R261). -/

namespace Sys2Proof.Machine

/-! ## Descriptors -/

/-- Fields of a descriptor (R238). -/
def dOp (d : BitVec 512) : Nat := bits d.toNat 0 4
def dFence (d : BitVec 512) : Bool := Nat.testBit d.toNat 5
def dSuppress (d : BitVec 512) : Bool := Nat.testBit d.toNat 7
def dArg (d : BitVec 512) : Nat := bits d.toNat 8 8
def dDst (d : BitVec 512) : Nat := bits d.toNat 32 20
def dLaddr (d : BitVec 512) : Nat := bits d.toNat 64 64
def dRaddr (d : BitVec 512) : Nat := bits d.toNat 128 64
def dLength (d : BitVec 512) : Nat := bits d.toNat 192 32
def dUser (d : BitVec 512) : Nat := bits d.toNat 384 64

/-- The queue may fetch descriptors: enabled, without ERR, not being flushed, in RUN or DEGRADED (R237, R242, R647). -/
def State.mayFetch (s : State) (q : Nat) : Bool :=
  s.qflag q QC.en && !s.qflag q QC.err && !s.que.flushing.contains q && s.running

/-- Descriptors that the doorbell covers are fetched, up to four ahead of the next start (log entry 16). The first argument
bounds their number. -/
def State.fetchDescs : Nat → State → Nat → State
  | 0, s, _ => s
  | fuel + 1, s, q =>
    let ahead := (s.que.fetched.filter fun e => e.1 == q).length + kget 0 s.que.fetching q
    let i := s.qf q QC.sqCons + ahead
    if !s.mayFetch q || decide (ahead ≥ 4) || decide (ringUsed (s.qf q QC.sqProd) (s.qf q QC.sqCons) ≤ ahead) then s else
    let slot := i % 2 ^ s.qf q QC.sqLog2
    let a := s.qf q QC.sqBase + 64 * slot
    let s1 := s.count (Cnt.que 1) 1
    if s.qflag q QC.ringSpace then
      let (bs, p, s2) := s1.smemGet a 64 .queue
      State.fetchDescs fuel (s2.modQue fun x => { x with
        fetched := x.fetched ++ [(q, slot, if p then QS.poison else QS.ok, BitVec.ofNat 512 (leNat bs))] }) q
    else
      State.fetchDescs fuel ((s1.hostRead (qport q) a 64 0x10 (.descFetch q slot (kget 0 s.que.fetchGen q))).modQue fun x => { x with
        fetching := kmod 0 x.fetching q (· + 1) }) q

/-- The queue may fetch receive descriptors: enabled, without ERR, not being flushed (R237, R242). -/
def State.mayFetchRecv (s : State) (q : Nat) : Bool := s.qflag q QC.en && !s.qflag q QC.err && !s.que.flushing.contains q

/-- Receive descriptors are fetched in the same way (R239). -/
def State.fetchRecv : Nat → State → Nat → State
  | 0, s, _ => s
  | fuel + 1, s, q =>
    let ahead := (s.que.rfetched.filter fun e => e.1 == q).length + kget 0 s.que.rfetching q
    if !s.mayFetchRecv q || decide (ahead ≥ 4) || decide (ringUsed (s.qf q QC.rqProd) (s.qf q QC.rqCons) ≤ ahead) then s else
    let slot := (s.qf q QC.rqCons + ahead) % 2 ^ s.qf q QC.rqLog2
    let a := s.qf q QC.rqBase + 16 * slot
    if s.qflag q QC.ringSpace then
      let (bs, p, s1) := s.smemGet a 16 .queue
      State.fetchRecv fuel (s1.modQue fun x => { x with
        rfetched := x.rfetched ++ [(q, slot, if p then QS.poison else QS.ok, BitVec.ofNat 128 (leNat bs))] }) q
    else
      State.fetchRecv fuel ((s.hostRead (qport q) a 16 0x10 (.recvFetch q slot (kget 0 s.que.fetchGen q))).modQue fun x => { x with
        rfetching := kmod 0 x.rfetching q (· + 1) }) q

/-- A descriptor's data comes; an error response stands for it as a status. That of a fetch from before the queue's last flush or enable
is dropped (R236, R237). -/
def State.descData (s : State) (q slot gen status : Nat) (bs : List Byte) : State :=
  let s1 := if status = QS.hmperr then s.count (Cnt.que 11) 1 else s
  if gen ≠ kget 0 s.que.fetchGen q then s1 else
  s1.modQue fun x => { x with
    fetching := kmod 0 x.fetching q (· - 1)
    fetched := x.fetched ++ [(q, slot, status, BitVec.ofNat 512 (leNat bs))] }

def State.recvData (s : State) (q slot gen status : Nat) (bs : List Byte) : State :=
  let s1 := if status = QS.hmperr then s.count (Cnt.que 11) 1 else s
  if gen ≠ kget 0 s.que.fetchGen q then s1 else
  s1.modQue fun x => { x with
    rfetching := kmod 0 x.rfetching q (· - 1)
    rfetched := x.rfetched ++ [(q, slot, status, BitVec.ofNat 128 (leNat bs))] }

/-- The descriptors fetched for queue `q`, and those being fetched, are forgotten. -/
def State.dropFetches (s : State) (q : Nat) : State :=
  s.modQue fun x => { x with
    fetched := x.fetched.filter fun e => e.1 != q
    rfetched := x.rfetched.filter fun e => e.1 != q
    fetching := kdel x.fetching q
    rfetching := kdel x.rfetching q
    fetchGen := kmod 0 x.fetchGen q (· + 1) }

/-- A descriptor with a reserved operation or outside a limit of R248 or R251; on a scheduled queue, outside R281. -/
def State.descBad (s : State) (q : Nat) (d : BitVec 512) : Bool :=
  let n := dLength d
  let op := dOp d
  let bad :=
    if op = QO.send ∨ op = QO.write then decide (n > 2 ^ 30)
    else if op = QO.read then n == 0 || decide (n > 2 ^ 30)
    else if op = QO.atomic then !(n == 4 || n == 8) || dRaddr d % n != 0
    else if op = QO.reduce then decide (n > 2 ^ 30) || decide (dArg d % 16 ≥ 0xE) || n % typeSize (dArg d % 16) != 0
    else if op = QO.barrier ∨ op = QO.ackonly then n != 0
    else true
  bad || (s.qf q QC.owner == 3 && (!(op == QO.send || op == QO.write) || (match s.schedGroup q with
    | some g => s.cfg.active.peerId g != dDst d
    | none => true)))

/-! ## The end of a message -/

/-- The record of a requester (R273, R274), with LAST_ERR. -/
def State.postReq (s : State) (q slot order : Nat) (d : BitVec 512) (status reqId bytes data : Nat) : State :=
  let s1 := if status = QS.ok then s else s.setQf q QC.lastErr status
  if status = QS.ok && dSuppress d then State.pumpCpl 64 (s1.endFlush q) q
  else s1.postCpl q (cplRecord status (dOp d) false slot reqId bytes (dDst d) data (dUser d)) (some order)

/-- Message `m` ends (R271): it leaves the outstanding ones, with what has not been sent of it, and its record is posted. `final` says
that a final response ended it. -/
def State.finishMsg (s : State) (m : OutMsg) (status bytes data : Nat) (final : Bool) : State :=
  let s1 := (s.dropInject m.dst m.reqId).modQue fun x => { x with out := x.out.filter fun y => !(y.dst == m.dst && y.reqId == m.reqId) }
  let s2 := s1.setQf m.q QC.outst (s1.qf m.q QC.outst - 1)
  let s3 := s2.modPeer m.dst fun p => { p with outst := p.outst - 1, lastFinal := if final then s.que.clock else p.lastFinal }
  (s3.refreshAckLow m.dst).postReq m.q m.slot m.order m.desc status m.reqId bytes data

/-- The message with this destination and request ID replaced. -/
def State.setMsg (s : State) (m : OutMsg) : State :=
  s.modQue fun x => { x with out := updFirst (fun y => y.dst == m.dst && y.reqId == m.reqId) (fun _ => m) x.out }

def State.findMsg (s : State) (dst reqId : Nat) : Option OutMsg := s.que.out.find? fun m => m.dst == dst && m.reqId == reqId

/-- An uncorrectable error in a peer entry (R683): the slot becomes invalid and its messages complete with FLUSHED. -/
def State.peerGate (s : State) (id : Nat) : State :=
  match s.peerSlot id with
  | none => s
  | some i =>
    if !s.storeFault 4 i then s else
    let s1 := (s.que.out.filter fun m => m.dst == id).foldl (fun a m => a.finishMsg m QS.flushed 0 0 false) (s.logUe 4 i)
    let s2 := s1.setPeer i { s1.peer i with valid := false }
    { s2 with storeFaults := s2.storeFaults.filter fun f => f ≠ { unit := 4, index := i } }

/-! ## Sending -/

/-- The message header of a request (R245). -/
def requestHeader (d : BitVec 512) (ackLow : Nat) : List Byte :=
  let op := bits d.toNat 0 8 &&& 0x5F
  natLe 48 (op + 2 ^ 8 * bits d.toNat 8 24 + 2 ^ 32 * dLength d + 2 ^ 64 * dRaddr d + 2 ^ 128 * bits d.toNat 256 128 +
    2 ^ 256 * bits d.toNat 224 32 + 2 ^ 288 * (ackLow % 2 ^ 32))

/-- The segments of message `m` enter the fabric (R257, R281), its data read. -/
def State.injectMsg (s : State) (m : OutMsg) : State :=
  let p := match s.peerSlot m.dst with
    | some i => s.peer i
    | none => Peer.init
  let low := s.sentAckLow p
  let segs := messageSegs m.dst s.epid (s.f F.QUE_CFG_HOPS_INIT) m.reqId false m.retx (requestHeader m.desc low) 160 (joinPieces m.rd)
  let s1 := (s.setMsg { m with injected := true, sent := true, rd := [] }).modPeer m.dst fun p => { p with ackSent := BitVec.ofNat 32 low }
  let inject (sched : Option (Nat × Nat)) : List Inject := segs.map fun p =>
    { vc := s.qf m.q QC.cls, sched := sched, q := some m.q, msg := some (m.dst, m.reqId), pay := p }
  if !m.sched then s1.originate (inject none)
  else match s1.schedGroup m.q with
    | some g => s1.originate (inject (some (g, m.q)))
    | none => s1

/-- Messages in order of their starts: those whose data is ready are sent, none before the first sending of an earlier
one (R256). -/
def State.injectFrom : List OutMsg → State → State
  | [], s => s
  | m :: ms, s =>
    if m.injected then State.injectFrom ms s
    else if m.pendingRd = 0 then State.injectFrom ms (s.injectMsg m)
    else if m.sent then State.injectFrom ms s
    else s

def State.injectQueue (s : State) (q : Nat) : State := State.injectFrom (s.que.out.filter fun m => m.q == q) s

/-- Whether an operation's request carries data (R248). -/
def opHasData (op : Nat) : Bool := op == QO.send || op == QO.write || op == QO.reduce

/-- A sending of `m` begins, the first or a resend: its data is read, then its segments go (R243). What is left of an earlier sending is
dropped, and the timer stands until a segment has been sent (R268, R269). -/
def State.beginSend (s : State) (m : OutMsg) : State :=
  let n := if opHasData (dOp m.desc) then dLength m.desc else 0
  let js := readJobs (.sendData m.dst m.reqId) (qport m.q) (!s.qflag m.q QC.ringSpace) (dLaddr m.desc) n
  let s1 := (s.dropInject m.dst m.reqId).setMsg { m with injected := false, rd := [], pendingRd := js.length, rdFail := none, timer := none }
  (s1.qeJobs js).injectQueue m.q

/-- The next ID to a peer (R262): in a tandem image of the block's own parity and beyond the partner's last (R406). -/
def State.takeId (s : State) (p : Peer) : BitVec 32 :=
  if s.tandemImage && p.pSeen && decide (idDiff p.txNext.toNat p.pLast.toNat ≤ 0) then
    let n := p.pLast + 1
    if n.toNat % 2 = b2n (s.flag F.GLB_TND_STAT_ROLE) then n else n + 1
  else p.txNext

/-- The message of a descriptor that passed its checks starts, to the peer in slot `i` (R262). -/
def State.startTo (s : State) (q slot order i : Nat) (d : BitVec 512) : State :=
  let p := s.peer i
  let id := s.takeId p
  let s1 := (s.setPeer i { p with txNext := id + (if s.tandemImage then 2 else 1), outst := p.outst + 1 }).setQf q QC.outst
    (s.qf q QC.outst + 1)
  let m : OutMsg := { dst := p.id, reqId := id.toNat, q := q, slot := slot, desc := d, order := order, nextSeg := 0, timer := none,
                      resends := 0, retx := false, rd := [], pendingRd := 0, rdFail := none, injected := false, sent := false,
                      final := false, status := 0, got := 0, rspData := 0, pendingWr := 0, wrFail := false,
                      sched := s.qf q QC.owner == 3 }
  let s2 := ((s1.modQue fun x => { x with out := x.out ++ [m] }).count (Cnt.que 2) 1).refreshAckLow p.id
  let s3 := if s2.tnd? = TND.joined then s2.sendControl CW.id (p.id + 2 ^ 32 * id.toNat) else s2
  s3.beginSend m

/-- Whether a queue may start its next message (R237, R242, R262, R275, R412, R647). -/
def State.mayStart (s : State) (q : Nat) : Bool :=
  s.mayFetch q && !s.fenced && !(s.qflag q QC.cplHost && s.cqFull q) && decide (s.que.out.length < 16384)

/-- An ACKONLY to peer `p` on class `vc` (R266), for queue `q` where a descriptor asks for it. -/
def State.sendAckonly (s : State) (p : Peer) (vc : Nat) (q : Option Nat) : State :=
  let low := s.sentAckLow p
  let hdr := requestHeader (BitVec.ofNat 512 QO.ackonly) low
  let segs := messageSegs p.id s.epid (s.f F.QUE_CFG_HOPS_INIT) p.txNext.toNat false false hdr 160 []
  (s.modPeer p.id fun y => { y with ackSent := BitVec.ofNat 32 low }).originate
    (segs.map fun x => { vc := vc, sched := none, q := q, msg := none, pay := x })

/-- MESSAGE_START (R262): the next fetched descriptor of queue `q`. An ACKONLY waits until every earlier message of the queue has been
injected (R256). -/
def State.startMessage (s0 : State) (q : Nat) : State :=
  let s := State.fetchDescs 4 (s0.ctxGate q) q
  if !s.mayStart q then s else
  let slot := s.qf q QC.sqCons % 2 ^ s.qf q QC.sqLog2
  match s.que.fetched.find? fun e => e.1 == q && e.2.1 == slot with
  | none => s
  | some (_, _, st, d) =>
    if dFence d && decide (s.qf q QC.outst ≠ 0) then s else
    let s1 := s.peerGate (dDst d)
    let taken := (s1.setQf q QC.sqCons (s.qf q QC.sqCons + 1)).modQue fun x => { x with
      fetched := x.fetched.filter fun e => !(e.1 == q && e.2.1 == slot), order := x.order + 1 }
    let order := s.que.order
    let go (a : State) : State := State.fetchDescs 4 a q
    if st = QS.hmperr then go (taken.postReq q slot order d QS.localHmperr 0 0 0)
    else if st ≠ QS.ok then go (taken.postReq q slot order d st 0 0 0)
    else if s1.descBad q d then go (taken.postReq q slot order d QS.descErr 0 0 0)
    else match s1.peerSlot (dDst d) with
      | none =>
        go ((taken.exception QX.refused QS.nopeer q (dDst d) 0 QS.nopeer slot).postReq q slot order d QS.nopeer 0 0 0)
      | some i =>
        if dOp d = QO.ackonly then
          (if s1.que.out.any fun m => m.q == q && !m.sent then s1
           else go ((taken.sendAckonly (s1.peer i) (s.qf q QC.cls) (some q)).postReq q slot order d QS.ok 0 0 0))
        else if (s1.peer i).outst ≥ (if s1.tandemImage then 1024 else 2048) then s1
        else go (taken.startTo q slot order i d)

/-! ## Responses (R268 to R271) -/

/-- The final response of `m` has been applied and its local writes have ended. -/
def State.endResponse (s : State) (m : OutMsg) : State :=
  if !(m.final && m.pendingWr == 0) then s else
  let st := if m.wrFail then QS.localHmperr else m.status
  let s1 := if m.status = QS.stale then s.exception QX.staleRx m.status m.q m.dst m.reqId 0 m.slot
    else if m.status = QS.nopeer ∨ m.status = QS.noroute then s.exception QX.refused m.status m.q m.dst m.reqId m.status m.slot
    else s
  s1.finishMsg m st m.got m.rspData true

/-- The message that a response segment answers (R268). A NOROUTE comes from the endpoint that found the miss (R259): it answers the
oldest message of its REQ_ID that has had no answer (log entry 105). -/
def State.answeredMsg (s : State) (pay : BitVec 1920) : Option OutMsg :=
  if segNo pay = 0 ∧ segLe pay 16 1 = QS.noroute then
    s.que.out.find? fun m => m.reqId == segReqId pay && m.dst != segSrc pay && !m.final && m.nextSeg == 0
  else s.findMsg (segSrc pay) (segReqId pay)

/-- A response segment of an outstanding message (R264, R268): BUSY and NOBUF restart the timer; the rest is applied in
order of SEG, the data of a READ written to its local buffer. -/
def State.takeResponse (s : State) (pay : BitVec 1920) : State :=
  match s.answeredMsg pay with
  | none => s
  | some m =>
    let i := segNo pay
    if m.final || i != m.nextSeg then s else
    let status := if i = 0 then segLe pay 16 1 else m.status
    let timer := m.timer.map fun _ => s.que.msgClock
    if i = 0 && (status == QS.busy || status == QS.nobuf) then s.setMsg { m with timer := timer } else
    let got := if i = 0 then segLe pay 20 4 else m.got
    let data := if i = 0 then segLe pay 24 8 else m.rspData
    let total := if dOp m.desc = QO.read then min got (dLength m.desc) else 0
    let off := if i = 0 then 0 else 192 + 208 * (i - 1)
    let n := min (total - off) (if i = 0 then 192 else 208)
    let js := writeJobs (.recvData m.dst m.reqId) (qport m.q) (!s.qflag m.q QC.ringSpace) (dLaddr m.desc + off) off
      (segBytes pay (if i = 0 then 32 else 16) n)
    let m1 := { m with nextSeg := i + 1, timer := timer, status := status, got := got, rspData := data,
                       pendingWr := m.pendingWr + js.length, final := segLast pay }
    let s1 := (s.setMsg m1).qeJobs js
    let s2 := if m1.final then s1.refreshAckLow m1.dst else s1
    s2.endResponse m1

/-- The requester's copies end (R256, R272). -/
def State.sendDataDone (s : State) (dst reqId : Nat) (j : QeJob) (fail : Option Nat) : State :=
  match s.findMsg dst reqId with
  | none => s
  | some m =>
    let m1 := { m with pendingRd := m.pendingRd - 1, rd := insPiece (j.off, j.bytes) m.rd, rdFail := if m.rdFail.isSome then m.rdFail else fail }
    if m1.pendingRd ≠ 0 then s.setMsg m1
    else match m1.rdFail with
      | some st => (s.finishMsg m1 st 0 0 false).injectQueue m.q
      | none => (s.setMsg m1).injectQueue m.q

def State.recvDataDone (s : State) (dst reqId : Nat) (ok : Bool) : State :=
  match s.findMsg dst reqId with
  | none => s
  | some m =>
    let m1 := { m with pendingWr := m.pendingWr - 1, wrFail := m.wrFail || !ok }
    (s.setMsg m1).endResponse m1

/-- RETX_TIMEOUT (R269): the request is sent again, or ends with TIMEOUT after RETRY_LIMIT resends. No timer runs before a sending's
first segment has gone. -/
def State.retxTimeout (s : State) (dst reqId : Nat) : State :=
  match s.findMsg dst reqId with
  | none => s
  | some m =>
    match (if m.sched || m.final || !s.msgTimersRun then none else m.timer) with
    | none => s
    | some t =>
      let s1 := s.pass (t + 2 ^ (s.qf m.q QC.retxTmo + 10) - s.que.msgClock)
      if m.resends < s1.qf m.q QC.retryLimit then s1.beginSend { m with resends := m.resends + 1, retx := true }
      else
        (s1.exception QX.timeout QS.timeout m.q m.dst m.reqId m.resends m.slot).finishMsg m QS.timeout 0 0 false

/-! ## Doorbells (R240 to R242) -/

/-- Whether a doorbell from `src` is accepted by the queue's owner (R234). -/
def State.doorbellOk (s : State) (src : RegSrc) (q : Nat) : Bool :=
  s.qflag q QC.en && (match src with
    | .csp => s.qf q QC.owner == 1
    | .thread _ => decide (s.qf q QC.owner ≥ 2)
    | .debug => false)

/-- The new value places more entries than the ring holds (R242): ERR, the queue's event, a QUEUE_ERR exception. -/
def State.doorbellOver (s : State) (q v prod cons : Nat) : State :=
  ((((s.hit F.QUE_STAT_DB_ERR).setQf q QC.err 1).raiseGeneral (s.qf q QC.ev)).exception QX.queueErr 0 q 0 0 v
    (prod + 2 ^ 32 * cons))

/-- A write of a new SQ_PROD. -/
def State.doorbellSq (s0 : State) (src : RegSrc) (q v : Nat) : State :=
  let s := (s0.ctxGate q).count (Cnt.que 0) 1
  if !s.doorbellOk src q then s.hit F.QUE_STAT_DB_ERR
  else if ringUsed v (s.qf q QC.sqCons) > 2 ^ s.qf q QC.sqLog2 then s.doorbellOver q v (s.qf q QC.sqProd) (s.qf q QC.sqCons)
  else State.fetchDescs 4 (s.setQf q QC.sqProd v) q

/-- A write of a new RQ_PROD. -/
def State.doorbellRq (s0 : State) (src : RegSrc) (q v : Nat) : State :=
  let s := (s0.ctxGate q).count (Cnt.que 0) 1
  if !s.doorbellOk src q then s.hit F.QUE_STAT_DB_ERR
  else if ringUsed v (s.qf q QC.rqCons) > 2 ^ s.qf q QC.rqLog2 then s.doorbellOver q v (s.qf q QC.rqProd) (s.qf q QC.rqCons)
  else State.fetchRecv 4 (s.setQf q QC.rqProd v) q

/-- A write of a new CQ_CONS: records that waited for room go on. -/
def State.doorbellCq (s0 : State) (src : RegSrc) (q v : Nat) : State :=
  let s := (s0.ctxGate q).count (Cnt.que 0) 1
  if !s.doorbellOk src q then s.hit F.QUE_STAT_DB_ERR
  else if ringUsed (s.qf q QC.cqProd) v > 2 ^ s.qf q QC.cqLog2 then s.doorbellOver q v (s.qf q QC.cqProd) (s.qf q QC.cqCons)
  else State.pumpCpl 64 (s.setQf q QC.cqCons v) q

/-- A read of the doorbell window of queue `q` at offset `o` (R240). -/
def State.doorbellRead (s : State) (q o : Nat) : Nat :=
  let two (a b : QFld) := s.qf q a + 2 ^ 16 * s.qf q b
  if o = 0 then two QC.sqProd QC.sqCons
  else if o = 4 then two QC.rqProd QC.rqCons
  else if o = 8 then two QC.cqProd QC.cqCons
  else if o = 0xC then s.qf q QC.en + 2 * s.qf q QC.err + 2 ^ 8 * s.qf q QC.lastErr + 2 ^ 16 * s.qf q QC.outst
  else 0

/-! ## Context commands (R236, R237) -/

/-- The context words as one context. -/
def State.ctxWords (s : State) : BitVec 512 :=
  BitVec.ofNat 512 (leNat (((List.range 16).map fun i => natLe 4 (s.reg (R.QUE_CTX_Wi i)).toNat).flatten))

/-- QUE_CTX_CMD.READ copies the context into the words. -/
def State.ctxRead (s0 : State) : State :=
  let q := s0.f F.QUE_CTX_SEL_Q
  let s := s0.ctxGate q
  (List.range 16).foldl (fun a i => a.setReg (R.QUE_CTX_Wi i) (BitVec.ofNat 32 ((s.qctx q).toNat >>> (32 * i)))) s

/-- QUE_CTX_CMD.WRITE (R236): refused on an enabled context, and where EN would be set on an unused queue. OWNER, CLASS,
OUTST and the zero bits keep their stored values; a full write ends a context's poison. -/
def State.ctxWrite (s : State) : State :=
  let q := s.f F.QUE_CTX_SEL_Q
  let w := s.ctxWords.toNat
  let en := Nat.testBit w 0
  if s.qflag q QC.en || (en && s.qf q QC.owner == 0) then s.hit F.QUE_CTX_CMD_ERR else
  let v1 := putBits (putBits w 2 2 (s.qf q QC.owner)) 4 3 (s.qf q QC.cls)
  let v2 := putBits (putBits (putBits (putBits v1 13 3 0) 28 4 0) 470 10 0) 480 16 (s.qf q QC.outst)
  let v3 := if en then putBits (putBits v2 1 1 0) 480 16 0 else v2
  let s1 := ((s.setQctx q (BitVec.ofNat 512 v3)).modQue fun x => { x with poisoned := x.poisoned.filter fun y => y != q }).dropFetches q
  if en then State.fetchRecv 4 (State.fetchDescs 4 s1 q) q else s1

/-- A flush of queue `q` (R237): fetches stop, started messages without a final response complete with FLUSHED, EN clears
once their records have been posted. -/
def State.flushQueue (s : State) (q : Nat) : State :=
  if !s.qflag q QC.en then s else
  let s1 := (s.modQue fun x => { x with flushing := insertNat q x.flushing }).dropFetches q
  let ms := s1.que.out.filter fun m => m.q == q && !m.final
  (ms.foldl (fun a m => a.finishMsg m QS.flushed 0 0 false) s1).endFlush q

/-! ## Peer commands (R261, R287) -/

/-- All bits of a map. -/
def allSeen : BitVec 4096 := BitVec.allOnes 4096

/-- QUE_PEER_CMD.READ. -/
def State.peerRead (s0 : State) : State :=
  let i := s0.f F.QUE_PEER_SEL_SLOT
  let s := s0.peerGate (s0.peer i).id
  let p := s.peer i
  (((s.setReg R.QUE_PEER_D0 (BitVec.ofNat 32 (p.id + 2 ^ 31 * b2n p.valid))).setReg R.QUE_PEER_D1 p.txNext).setReg R.QUE_PEER_D2
    p.rxH).setReg R.QUE_PEER_D3 (BitVec.ofNat 32 p.outst)

/-- QUE_PEER_CMD.ADD: refused where the slot is valid or lies beyond MAX, the ID is present, or in a tandem image the parity
of TX_NEXT is not the role's (R406). -/
def State.peerAdd (s : State) : State :=
  let i := s.f F.QUE_PEER_SEL_SLOT
  let id := s.f F.QUE_PEER_D0_ID
  let tx := s.reg R.QUE_PEER_D1
  if (s.peer i).valid || decide (i ≥ s.f F.QUE_PEER_CFG_MAX) || (s.peerSlot id).isSome ||
      (s.tandemImage && tx.toNat % 2 != b2n (s.flag F.GLB_TND_STAT_ROLE)) then s.hit F.QUE_PEER_CMD_ERR
  else s.setPeer i { Peer.init with
    valid := true, id := id, txNext := tx, ackLow := tx, ackSent := tx, rxH := s.reg R.QUE_PEER_D2, seen := allSeen }

/-- QUE_PEER_CMD.REMOVE: refused while messages to the peer are outstanding or a reassembly context of it is active. -/
def State.peerRemove (s : State) : State :=
  let i := s.f F.QUE_PEER_SEL_SLOT
  let p := s.peer i
  if !p.valid || decide (p.outst ≠ 0) || s.que.exec.any (fun e => e.src == p.id && e.rctx) then s.hit F.QUE_PEER_CMD_ERR
  else s.setPeer i { p with valid := false }

end Sys2Proof.Machine
end

