-- ==== Sys2Proof/Machine/QueueRsp.lean ====
section
/-! DEFINITION. The responder's side of the queue engine: the window of request IDs (R263), the completion cache (R265,
R266), execution of SEND, WRITE, READ and ATOMIC (R249 to R252), barriers (R254, R255), responses. -/

namespace Sys2Proof.Machine

/-! ## Executions -/

def State.findExec (s : State) (src reqId : Nat) : Option Exec := s.que.exec.find? fun e => e.src == src && e.reqId == reqId
def State.setExec (s : State) (e : Exec) : State :=
  s.modQue fun x => { x with exec := updFirst (fun y => y.src == e.src && y.reqId == e.reqId) (fun _ => e) x.exec }
def State.dropExec (s : State) (src reqId : Nat) : State :=
  s.modQue fun x => { x with exec := x.exec.filter fun e => !(e.src == src && e.reqId == reqId) }

/-- Reassembly contexts in use, and cache entries in use (R265). -/
def State.rctxUsed (s : State) : Nat := (s.que.exec.filter fun e => e.rctx).length

/-- A response leaves (R246): on its class, or on the scheduled queue's own slots (R281). -/
def State.sendResponse (s : State) (dst reqId vc : Nat) (sched : Option (Nat × Nat)) (status op bytes data : Nat) (bs : List Byte) :
    State :=
  let s1 := s.count (Cnt.que 7) 1
  s1.originate (responseInject vc sched (s1.responseSegs dst reqId status op bytes data bs))

def State.findCache (s : State) (src reqId : Nat) : Option CacheEntry := s.que.cache.find? fun c => c.src == src && c.reqId == reqId

/-- The staging address of cache entry `i` (R265). -/
def State.cacheAddr (s : State) (i : Nat) : Nat := (65536 * s.f F.QUE_CC_CFG_BASE + 32 * i) % 2 ^ 26

/-- The 32 bytes of a cache entry: SRC with DONE in bit 31, REQ_ID, STATUS, OP, BYTES and DATA (R265; DESIGN CHOICE, log entry 106). -/
def CacheEntry.raw (c : CacheEntry) : List Byte :=
  natLe 4 (c.src + 2 ^ 31 * b2n c.done) ++ natLe 4 c.reqId ++ natLe 4 (c.status + 2 ^ 8 * c.op) ++ natLe 4 c.bytes ++ natLe 8 c.data ++ natLe 8 0

/-- The entry's bytes are written to its place in staging memory. -/
def State.putCache (s : State) (c : CacheEntry) : State := s.smemPut (s.cacheAddr c.slot) c.raw false .queue

/-- The cache entry of a request becomes DONE (R265); a READ has its done bit set instead (R263). -/
def State.cacheDone (s : State) (src reqId op status bytes data : Nat) : State :=
  if op = QO.read then
    s.modPeer src fun p => { p with done := BitVec.ofNat 4096 (p.done.toNat ||| 2 ^ (reqId % 4096)) }
  else match s.findCache src reqId with
    | none => s
    | some c =>
      let c1 := { c with done := true, status := status, bytes := bytes, data := data }
      (s.modQue fun x => { x with cache := updFirst (fun y => decide (y.slot = c.slot)) (fun _ => c1) x.cache }).putCache c1

/-- An entry that cannot be read is treated as absent (R683). -/
def State.cacheGate (s : State) (src reqId : Nat) : State :=
  match s.findCache src reqId with
  | none => s
  | some c =>
    let (_, bad, s1) := s.smemGet (s.cacheAddr c.slot) 32 .queue
    if !(bad || s.storeFault 5 c.slot) then s1 else
    let s2 := (s1.logUe 5 c.slot).modQue fun x => { x with cache := x.cache.filter fun y => decide (y.slot ≠ c.slot) }
    { s2 with storeFaults := s2.storeFaults.filter fun f => f ≠ { unit := 5, index := c.slot } }

/-- Whether a request posts an RX record at DQ, which has to be enabled (R249, R274). -/
def State.postsRx (s : State) (e : Exec) : Bool :=
  s.qflag e.dq QC.en && s.qf e.dq QC.owner != 0 && (e.op == QO.send || (e.signal && (e.op == QO.write || e.op == QO.read || e.op == QO.atomic || e.op == QO.reduce)))

/-- Execution of `e` ends with a response (R271 to R274). -/
def State.respond (s : State) (e : Exec) (status bytes data : Nat) (bs : List Byte) : State :=
  let s1 := (s.dropExec e.src e.reqId).cacheDone e.src e.reqId e.op status bytes data
  let s2 := s1.sendResponse e.src e.reqId e.vc e.sched status e.op bytes data bs
  if s2.postsRx e then
    s2.postCpl e.dq (cplRecord status e.op true (if e.op = QO.send then e.slot else 0) e.reqId bytes e.src data e.tag) none
  else s2

/-- The bytes that took effect, where an access failed at offset `failAt`. -/
def tookEffect (e : Exec) : Nat := min (min e.applied e.room) (e.failAt.getD (2 ^ 31))

/-- A WRITE, SEND or READ whose segments have all been applied and whose accesses have ended answers (R256). -/
def State.execEnd (s : State) (e : Exec) : State :=
  if !e.whole || e.gated || decide (e.pendingWr ≠ 0) || !e.buf.isEmpty || e.op == QO.reduce || e.op == QO.atomic then s else
  let st := if e.failAt.isSome && (e.status == QS.ok || e.status == QS.bounds) then QS.hmperr else e.status
  if e.op = QO.read then
    let bs := (joinPieces e.rd).take (e.failAt.getD e.length)
    s.respond e st bs.length 0 bs
  else s.respond e st (if st = QS.ok then e.length else tookEffect e) 0 []

/-- Data that came and is not held back by ORD goes to copies; what lies beyond the room or behind a failure does not. -/
def State.execPump (s : State) (e : Exec) : State :=
  if e.gated || e.buf.isEmpty then s.execEnd e else
  let keep := if e.failAt.isSome then [] else e.buf.take (e.room - e.issued)
  let js := writeJobs (.execWrite e.src e.reqId) (qport e.dq) e.host (e.addr + e.issued) e.issued keep
  let e1 := { e with buf := [], issued := e.issued + e.buf.length, pendingWr := e.pendingWr + js.length }
  ((s.setExec e1).qeJobs js).execEnd e1

/-! ## Atomics (R251, R252) -/

/-- The new value of an atomic operation on `w` bits; `none` for a reserved code. -/
def atomicOp (code w old a b : Nat) : Option Nat :=
  let m := 2 ^ w
  let lt := decide (sext a w < sext old w)
  match code with
  | 1 => some ((old + a) % m)
  | 2 => some (a % m)
  | 3 => some (if old = a % m then b % m else old)
  | 4 => some (old &&& (a % m))
  | 5 => some (old ||| (a % m))
  | 6 => some (old ^^^ (a % m))
  | 7 => some (if lt then a % m else old)
  | 8 => some (if lt then old else a % m)
  | 9 => some (min old (a % m))
  | 10 => some (max old (a % m))
  | _ => none

/-- An ATOMIC executes: one HMP atomic, or one indivisible access to staging memory. -/
def State.execAtomic (s : State) (e : Exec) : State :=
  let w := 8 * e.length
  if e.host then
    let m := 2 ^ w
    let ops := natLe 8 (e.opnd0 % m) ++ natLe 8 (e.opnd1 % m)
    (s.setExec { e with pendingWr := 1 }).hmpPush (qport e.dq)
      { opc := 2, arg := BitVec.ofNat 8 e.arg, addr := BitVec.ofNat 64 e.addr, len := e.length, data := ops, poison := false, src := 0x10,
        intr := false, who := .execAtomic e.src e.reqId }
  else
    let (bs, p, s1) := s.smemGet e.addr e.length .queue
    if p then s1.respond e QS.poison 0 0 [] else
    let old := leNat bs
    match atomicOp e.arg w old e.opnd0 e.opnd1 with
    | some v => ((s1.smemPut e.addr (natLe e.length v) false .queue).count (Cnt.que 12) 1).respond e QS.ok e.length old []
    | none => s1.respond e QS.badop 0 0 []

/-! ## Order (R256) -/

/-- Host writes of `x` that the responder has started have not returned. -/
def State.writesOut (s : State) (x : Exec) : Bool :=
  if x.op = QO.reduce then s.str.red.any fun r => decide (r.2.cur = some (x.src, x.reqId)) && r.2.writing
  else x.op != QO.read && decide (x.pendingWr ≠ 0)

/-- An earlier request from the same source on the same class has writes in flight. -/
def State.ordBlocked (s : State) (e : Exec) : Bool :=
  (s.que.exec.takeWhile fun x => !(x.src == e.src && x.reqId == e.reqId)).any fun x => x.src == e.src && x.vc == e.vc && s.writesOut x

/-- The accesses of `e` begin. -/
def State.execGo (s : State) (e : Exec) : State :=
  if e.op = QO.atomic then s.execAtomic e
  else if e.op = QO.read then
    let js := readJobs (.execRead e.src e.reqId) (qport e.dq) e.host e.addr e.length
    let e1 := { e with pendingWr := js.length }
    ((s.setExec e1).qeJobs js).execEnd e1
  else s.execPump e

/-- A copy of the responder for a READ ends (R256, R272). -/
def State.execReadDone (s : State) (src reqId : Nat) (j : QeJob) (fail : Option Nat) : State :=
  match s.findExec src reqId with
  | none => s
  | some e =>
    let first := decide (j.off ≤ e.failAt.getD j.off)
    let e1 := { e with
      pendingWr := e.pendingWr - 1
      rd := insPiece (j.off, j.bytes) e.rd
      failAt := if fail.isSome then some (min j.off (e.failAt.getD j.off)) else e.failAt
      status := match fail with
        | some st => if first then st else e.status
        | none => e.status }
    let s1 := if fail = some QS.hmperr then s.count (Cnt.que 11) 1 else s
    (s1.setExec e1).execEnd e1

/-! ## The window of request IDs (R263) -/

/-- What R263 makes of segment 0 of a request. -/
inductive ReqClass where
  | noPeer
  | stale
  | busy
  | fresh
  | ignore
  | cached (c : CacheEntry)
  | reread
  | discard
  deriving DecidableEq, Repr

/-- The row of R263 that applies to segment 0 of a request other than ACKONLY; `short` says that R265 or R383 lacks
resources for it, `closed` that new requests are refused (R647). -/
def State.classify (s : State) (src reqId op : Nat) (multi short closed : Bool) : ReqClass :=
  match s.peerSlot src with
  | none => .noPeer
  | some i =>
    let p := s.peer i
    let d := idDiff reqId p.rxH.toNat
    let seen := Nat.testBit p.seen.toNat (reqId % 4096)
    let lacks := short || closed || (multi && decide (s.rctxUsed ≥ 4096)) || (op != QO.read && decide (s.que.cache.length ≥ 16384))
    if d ≤ -4096 then .stale
    else if d > 0 ∨ !seen then (if lacks then .busy else .fresh)
    else match s.findExec src reqId, s.findCache src reqId with
      | some _, _ => .ignore
      | none, some c => if c.done then .cached c else .ignore
      | none, none =>
        if op = QO.read then (if Nat.testBit p.done.toNat (reqId % 4096) then .reread else .ignore) else .discard

/-- Bits of a map cleared for the `n` IDs above `h`. -/
def clearAbove (m h n : Nat) : Nat :=
  if n ≥ 4096 then 0 else (List.range n).foldl (fun a i => putBits a ((h + 1 + i) % 4096) 1 0) m

/-- A new request is recorded (R263): the window slides, its seen bit is set, a cache entry is taken. -/
def State.recordNew (s : State) (src reqId op : Nat) : State :=
  let s1 := s.modPeer src fun p =>
    let d := idDiff reqId p.rxH.toNat
    let n := if d > 0 then d.toNat else 0
    let seen := clearAbove p.seen.toNat p.rxH.toNat n ||| 2 ^ (reqId % 4096)
    let done := putBits (clearAbove p.done.toNat p.rxH.toNat n) (reqId % 4096) 1 0
    { p with rxH := if d > 0 then BitVec.ofNat 32 reqId else p.rxH, seen := BitVec.ofNat 4096 seen, done := BitVec.ofNat 4096 done }
  let s2 := ((s1.count (Cnt.que 4) 1).count (Cnt.que 3) 1)
  if op = QO.read then s2 else
  let slot := ((List.range 16384).find? fun i => s2.que.cache.all fun c => decide (c.slot ≠ i)).getD 0
  let c : CacheEntry := { slot := slot, src := src, reqId := reqId, done := false, status := 0, op := op, bytes := 0, data := 0 }
  (s2.modQue fun x => { x with cache := x.cache ++ [c] }).putCache c

/-- DONE entries of `src` below ACK_LOW are freed (R266). -/
def State.freeCache (s : State) (src ackLow : Nat) : State :=
  s.modQue fun x => { x with cache := x.cache.filter fun c => !(c.src == src && c.done && decide (idDiff c.reqId ackLow < 0)) }

/-! ## Requests -/

/-- DQ cannot receive (R249): disabled, unused or without RECV; in SOLO, the partner's (R413). -/
def State.partnerDq (s : State) (dq : Nat) : Bool :=
  s.tandemImage && (decide (dq < s.cfg.active.rd ST.tandem 0 4 2) == s.flag F.GLB_TND_STAT_ROLE)
def State.dqBad (s : State) (dq : Nat) : Bool :=
  !s.qflag dq QC.en || s.qf dq QC.owner == 0 || !s.qflag dq QC.recv || (s.tnd? == TND.solo && s.partnerDq dq)

/-- The execution that segment 0 describes. -/
def mkExec (g : Seg) (op now : Nat) : Exec :=
  let p := g.bytes
  let n := segLe p 20 4
  let data := if opHasData op then segBytes p 64 (min 160 n) else []
  { src := segSrc p, reqId := segReqId p, op := op, signal := Nat.testBit (segLe p 16 1) 6, arg := segLe p 17 1, dq := segLe p 18 2,
    length := n, raddr := segLe p 24 8, opnd0 := segLe p 32 8, opnd1 := segLe p 40 8, red := segLe p 48 4, vc := g.vc,
    sched := g.tag.map fun q => (g.g, q), nextSeg := 1, rctx := !segLast p, lastAt := now, addr := 0, host := false, room := n, slot := 0,
    tag := 0, buf := data, issued := 0, applied := data.length, pendingWr := 0, failAt := none, status := 0, whole := segLast p, rd := [],
    data := 0, gated := false }

/-- The front segment is segment 0 of a request with operation `op`. -/
def isRequest (g : Seg) (op : Nat) : Bool := !segRsp g.bytes && segNo g.bytes == 0 && bits g.bytes.toNat 128 4 == op

/-- The modes in which the engine takes what has landed: not HALT, not while stopped (R647). -/
def State.queTakes (s : State) : Bool := decide (s.mode ≥ Mode.standby) && s.mode != Mode.halt && s.mode != Mode.retain

/-- The front segment leaves the engine's input, read from its landing slot, which is freed (R195): whether it can be applied (R683). -/
def State.takeFront (s : State) (g : Seg) : Bool × State :=
  let s1 := s.modQue fun x => { x with rxq := x.rxq.tail }
  if g.g < 8 ∧ g.pool < 8 then
    let (ok, s2) := s1.readLanding g.g g.pool g.slot
    (ok, s2.freeSlot g.g g.pool g.slot)
  else (true, s1)

/-- A segment is handed to the partner of a pair (R404): its payload in bytes 0 to 239, its class in byte 240 (log entry
14). -/
def State.toPartner (s : State) (g : Seg) : State := s.sendTandem TK.segment (g.bytes.toNat + 2 ^ 1920 * g.vc)

/-- A refusal of segment 0 that leaves no record (R263). -/
def State.refuseRequest (s : State) (g : Seg) (op status : Nat) : State :=
  s.sendResponse (segSrc g.bytes) (segReqId g.bytes) g.vc (g.tag.map fun q => (g.g, q)) status op 0 0 []

/-- Execution begins with its first accesses, unless ORD holds them (R256). -/
def State.execBegin (s : State) (e : Exec) (ord : Bool) : State :=
  let e1 := { e with gated := ord && s.ordBlocked e }
  let s1 := s.modQue fun x => { x with exec := x.exec ++ [e1] }
  if e1.gated then s1 else s1.execGo e1

/-- A window check that fails ends a request at once (R249, R251). -/
def State.windowFault (s : State) (e : Exec) : Option Nat :=
  if s.dqBad e.dq then some QS.dqInvalid
  else if decide (e.length > 0) && decide (e.raddr + e.length > s.qf e.dq QC.winLen) then some QS.bounds
  else if e.op = QO.atomic ∧ (!(e.length == 4 || e.length == 8) ∨ e.raddr % e.length ≠ 0 ∨ (atomicOp e.arg 64 0 0 0).isNone) then some QS.badop
  else none

/-- A new WRITE, READ or ATOMIC. -/
def State.startWindow (s : State) (e : Exec) (ord : Bool) : State :=
  match s.windowFault e with
  | some st => (s.modQue fun x => { x with exec := x.exec ++ [e] }).respond e st 0 0 []
  | none =>
    s.execBegin { e with addr := s.qf e.dq QC.winBase + e.raddr, host := !s.qflag e.dq QC.winSpace } ord

/-- The receive descriptor that a SEND to `dq` would consume: `none` where there is none or it is fetched no more, `some none` where it has
not been fetched yet. -/
def State.recvDesc (s : State) (dq : Nat) : Option (Option (Nat × Nat × BitVec 128)) :=
  if s.qf dq QC.rqProd = s.qf dq QC.rqCons then none else
  let slot := s.qf dq QC.rqCons % 2 ^ s.qf dq QC.rqLog2
  match s.que.rfetched.find? fun e => e.1 == dq && e.2.1 == slot with
  | some e => some (some (slot, e.2.2.1, e.2.2.2))
  | none => if s.mayFetchRecv dq || decide (0 < kget 0 s.que.rfetching dq) then some none else none

/-- A new SEND with its receive descriptor (R250): LEN bytes at most are written. -/
def State.startSend (s : State) (e : Exec) (ord : Bool) (desc : Nat × Nat × BitVec 128) : State :=
  let (slot, st, d) := desc
  let s1 := ((s.setQf e.dq QC.rqCons (s.qf e.dq QC.rqCons + 1)).modQue fun x => { x with
    rfetched := x.rfetched.filter fun y => !(y.1 == e.dq && y.2.1 == slot) })
  let s2 := State.fetchRecv 4 s1 e.dq
  let len := bits d.toNat 64 32
  let e1 := { e with slot := slot, tag := bits d.toNat 96 32, addr := bits d.toNat 0 64, host := !s.qflag e.dq QC.ringSpace,
                     room := min e.length len, status := if e.length > len then QS.bounds else QS.ok }
  if st ≠ QS.ok then (s2.modQue fun x => { x with exec := x.exec ++ [e1] }).respond { e1 with room := 0 } st 0 0 []
  else s2.execBegin e1 ord

/-! ## Barriers (R254, R255) -/

def State.bar (s : State) (b : Nat) : Barrier := kget Barrier.init s.que.bars b
def State.setBar (s : State) (b : Nat) (x : Barrier) : State := s.modQue fun y => { y with bars := kset Barrier.init y.bars b x }

/-- Every held response of barrier `b` is sent. -/
def State.answerBar (s : State) (b status data : Nat) : State :=
  (s.bar b).held.foldl (fun a (src, reqId, vc) =>
    (a.cacheDone src reqId QO.barrier status 0 data).sendResponse src reqId vc none status QO.barrier 0 data []) s

/-- An arrival (R254). -/
def State.arriveBar (s : State) (e : Exec) : State :=
  let b := bits e.opnd0 0 12
  let gen := bits e.opnd0 16 16
  let count := bits e.opnd0 32 20
  let x := s.bar b
  if gen ≠ x.g.toNat ∨ (x.arrived ≠ 0 ∧ count ≠ x.count.toNat) then
    ((s.exception QX.barMismatch QS.barMismatch e.dq e.src e.reqId b (gen + 2 ^ 32 * x.g.toNat)).cacheDone e.src e.reqId e.op QS.barMismatch 0 0).sendResponse
      e.src e.reqId e.vc e.sched QS.barMismatch e.op 0 0 []
  else
    let x1 := { x with
      count := BitVec.ofNat 20 count, arrived := x.arrived + 1, first := if x.arrived = 0 then s.que.clock else x.first
      timedOut := x.arrived != 0 && x.timedOut, held := x.held ++ [(e.src, e.reqId, e.vc)] }
    let s1 := s.setBar b x1
    if x1.arrived = count then
      ((s1.answerBar b QS.ok x.g.toNat).setBar b { x1 with g := x.g + 1, arrived := 0, held := [], timedOut := false }).count (Cnt.que 14) 1
    else s1

/-- BARRIER_TIMEOUT (R254). -/
def State.barTimeout (s : State) (b : Nat) : State :=
  let x := s.bar b
  if x.arrived = 0 || x.timedOut || !s.queTimersRun then s else
  let due := x.first + s.f F.QUE_BAR_TMO_TMO * usCycles
  ((s.pass (due - s.que.clock)).setBar b { x with timedOut := true }).exception QX.barTmo 0 0 0 0 b (x.arrived + 2 ^ 32 * x.count.toNat)

/-- QUE_BAR_CMD (R255). -/
def State.barRelease (s : State) (b status : Nat) : State :=
  let x := s.bar b
  (s.answerBar b status x.g.toNat).setBar b { x with g := x.g + 1, arrived := 0, held := [], timedOut := false }
def State.barReset (s : State) (b : Nat) : State :=
  let x := s.bar b
  (s.answerBar b QS.flushed x.g.toNat).setBar b { x with g := 0, arrived := 0, held := [], timedOut := false }

end Sys2Proof.Machine
end

