-- ==== Sys2Proof/Machine/Reduce.lean ====
section
/-! DEFINITION. REDUCE entries (R379 to R387): the fixed order of contributions, holding, rounds, breaks and resets. -/

namespace Sys2Proof.Machine

/-! ## The section's entries -/

/-- The entry with RED_ID `id` of a half, as a number of 32 bytes. -/
def Half.redEnt (h : Half) (id : Nat) : Option Nat :=
  ((List.range (h.rd ST.reduce 0 0 4)).find? fun i => h.rd ST.reduce 0 (64 + 32 * i) 2 == id).map fun i =>
    h.rd ST.reduce 0 (64 + 32 * i) 32

def reArg (e : Nat) : Nat := bits e 16 8
def reRound (e : Nat) : Nat := bits e 24 8
def reContribs (e : Nat) : Nat := bits e 32 16
def reDq (e : Nat) : Nat := bits e 48 16
def reRaddr (e : Nat) : Nat := bits e 64 64
def reLength (e : Nat) : Nat := bits e 128 32
def reClist (e : Nat) : Nat := bits e 160 32
def reEv (e : Nat) : Nat := bits e 192 12
def reCh (e : Nat) : Nat := bits e 204 10
def reChEn (e : Nat) : Bool := Nat.testBit e 214

def State.red (s : State) (id : Nat) : RedEntry := kget RedEntry.init s.str.red id
def State.setRed (s : State) (id : Nat) (x : RedEntry) : State := { s with str := { s.str with red := kset RedEntry.init s.str.red id x } }

/-- RED_ID and CONTRIB of a request (R238). -/
def redId (e : Exec) : Nat := e.red % 65536
def redPos (e : Exec) : Nat := e.red / 65536

/-- Words of hold space of a held contribution; those in use, which a contribution keeps until it has been combined, and those free
(R383). -/
def State.holdNeed (s : State) (src reqId : Nat) : Nat :=
  match s.findExec src reqId with
  | some e => (e.length + 63) / 64
  | none => 0
def State.holdUsed (s : State) : Nat :=
  s.str.red.foldl (fun a r => r.2.held.foldl (fun b h => b + s.holdNeed h.2.1 h.2.2) (a + r.2.kept)) 0
def State.holdFree (s : State) : Nat := 1024 * s.f F.STR_RED_CFG_HOLD_SIZE - s.holdUsed

/-- A REDUCE request is refused with RED_ERR (R253, R381). -/
def State.redRefused (s : State) (e : Exec) : Bool :=
  match s.cfg.active.redEnt (redId e) with
  | none => true
  | some r =>
    let x := s.red (redId e)
    let pos := redPos e
    reArg r != e.arg || reDq r != e.dq || reRaddr r != e.raddr || reLength r != e.length || decide (pos ≥ reContribs r) ||
      s.cfg.active.rd ST.reduce 0 (reClist r + 4 * pos) 4 != e.src || x.broken || decide (pos < x.next) ||
      (pos == x.next && x.cur.isSome) || x.held.any fun h => h.1 == pos

/-- A new REDUCE needs hold space that is not there (R383). -/
def State.redShort (s : State) (e : Exec) : Bool :=
  (s.windowFault e).isNone && !s.redRefused e && decide (redPos e ≠ (s.red (redId e)).next) && decide (s.holdFree < (e.length + 63) / 64)

/-! ## Combining -/

/-- The seed of stochastic rounding (R360). -/
def State.srSeed (s : State) : Nat := s.planId ^^^ s.reg64 R.STR_SEED_LO R.STR_SEED_HI

/-- The destination bytes `old` with contribution bytes `bs` combined into them, at byte offset `off` of the vector, for
position `k`; position 0 writes its own (R382). The flags raised come second. -/
def combineBytes (seed ent k off : Nat) (old bs : List Byte) : List Byte × Nat :=
  if k = 0 then (bs, 0) else
  let typ := reArg ent % 16
  let n := typeSize typ
  let xs := chunks n old
  let cs := chunks n bs
  let res := ((List.range cs.length).zip (xs.zip cs)).map fun (i, x, c) =>
    arithElem typ (foldOp (reArg ent / 16 % 8)) (reRound ent) (srBits seed (srCtr 5 (bits ent 0 16) (off / n + i) k)) x c 0
  ((res.map fun p => natLe n p.1).flatten, res.foldl (fun a p => a ||| p.2) 0)

/-- The record of a round (R384, R385): to the entry's channel where CH_EN is set. -/
def State.redRecord (s : State) (id ent : Nat) (x : RedEntry) (broken : Bool) : State :=
  if !reChEn ent then s else
  let w0 := id % 65536 + 2 ^ 16 * b2n broken + 2 ^ 24 * x.flags.toNat + 2 ^ 32 * (if broken then x.next else 0)
  s.hwSend (reCh ent) .queueEngine [BitVec.ofNat 64 w0, BitVec.ofNat 64 x.round, s.sch.ft, 0]

/-- Held contributions are answered with RED_ERR (R385 to R387). -/
def State.answerHeld (s : State) (x : RedEntry) : State :=
  x.held.foldl (fun a h => match a.findExec h.2.1 h.2.2 with
    | some e => a.respond e QS.redErr 0 0 []
    | none => a) s

/-- The round breaks (R385). -/
def State.redBreak (s : State) (id : Nat) : State :=
  let x := s.red id
  let s1 := s.setRed id { x with broken := true, held := [], cur := none, kept := 0, work := [], need := 0, writing := false, got := [], bad := 0 }
  (s1.redRecord id x.ent x true).answerHeld x

/-- An entry that a swap drops ends (R387). -/
def State.redDrop (s : State) (id : Nat) : State :=
  let x := s.red id
  let s1 := { s with str := { s.str with red := kdel s.str.red id } }
  let s2 := s1.answerHeld x
  if x.next ≠ 0 ∨ x.held ≠ [] then s2.redRecord id x.ent x true else s2

/-- Host accesses of the first piece of work (R382): the element's read, or for position 0 its write at once. -/
def State.redAccess (s : State) (id : Nat) : State :=
  let x := s.red id
  match x.work with
  | [] => s
  | p :: _ =>
    if x.need ≠ 0 then s else
    let base := s.qf (reDq x.ent) QC.winBase + reRaddr x.ent + p.off
    let parts := hostChunks base p.bytes.length
    let s1 := s.setRed id { x with need := parts.length, writing := decide (x.next = 0), got := [], bad := 0 }
    if x.next = 0 then
      parts.foldl (fun a q => a.hostWrite (qport (reDq x.ent)) q.1 ((p.bytes.drop (q.1 - base)).take q.2) false 0x10 (.redWrite id)) s1
    else parts.foldl (fun a q => a.hostRead (qport (reDq x.ent)) q.1 q.2 0x10 (.redRead id (q.1 - base))) s1

/-- The key of the entry that combines the contribution of `e`. -/
def State.redKey (s : State) (e : Exec) : Nat :=
  match s.str.red.find? fun r => decide (r.2.cur = some (e.src, e.reqId)) with
  | some r => r.1
  | none => redId e

/-- A contribution that ends early with `status` (R385): at NEXT the round breaks; while held it is discarded whole. -/
def State.redAbort (s : State) (e : Exec) (status bytes : Nat) : State :=
  let id := s.redKey e
  let x := s.red id
  if x.cur = some (e.src, e.reqId) then
    let s1 := (s.redBreak id).respond e status bytes 0 []
    if id ≥ 65536 then { s1 with str := { s1.str with red := kdel s1.str.red id } } else s1
  else (s.setRed id { x with held := x.held.filter fun h => !(h.2.1 == e.src && h.2.2 == e.reqId) }).respond e status 0 0 []

/-- The bytes of `n` at staging address `a` that stand before the first poisoned word, and whether there is one (R288). The first
argument bounds the words. -/
def State.smemSound : Nat → State → Nat → Nat → List Byte × Bool × State
  | 0, s, _, _ => ([], false, s)
  | fuel + 1, s, a, n =>
    if n = 0 then ([], false, s) else
    let m := min n (64 - a % 64)
    let (bs, p, s1) := s.smemWord (a / 64 % 2 ^ 20) .queue
    if p then ([], true, s1) else
    let (rest, q, s2) := State.smemSound fuel s1 (a + m) (n - m)
    (((bs.drop (a % 64)).take m) ++ rest, q, s2)

/-- Data of the contribution at NEXT is combined as it comes (R382), unless ORD holds it back (R256): at once in staging memory, piece by
piece in host memory. Before a poisoned element the contribution ends with POISON (R272, R334; log entry 73). -/
def State.redFeed (s : State) (id : Nat) (e : Exec) : State :=
  if e.buf.isEmpty || e.gated then s else
  let x := s.red id
  let s1 := s.setExec { e with buf := [], issued := e.issued + e.buf.length }
  if s.qflag (reDq x.ent) QC.winSpace then
    let a := s.qf (reDq x.ent) QC.winBase + reRaddr x.ent + e.issued
    let (old, p, s2) := if x.next = 0 then ([], false, s1) else State.smemSound (e.buf.length / 64 + 2) s1 a e.buf.length
    let n := if p then old.length / typeSize (reArg x.ent % 16) * typeSize (reArg x.ent % 16) else e.buf.length
    let (bs, fl) := combineBytes s.srSeed x.ent x.next e.issued old (e.buf.take n)
    let s3 := (s2.smemPut a bs false .queue).setRed id { x with flags := x.flags ||| BitVec.ofNat 5 fl }
    if p then s3.redAbort e QS.poison (e.issued + n) else s3
  else
    let w := x.work ++ [{ src := e.src, reqId := e.reqId, off := e.issued, bytes := e.buf }]
    (s1.setRed id { x with work := w }).redAccess id

/-- The contribution at NEXT has been fully combined: NEXT advances, its response is sent, a completed round is recorded,
and a held contribution whose turn it is follows (R382, R384). The first argument bounds the contributions. -/
def State.redAdvance : Nat → State → Nat → State
  | 0, s, _ => s
  | fuel + 1, s, id =>
    let x := s.red id
    match x.cur with
    | none => s
    | some (src, reqId) =>
      match s.findExec src reqId with
      | none => s
      | some e =>
        if !(e.whole && e.buf.isEmpty && x.work.isEmpty) then s else
        let last := decide (x.next + 1 ≥ reContribs x.ent)
        let x1 := { x with cur := none, kept := 0, next := if last then 0 else x.next + 1 }
        let s1 := ((s.setRed id x1).count (Cnt.que 13) 1).respond e QS.ok e.length 0 []
        let s2 := if last then
            ((s1.setRed id { x1 with flags := 0, round := x.round + 1 }).raiseGeneral (reEv x.ent)).redRecord id x.ent x false
          else s1
        if id ≥ 65536 then s2.redDrop id else
        match (s2.red id).held.find? fun h => h.1 == (s2.red id).next with
        | none => s2
        | some h =>
          let y := s2.red id
          let s3 := s2.setRed id { y with held := y.held.filter fun k => k.1 != h.1, cur := some (h.2.1, h.2.2), kept := s2.holdNeed h.2.1 h.2.2 }
          match s3.findExec h.2.1 h.2.2 with
          | none => s3.setRed id { y with held := y.held.filter fun k => k.1 != h.1 }
          | some e2 =>
            if s3.storeFault 8 id then
              ((s3.logUe 8 id).setRed id { y with held := y.held.filter fun k => k.1 != h.1 }).respond e2 QS.abandoned 0 0 []
            else State.redAdvance fuel (s3.redFeed id e2) id

/-- Data of a contribution came: it is combined if its turn has come, and held otherwise. -/
def State.redData (s : State) (src reqId : Nat) : State :=
  match s.findExec src reqId with
  | none => s
  | some e =>
    let id := s.redKey e
    if (s.red id).cur = some (src, reqId) then State.redAdvance 4097 (s.redFeed id e) id else s

/-- Requests that ORD held back go on once the writes before them have returned. -/
def State.ungate (s : State) : State :=
  (s.que.exec.filter fun e => e.gated).foldl (fun a e0 =>
    match a.findExec e0.src e0.reqId with
    | some e => if e.gated && !a.ordBlocked e then
        let e1 := { e with gated := false }
        if e.op = QO.reduce then (a.setExec e1).redData e.src e.reqId else (a.setExec e1).execGo e1
      else a
    | none => a) s

/-- A copy of the responder ends (R256, R272). -/
def State.execWriteDone (s : State) (src reqId : Nat) (j : QeJob) (ok : Bool) : State :=
  match s.findExec src reqId with
  | none => s
  | some e =>
    let e1 := { e with pendingWr := e.pendingWr - 1, failAt := if ok then e.failAt else some (min j.off (e.failAt.getD j.off)) }
    let s1 := if ok then s else s.count (Cnt.que 11) 1
    ((s1.setExec e1).execEnd e1).ungate

/-- The host's answer to an ATOMIC (R614), with the status that it gives (R272). -/
def State.atomicResponse (s : State) (src reqId st data : Nat) : State :=
  match s.findExec src reqId with
  | none => s
  | some e =>
    (if st = QS.ok then (s.count (Cnt.que 12) 1).respond e QS.ok e.length (data % 2 ^ (8 * e.length)) []
     else (if st = QS.hmperr then s.count (Cnt.que 11) 1 else s).respond e st 0 0 []).ungate

/-- A new REDUCE (R253, R381 to R383), whose accesses ORD may hold back (R256). -/
def State.startReduce (s : State) (e0 : Exec) (ord : Bool) : State :=
  let e := { e0 with gated := ord && s.ordBlocked e0 }
  let st := match s.windowFault e with
    | some st => some st
    | none => if s.redRefused e then some QS.redErr else none
  let s1 := s.modQue fun x => { x with exec := x.exec ++ [e] }
  match st with
  | some st => s1.respond e st 0 0 []
  | none =>
    let id := redId e
    let x := { s1.red id with ent := (s1.cfg.active.redEnt id).getD 0 }
    if redPos e = x.next then (s1.setRed id { x with cur := some (e.src, e.reqId) }).redData e.src e.reqId
    else s1.setRed id { x with held := x.held ++ [(redPos e, e.src, e.reqId)] }

/-- A host access of the first piece ended (R382), with the status `st` of its response (R272). An error response or
poisoned data ends the contribution with that status and breaks the round (log entries 18 and 73). -/
def State.redHost (s : State) (id off : Nat) (write : Bool) (st : Nat) (bs : List Byte) : State :=
  let x := s.red id
  match x.work with
  | [] => s
  | p :: rest =>
    let y := { x with need := x.need - 1, got := insPiece (off, bs) x.got, bad := if x.bad = 0 then st else x.bad }
    if y.need ≠ 0 then s.setRed id y else
    if y.bad ≠ 0 then
      let s1 := (if y.bad = QS.hmperr then s.count (Cnt.que 11) 1 else s).setRed id y
      (match s1.findExec p.src p.reqId with
      | some e => s1.redAbort e y.bad p.off
      | none => s1.redBreak id).ungate
    else if write then
      (State.redAdvance 4097 ((s.setRed id { y with work := rest, writing := false, got := [] }).redAccess id) id).ungate
    else
      let (new, fl) := combineBytes s.srSeed x.ent x.next p.off (joinPieces y.got) p.bytes
      let base := s.qf (reDq x.ent) QC.winBase + reRaddr x.ent + p.off
      let parts := hostChunks base new.length
      let s1 := s.setRed id { y with need := parts.length, writing := true, got := [], flags := y.flags ||| BitVec.ofNat 5 fl }
      parts.foldl (fun a q => a.hostWrite (qport (reDq x.ent)) q.1 ((new.drop (q.1 - base)).take q.2) false 0x10 (.redWrite id)) s1

/-- STR_RED_CMD.RESET (R386). -/
def State.redReset (s : State) : State :=
  let id := s.f F.STR_RED_SEL_RED_ID
  let x := s.red id
  if x.cur.isSome || (s.cfg.active.redEnt id).isNone then s.hit F.STR_RED_CMD_ERR
  else (s.setRed id { x with next := 0, flags := 0, broken := false, held := [] }).answerHeld x

/-- At a swap (R387): entries that are the same in the new image keep their state, others end. `old` and `new` are the
images' halves. -/
def State.redSwap (s : State) (old new : Half) : State :=
  s.str.red.foldl (fun a r =>
    let id := r.1
    let list (h : Half) (e : Nat) := (List.range (reContribs e)).map fun i => h.rd ST.reduce 0 (reClist e + 4 * i) 4
    if id ≥ 65536 then a else
    match old.redEnt id, new.redEnt id with
    | some x, some y => if x = y ∧ list old x = list new y then a
      else if r.2.cur.isSome then
        let b := { a with str := { a.str with red := kdel a.str.red id } }
        b.setRed (65536 + id) r.2
      else a.redDrop id
    | _, _ => if r.2.cur.isSome then
        let b := { a with str := { a.str with red := kdel a.str.red id } }
        b.setRed (65536 + id) r.2
      else a.redDrop id) s

end Sys2Proof.Machine
end

