-- ==== Sys2Proof/Machine/QueueRows.lean ====
section
/-! DEFINITION. The commands of the queue engine that no register write names: messages that start, segments that land and
are taken, timeouts. -/

namespace Sys2Proof.Machine

/-- MESSAGE_START (R262). -/
def execMessageStart (q : BitVec 16) (s : State) : Host.Outcome State Fault Refusal := done (s.startMessage q.toNat)

/-- B_FLIT_LANDING (R193, R197, R257): the first flit of the group's landing queue is written to its landing slot, and routed; none is
consumed in HALT (R647). -/
def execBFlitLanding (g : Fin 8) (s : State) : Host.Outcome State Fault Refusal :=
  match (s.lg g).landQ with
  | [] => done s
  | f :: rest =>
    if !s.queTakes then done s else
    let pool := if f.sh then 0 else f.vc
    let slot := s.openSlot g pool
    let s1 := (s.modLg g fun x => { x with landQ := rest }).landIn g pool slot f
    done ((s1.count (Cnt.smem 6) 4).routeLanded g f.vc pool slot f.pay)

/-! ## Requests (R248 to R256, R263) -/

/-- Segment 0 of a request that is new, whose DQ can take it: its own start. -/
def State.startByOp (s : State) (e : Exec) (ord : Bool) (desc : Option (Nat × Nat × BitVec 128)) : State :=
  if e.op = QO.send then
    match desc with
    | some d => if s.dqBad e.dq then (s.modQue fun x => { x with exec := x.exec ++ [e] }).respond e QS.dqInvalid 0 0 [] else s.startSend e ord d
    | none => (s.modQue fun x => { x with exec := x.exec ++ [e] }).respond e QS.dqInvalid 0 0 []
  else if e.op = QO.reduce then s.startReduce e ord
  else if e.op = QO.barrier then s.arriveBar e
  else s.startWindow e ord

/-- A new request: NOBUF where the queue is being flushed, or a SEND finds no receive descriptor or no room in the
completion ring (R237, R250); else it is recorded and executed. -/
def State.takeNew (s : State) (g : Seg) (e : Exec) (record : Bool) : State :=
  let ord := Nat.testBit (segLe g.bytes 16 1) 4
  let bad := s.dqBad e.dq
  let desc := s.recvDesc e.dq
  let nobuf := !bad && (s.que.flushing.contains e.dq ||
    (e.op == QO.send && (desc.isNone || (s.qflag e.dq QC.cplHost && s.cqFull e.dq))))
  if nobuf && e.op ≠ QO.barrier then s.refuseRequest g e.op QS.nobuf
  else
    let s1 := if record then s.recordNew e.src e.reqId e.op else s.count (Cnt.que 3) 1
    s1.startByOp e ord (if bad then none else (desc.getD none))

/-- The front segment, segment 0 of a request with operation `op` (R263, R404). A SEND waits for its receive descriptor to be
fetched. A READ answered again posts no second RX record (R274). -/
def State.takeRequest (s0 : State) (op : Nat) : State :=
  match s0.que.rxq with
  | [] => s0
  | g :: _ =>
    if !isRequest g op || !s0.queTakes then s0 else
    let e0 := mkExec g op s0.que.msgClock
    let e := match g.tag with
      | some q => { e0 with dq := q }
      | none => e0
    let s := (s0.peerGate e.src).ctxGate e.dq
    let waits := op == QO.send && !s.dqBad e.dq && (match s.recvDesc e.dq with
      | some none => true
      | _ => false)
    if waits && s.mode ≠ Mode.safe then State.fetchRecv 4 s e.dq else
    let (ok, t) := s.takeFront g
    if !ok then t
    else if s.tnd? = TND.joined && s.partnerDq e.dq && !g.fromPartner && g.tag.isNone then t.toPartner g
    else if g.tag.isSome then
      (if s.mode = Mode.safe then t.refuseRequest g op QS.busy
       else if op = QO.send ∨ op = QO.write then t.takeNew g e false else t)
    else
      let t0 := if (t.peerSlot e.src).isSome then t.freeCache e.src (segLe g.bytes 52 4) else t
      if s.mode = Mode.safe then t0.refuseRequest g op QS.busy else
      let t1 := t0.cacheGate e.src e.reqId
      match t1.classify e.src e.reqId op (!segLast g.bytes) (op == QO.reduce && t1.redShort e) (s.mode == Mode.drain) with
      | .noPeer => (t1.exception QX.nopeer QS.nopeer e.dq e.src e.reqId 0 (op + 2 ^ 32 * e.dq)).refuseRequest g op QS.nopeer
      | .stale => (t1.count (Cnt.que 6) 1).refuseRequest g op QS.stale
      | .busy => t1.refuseRequest g op QS.busy
      | .fresh => t1.takeNew g e true
      | .cached c =>
        (t1.count (Cnt.que 5) 1).sendResponse e.src e.reqId g.vc none c.status c.op c.bytes c.data []
      | .reread => t1.startWindow { e with signal := false } false
      | .ignore => t1
      | .discard => t1

/-- SEND (R250). -/
def execSend (s : State) : Host.Outcome State Fault Refusal := done (s.takeRequest QO.send)

/-- WRITE (R249). -/
def execWrite (s : State) : Host.Outcome State Fault Refusal := done (s.takeRequest QO.write)

/-- READ (R249). -/
def execRead (s : State) : Host.Outcome State Fault Refusal := done (s.takeRequest QO.read)

/-- ATOMIC (R251). -/
def execAtomic (s : State) : Host.Outcome State Fault Refusal := done (s.takeRequest QO.atomic)

/-- REDUCE (R253). -/
def execReduce (s : State) : Host.Outcome State Fault Refusal := done (s.takeRequest QO.reduce)

/-- BARRIER (R254). -/
def execBarrier (s : State) : Host.Outcome State Fault Refusal := done (s.takeRequest QO.barrier)

/-- ACKONLY (R266): cache entries are freed; a joined block also hands it to its partner (R405). -/
def execAckonly (s : State) : Host.Outcome State Fault Refusal :=
  match s.que.rxq with
  | [] => done s
  | g :: _ =>
    if !isRequest g QO.ackonly || !s.queTakes then done s else
    let (ok, t0) := s.takeFront g
    if !ok then done t0 else
    let t := t0.peerGate (segSrc g.bytes)
    let t1 := if (t.peerSlot (segSrc g.bytes)).isSome then t.freeCache (segSrc g.bytes) (segLe g.bytes 52 4) else t
    done (if t1.tnd? = TND.joined && !g.fromPartner then t1.toPartner g else t1)

/-- LATER_SEGMENT_RECEIVE (R264): a segment in order is applied; without a context here a joined block hands it to its
partner (R404). -/
def execLaterSegmentReceive (s : State) : Host.Outcome State Fault Refusal :=
  match s.que.rxq with
  | [] => done s
  | g :: _ =>
    if segRsp g.bytes || segNo g.bytes == 0 || !s.queTakes then done s else
    let (ok, t) := s.takeFront g
    if !ok then done t else
    match t.findExec (segSrc g.bytes) (segReqId g.bytes) with
    | some e =>
      let i := segNo g.bytes
      if !e.rctx || i != e.nextSeg then done t else
      let n := if opHasData e.op then min 208 (e.length - (160 + 208 * (i - 1))) else 0
      let e1 := { e with
        nextSeg := i + 1, lastAt := s.que.msgClock, buf := e.buf ++ segBytes g.bytes 16 n, applied := e.applied + n
        whole := segLast g.bytes, rctx := !segLast g.bytes }
      let t1 := t.setExec e1
      done (if e.op = QO.reduce then t1.redData e.src e.reqId else t1.execPump e1)
    | none => done (if t.tnd? = TND.joined && !g.fromPartner && g.tag.isNone then t.toPartner g else t)

/-- RESPONSE_SEGMENT_RECEIVE (R268): in a pair the responses to the partner's IDs go to it (R405). -/
def execResponseSegmentReceive (s : State) : Host.Outcome State Fault Refusal :=
  match s.que.rxq with
  | [] => done s
  | g :: _ =>
    if !segRsp g.bytes || !s.queTakes then done s else
    let (ok, t0) := s.takeFront g
    if !ok then done t0 else
    let t := t0.peerGate (segSrc g.bytes)
    let other := t.tandemImage && segReqId g.bytes % 2 != b2n (t.flag F.GLB_TND_STAT_ROLE) && g.tag.isNone
    if other then done (if t.tnd? = TND.joined && !g.fromPartner then t.toPartner g else t)
    else done (t.takeResponse g.bytes)

/-! ## Timeouts -/

/-- RETX_TIMEOUT (R269). -/
def execRetxTimeout (dst : BitVec 20) (reqId : BitVec 32) (s : State) : Host.Outcome State Fault Refusal :=
  done (s.retxTimeout dst.toNat reqId.toNat)

/-- REASSEMBLY_TIMEOUT (R267): the context is closed and the request completes with ABANDONED. -/
def execReassemblyTimeout (peer : BitVec 20) (reqId : BitVec 32) (s : State) : Host.Outcome State Fault Refusal :=
  match s.findExec peer.toNat reqId.toNat with
  | none => done s
  | some e =>
    if !e.rctx || !s.msgTimersRun then done s else
    let s1 := s.pass (e.lastAt + s.f F.QUE_TIMING_RCTX_TMO * usCycles - s.que.msgClock)
    let e1 := { e with rctx := false, whole := true, status := QS.abandoned }
    done (if e.op = QO.reduce then (s1.setExec { e with rctx := false }).redAbort e QS.abandoned e.issued
      else (s1.setExec e1).execPump e1)

/-- ACKONLY_SEND (R266): due ACK_IDLE after the peer's last final response, while no request has carried the ACK_LOW. -/
def execAckonlySend (slot : BitVec 12) (s : State) : Host.Outcome State Fault Refusal :=
  let p := s.peer slot.toNat
  if !p.valid || s.sentAckLow p == p.ackSent.toNat || !s.queTimersRun || s.fenced then done s else
  done ((s.pass (p.lastFinal + s.f F.QUE_TIMING_ACK_IDLE * usCycles - s.que.clock)).sendAckonly p 1 none)

/-- BARRIER_TIMEOUT (R254). -/
def execBarrierTimeout (bar : BitVec 12) (s : State) : Host.Outcome State Fault Refusal := done (s.barTimeout bar.toNat)

/-! ## What other units bring the engine -/

/-- A hole in a run tagged with queue `q` (R282): the message under way at the queue completes with HOLE. With none under way a segment 0
was lost at a queue that receives, whose record knows the neighbour alone, else a response to the queue's oldest outstanding message (log
entry 20). A hole with REASON SOURCE is no segment (R188). -/
def State.schedHole (s : State) (g q reason : Nat) : State :=
  if reason = Hole.source then s else
  match s.que.exec.find? fun e => decide (e.sched = some (g, q)) && e.rctx with
  | some e =>
    let e1 := { e with rctx := false, whole := true, status := QS.hole }
    (s.setExec e1).execPump e1
  | none =>
    if !s.dqBad q then s.postCpl q (cplRecord QS.hole 0 true 0 0 0 (s.cfg.active.peerId g) 0 0) none else
    match s.que.out.find? fun m => m.q == q && m.sched && !m.final with
    | some m => s.finishMsg m QS.hole 0 0 false
    | none => s

/-- A copy that a drift made for the queue engine has ended (R327): `fail` is HMPERR or POISON. -/
def State.qeDone (s : State) (j : QeJob) (fail : Option Nat) : State :=
  let c := if fail = some QS.hmperr then s.count (Cnt.que 11) 1 else s
  match j.who with
  | .sendData dst reqId => c.sendDataDone dst reqId j (fail.map fun f => if f = QS.hmperr then QS.localHmperr else f)
  | .recvData dst reqId => c.recvDataDone dst reqId fail.isNone
  | .execWrite src reqId => s.execWriteDone src reqId j fail.isNone
  | .execRead src reqId => s.execReadDone src reqId j fail

/-- Records of the engine that waited for their channels go on (R276, R279). -/
def State.queChannels (s : State) : State :=
  let qs := (s.que.cpl.filter fun c => decide (c.stage ≥ 3)).map fun c => c.q
  State.pumpExc 65 (qs.foldl (fun a q => State.pumpCpl 64 (a.cplChannel q) q) s)

end Sys2Proof.Machine
end

