-- ==== Sys2Proof/Machine/StreamRows.lean ====
section
/-! DEFINITION. The commands of the stream engine and of staging memory: commands committed, started and ended (R301 to R304,
R320 to R325, R336 to R340, R647), Class S landings (R328) and the scrubber (R290). -/

namespace Sys2Proof.Machine

/-! ## Commands held by a drift (R303) -/

def State.modDrift (s : State) (d : Nat) (f : Drift → Drift) : State := s.setDrift d (f (s.drift d))

/-- The command that a drift is to execute next: its place among those held (R303). -/
def Drift.next (x : Drift) : Option (Nat × DCmd) :=
  ((List.range x.held.length).zip x.held).find? fun e => decide (e.2.phase = .waiting) || decide (e.2.phase = .chainWait)

/-- The command at place `i` changed. -/
def State.modCmd (s : State) (d i : Nat) (f : DCmd → DCmd) : State :=
  s.modDrift d fun x => { x with held := ((List.range x.held.length).zip x.held).map fun e => if e.1 = i then f e.2 else e.2 }

/-- The command that words spell. -/
def DCmd.cmd (c : DCmd) : SCmd := SCmd.ofWords c.words

/-- Records that have entered their channels leave the drift (R303, R340). -/
def State.settleRecords (s : State) (d : Nat) : State :=
  let x := s.drift d
  let sent (c : DCmd) : Bool := decide (c.phase = .recordWait) && !s.hwWaits c.cmd.cplCh (.drift (Fin.ofNat 16 d))
  if x.held.any sent then
    s.setDrift d { x with held := x.held.filter (fun c => !sent c), postedAt := s.sch.ft.toNat, unblockedAt := s.sch.ft.toNat }
  else s

/-- A command is over with `status` at element `resume`, with no element of its own written (R310, R322, R336): its record is
ready. -/
def DCmd.over (c : DCmd) (d : Nat) (ft : BitVec 64) (status resume : Nat) : DCmd :=
  { c with
    phase := .running, since := ft, deferred := false, status := BitVec.ofNat 8 status, resume := BitVec.ofNat 32 resume
    record := recordBits d c.cmd status 0 resume 0 0 false false false false }

/-! ## Chains (R320 to R323) -/

/-- MEMBERS, TERM and FEED of chain `c`; `none` where the section has no such entry. -/
def Half.chainEnt (h : Half) (c : Nat) : Option (List Nat × Nat × List (Nat × Nat × Nat)) :=
  if 32 * c + 32 > (h.bytes ST.chain 0).length then none else
  let o := 32 * c
  let feeds := ((List.range 16).filterMap fun d =>
    let b := h.rd ST.chain 0 (o + 4 + d) 1
    if Nat.testBit b 5 then some (d, b % 16, b / 16 % 2) else none)
  some (onesBelow (h.rd ST.chain 0 o 2) 16, h.rd ST.chain 0 (o + 2) 1, feeds)

/-- Hops from member `d` to the terminal. -/
def chainDepth (feeds : List (Nat × Nat × Nat)) : Nat → Nat → Nat
  | 0, _ => 0
  | fuel + 1, d => match feeds.find? fun f => f.1 == d with
    | some f => chainDepth feeds fuel f.2.1 + 1
    | none => 0

/-- The next command of drift `d` names chain `c` and waits for it. -/
def State.chainNext (s : State) (d c : Nat) : Option (Nat × DCmd) :=
  match (s.drift d).next with
  | some (i, x) => if x.phase = .chainWait ∧ x.cmd.chain = c then some (i, x) else none
  | none => none

/-- A mismatch of R322 among the members' commands. -/
def chainMismatch (term : Nat) (feeds : List (Nat × Nat × Nat)) (cs : List (Nat × SCmd)) : Bool :=
  let fed (d p : Nat) : Bool := feeds.any fun f => f.2.1 == d && f.2.2 == p
  let c0 := (cs.head?).map fun c => c.2
  cs.any fun (d, c) =>
    (c.a.space == SP.chained) != fed d 0 || (c.b.space == SP.chained) != fed d 1 || (c.c.space == SP.chained) != (d != term) ||
      (match c0 with
        | some x => x.n != c.n || x.start != c.start || x.beat != c.beat
        | none => false) ||
      (match feeds.find? fun f => f.1 == d with
        | some f => cs.any fun y => y.1 == f.2.1 && y.2.c.typ != c.c.typ
        | none => false)

/-- A chain whose members all wait for it ends at once where a member breaks R310 or the members do not match (R322); a
command whose drift is no member, or whose chain does not exist, ends alone. -/
def State.chainCheck (s : State) (d c : Nat) : State :=
  match s.cfg.active.chainEnt c with
  | none => match s.chainNext d c with
    | some (i, x) => s.modCmd d i fun y => y.over d s.sch.ft SS.mismatch x.cmd.start
    | none => s
  | some (members, term, feeds) =>
    if !members.contains d then
      match s.chainNext d c with
      | some (i, x) => s.modCmd d i fun y => y.over d s.sch.ft SS.mismatch x.cmd.start
      | none => s
    else
    let cs := members.filterMap fun m => (s.chainNext m c).map fun e => (m, e)
    if cs.length ≠ members.length then s else
    let bad := cs.any fun e => e.2.2.cmd.bad s.cfg.active e.1
    if bad then
      cs.foldl (fun a e => a.modCmd e.1 e.2.1 fun y =>
        y.over e.1 s.sch.ft (if y.cmd.bad s.cfg.active e.1 then SS.badCmd else SS.partner) y.cmd.start) s
    else if chainMismatch term feeds (cs.map fun e => (e.1, e.2.2.cmd)) then
      cs.foldl (fun a e => a.modCmd e.1 e.2.1 fun y => y.over e.1 s.sch.ft SS.mismatch y.cmd.start) s
    else s

/-- The next command of drift `d` enters CHAIN_WAIT if it names a chain (R322). The first argument bounds the commands. -/
def State.advance : Nat → State → Nat → State
  | 0, s, _ => s
  | fuel + 1, s, d =>
    match (s.drift d).next with
    | none => s
    | some (i, c) =>
      if c.qe.isSome || c.malformed || c.cmd.chain = 0xFF then s else
      let s1 := if c.phase = .waiting then
          (s.modCmd d i fun y => { y with phase := .chainWait, since := s.sch.ft }).setF (F.STR_Dd_STAT_CHAIN d) c.cmd.chain
        else s
      let s2 := s1.chainCheck d c.cmd.chain
      match (s2.drift d).next with
      | some (j, _) => if j = i then s2 else State.advance fuel s2 d
      | none => s2

/-- After a change, every drift's next command is looked at. -/
def State.advanceAll (s : State) : State := (List.range 16).foldl (fun a d => State.advance 5 a d) s

/-! ## Starting (R304, R324, R325, R647) -/

/-- A command with an INGRESS or EGRESS operand. -/
def SCmd.classS (c : SCmd) : Bool := c.a.space == SP.ingress || c.b.space == SP.ingress || c.c.space == SP.egress

/-- The members of the chain that drift `d` waits for, with the places of their commands, where all of them wait for it (R322). -/
def State.chainWhole (s : State) (c : Nat) : Option (List (Nat × Nat × DCmd)) :=
  match s.cfg.active.chainEnt c with
  | none => none
  | some (members, _, _) =>
    let cs := members.filterMap fun m => (s.chainNext m c).map fun e => (m, e)
    if cs.length = members.length then some cs else none

/-- A droop hold defers the next command of drift `d` where it is unscheduled, or its whole chain where that has an unscheduled command;
each is counted once (R325). -/
def State.deferCmd (s : State) (d : Nat) : State :=
  if !s.flag F.CRP_DROOP_STAT_HOLD then s else
  let waits : List (Nat × Nat × DCmd) := match (s.drift d).next with
    | none => []
    | some (i, c) => if c.phase = .waiting then [(d, i, c)] else (s.chainWhole c.cmd.chain).getD []
  if waits.all fun e => decide (e.2.2.src = .schedThread) then s else
  waits.foldl (fun a (d, i, c) =>
    if c.deferred then a else
    let b := a.modCmd d i fun y => { y with deferred := true, counted := true }
    if c.counted then b else b.count (Cnt.drift d 7) 1) s

/-- The hold is over: no command is deferred any more (R325). -/
def State.endDefer (s : State) : State :=
  (List.range 16).foldl (fun a d =>
    if (a.drift d).held.any fun c => c.deferred then a.modDrift d fun x => { x with held := x.held.map fun c => { c with deferred := false } }
    else a) s

/-- Whether drift `d` may start its next command now. -/
def State.driftMayStart (s : State) (d : Nat) : Bool :=
  let x := s.drift d
  match x.next with
  | none => false
  | some (i, c) =>
    let m := s.mode
    let modeOk := decide (Mode.standby ≤ m) && decide (m ≤ Mode.drain) && (!c.cmd.classS || decide (m ≥ Mode.run))
    modeOk && s.cfg.imageActive && (x.held.all fun y => decide (y.phase ≠ .recordWait)) && (!c.cmd.fence || i == 0) &&
      !(s.flag F.CRP_DROOP_STAT_HOLD && decide (c.src ≠ .schedThread))

/-- Drift `d` still reads for the command that it executes (R324). -/
def State.drawing (s : State) (d : Nat) : Bool :=
  s.str.runs.any fun r => r.stop.isNone && (r.member d).any fun m => decide (m.beat < r.ctx.beats)

/-- More cycles than any command takes. -/
def runFuel : Nat := 2 ^ 48

/-- The drifts `ds` have read all that their present commands need, where that comes about by itself. -/
def State.drawnOut (s : State) (ds : List Nat) : State := State.runUntil runFuel s fun t => ds.all fun d => !t.drawing d

/-- The first read of commands at drifts `ds` (R304, R324): not before `base`, nor before the drifts have read for their earlier
commands, nor while a record waited for its channel, nor with FENCE before the last record was posted. -/
def State.startAt (s : State) (base : Nat) (ds : List (Nat × Bool)) : Nat :=
  ds.foldl (fun t e =>
    let x := s.drift e.1
    max t (max x.freeAt (max x.unblockedAt (if e.2 then x.postedAt else 0)))) (max base s.sch.ft.toNat)

/-- The commands at `places` start to stream from fabric time `t0` on. -/
def State.startRun (s : State) (t0 : Nat) (places : List (Nat × Nat)) (ms : List Member) (ctx : RunCtx) (io : StreamIo) : State :=
  let s1 := s.passFt t0
  let id := s1.str.nextRun
  let r : Run := { id := id, ms := ms, io := io, ctx := ctx, beat := 0, enter := t0, stop := none, closed := false }
  let s2 := { s1 with str := { s1.str with runs := s1.str.runs ++ [r], nextRun := id + 1, cyc := max s1.str.cyc s1.sch.ft.toNat } }
  places.foldl (fun a (d, i) =>
    ((a.modCmd d i fun y => { y with phase := .running, run := some id, deferred := false, since := BitVec.ofNat 64 t0 }).setReg
      (R.STR_Dd_DONE d) 0).count (Cnt.drift d 0) 1) s2

/-- Latency of a feeder from its ARITH input to its target's (R143, R321). -/
def SCmd.feedPath (c : SCmd) (beat : Nat) : Nat :=
  (if c.ariths then 5 else 0) + (if c.fold ≠ 0 then 5 * (Nat.log2 beat + 4) else 0) + 2

/-- A drift alone runs its next command. -/
def State.startAlone (s : State) (d i : Nat) (x : DCmd) (io : StreamIo) : State :=
  let c := x.cmd
  let s0 := s.setF (F.STR_Dd_STAT_CHAIN d) 0xFF
  if c.bad s.cfg.active d then (s0.setReg (R.STR_Dd_DONE d) 0).modCmd d i fun y => y.over d s.sch.ft SS.badCmd c.start else
  let s1 := s0.drawnOut [d]
  if s1.drawing d then s1 else
  let base := x.commit.toNat + 16
  let t0 := s1.startAt base [(d, c.fence)]
  let late := decide (x.src = .schedThread) && decide (t0 > base)
  let ctx : RunCtx :=
    { term := d, beat := c.beat, start := c.start, count := c.n, path := 10 + (if c.converts then 3 else 0), feeds := [], seed := s.srSeed
      stuck := false }
  s1.startRun t0 [(d, i)] [Member.init d c 0 (if late then t0 - base else 0) late t0] ctx io

/-- The members of a chain that is complete run together (R322, R323). -/
def State.startChain (s : State) (c : Nat) (io : StreamIo) : State :=
  match s.cfg.active.chainEnt c, s.chainWhole c with
  | some (members, term, feeds), some cs =>
    if members.any (fun m => !s.driftMayStart m || s.cfg.oldRoutes.getLsbD m) then s else
    let s1 := s.drawnOut members
    if members.any fun m => s1.drawing m then s1 else
    let cmdOf (d : Nat) : SCmd := (cs.find? fun e => e.1 == d).elim (SCmd.ofWords 0) fun e => e.2.2.cmd
    let beat := (cmdOf term).beat
    let tail (d : Nat) : Nat := (List.range 16).foldl (fun (acc : Nat × Nat) _ =>
      match feeds.find? fun f => f.1 == acc.1 with
      | some f => (f.2.1, acc.2 + (cmdOf acc.1).feedPath beat)
      | none => acc) (d, 0) |>.2
    let reads (x : SCmd) : Bool := x.a.space != SP.chained || (x.b.space != SP.none && x.b.space != SP.chained)
    let path (d : Nat) : Nat := 10 + (if (cmdOf d).converts then 3 else 0) + tail d
    let longest := (members.filter fun d => reads (cmdOf d)).foldl (fun a d => max a (path d)) 0
    let base := cs.foldl (fun a e => max a e.2.2.commit.toNat) 0 + 16
    let t0 := s1.startAt base (members.map fun m => (m, (cmdOf m).fence))
    let order := (List.range 17).reverse.flatMap fun k => members.filter fun d => chainDepth feeds 16 d == k
    let ms := order.map fun d =>
      let own := cs.any fun e => e.1 == d && decide (e.2.2.src = .schedThread)
      let late := own && decide (t0 > base)
      Member.init d (cmdOf d) (longest - path d) (if late then t0 - base else 0) late (t0 + (longest - path d))
    let ctx : RunCtx :=
      { term := term, beat := beat, start := (cmdOf term).start, count := (cmdOf term).n, path := longest, feeds := feeds, seed := s.srSeed
        stuck := decide ((cmdOf term).n > 1) && members.any fun d => d != term && (cmdOf d).fold != 0 }
    s1.startRun t0 (cs.map fun e => (e.1, e.2.1)) ms ctx io
  | _, _ => s

/-- The COPY that a queue engine's job is (R327): bytes, between memory and the engine. -/
def QeJob.cmd (j : QeJob) : SCmd :=
  let none_ : Opnd := { addr := 0, stride := 0, aux := 0, space := SP.none, mode := 0, typ := 0, idx := 0, hmp := 0, rsv := 0 }
  let mem : Opnd := { none_ with addr := j.addr, space := if j.host then SP.host else SP.staging, hmp := j.port }
  let engine : Opnd := { none_ with space := SP.engine }
  { op := SO.copy, chain := 0xFF, round := 0, fold := 0, holePol := 0, poisonFault := true, fence := false, traps := 0, cplCh := 0
    cplEn := false, evEn := false, userTag := 0, n := j.len, start := 0, a := if j.wr then engine else mem, b := none_
    c := if j.wr then mem else engine, s := 0, user := 0, rsv := 0 }

/-- A copy that the queue engine gave the drift (R327). -/
def State.startCopy (s : State) (d i : Nat) (j : QeJob) (io : StreamIo) : State :=
  let s1 := (s.setF (F.STR_Dd_STAT_CHAIN d) 0xFF).drawnOut [d]
  if s1.drawing d then s1 else
  let c := j.cmd
  let t0 := s1.startAt 0 [(d, false)]
  let ctx : RunCtx :=
    { term := d, beat := c.beat, start := 0, count := c.n, path := 10, feeds := [], seed := 0, stuck := false }
  s1.startRun t0 [(d, i)] [{ Member.init d c 0 0 false t0 with data := j.bytes }] ctx io

/-- A row STREAM_… : the next command of drift `d` starts, if its operation is the row's and it may start. A chain is resolved against
the tables that are active now (R326). -/
def State.streamRow (s0 : State) (op : Nat) (d : Nat) (io : StreamIo) : State :=
  let s := (s0.settleRecords d).advanceAll
  match (s.drift d).next with
  | none => s
  | some (i, x) =>
    match x.qe with
    | some j => if op = SO.copy && s.driftMayStart d then s.startCopy d i j io else if op = SO.copy then s.deferCmd d else s
    | none =>
      if x.malformed || x.cmd.op ≠ op then s
      else if !s.driftMayStart d then s.deferCmd d
      else if x.phase = .waiting then s.startAlone d i x io
      else (s.startChain x.cmd.chain io).deferCmd d

def execStreamCopy (d : Fin 16) (io : StreamIo) (s : State) : Host.Outcome State Fault Refusal := done (s.streamRow SO.copy d io)
def execStreamAdd (d : Fin 16) (io : StreamIo) (s : State) : Host.Outcome State Fault Refusal := done (s.streamRow SO.add d io)
def execStreamSub (d : Fin 16) (io : StreamIo) (s : State) : Host.Outcome State Fault Refusal := done (s.streamRow SO.sub d io)
def execStreamMul (d : Fin 16) (io : StreamIo) (s : State) : Host.Outcome State Fault Refusal := done (s.streamRow SO.mul d io)
def execStreamFma (d : Fin 16) (io : StreamIo) (s : State) : Host.Outcome State Fault Refusal := done (s.streamRow SO.fma d io)
def execStreamAxpy (d : Fin 16) (io : StreamIo) (s : State) : Host.Outcome State Fault Refusal := done (s.streamRow SO.axpy d io)
def execStreamScale (d : Fin 16) (io : StreamIo) (s : State) : Host.Outcome State Fault Refusal := done (s.streamRow SO.scale d io)
def execStreamMin (d : Fin 16) (io : StreamIo) (s : State) : Host.Outcome State Fault Refusal := done (s.streamRow SO.min d io)
def execStreamMax (d : Fin 16) (io : StreamIo) (s : State) : Host.Outcome State Fault Refusal := done (s.streamRow SO.max d io)
def execStreamAbs (d : Fin 16) (io : StreamIo) (s : State) : Host.Outcome State Fault Refusal := done (s.streamRow SO.abs d io)
def execStreamNeg (d : Fin 16) (io : StreamIo) (s : State) : Host.Outcome State Fault Refusal := done (s.streamRow SO.neg d io)
def execStreamAnd (d : Fin 16) (io : StreamIo) (s : State) : Host.Outcome State Fault Refusal := done (s.streamRow SO.and_ d io)
def execStreamOr (d : Fin 16) (io : StreamIo) (s : State) : Host.Outcome State Fault Refusal := done (s.streamRow SO.or_ d io)
def execStreamXor (d : Fin 16) (io : StreamIo) (s : State) : Host.Outcome State Fault Refusal := done (s.streamRow SO.xor_ d io)

/-! ## Commits (R301 to R303) -/

/-- A command commits: in SAFE it ends ABORTED at once (R647); one that names a chain may complete it. -/
def State.commitCmd (s : State) (d : Nat) (words : BitVec 1024) (malformed : Bool) (src : CmdSource) : State :=
  let c : DCmd :=
    { words := words, malformed := malformed, src := src, commit := s.sch.ft, phase := .waiting, since := s.sch.ft, deferred := false,
      counted := false, run := none, status := 0, resume := 0, record := 0, qe := none }
  let c1 := if s.mode = Mode.safe then c.over d s.sch.ft SS.aborted c.cmd.start else c
  (s.modDrift d fun x => { x with held := x.held ++ [c1] }).advanceAll.deferCmd d

/-- The words of a message that ended: it commits, or is malformed (R301). -/
def State.messageEnd (s : State) (d : Nat) (words : List (BitVec 64)) (sched : Bool) : State :=
  let w := words.foldr (fun (x : BitVec 64) a => x.toNat + 2 ^ 64 * a) 0
  let s1 := s.modDrift d fun x => { x with taken := [] }
  s1.commitCmd d (BitVec.ofNat 1024 w) (words.length != 16) (if sched then .schedThread else .poolThread)

/-- Words are taken from the command channel up to the end of a message. A broken one is discarded (R301, R683). The first
argument bounds the words. -/
def State.takeCommand : Nat → State → Nat → State
  | 0, s, _ => s
  | fuel + 1, s, d =>
    let ch := s.f (F.STR_Dd_CFG_CMD_CH d)
    let c := s.chan ch
    let mine := match c.rhold with
      | some (.thread _) => false
      | _ => true
    match c.words with
    | [] => s
    | w :: _ =>
      if !mine || decide ((s.drift d).held.length ≥ 4) || !s.cfg.imageActive then s else
      let t := s.passTo (2 * (w.at_ + 4))
      let s1 := State.chanPump 8 (t.setChan ch (chanPop c w .hw)) ch
      let parity := s.storeFault 10 ch
      let s2 := if parity then (s1.logUe 10 ch) else s1
      let x := s2.drift d
      let taken := if x.taken.length ≥ 17 then x.taken else x.taken ++ [w.data]
      if w.brk || parity then
        let s3 := (s2.setDrift d { x with taken := [] }).hit (F.STR_Dd_STAT_CMD_BRK d)
        if w.fin then s3 else State.takeCommand fuel s3 d
      else if w.fin then s2.messageEnd d taken w.sched
      else State.takeCommand fuel (s2.setDrift d { x with taken := taken }) d

/-- STREAM_COMMAND_COMMIT (R301): drift `d` takes what its command channel holds, up to a command. -/
def execStreamCommandCommit (d : Fin 16) (s : State) : Host.Outcome State Fault Refusal :=
  done (State.takeCommand 20 (s.settleRecords d) d)

/-- A write of STR_CMD_GO with GO set (R302). -/
def State.streamGo (s0 : State) (d : Nat) : State :=
  let s := s0.settleRecords d
  if !s.cfg.imageActive || decide ((s.drift d).held.length ≥ 4) then s.hit F.STR_CMD_GO_ERR else
  let w := (List.range 32).foldl (fun a i => a + (s.reg (R.STR_CMD_Wi i)).toNat * 2 ^ (32 * i)) 0
  s.commitCmd d (BitVec.ofNat 1024 w) false .csp

/-! ## Endings -/

/-- The drift's first command ends (R340): status registers, counters, record, event; the routes of a swap follow (R136). -/
def State.endCommand (s : State) (d : Nat) (x : DCmd) (rest : List DCmd) : State :=
  let c := x.cmd
  let bad := decide (x.status ≠ 0)
  let s1 := ((s.setF (F.STR_Dd_STAT_LAST_STATUS d) x.status.toNat).setReg (R.STR_Dd_RESUME d) x.resume).count (Cnt.drift d 1) 1
  let s2 := if bad then s1.count (Cnt.drift d 5) 1 else s1
  let s3 := { s2 with cfg := { s2.cfg with oldRoutes := s2.cfg.oldRoutes &&& ~~~(BitVec.ofNat 16 (2 ^ d)) } }
  match x.qe with
  | some j =>
    let s4 := (s3.modDrift d fun y => { y with held := rest }).qeDone j
      (if x.status = 0 then none else if x.status.toNat = SS.poison then some QS.poison else some QS.hmperr)
    State.dispatchJobs 64 s4
  | none =>
    let r := x.record.toNat
    let s4 := if Nat.testBit r 12 then s3.hit (F.STR_Dd_STAT_LATE d) else s3
    let s5 := if Nat.testBit r 13 then s4.hit (F.STR_Dd_STAT_SLOTMISS d) else s4
    let rec4 := putBits r 128 64 s.sch.ft.toNat
    let s6 :=
      if c.cplEn then
        let s7 := (s5.modDrift d fun y => { y with held := { x with phase := .recordWait } :: rest }).hwSend c.cplCh (.drift (Fin.ofNat 16 d))
          (recordWords rec4 4)
        if s7.hwWaits c.cplCh (.drift (Fin.ofNat 16 d)) then s7
        else s7.modDrift d fun y => { y with held := y.held.filter fun z => decide (z.phase ≠ .recordWait), postedAt := s.sch.ft.toNat }
      else s5.modDrift d fun y => { y with held := rest, postedAt := s.sch.ft.toNat }
    if c.evEn then s6.raise (EV.strDone d) else s6

/-- The place of the drift's first command whose record has not been produced. -/
def Drift.firstOpen (x : Drift) : List DCmd × List DCmd := (x.held.takeWhile fun c => decide (c.phase = .recordWait),
  x.held.dropWhile fun c => decide (c.phase = .recordWait))

/-- STREAM_COMMAND_END (R340): the stores of the drift's first command are complete. A malformed command, or one with a
reserved operation, ends here with BAD_CMD (R301, R310). -/
def execStreamCommandEnd (d : Fin 16) (s0 : State) : Host.Outcome State Fault Refusal :=
  let s := s0.settleRecords d
  match (s.drift d).firstOpen with
  | (_, []) => done s
  | (before, x :: rest) =>
    if x.phase = .running then
      let s1 := match x.run with
        | some id => State.runUntil runFuel s fun t => (t.run id).isNone
        | none => s
      match (s1.drift d).firstOpen with
      | (_, y :: _) =>
        if y.run.isSome then done s1 else
        let s2 := (s1.passFt y.since.toNat).endCommand d y rest
        let s3 := if before.isEmpty then s2 else s2.modDrift d fun z => { z with held := before ++ z.held }
        done s3.advanceAll
      | (_, []) => done s1
    else if x.phase = .waiting && x.qe.isNone && (x.malformed || decide (x.cmd.op > 0xD)) && s.driftMayStart d then
      let y := x.over d s.sch.ft SS.badCmd x.cmd.start
      done ((s.endCommand d y rest).advanceAll)
    else done s

/-- CHAIN_TIMEOUT (R322). -/
def execChainTimeout (d : Fin 16) (s : State) : Host.Outcome State Fault Refusal :=
  match (s.drift d).next with
  | some (i, x) =>
    if x.phase ≠ .chainWait then done s else
    let s1 := s.passFt (x.since.toNat + 2 ^ 20)
    done ((s1.modCmd d i fun y => y.over d s1.sch.ft SS.chainTmo y.cmd.start).advanceAll)
  | none => done s

/-- A run is stopped for drift `d`, or with `d` = 16 for all its drifts, at the first element that has not been combined (R330, R336);
every element before it is written. A fold whose result is on its way is over. -/
def State.stopRun (s : State) (id d : Nat) : State :=
  match s.run id with
  | none => s
  | some r =>
    if r.stop.isSome || (r.closed && r.ms.any fun m => m.cmd.fold != 0) then s else
    s.setRun { r with stop := some (min r.ctx.count (r.ctx.start + r.beat * r.ctx.beat), d, { rank := 7, status := SS.aborted, fop := 0 }) }

/-- STR_Dd_CTRL.ABORT (R336): the executing command, the newest where two overlap, or a command in CHAIN_WAIT, which ends at its
START. -/
def State.driftAbort (s : State) (d : Nat) : State :=
  let x := s.drift d
  match x.held.reverse.findSome? fun c => c.run with
  | some id => s.stopRun id d
  | none =>
    match x.next with
    | some (i, c) =>
      if c.phase = .chainWait then (s.modCmd d i fun y => y.over d s.sch.ft SS.aborted y.cmd.start).advanceAll else s
    | none => s

/-- A command not started is over with ABORTED (R336, R647). -/
def DCmd.flushed (c : DCmd) (d : Nat) (ft : BitVec 64) : DCmd :=
  if c.phase = .waiting ∨ c.phase = .chainWait then c.over d ft SS.aborted (if c.qe.isSome then 0 else c.cmd.start) else c

/-- STR_Dd_CTRL.FLUSH (R336): every command not started. -/
def State.driftFlush (s : State) (d : Nat) : State :=
  (s.modDrift d fun x => { x with held := x.held.map fun c => c.flushed d s.sch.ft }).advanceAll

/-- Entry to SAFE (R647): every command held or executing ends ABORTED. -/
def State.driftsSafe (s : State) : State :=
  let s1 := s.str.runs.foldl (fun a r => a.stopRun r.id 16) s
  (List.range 16).foldl (fun a d =>
    if (a.drift d).held.isEmpty then a else a.modDrift d fun x => { x with held := x.held.map fun c => c.flushed d s.sch.ft }) s1

/-- The record of drift `d`, or the command it takes, goes on with its channel (R340, R453). -/
def State.driftChannel (s : State) (d : Nat) : State := (s.settleRecords d).advanceAll

/-! ## Landings and the scrubber -/

/-- The 256 bytes of a landing slot (R328). -/
def landingSlot (f : SFlit) (prot : Bool) (t : Nat) : List Byte :=
  let pay := if f.hole then 0 else if prot then f.pay.toNat % 2 ^ 1792 else f.pay.toNat
  natLe 240 pay ++ natLe 4 (f.tag.toNat + 2 ^ 17 * b2n f.hole + 2 ^ 18 * b2n f.csv + 2 ^ 19 * b2n prot) ++
    natLe 4 (if f.hole then f.pay.toNat else 0) ++ natLe 8 t

/-- CLASS_S_LANDING (R328): the first waiting Class S flit of the group, in its landing cycle. A queue tag's flit goes to the
queue engine (R281, R282); a tag that is no landing any more is discarded. -/
def execClassSLanding (g : Fin 8) (s : State) : Host.Outcome State Fault Refusal :=
  match (s.lg g).sLand with
  | [] => done s
  | f :: rest =>
    let s1 := (s.modLg g fun x => { x with sLand := rest }).passFt f.due.toNat
    match s1.cfg.active.tagKind f.tag.toNat with
    | .landing base slots =>
      let bs := landingSlot f (s1.flag (F.LNK_LGn_CFG_PROT g)) f.due.toNat
      done ((s1.smemPut (256 * base + 256 * (f.k % max 1 slots)) bs false .landing).count (Cnt.smem 6) 4)
    | .queue q =>
      if s1.fenced || s1.mode = Mode.halt then done s1
      else if f.hole then done (s1.schedHole g q (bits f.pay.toNat 0 8))
      else done (s1.deliver (looseSeg g 1 (some q) false f.pay))
    | _ => done s1

/-- STAGING_SCRUB (R290): due every SCRUB_INT × 64 CK_CORE cycles. -/
def execStagingScrub (s : State) : Host.Outcome State Fault Refusal :=
  if !s.flag F.STR_CFG_SCRUB_EN || !s.crp.mainUp then done s else
  let n := 64 * max 1 (s.f F.STR_CFG_SCRUB_INT)
  done ((s.pass (n - s.sch.ft.toNat % n)).scrubStaging)

end Sys2Proof.Machine
end

