-- ==== Sys2Proof/Machine/ThreadCtl.lean ====
section
/-! DEFINITION. What acts on threads from outside their code: thread commands (R438), the fault log (R469), lamps (R457, R459),
channel and event waits (R453), the pool (R421), the landing of multiplies (R485), the registers that show threads (R468 to
R472), and the trace (R690, R691). -/

namespace Sys2Proof.Machine

/-! ## Debug (R686 to R691) -/

/-- A debugger is attached, and the lifecycle state lets it act (R686, R687). -/
def State.dbgLocked (s : State) : Bool := s.f F.MEM_LC_STAT_STATE == LC.deployed || s.f F.MEM_LC_STAT_STATE == LC.end_
def State.attached (s : State) : Bool := s.flag F.DBG_CTRL_ATTACH && !s.dbgLocked

/-- A breakpoint or watchpoint `i` matched in thread `t`: it halts (R688, R689). -/
def State.hitHalt (s : State) (t i : Nat) (wp : Bool) : State :=
  ((((((s.haltThread t).hit F.DBG_STAT_HIT).setF F.DBG_STAT_HIT_THREAD t).setB F.DBG_STAT_HIT_WP wp).setF F.DBG_STAT_HIT_IDX i)).raise
    EV.dbgHalt

/-- Bytes of the trace ring. -/
def State.traceSize (s : State) : Nat := 2 ^ (16 + min 10 (s.f F.DBG_TR_RING_LOG2))

/-- The word of gathered records goes to the ring (R691); one of cycles gone by (`late`) has had its access of the bank then. -/
def State.traceFlush (s : State) (late : Bool) : State :=
  let recs := s.dbg.trace ++ List.replicate (8 - s.dbg.trace.length) 0
  let idx := s.f F.DBG_TR_WIDX_IDX / 8 * 8
  let base := s.f F.DBG_TR_RING_BASE * 2 ^ 16
  let a := (base + 8 * idx % s.traceSize) % 2 ^ 26
  let bs := (recs.map fun r => natLe 8 r.toNat).flatten
  if late then { s.smemPutMask (a / 64) [(0, bs)] false .thread with dbg := { s.dbg with trace := [] } } else
  let s1 := s.smemPut a bs false .thread
  let t := s1.sch.ft.toNat
  let c := s1.str.used.head?.elim t fun u => u.cyc
  { s1 with dbg := { s1.dbg with trace := [], writes := s1.dbg.writes.filter (fun x => decide (t < x)) ++ [c] } }

/-- Records in the unit's buffer: those that gather, and those of words whose bank has yet to take them (R691). -/
def State.traceHeld (s : State) : Nat :=
  s.dbg.trace.length + 8 * (s.dbg.writes.filter fun c => decide (s.sch.ft.toNat < c)).length

/-- The ring's write index becomes `next`: at the ring's end it wraps, or the trace stops (R691). -/
def State.traceIndex (s : State) (next : Nat) : State :=
  if 8 * next ≥ s.traceSize then
    if s.flag F.DBG_TR_CFG_STOP then ((s.setF F.DBG_TR_WIDX_IDX next).hit F.DBG_TR_STAT_FULL).raise EV.trace
    else (s.setF F.DBG_TR_WIDX_IDX 0).hit F.DBG_TR_STAT_WRAPPED
  else s.setF F.DBG_TR_WIDX_IDX next

/-- A record joins the word that gathers; eight make a word of the ring. -/
def State.traceGather (s : State) (late : Bool) (r : BitVec 64) : State :=
  let s1 := { s with dbg := { s.dbg with trace := s.dbg.trace ++ [r] } }
  if s1.dbg.trace.length ≥ 8 then s1.traceFlush late else s1

/-- One trace record (R690, R691): one that finds the buffer full is lost. -/
def State.traceRecord (s : State) (late : Bool) (r : BitVec 64) : State :=
  if s.flag F.DBG_TR_STAT_FULL then s else if !late && decide (s.traceHeld ≥ 64) then s.satF F.DBG_TR_STAT_LOST 1
  else (s.traceGather late r).traceIndex (s.f F.DBG_TR_WIDX_IDX + 1)

/-- The record of a slot of pipe `p` in CK_THR cycle `c`: KIND, whether the word executed, thread and PC (R690). -/
def traceWord (kind : Nat) (ex : Bool) (p t pc c : Nat) : BitVec 64 :=
  BitVec.ofNat 64 (kind + 2 ^ 2 * b2n ex + 2 ^ 3 * p + 2 ^ 4 * t + 2 ^ 11 * pc + 2 ^ 28 * (c % 256) + 2 ^ 36 * (c % 2 ^ 28))

/-- The trace records slots of pipe `p` that name thread `t` (R690). -/
def State.traces (s : State) (p t : Nat) : Bool :=
  s.flag F.DBG_TR_CFG_EN && s.attached && (if p = 0 then s.flag F.DBG_TR_CFG_PA else s.flag F.DBG_TR_CFG_PB) &&
    (!s.flag F.DBG_TR_CFG_ONE || s.f F.DBG_TR_CFG_THREAD == t)

/-- The record of a slot that has gone by without an issue (R690): it names the slot's thread and its PC, a POOL slot thread 0 and PC 0
(log entry 59). -/
def State.traceEmpty (s : State) (p c : Nat) : State :=
  if s.dbg.seen.contains (p, c) then s else
  let e := ((s.cfg.active.roster p)[c % 256]?).getD 1
  let t := if e % 2 = 1 then 0 else e / 2
  let pc := if e % 2 = 1 then 0 else (s.thread t).pc.toNat
  if s.traces p t then s.traceRecord true (traceWord 2 false p t pc c) else s

/-- The slots before the present CK_THR cycle that have no record yet get one where EMPTY asks for it (R690, log entry 59). -/
def State.traceFill (s : State) : State :=
  if !s.flag F.DBG_TR_CFG_EN then s else
  let d := s.dbg
  let s1 := if s.flag F.DBG_TR_CFG_EMPTY && s.attached then
      (List.range (s.cyc - d.next)).foldl (fun a j => (a.traceEmpty 0 (d.next + j)).traceEmpty 1 (d.next + j)) s
    else s
  { s1 with dbg := { s1.dbg with next := s.cyc, seen := s1.dbg.seen.filter fun e => decide (s.cyc ≤ e.2) } }

/-- The trace of a slot of pipe `p` in CK_THR cycle `c` with an issue or an entry, after those of the slots gone by (R690). -/
def State.trace (s : State) (kind : Nat) (ex : Bool) (p t pc c : Nat) : State :=
  if !s.flag F.DBG_TR_CFG_EN then s else
  let s1 := s.traceFill
  let s2 := { s1 with dbg := { s1.dbg with seen := (p, c) :: s1.dbg.seen } }
  if s2.traces p t then s2.traceRecord false (traceWord kind ex p t pc c) else s2

/-! ## Entries in own slots (R443, R444) -/

/-- The first free own slot of a scheduled thread from now on: its number and cycle. -/
def State.nextOwn (s : State) (t : Nat) : Option (Nat × Nat) :=
  let x := s.thread t
  let slots := s.cfg.active.schedSlots t
  if slots.isEmpty then none else
  let from_ := max s.cyc (max x.earliest (kget 0 s.btp.nextCyc (pipeOf t)))
  let i := max x.own (x.slotAt slots from_)
  some (i, x.slotCyc slots i)

/-- The six entry slots of a scheduled thread from own slot `i` on; free own slots before them are stalls (R423, R443). -/
def State.entrySlots (s : State) (t i : Nat) : State :=
  let slots := s.cfg.active.schedSlots t
  let pc := (s.thread t).pc.toNat
  let s1 := (List.range 6).foldl (fun a j => a.trace 3 false (pipeOf t) t pc ((a.thread t).slotCyc slots (i + j))) s
  (s1.count (Cnt.thread t 1) (i - (s.thread t).own)).modThread t fun x => { x with own := i + 6 }

/-- A pending event becomes an alert of thread `t` (R441). -/
def State.takeAlert (s : State) (t : Nat) : State :=
  match s.threadEvent t none with
  | none => s
  | some n => s.enterEvent t n

/-- EVENT_ALERT_ENTRY (R441, R443, R444): a scheduled thread's entry begins with its first own slot; a pool thread's takes
none. -/
def execEventAlertEntry (t : Fin 128) (s : State) : Host.Outcome State Fault Refusal :=
  let st := (s.thread t).st
  if !(s.threadsRun t && s.alertDue t && (st == TST.ready || st == TST.blocked)) then done s else
  match s.nextOwn t with
  | some (i, c) => done (((s.passFt (2 * c)).entrySlots t i).takeAlert t)
  | none => done (s.takeAlert t)

/-! ## The pool (R421) -/

/-- The thread named by the scheduled slot in cycle `c` leaves it to the pool (R421), unless its last instruction or its entry to a handler
still occupies the slot (R420, R443). -/
def State.donates (s : State) (t c : Nat) : Bool :=
  let x := s.thread t
  s.flag F.BTP_POOL_CFG_DONATE && (s.countsBlocked t || x.st == TST.hmpWait) && decide (x.own ≤ x.slotAt (s.cfg.active.schedSlots t) c)

/-- The next slot of pipe `p` for the pool: its CK_THR cycle. -/
def State.poolCyc (s : State) (p : Nat) : Option Nat :=
  let r := s.cfg.active.roster p
  let c0 := max s.cyc (kget 0 s.btp.nextCyc p)
  ((List.range 256).map fun k => c0 + k).find? fun c =>
    match r[c % 256]? with
    | some e => e % 2 == 1 || s.donates (e / 2) c
    | none => false

/-- Pool threads of pipe `p` in the order of the search after thread `h` (R421). -/
def poolOrder (p h : Nat) : List Nat := (List.range 64).map fun i => 64 * p + (h % 64 + 1 + i) % 64

/-- A pool thread that is ready. -/
def State.poolReady (s : State) (t : Nat) : Bool :=
  s.threadsRun t && !s.isSched t && s.cfg.active.poolW t != 0 && (s.thread t).st == TST.ready

/-- The quantum of a pool thread is used up. -/
def State.quantumUp (s : State) (t : Nat) : Bool :=
  let q := s.f F.BTP_POOL_CFG_QUANTUM
  q != 0 && decide ((s.thread t).used ≥ q * s.cfg.active.poolW t)

/-- The thread that takes a POOL slot of pipe `p`. -/
def State.poolPick (s : State) (p : Nat) : Option Nat :=
  let h := kget (64 * p) s.btp.holder p
  let others := (poolOrder p h).filter fun t => s.poolReady t && t != h
  if s.poolReady h && (others.isEmpty || !s.quantumUp h) then some h else others.head?

/-- POOL_SLOT_GRANT (R421): a slot that the thread's last instruction still occupies, or that falls in the gap of R484, issues
nothing. -/
def execPoolSlotGrant (pipe : Fin 2) (s : State) : Host.Outcome State Fault Refusal :=
  if !s.planLive || !(decide (Mode.standby ≤ s.mode ∧ s.mode ≤ Mode.drain) || s.mode == Mode.safe) then done s else
  match s.poolCyc pipe with
  | none => done s
  | some c =>
    let s1 := (s.passFt (2 * c)).modBtp fun b =>
      { b with nextCyc := kset 0 b.nextCyc pipe (c + 1), granted := kset 0 b.granted pipe 0 }
    match s1.poolPick pipe with
    | none => done s1.traceFill
    | some t =>
      let h := kget (64 * pipe.val) s1.btp.holder pipe
      let s2 := if t = h then s1 else
        ((s1.modBtp fun b => { b with holder := kset (64 * pipe.val) b.holder pipe t }).modThread t fun x => { x with used := 0 }).count
          (Cnt.btp 2) 1
      let s3 := if s2.alertDue t then s2.takeAlert t else s2
      let x := s3.thread t
      let s4 := s3.modThread t fun y => { y with base := y.base + 1 }
      if x.base < x.own then done s4
      else if c < x.earliest then done (s4.count (Cnt.thread t 1) 1)
      else done (s4.modBtp fun b => { b with granted := kset 0 b.granted pipe (t + 1) })

/-! ## Multiplies (R485) -/

/-- Landings ordered by own slot, those of one slot in the order of issue. -/
def insLand (l : MqLand) : List MqLand → List MqLand
  | [] => [l]
  | y :: ys => if l.due < y.due then l :: y :: ys else y :: insLand l ys

/-- The landings due up to own slot `i` take place. -/
def Thread.landTo (x : Thread) (i : Nat) : Thread :=
  let due := (x.mqLand.filter fun l => decide (l.due ≤ i)).foldl (fun a l => insLand l a) []
  due.foldl (fun y l =>
    let old : BitVec 64 := kget 0 y.mq l.mq
    { y with mq := kset 0 y.mq l.mq (if l.acc then old + l.value else l.value) })
    { x with mqLand := x.mqLand.filter fun l => decide (i < l.due) }

/-- MQ_LANDING (R485): the next landing of thread `t`, at the start of its own slot. -/
def execMqLanding (t : Fin 128) (s : State) : Host.Outcome State Fault Refusal :=
  let x := s.thread t
  match (x.mqLand.foldl (fun a l => insLand l a) []).head? with
  | none => done s
  | some l =>
    let slots := s.cfg.active.schedSlots t
    if slots.isEmpty then (if l.due < x.base then done (s.modThread t fun y => y.landTo l.due) else done s)
    else done ((s.passFt (2 * x.slotCyc slots l.due)).modThread t fun y => y.landTo l.due)

/-! ## Store drains (R522) -/

/-- STORE_DRAIN (R522): the oldest store of thread `t`, in the first cycle in which its bank's port is free. -/
def execStoreDrain (t : Fin 128) (s : State) : Host.Outcome State Fault Refusal :=
  match (s.thread t).stores with
  | [] => done s
  | (a, _) :: _ =>
    let busy := decide (a < 0x400000) &&
      (kget [] s.mem.lastAcc (pipeOf t)).any fun e => decide (e.cyc = s.cyc) && decide (e.word % 16 = a / 8 % 16)
    let c := if busy then s.cyc + 1 else s.cyc
    done ((s.passFt (2 * c)).drainOne t c)

/-! ## Frames taken back (R445, R516) -/

/-- The thread with a frame's registers; without PRIV, PRIV and SEC stay 0 (R516). -/
def Thread.unstack (x : Thread) (f : List Byte) : Thread :=
  let w (o n : Nat) : Nat := leNat ((f.drop o).take n)
  let sr := w 8 4 % 2 ^ 28
  let sr1 := if x.srb SR.priv then sr else putBits sr SR.priv 2 0
  { x with pc := BitVec.ofNat 17 (w 0 4), sr := BitVec.ofNat 32 sr1, lr := BitVec.ofNat 17 (w 0x20 4), sp := BitVec.ofNat 64 (w 0x28 8),
           vl := w 0x30 2, vstart := w 0x32 2, srNew := [], ans := [] }

/-! ## Thread commands (R438) -/

/-- The frame of a FAULTED thread: its bytes, and whether they are poisoned. -/
def State.frameOf (s : State) (t : Nat) : List Byte × Bool × State := s.tmemGet ((s.thread t).sp.toNat % 2 ^ 22) 64

/-- RESUME: the frame is unstacked. -/
def State.resumeThread (s : State) (t : Nat) : State :=
  let (f, bad, s1) := s.frameOf t
  if bad then s1.enter t true { cause := TC.poison, flags := 0, event := 0, addr := (s1.thread t).sp.toNat }
  else s1.modThread t fun x => { x.unstack f with st := TST.ready }

/-- RESUME_ALERT: the handler of the frame's cause is entered. -/
def State.resumeAlert (s : State) (t : Nat) : State :=
  let (f, _, s1) := s.frameOf t
  s1.modThread t fun x =>
    { (x.setSrb SR.al true).setSrb SR.ae false with
      st := TST.ready, pc := BitVec.ofNat 17 (s.vecBase t + 8 * leNat ((f.drop 0x10).take 1)) }

/-- A thread command on the selected thread; `false` where it is refused. -/
def State.thCommand (s : State) (cmd : Nat) : Bool × State :=
  let t := s.f F.BTP_TH_SEL_T
  let st := s.thState t
  let live := st == TST.ready || st == TST.blocked || st == TST.hmpWait
  match cmd with
  | 1 => (live, (s.leaveWait t).modThread t fun x => { x with
      st := TST.stopped, ans := [], pendingWr := 0, gen := x.gen + 1, waitSince := s.now })
  | 2 => (st == TST.stopped || st == TST.faulted || st == TST.doubleFault, s.resetThread t s.cfg.active TST.ready)
  | 3 => (st == TST.faulted, s.resumeThread t)
  | 4 => (st == TST.faulted && s.tflag t TF.handler, s.resumeAlert t)
  | 5 => (st != TST.none, s.resetThread t s.cfg.active TST.stopped)
  | 6 => (live, s.haltThread t)
  | 7 => (st == TST.halted, (s.modThread t fun x => { x with st := x.prev, skipMatch := true, modeHalt := false }).refreshHalt)
  | _ => (false, s)

/-- A write of BTP_TH_CMD: threads other than T0 are refused. A CMD of 0 is no command (log entry 25). -/
def State.thCtrl (s : State) (src : RegSrc) (data : Nat) : State :=
  let s1 := if Nat.testBit data 4 then s.setB F.BTP_TH_CMD_ERR false else s
  let cmd := data % 16
  let allowed := match src with
    | .thread t => t.val == 0
    | _ => true
  if cmd = 0 then s1 else
  let (ok, s2) := s1.thCommand cmd
  if allowed && ok then s2 else s1.hit F.BTP_TH_CMD_ERR

/-! ## Lamps (R457 to R459) -/

/-- Lamp `l` passes to thread `t`, whose TAKE completes; a halted thread's completes when it runs again. -/
def State.passLamp (s : State) (l t : Nat) : State :=
  let s1 := (s.setLamp l { owner := some t, waiters := (s.lamp l).waiters.filter fun u => u != t }).count (Cnt.btp 4) 1
  if (s1.thread t).st = TST.halted then s1.modThread t fun x => { x with prev := TST.ready } else s1.finishInstr t

/-- Lamp `l` is returned. -/
def State.returnLamp (s : State) (l : Nat) : State :=
  match (s.lamp l).waiters with
  | t :: _ => s.passLamp l t
  | [] => s.setLamp l { owner := none, waiters := [] }

/-- SCAN (R470): the next lamp of SCAN_T above LAMP, wrapping once through 0. -/
def State.scanLamp (s : State) : State :=
  let l := s.f F.BTP_LAMP_SEL_LAMP
  let mine := s.lampsOf (s.f F.BTP_LAMP_SEL_SCAN_T)
  match (mine.find? fun m => decide (l < m)), mine.head? with
  | some m, _ => (s.setF F.BTP_LAMP_SEL_LAMP m).setB F.BTP_LAMP_CMD_NONE false
  | none, some m => (s.setF F.BTP_LAMP_SEL_LAMP m).setB F.BTP_LAMP_CMD_NONE false
  | none, none => s.setB F.BTP_LAMP_CMD_NONE true

/-- A write of BTP_LAMP_CMD. -/
def State.lampCtrl (s : State) (src : RegSrc) (data : Nat) : State :=
  let s1 := if Nat.testBit data 3 then s.setB F.BTP_LAMP_CMD_ERR false else s
  let allowed := match src with
    | .thread t => t.val == 0
    | _ => true
  if data % 4 = 0 then s1 else
  if !allowed then s1.hit F.BTP_LAMP_CMD_ERR else
  let l := s1.f F.BTP_LAMP_SEL_LAMP
  let s2 := if Nat.testBit data 0 then
      (if (s1.lamp l).owner.isSome then s1.returnLamp l else s1.hit F.BTP_LAMP_CMD_ERR)
    else s1
  if Nat.testBit data 1 then s2.scanLamp else s2

/-! ## Channels as threads use them (R451 to R453) -/

/-- Threads that wait to read, and to write, channel `ch`. -/
def State.readersOf (s : State) (ch : Nat) : List Nat :=
  (s.chan ch).waiters.filter fun t => match (s.thread t).wait with
    | .chanRead _ _ => true
    | _ => false
def State.writersOf (s : State) (ch : Nat) : List Nat :=
  (s.chan ch).waiters.filter fun t => match (s.thread t).wait with
    | .chanWrite _ _ _ => true
    | _ => false

/-- Thread `t` may read a word of channel `ch` now: it holds it or nobody does and it has waited longest, and the word was
written four CK_THR cycles ago. -/
def State.chanReadable (s : State) (ch t : Nat) : Bool :=
  let c := s.chan ch
  let turn := match c.rhold with
    | some h => h == .thread t
    | none => match s.readersOf ch with
      | u :: _ => u == t
      | [] => true
  turn && (match c.words with
    | w :: _ => decide (w.at_ + 4 ≤ s.thr)
    | [] => false)

/-- Thread `t` may write a word to channel `ch` now: hardware writers that wait are served before threads (R452). -/
def State.chanWritable (s : State) (ch t : Nat) : Bool :=
  let c := s.chan ch
  let turn := match c.whold with
    | some h => h == .thread t
    | none => c.hw.isEmpty && match s.writersOf ch with
      | u :: _ => u == t
      | [] => true
  turn && (decide (c.words.length < 4) || c.dropping)

/-- A thread blocked on a channel or an event can go on. -/
def State.waitOver (s : State) (t : Nat) : Bool :=
  match (s.thread t).wait with
  | .chanRead ch _ => s.chanReadable ch t
  | .chanWrite ch _ _ => s.chanWritable ch t
  | .event w _ => (s.threadEvent t (if w = 0 then none else some w)).isSome
  | _ => false

/-! ## The all-blocked detector (R461) -/

/-- ALLBLOCK_DETECT (R461). -/
def execAllblockDetect (s : State) : Host.Outcome State Fault Refusal :=
  match s.btp.blockedSince with
  | none => done s
  | some t0 =>
    if !s.btp.allArmed then done s else
    let s1 := s.passTo (t0 + ctlCycles * s.f F.BTP_DLK_WINDOW)
    done ((((s1.modBtp fun b => { b with allArmed := false }).hit F.BTP_STAT_ALLBLOCK).count (Cnt.btp 7) 1).raise EV.allblock)

/-! ## What the registers show (R468 to R472) -/

/-- BTP_TH_STAT and BTP_TH_PC. -/
def State.viewThStat (s : State) : Word :=
  let t := s.f F.BTP_TH_SEL_T
  let x := s.thread t
  if !s.tflag t TF.exists_ then BitVec.ofNat 32 (2 ^ 4 * pipeOf t) else
  BitVec.ofNat 32 (x.st.toNat + 2 ^ 3 * b2n (s.isSched t) + 2 ^ 4 * pipeOf t + 2 ^ 5 * b2n (x.srb SR.al) +
    2 ^ 8 * s.weight t + 2 ^ 24 * x.cause.toNat)
def State.viewThPc (s : State) : Word := BitVec.ofNat 32 (s.thread (s.f F.BTP_TH_SEL_T)).pc.toNat

/-- BTP_FLOG_Di: the oldest entry. -/
def State.viewFlog (s : State) (i : Nat) : Word :=
  match s.btp.flog with
  | [] => 0
  | e :: _ =>
    if i = 0 then BitVec.ofNat 32 (e.thread + 2 ^ 7 * b2n e.df + 2 ^ 8 * e.cause.toNat + 2 ^ 16 * e.lamps + 2 ^ 31)
    else if i = 1 then BitVec.ofNat 32 e.pc.toNat
    else BitVec.ofNat 32 (e.addr.toNat / 2 ^ (32 * (i - 2)))

/-- BTP_LAMP_STAT. -/
def State.viewLamp (s : State) : Word :=
  let l := s.lamp (s.f F.BTP_LAMP_SEL_LAMP)
  BitVec.ofNat 32 (l.owner.getD 0 + 2 ^ 7 * b2n l.owner.isSome + 2 ^ 8 * min 127 l.waiters.length)

def holderThread : Option Holder → Nat
  | some (.thread t) => t
  | _ => 0
def holderHw : Option Holder → Bool
  | some .hw => true
  | _ => false

/-- BTP_CH_STAT. -/
def State.viewChan (s : State) : Word :=
  let c := s.chan (s.f F.BTP_CH_SEL_CH)
  BitVec.ofNat 32 (min 4 c.words.length + 2 ^ 3 * b2n c.whold.isSome + 2 ^ 4 * b2n c.rhold.isSome + 2 ^ 5 * b2n (holderHw c.whold) +
    2 ^ 6 * b2n (holderHw c.rhold) + 2 ^ 8 * holderThread c.whold + 2 ^ 16 * holderThread c.rhold + 2 ^ 23 * min 127 c.waiters.length)

/-- Who holds what a wait is for: for a channel, the other side's holder where its own side is free. -/
def State.waitHolder (s : State) (t : Nat) (w : Wait) : Option Holder :=
  let other (h : Option Holder) : Option Holder := if h = some (.thread t) then none else h
  match w with
  | .chanRead ch _ => (other (s.chan ch).rhold).or (s.chan ch).whold
  | .chanWrite ch _ _ => (other (s.chan ch).whold).or (s.chan ch).rhold
  | .lamp l => (s.lamp l).owner.map fun o => Holder.thread o
  | _ => none

/-- BTP_WAITFOR_t (R472). -/
def State.viewWaitFor (s : State) (t : Nat) : Word :=
  let x := s.thread t
  if !s.tflag t TF.exists_ then 0 else
  let age := min 255 (Nat.log2 ((s.now - x.waitSince) / ctlCycles))
  if x.st = TST.halted ∨ x.st = TST.faulted ∨ x.st = TST.doubleFault ∨ x.st = TST.stopped then BitVec.ofNat 32 (6 + 2 ^ 24 * age) else
  let h := s.waitHolder t x.wait
  let word (kind obj : Nat) : Word :=
    BitVec.ofNat 32 (kind + 2 ^ 3 * obj + 2 ^ 15 * holderThread h + 2 ^ 22 * b2n (h.isSome && !holderHw h) + 2 ^ 23 * b2n (holderHw h) +
      2 ^ 24 * age)
  match x.st, x.wait with
  | 3, _ => word 5 0
  | 2, .chanRead ch _ => word 1 ch
  | 2, .chanWrite ch _ _ => word 2 ch
  | 2, .lamp l => word 3 l
  | 2, .event w _ => word 4 w
  | _, _ => 0

end Sys2Proof.Machine
end

