-- ==== Sys2Proof/Machine/CsrBase.lean ====
section
/-! DEFINITION. The end of a register access at its source (R601, R602, R517, R684), the memory windows (R292, R523, R531), and
what happens to thread memory and the secure partition from outside (R528 to R535). -/

namespace Sys2Proof.Machine

/-! ## Accesses -/

/-- The result of an access: data, error status, and the state after it. -/
structure Acc where
  data : Word
  err : Bool
  s : State

/-- An access ends at its source: at the port (R601, R602), in the debug module (R684), or in a thread's register, which its
REG writes. -/
def State.endAcc (s : State) (src : RegSrc) (data : Word) (err : Bool) : State :=
  match src with
  | .csp => (if err && s.crp.mainUp then s.hit F.GLB_PORT_STAT_CSP_ERR else s).emit (.cspAck data err)
  | .debug =>
    let s1 := { s with dbg := { s.dbg with rdata := data, accErr := err } }
    if err then s1.hit F.DBG_STAT_ACC_ERR else s1
  | .thread _ => s

/-- Whether another source's write fell in the present CK_CTL cycle. -/
def State.writeClash (s : State) (src : RegSrc) : Bool :=
  match s.cfg.wrAt with
  | some (o, c) => c == s.ctlCyc && o != src
  | none => false

/-- A write of `src` to any offset breaks an unlock sequence that has begun, or that another source ended in this CK_CTL
cycle (R138). -/
def State.noteWrite (s : State) (src : RegSrc) : State :=
  let e := match s.cfg.expert with
    | .first _ => ExpertLock.locked
    | .unlocked c => if c = s.ctlCyc && s.writeClash src then .locked else .unlocked c
    | .locked => .locked
  { s with cfg := { s.cfg with expert := e, wrAt := some (src, s.ctlCyc) } }

/-- A write of `v` to GLB_CTRL.EXPERT (R138, R139). -/
def State.expertWrite (s : State) (src : RegSrc) (v : Nat) : State :=
  let clash := s.writeClash src
  let start := if v = 0x3C5A && !clash then ExpertLock.first s.ctlCyc else .locked
  let e := match s.cfg.expert with
    | .first c => if v = 0xA5C3 && decide (s.ctlCyc ≤ c + 256) && !clash then .unlocked s.ctlCyc else start
    | .unlocked c => if v = 0 || (decide (c = s.ctlCyc) && clash) then .locked else .unlocked c
    | .locked => start
  { s with cfg := { s.cfg with expert := e, wrAt := some (src, s.ctlCyc) } }

/-- The size or alignment of an access is not that of a register (R21, R602). -/
def badSize (size off : Nat) : Bool := size != 2 || off % 4 != 0

/-- Registers that the headframe serves while MAIN is off or in reset (R646); an offset that no region table assigns is none. -/
def headServed (off : Nat) : Bool :=
  (regAt off).isSome && (decide (off < 8) || decide (0x10000 ≤ off ∧ off < 0x1002C) || off == 0x20028 || off == 0x20030 ||
    decide (0x20100 ≤ off ∧ off < 0x20200) || off == R.MEM_SEC_STAT || off == R.MEM_LC_STAT || off == R.VWK_CFG || off == R.VWK_CHAIN ||
    off == R.VWK_CTRL || off == R.VWK_STAT || decide (R.TMm_CTRL 14 ≤ off ∧ off < R.TMm_CTRL 15 + 0x20))

/-- The absent response (R646), and the error response with data zero (R21). -/
def absent (s : State) : Acc := { data := 0xFFFFFFFF, err := true, s := s }
def refusedAcc (s : State) : Acc := { data := 0, err := true, s := s }

/-- An access in the staging memory window at `x` (R292). -/
def State.stagingWindow (s : State) (x : Nat) (wr : Option Word) : Acc :=
  if s.flag F.MEM_STAT_WAKE_S then refusedAcc s else
  let a := (s.f F.STR_SWIN_BASE * 2 ^ 22 + x) % 2 ^ 26
  match wr with
  | some w => { data := 0, err := false, s := s.smemPut a (natLe 4 w.toNat) false .csp }
  | none =>
    let (bs, bad, s1) := s.smemGet a 4 .csp
    { data := BitVec.ofNat 32 (leNat bs), err := bad, s := s1 }

/-- An access in the thread memory window at `x` (R523, R527, R529, R531). -/
def State.tmemWindow (s : State) (x : Nat) (wr : Option Word) : Acc :=
  if s.flag F.MEM_STAT_WAKE_T || decide (x ≥ secBase) then refusedAcc s else
  match wr with
  | some w => { data := 0, err := false, s := s.tmemPut x (natLe 4 w.toNat) }
  | none =>
    let (bs, bad, s1) := s.tmemGet x 4
    { data := BitVec.ofNat 32 (leNat bs), err := bad, s := s1 }

/-- Whether the debug module's access is barred by the lifecycle state (R686). -/
def State.dbgBarred (s : State) (src : RegSrc) : Bool := src == .debug && s.dbgLocked

/-- A window access of `src` with its checks: `win` is the window's own access. -/
def State.windowRow (s : State) (src : RegSrc) (a : WinAccess) (win : State → Nat → Option Word → Acc) : State :=
  if !s.crp.headOn then s.endAcc src 0xFFFFFFFF true else
  if s.dbgBarred src then s.endAcc src 0 true else
  let s1 := if a.wr.isSome then s.noteWrite src else s
  let r := if badSize a.size.toNat a.addr.toNat then refusedAcc s1
    else if !s1.crp.mainUp then absent s1
    else win s1 a.addr.toNat a.wr
  r.s.endAcc src r.data r.err

/-- STAGING_WINDOW_ACCESS (R292). -/
def execStagingWindowAccess (src : RegSrc) (acc : WinAccess) (s : State) : Host.Outcome State Fault Refusal :=
  done (s.windowRow src acc State.stagingWindow)

/-- TMEM_WINDOW_ACCESS (R523). -/
def execTmemWindowAccess (src : RegSrc) (acc : WinAccess) (s : State) : Host.Outcome State Fault Refusal :=
  done (s.windowRow src acc State.tmemWindow)

/-! ## Thread memory by itself -/

/-- TMEM_SCRUB (R528), due every SCRUB_INT × 64 CK_THR cycles: the scrubber reaches no memory that is off, in reset or waking. -/
def execTmemScrub (s : State) : Host.Outcome State Fault Refusal :=
  if !s.flag F.MEM_CFG_SCRUB_EN || !s.crp.mainUp || s.flag F.MEM_STAT_WAKE_T then done s else
  let n := 64 * thrCycles * max 1 (s.f F.MEM_CFG_SCRUB_INT)
  done ((s.pass (n - s.sch.ft.toNat % n)).scrubThread)

/-! ## Tamper and lifecycle (R533 to R535) -/

/-- CK_CORE cycles of four REFCLK cycles, rounded up. -/
def ref4 : Nat := 52

/-- TAMPER_ASSERT (R534): taken after 4 REFCLK cycles. -/
def execTamperAssert (s : State) : Host.Outcome State Fault Refusal :=
  if s.flag F.MEM_SEC_STAT_TAMPER_IN || !s.crp.headOn then done s
  else done (((s.pass ref4).setB F.MEM_SEC_STAT_TAMPER_IN true).takeTamper)

/-- TAMPER_RELEASE (R534): the wipe's count begins. -/
def execTamperRelease (s : State) : Host.Outcome State Fault Refusal :=
  if !s.flag F.MEM_SEC_STAT_TAMPER_IN then done s else
  let s1 := s.setB F.MEM_SEC_STAT_TAMPER_IN false
  done (if s1.flag F.MEM_SEC_STAT_ACTIVE && s1.crp.mainUp then
    s1.modMem fun m => { m with wipeEnd := some (s1.now + 64000 * thrCycles) } else s1)

/-- A forward transition of the lifecycle state. -/
def lcForward (a b : Nat) : Bool :=
  (a == LC.blank && b == LC.provisioned) || (a == LC.provisioned && b == LC.deployed) || (a == LC.deployed && b == LC.return_) ||
    (b == LC.end_ && a != LC.end_)

/-- The presented lifecycle state becomes `v` (R535): a forward transition, or a tamper after which the block behaves as
END. A load under way ends (R117). -/
def State.lcChange (s : State) (v : Nat) : State :=
  let old := s.f F.MEM_LC_STAT_STATE
  let s1 := (s.setF F.MEM_LC_STAT_PREV old).setF F.MEM_LC_STAT_STATE v
  let s2 := if s1.loading then s1.failLoad (0x0E, none) else s1
  if lcForward old v && decide (v ≤ 4) then
    let s3 := ((s2.raise EV.lcChange).countWipe).hit F.MEM_SEC_STAT_LC_WIPE
    if s3.crp.mainUp then s3.startWipe else s3.clearPartition.modMem fun m => { m with wipeOwed := true }
  else ((s2.hit F.MEM_LC_STAT_BAD).setB F.MEM_LC_STAT_FORCED_END true).takeTamper

/-- LIFECYCLE_TRANSITION (R535): before the end of the lifecycle transfer of a POR the state presented is the one that the block
takes (R627). -/
def execLifecycleTransition (st : BitVec 3) (s : State) : Host.Outcome State Fault Refusal :=
  let first : Bool := match s.crp.seq with
    | some q => decide (q.kind = .por) && decide (q.step ≤ 2)
    | none => false
  if !s.crp.headOn || st.toNat == s.f F.MEM_LC_STAT_STATE then done s
  else if first then
    (if st.toNat ≤ 4 then done (s.setF F.MEM_LC_STAT_STATE st.toNat) else done ((s.pass ref4).lcChange st.toNat))
  else done ((s.pass ref4).lcChange st.toNat)

/-- SECURE_WIPE_END (R532). -/
def execSecureWipeEnd (s : State) : Host.Outcome State Fault Refusal :=
  match s.mem.wipeEnd with
  | none => done s
  | some t =>
    let s1 := s.passTo t
    done (((s1.setB F.MEM_SEC_STAT_ACTIVE false).modMem fun m => { m with wipeEnd := none }).raise EV.secWipe)

/-- MEMORY_WAKE (R529): thread memory or staging memory becomes accessible, whichever comes first. -/
def execMemoryWake (s : State) : Host.Outcome State Fault Refusal :=
  match s.mem.wakeT, s.mem.wakeS with
  | some t, _ => done (((s.passTo t).setB F.MEM_STAT_WAKE_T false).modMem fun m => { m with wakeT := none })
  | none, some t => done (((s.passTo t).setB F.MEM_STAT_WAKE_S false).modMem fun m => { m with wakeS := none })
  | none, none => done s

end Sys2Proof.Machine
end

