-- ==== Sys2Proof/Machine/Vowick.lean ====
section
/-! DEFINITION. The headframe's Vowick interface (R544 to R561). -/

namespace Sys2Proof.Machine

def State.modVwk (s : State) (f : VwkState → VwkState) : State := { s with vwk := f s.vwk }

/-- Tally states (R551). -/
def VT.unassigned : Nat := 0
def VT.claiming : Nat := 1
def VT.held : Nat := 2
def VT.released : Nat := 3

def State.vwkState (s : State) : Nat := s.f F.VWK_STAT_TSTATE
def State.tally (s : State) : Nat := s.f F.VWK_STAT_TALLY

/-- Commands (R550). -/
def VC.ping : Nat := 0
def VC.identReq : Nat := 1
def VC.ident : Nat := 2
def VC.claim : Nat := 3
def VC.release : Nat := 5
def VC.chain : Nat := 6
def VC.isUser (c : Nat) : Bool := decide (8 ≤ c ∧ c ≤ 14)
def VC.reserved (c : Nat) : Bool := c == 4 || c == 7 || c == 15

/-- `n` bit periods in CK_CORE cycles: 160 or 640 REFCLK cycles of 6.4 ns each (R544). -/
def State.vwkBits (s : State) (n : Nat) : Nat := n * (if s.flag F.VWK_CFG_SLOW then 640 else 160) * 64 / 5

/-- Data byte `i` of a frame. -/
def vwkByte (f : VwkFrame) (i : Nat) : Nat := bits f.data.toNat (8 * i) 8

/-- The CRC of a frame (R548), over DST to the last data bit. -/
def vwkCrc (f : VwkFrame) : Nat :=
  let h := 2 ^ 20 * f.dst.toNat + 2 ^ 8 * f.srcT.toNat + 2 ^ 4 * f.cmd.toNat + f.len.toNat
  crc8 0x07 0xFF ((natLe 4 h).reverse ++ (natLe 8 f.data.toNat).take f.len.toNat)

/-- A frame that a receiver takes (R549). -/
def vwkValid (f : VwkFrame) : Bool :=
  f.stop && decide (f.len.toNat ≤ 8) && f.crc.toNat == vwkCrc f && (f.srcT != 0 || f.cmd.toNat == VC.claim)

/-- A frame to send, its CRC in place and the bytes beyond LEN zero. -/
def vwkMake (dst src cmd len data : Nat) : VwkFrame :=
  let f : VwkFrame := { dst := BitVec.ofNat 12 dst, srcT := BitVec.ofNat 12 src, cmd := BitVec.ofNat 4 cmd, len := BitVec.ofNat 4 len,
                        data := BitVec.ofNat 64 (data % 2 ^ (8 * len)), crc := 0, stop := true }
  { f with crc := BitVec.ofNat 8 (vwkCrc f) }

/-- The secondary of a pair keeps off the bus in JOINED, FENCED and WAIT (R561). -/
def State.vwkOff (s : State) : Bool :=
  !s.crp.headOn || (s.secondary && (s.tnd? == TND.joined || s.tnd? == TND.fenced || s.tnd? == TND.wait))

/-- A sideband counter counts, while MAIN is powered (R583). -/
def State.sbCount (s : State) (c : Nat) : State := if s.crp.mainUp then s.count (Cnt.sbe c) 1 else s

/-- The frame at the front of those to send goes onto the bus, if none is there. -/
def State.vwkStart (s : State) : State :=
  if s.vwk.tx.isSome then s else
  match s.vwk.txq with
  | [] => s
  | (f, j) :: rest => (s.modVwk fun x => { x with tx := some (f, j), txq := rest, txAt := s.now }).emit (.vwkFrame f)

/-- A frame waits to be sent. -/
def State.vwkQueue (s : State) (f : VwkFrame) (j : VwkJob) : State :=
  (s.modVwk fun x => { x with txq := x.txq ++ [(f, j)] }).vwkStart

/-- Frames that wait to be sent are dropped: their SRC is a tally that the block has given up. One of software's ends with TX_ERR (log
entry 113). -/
def State.vwkDrop (s : State) : State :=
  let user := s.vwk.txq.any fun p => p.2 == .user
  let s1 := s.modVwk fun x => { x with txq := [] }
  if user then (s1.setB F.VWK_STAT_TX_BUSY false).hit F.VWK_STAT_TX_ERR else s1

/-! ## Claims (R551, R552) -/

/-- The CLAIM frame of the present candidate (R552): the nonce holds the endpoint ID and a count of REFCLK cycles. -/
def State.claimFrame (s : State) : VwkFrame :=
  let id := if s.crp.mainUp then s.epid else 0
  vwkMake 0 0 VC.claim 8 (s.vwk.cand.toNat + 2 ^ 16 * (id + 2 ^ 20 * (s.now * 5 / 64 % 2 ^ 28)))

/-- The CLAIM of the present candidate goes out. -/
def State.sendClaim (s : State) : State := s.vwkQueue s.claimFrame .claim

/-- A claim from its first step: idle bus, attach pulse, first candidate, CLAIM. A secondary in SOLO starts with the tally
that the pair held (R561). -/
def State.startClaim (s : State) (first : Nat) : State :=
  if s.vwkOff then s else
  let s1 := ((s.setF F.VWK_STAT_TSTATE VT.claiming).setF F.VWK_STAT_TALLY 0).pass (s.vwkBits 16)
  let s2 := ((s1.emit (.vwaLow true)).pass (s.vwkBits 8)).emit (.vwaLow (s.flag F.VWK_CTRL_ATTN))
  (s2.modVwk fun x => { x with cand := BitVec.ofNat 12 (if first = 0 then 1 else first), tried := 0 }).sendClaim

/-- CLAIM is written (R551). -/
def State.vwkClaimWrite (s : State) : State :=
  if s.vwkState = VT.unassigned ∨ s.vwkState = VT.released then s.startClaim (s.f F.VWK_CFG_PREF) else s

/-- The outcome of the CLAIM on the bus (R552). -/
def State.claimResult (s : State) (r : VwkTxEnd) : State :=
  match s.vwk.tx with
  | some (_, .claim) =>
    let s0 := s.modVwk fun x => { x with tx := none }
    match r with
    | .lostArbitration => s0.sendClaim
    | .acked =>
      let s1 := (s0.sbCount 0).modVwk fun x =>
        { x with tried := x.tried + 1, cand := if x.cand = 4095 then 1 else x.cand + 1 }
      if s1.vwk.tried ≥ 4095 then
        ((s1.setF F.VWK_STAT_TSTATE VT.unassigned).hit F.VWK_STAT_FULL).raise EV.vwkErr
      else s1.sendClaim
    | .notAcked =>
      (((s0.sbCount 0).setF F.VWK_STAT_TSTATE VT.held).setF F.VWK_STAT_TALLY s.vwk.cand.toNat).raise EV.vwkTally
  | _ => s

/-! ## Received frames -/

/-- A frame enters the receive FIFO, or is discarded (R558); a unicast frame is acknowledged only when it enters. -/
def State.vwkEnter (s : State) (f : VwkFrame) : State :=
  if s.crp.mainUp && decide (s.vwk.rxq.length < 8) then
    let s1 := (s.modVwk fun x => { x with rxq := x.rxq ++ [f] }).raise EV.vwkRx
    if f.dst = 0 then s1 else s1.emit (.vwkAck false)
  else
    let s1 := if s.crp.mainUp then (s.hit F.VWK_STAT_RX_OVF).sbCount 2 else s
    if f.dst = 0 then s1 else s1.emit (.vwkAck true)

/-- The data of the IDENT frame (R550): GLB_ID, most significant byte first, MAJOR, MINOR, mode, lifecycle state. -/
def State.identData (s : State) : Nat :=
  let id := (s.reg R.GLB_ID).toNat
  let rel := (s.reg R.GLB_REL).toNat
  leNat ((natLe 4 id).reverse ++ natLe 1 (bits rel 16 8) ++ natLe 1 (bits rel 8 8) ++ natLe 1 s.mode ++
    natLe 1 (s.f F.MEM_LC_STAT_STATE))

/-- A valid frame by its command (R550, R553, R555, R558, R560). -/
def State.vwkCommand (s : State) (f : VwkFrame) : State :=
  let mine := s.vwkState == VT.held && f.dst.toNat == s.tally && f.dst != 0
  let c := f.cmd.toNat
  if VC.reserved c then (s.sbCount 2)
  else if c = VC.ping then (if mine then s.emit (.vwkAck false) else s)
  else if c = VC.identReq then
    if mine then (s.emit (.vwkAck false)).vwkQueue (vwkMake f.srcT.toNat s.tally VC.ident 8 s.identData) .ident else s
  else if c = VC.claim then
    if s.vwkState = VT.held ∧ bits f.data.toNat 0 12 = s.tally then s.emit (.vwkAck false) else s
  else if c = VC.chain then
    let bcast := f.dst == 0 && s.flag F.VWK_CFG_CHAIN_BCAST
    let key := s.f F.VWK_CHAIN_KEY
    if !(mine || f.dst == 0) then s
    else if (mine || bcast) && s.flag F.VWK_CFG_CHAIN_EN && f.len == 2 && vwkByte f 0 == key / 256 && vwkByte f 1 == key % 256 then
      let s1 := if mine then s.emit (.vwkAck false) else s
      s1.modVwk fun x => { x with chainReq := true }
    else if s.crp.mainUp then s.hit F.VWK_STAT_CHAIN_BAD else s
  else
    let s1 := if c = VC.release then s.raise EV.vwkDetach else s
    if mine || (f.dst == 0 && s.flag F.VWK_CFG_RX_BCAST) then s1.vwkEnter f else s1

/-- A frame received (R549, R583). One with the block's own tally as its SRC is a conflict, after which the tally is given up (R554). -/
def State.vwkReceive (s : State) (f : VwkFrame) : State :=
  if s.vwkOff then s
  else if !vwkValid f then s.sbCount 2
  else
    let mine := s.vwkState == VT.held && f.dst.toNat == s.tally
    let s1 := (if mine || f.dst == 0 then s.sbCount 1 else s).vwkCommand f
    if s.vwkState = VT.held ∧ f.srcT.toNat = s.tally then
      (((s1.hit F.VWK_STAT_CONFLICT).raise EV.vwkErr).vwkDrop).startClaim (s.f F.VWK_CFG_PREF)
    else s1

/-! ## Sending (R557) -/

/-- SEND is written. -/
def State.vwkSend (s : State) : State :=
  let h := (s.reg R.VWK_TX_HDR).toNat
  let c := bits h 12 4
  let len := bits h 16 4
  if s.vwkState ≠ VT.held ∨ s.flag F.VWK_STAT_TX_BUSY ∨ c = VC.claim ∨ c = VC.release ∨ VC.reserved c ∨ len > 8 ∨ s.vwkOff then
    s.hit F.VWK_STAT_TX_ERR
  else
    (s.setB F.VWK_STAT_TX_BUSY true).vwkQueue
      (vwkMake (bits h 0 12) s.tally c len (s.reg64 R.VWK_TX_D0 R.VWK_TX_D1)) .user

/-- The frame on the bus ended (R557), or lost arbitration and goes out again (R547). -/
def State.vwkSent (s : State) (r : VwkTxEnd) : State :=
  match s.vwk.tx with
  | none => s
  | some (_, .claim) => s
  | some (f, job) =>
    match r with
    | .lostArbitration => s.emit (.vwkFrame f)
    | e =>
      let ack := e == .acked
      let s1 := (s.modVwk fun x => { x with tx := none }).sbCount 0
      let s2 := if f.dst ≠ 0 && !ack then s1.sbCount 2 else s1
      let s3 := match job with
        | .user =>
          let a := (s2.setB F.VWK_STAT_TX_BUSY false).raise EV.vwkTx
          if f.dst = 0 then a else if ack then a.hit F.VWK_STAT_TX_DONE else a.hit F.VWK_STAT_TX_NAK
        | .release =>
          (((s2.setF F.VWK_STAT_TSTATE VT.released).setF F.VWK_STAT_TALLY 0).emit .vwkRelease).vwkDrop
        | _ => s2
      s3.vwkStart

/-- A frame that has not won the bus within 4,096 bit periods is dropped (R557). -/
def State.vwkTimeout (s : State) : State :=
  match s.vwk.tx with
  | some (_, .user) =>
    let s1 := s.passTo (s.vwk.txAt + s.vwkBits 4096)
    (((s1.modVwk fun x => { x with tx := none }).setB F.VWK_STAT_TX_BUSY false).hit F.VWK_STAT_TX_ERR).vwkStart
  | _ => s

/-- DETACH is written (R555): a HELD block sends RELEASE, once. -/
def State.vwkDetachWrite (s : State) : State :=
  let owed := (s.vwk.tx.toList ++ s.vwk.txq).any fun p => p.2 == .release
  if s.vwkState = VT.held && !s.vwkOff && !owed then s.vwkQueue (vwkMake 0 s.tally VC.release 0 0) .release else s

/-- The block holds VWA low or releases it (R556). -/
def State.vwkAttnWrite (s : State) (v : Bool) : State :=
  if s.flag F.VWK_CTRL_ATTN = v then s else
  let s1 := s.setB F.VWK_CTRL_ATTN v
  if s.vwkOff then s1 else s1.emit (.vwaLow v)

/-- A write of VWK_CTRL (R585). -/
def State.vwkCtrl (s : State) (data : Nat) : State :=
  let s1 := s.vwkAttnWrite (Nat.testBit data 3)
  let s2 := if Nat.testBit data 0 then s1.vwkSend else s1
  let s3 := if Nat.testBit data 1 then s2.vwkClaimWrite else s2
  if Nat.testBit data 2 then s3.vwkDetachWrite else s3

/-- A low level on VWA of `n` bit periods has ended (R556). -/
def State.vwaEnd (s : State) (n : Nat) : State :=
  let s1 := if 4 ≤ n ∧ n ≤ 32 then s.raise EV.vwkAttach else if n ≥ 64 && !s.vwk.attnSeen then s.raise EV.vwkAttn else s
  s1.modVwk fun x => { x with attnSeen := false }

/-- VWA has been low for 64 bit periods (R556). -/
def State.vwaAttention (s : State) : State :=
  if s.vwk.attnSeen then s else (s.raise EV.vwkAttn).modVwk fun x => { x with attnSeen := true }

/-- VWC has stayed low for more than 1,024 bit periods (R545). -/
def State.vwkStuckLow (s : State) : State := ((s.emit .vwkRelease).hit F.VWK_STAT_STUCK).raise EV.vwkErr

end Sys2Proof.Machine
end

