-- ==== Sys2Proof/Machine/TandemRows.lean ====
section
/-! DEFINITION. The commands of the tandem port (R399 to R414). The contents of TRAIN and CONTROL words, which the spec leaves
open, are those of log entry 14. -/

namespace Sys2Proof.Machine

def State.modTnd (s : State) (f : TndState → TndState) : State := { s with tnd := f s.tnd }
def State.setTndState (s : State) (v : Nat) : State := s.setF F.GLB_TND_STAT_STATE v

/-- Codes of TRAIN words: the request for an echo, the echo, the report that the sender has measured. -/
def TW.request : Nat := 1
def TW.echo : Nat := 2
def TW.done : Nat := 3

/-- A TRAIN word leaves: its code, and whether this block has measured. -/
def State.sendTrain (s : State) (code : Nat) : State := s.sendTandem TK.train (code + 2 ^ 8 * b2n s.tnd.measured)

/-- The request for an echo leaves. -/
def State.askEcho (s : State) : State := (s.modTnd fun x => { x with sent := some s.now }).sendTrain TW.request

/-- The port leaves OFF for TRAIN when it may (R401). -/
def State.tandemBegin (s : State) : State :=
  if s.tandemImage && s.flag F.GLB_TND_CTRL_EN && s.tnd? == TND.off then
    ((s.setTndState TND.train).modTnd fun x => { x with measured := false, pMeasured := false, agreed := false }).askEcho
  else s

/-- The groups that may train now leave OFF (R403). -/
def State.startGroups (s : State) : State := (List.range 8).foldl (fun a g => a.pollOff g) s

/-- The tally that the pair answers to, as this block knows it. -/
def State.pairTally (s : State) : Nat := if s.secondary then s.tnd.tally.toNat else s.tally

/-- The values compared in JOIN (R402): plan ID, K, endpoint, latencies, role; whether the sender is in SOLO; whether it has
agreed; the tally. -/
def State.joinArgs (s : State) (agree : Bool) : Nat :=
  s.planId + 2 ^ 64 * s.k + 2 ^ 72 * s.epid + 2 ^ 96 * s.f F.GLB_TND_LAT_TX_DECL + 2 ^ 104 * s.f F.GLB_TND_LAT_RX_DECL +
    2 ^ 112 * b2n (s.flag F.GLB_TND_STAT_ROLE) + 2 ^ 113 * b2n (s.tnd? == TND.solo) + 2 ^ 114 * b2n agree + 2 ^ 128 * s.pairTally

/-- JOIN begins when both ends have measured. -/
def State.tandemMeasured (s : State) : State :=
  if s.tnd? = TND.train && s.tnd.measured && s.tnd.pMeasured then
    let s1 := s.setTndState TND.join
    s1.sendControl CW.join (s1.joinArgs false)
  else s

/-- SOLO is entered (R411, R413): a secondary's servo starts again in FREE and its claim begins with the pair's tally
(R561). PCAUSE is zero from then on (log entry 114). -/
def State.enterSolo (s : State) : State :=
  let s1 := ((s.setTndState TND.solo).setF F.GLB_TND_STAT_PCAUSE 0).raise EV.tndSolo
  let s2 := if s1.secondary then
      (((s1.setServo TL.free).lockCause s1).modSch fun x => { x with standbyExpired := false }).startClaim s1.tnd.tally.toNat
    else s1
  s2.startGroups

/-- TND_LIVE_I has been low for TAKE_DELAY (R411). -/
def State.takeDue (s : State) : Option Nat :=
  if s.secondary && Nat.testBit (s.cfg.active.rd ST.tandem 0 1 1) 0 then
    s.tnd.fell.map fun t => t + s.cfg.active.rd ST.tandem 0 8 4 * usCycles
  else none

/-- The tandem is lost (R408, R411, log entry 114). -/
def State.tandemLost (s : State) : State :=
  let s0 := if s.secondary then ((s.servoMiss 8).servoMiss 8).lockCause s else s
  let s1 := s0.raise EV.tndLost
  if !s1.secondary then s1.enterSolo else
  let s2 := (s1.setTndState TND.fenced).setF F.GLB_TND_STAT_PCAUSE 0
  let s3 := if s2.flag F.GLB_TND_STAT_LIVE_IN then s2.raise EV.tndSplit else s2
  match s3.takeDue with
  | some t => if t ≤ s3.now then (s3.pass 1).enterSolo else s3
  | none => s3

/-- The pair is joined (R403): marks are expected from the next epoch on. -/
def State.tandemJoin (s : State) : State :=
  (((s.setTndState TND.joined).modTnd fun x => { x with lastMark := BitVec.ofNat 64 (s.sch.ft.toNat / 4096 * 4096) }).raise
    EV.tndJoin).startGroups

/-! ## Words received -/

/-- Whether a received word is taken as one of `kind`; a bad one sets LINK_ERR (R400, R622). -/
def State.tndWord (s : State) (w : TndWord) (kind : Nat) : Bool × State :=
  if !s.crp.mainUp || !s.flag F.GLB_TND_STAT_LIVE_IN || s.tnd? == TND.off then (false, s)
  else if w.crc.toNat ≠ tndCrc w.kind.toNat w.data.toNat || decide (w.kind.toNat > 4) then (false, s.hit F.GLB_TND_STAT_LINK_ERR)
  else (decide (w.kind.toNat = kind), s)

/-- TANDEM_BAD_WORD (R400). -/
def execTandemBadWord (w : TndWord) (s : State) : Host.Outcome State Fault Refusal := done (s.tndWord w 8).2

/-- The echo measures the round trip (R402, R622): 4 cycles to the pins, 10 from them, and the partner's turnaround of 16 are
removed. -/
def State.takeEcho (s : State) : State :=
  match s.tnd.sent with
  | none => s
  | some t =>
    if s.tnd? ≠ TND.train then s else
    let rtt := s.now - t - 30
    let decl := s.f F.GLB_TND_LAT_TX_DECL + s.f F.GLB_TND_LAT_RX_DECL
    let s1 := s.setF F.GLB_TND_LAT_RTT (min 255 rtt)
    if rtt ≤ decl + 1 ∧ decl ≤ rtt + 1 then
      ((s1.modTnd fun x => { x with measured := true, sent := none }).sendTrain TW.done).tandemMeasured
    else (s1.hit F.GLB_TND_STAT_LAT_ERR).askEcho

/-- TANDEM_TRAIN_WORD (R402). -/
def execTandemTrainWord (w : TndWord) (s : State) : Host.Outcome State Fault Refusal :=
  let (ok, s0) := s.tndWord w TK.train
  if !ok then done s0 else
  let code := bits w.data.toNat 0 8
  let s1 := s0.modTnd fun x => { x with pMeasured := x.pMeasured || Nat.testBit w.data.toNat 8 || s0.tnd? == TND.solo }
  done (if code = TW.request then (s1.sendTrain TW.echo).tandemMeasured else if code = TW.echo then s1.takeEcho else s1.tandemMeasured)

/-- A partner's join word (R402, R403): in JOIN it is compared; a block in SOLO answers with its state. -/
def State.takeJoin (s : State) (a : Nat) : State :=
  let s0 := if s.secondary then s.modTnd fun x => { x with tally := BitVec.ofNat 12 (bits a 128 12) } else s
  if s0.tnd? = TND.solo then s0.sendControl CW.join (s0.joinArgs false)
  else if s0.tnd? ≠ TND.join then s0
  else if Nat.testBit a 113 then s0.setTndState TND.wait
  else
    let same := bits a 0 64 == s0.planId && bits a 64 8 == s0.k && bits a 72 20 == s0.epid &&
      bits a 96 8 == s0.f F.GLB_TND_LAT_RX_DECL && bits a 104 8 == s0.f F.GLB_TND_LAT_TX_DECL &&
      bits a 112 1 != b2n (s0.flag F.GLB_TND_STAT_ROLE)
    if !same then s0.hit F.GLB_TND_STAT_JOIN_ERR else
    let s1 := if s0.tnd.agreed then s0 else (s0.modTnd fun x => { x with agreed := true }).sendControl CW.join (s0.joinArgs true)
    if Nat.testBit a 114 then s1.tandemJoin else s1

/-- TANDEM_CONTROL_RECEIVE (R403, R406, R407, R410). -/
def execTandemControlReceive (w : TndWord) (s : State) : Host.Outcome State Fault Refusal :=
  let (ok, s0) := s.tndWord w TK.control
  if !ok then done s0 else
  let d := w.data.toNat
  let code := bits d 0 8
  let a := d / 2 ^ 64
  let idPeer := bits a 0 32
  let v := BitVec.ofNat 32 (bits a 32 32)
  done (
    if code = CW.join then s0.takeJoin a
    else if code = CW.ready then s0.modTnd fun x => { x with
      pReady := Nat.testBit a 0, tally := if s0.secondary then BitVec.ofNat 12 (bits a 128 12) else x.tally }
    else if s0.tnd? ≠ TND.joined then s0
    else if code = CW.cancel then s0.cancelSwap
    else if code = CW.id then s0.modPeer idPeer fun p => { p with pLast := v, pSeen := true }
    else if code = CW.ackLow then s0.modPeer idPeer fun p => { p with pAckLow := v, pAckSeen := true }
    else s0)

/-- TANDEM_MARK_RECEIVE (R408, R409): the partner's causes; the secondary's servo follows it. `arr` is the arrival at the
TND_RX pins in phase units. -/
def execTandemMarkReceive (w : TndWord) (arr : BitVec 70) (s : State) : Host.Outcome State Fault Refusal :=
  let (ok, s0) := s.tndWord w TK.mark
  if !ok || s0.tnd? != TND.joined then done s0 else
  let m := bits w.data.toNat 0 64
  let s1 := s0.passFt (arr.toNat / 64)
  let s2 := (s1.setF F.GLB_TND_STAT_PCAUSE (bits w.data.toNat 64 6)).modTnd fun x =>
    { x with lastMark := BitVec.ofNat 64 (4096 * s1.fullEpoch (mkEpoch m)) }
  if !s2.secondary then done s2 else
  done ((s2.takeAux 8 m).servoTake 8 m arr.toNat (s2.f F.GLB_TND_LAT_RX_DECL * 64 : Nat))

/-- TANDEM_SEGMENT_RECEIVE (R404, R405): a segment that the partner forwards reaches the queue engine. -/
def execTandemSegmentReceive (w : TndWord) (s : State) : Host.Outcome State Fault Refusal :=
  let (ok, s0) := s.tndWord w TK.segment
  if !ok || s0.tnd? != TND.joined then done s0 else
  done (s0.deliver (looseSeg 8 (bits w.data.toNat 1920 3) none true (BitVec.ofNat 1920 w.data.toNat)))

/-! ## Losing the tandem -/

/-- TANDEM_LOST (R408): due when the second mark in a row is missing. -/
def execTandemLost (s : State) : Host.Outcome State Fault Refusal :=
  if s.tnd? ≠ TND.joined then done s else
  done (s.passFt (s.tnd.lastMark.toNat + 2 * 4096 + s.f F.GLB_TND_LAT_RX_DECL)).tandemLost

/-- TANDEM_READY_FLAG (R410): due at B − 16,448. -/
def execTandemReadyFlag (s : State) : Host.Outcome State Fault Refusal :=
  if !s.tandemImage || !(s.tnd? == TND.joined || s.tnd? == TND.wait || s.tnd? == TND.solo) then done s else
  let n := (s.sch.ft.toNat + 16448 + s.shiftLen - 1) / s.shiftLen
  let s1 := s.passFt (n * s.shiftLen - 16448)
  let ready := decide (s1.cfg.armedFor = some n) && s1.staged == SG.armed
  done ((s1.modTnd fun x => { x with ready := ready }).sendControl CW.ready (b2n ready + 2 ^ 128 * s1.pairTally))

/-- TANDEM_LIVENESS_CHANGE (R411). -/
def execTandemLivenessChange (v : Bool) (s : State) : Host.Outcome State Fault Refusal :=
  if v = s.flag F.GLB_TND_STAT_LIVE_IN then done s else
  done ((s.setB F.GLB_TND_STAT_LIVE_IN v).modTnd fun x => { x with fell := if v then none else some s.now })

/-- TAKE_DELAY_EXPIRY (R411). -/
def execTakeDelayExpiry (s : State) : Host.Outcome State Fault Refusal :=
  if s.tnd? ≠ TND.fenced then done s else
  match s.takeDue with
  | some t => done (s.passTo t).enterSolo
  | none => done s

/-- A write of GLB_TND_CTRL: EN, and TAKEOVER with its key (R411, R416). EN cleared before the pair has joined returns the port
to OFF (log entry 24). -/
def State.tandemCtrl (s : State) (data : Word) : State :=
  let en := wb data F.GLB_TND_CTRL_EN
  let s1 := s.setB F.GLB_TND_CTRL_EN en
  let s2 := if !en && (s1.tnd? == TND.train || s1.tnd? == TND.join) then s1.setTndState TND.off else s1.tandemBegin
  if wb data F.GLB_TND_CTRL_TAKEOVER && wf data F.GLB_TND_CTRL_KEY == 0x5A17 && s2.tnd? == TND.fenced && s2.secondary then s2.enterSolo
  else s2

end Sys2Proof.Machine
end

