-- ==== Sys2Proof/Machine/Modes.lean ====
section
/-! DEFINITION. Operating modes: what the units do when the mode changes (R647, R652, R437), mode requests (R649), the fatal error
(R653), the end of DRAIN (R651), and the debug module's halt (R648, R687). -/

namespace Sys2Proof.Machine

def State.modCrp (s : State) (f : CrpState → CrpState) : State := { s with crp := f s.crp }

/-- Every group. -/
def State.allGroups (s : State) (f : State → Nat → State) : State := (List.range 8).foldl f s

/-- Threads of the active image that have not started start (R437, R647). -/
def State.startThreads (s : State) : State :=
  if !s.cfg.imageActive then s else
  (List.range 128).foldl (fun a t =>
    if a.tflag t TF.exists_ && !(a.thread t).started then a.modThread t fun x => { x with started := true } else a) s

/-- Every thread that can issue or waits is halted (R647). -/
def State.haltAll (s : State) : State :=
  let s1 := (List.range 128).foldl (fun (a : State) t =>
    let st := a.thState t
    if st == TST.ready || st == TST.blocked || st == TST.hmpWait then
      a.modThread t fun x => { x.halt a.now with modeHalt := true }
    else a) s
  s1.refreshHalt

/-- The threads that the HALT mode halted go on (R648). -/
def State.resumeAll (s : State) : State :=
  let s1 := (List.range 128).foldl (fun (a : State) t =>
    if (a.thread t).modeHalt then
      a.modThread t fun x => { x with st := if x.st = TST.halted then x.prev else x.st, skipMatch := true, modeHalt := false }
    else a) s
  s1.refreshHalt

/-- The mode becomes `m`, with what each unit does then: groups stop or train (R652), threads start (R437) or halt, drifts abort
(R647). -/
def State.enterMode (s : State) (m : Nat) : State :=
  let s1 := s.setMode m
  if m = Mode.standby ∨ m = Mode.reset ∨ m = Mode.load ∨ m = Mode.retain then s1.allGroups State.groupOff
  else if m = Mode.halt then (s1.haltAll).modCrp fun c => { c with haltMode := BitVec.ofNat 4 s.mode }
  else if m = Mode.safe then (if s.mode = Mode.halt then s1.resumeAll else s1).driftsSafe
  else
    let s2 := s1.allGroups fun a g => (a.pollOff g).pollSignal g
    if m = Mode.run then s2.startThreads.advanceAll
    else if m = Mode.drain then s2.modCrp fun c => { c with drainAt := s2.now }
    else s2

/-- A fatal error (R653): SAFE, FATAL and EV_SAFE. SAFE is entered from the modes that R648 names. -/
def State.fatalError (s : State) : State :=
  let m := s.mode
  let s1 := s.hit F.CRP_MODE_FATAL
  if (Mode.load ≤ m ∧ m ≤ Mode.drain) ∨ m = Mode.halt then (s1.enterMode Mode.safe).raise EV.safe else s1

/-- An uncorrectable error in the active half of plan memory (unit 1) or the instruction store (unit 2) is read (R653,
R683). -/
def State.planError (s : State) (u : Nat) : State :=
  match s.storeFaults.find? fun e => e.unit == u with
  | none => s
  | some e => ({ s with storeFaults := s.storeFaults.filter fun x => x != e }.logUe u e.index).fatalError

/-- Every drift is IDLE with no command held (R651). -/
def State.driftsIdle (s : State) : Bool := s.str.drifts.all fun e => e.2.held.isEmpty

/-- DRAIN has ended (R651). -/
def State.drained (s : State) : Bool :=
  (s.que.ctx.all fun e => s.qf e.1 QC.outst == 0) && (s.que.exec.all fun e => !e.rctx) && s.driftsIdle &&
    (List.range 8).all fun g => s.f (F.LNK_LGn_SEQ_UNACKED g) == 0

/-- DRAIN_COMPLETE (R651). -/
def execDrainComplete (s : State) : Host.Outcome State Fault Refusal :=
  if s.mode = Mode.drain && s.drained then done (s.enterMode Mode.standby) else done s

/-- DRAIN_TIMEOUT (R651): a TMO of 0 sets no limit. -/
def execDrainTimeout (s : State) : Host.Outcome State Fault Refusal :=
  let tmo := s.f F.CRP_DRAIN_TMO
  if s.mode ≠ Mode.drain ∨ tmo = 0 then done s else
  let s1 := s.passTo (s.crp.drainAt + tmo * usCycles)
  done ((s1.hit F.CRP_DRAIN_TMO_HIT).enterMode Mode.standby)

/-- From which modes R648 lets software request mode `r`; RUN needs the time lock in budget (R61). -/
def State.mayRequest (s : State) (r : Nat) : Bool :=
  let m := s.mode
  if r = Mode.standby then m == Mode.train || m == Mode.lock
  else if r = Mode.train then m == Mode.standby
  else if r = Mode.lock then m == Mode.train || m == Mode.run || m == Mode.degraded
  else if r = Mode.run then m == Mode.lock && s.inBudget
  else if r = Mode.drain then m == Mode.run || m == Mode.degraded
  else if r = Mode.retain then m == Mode.standby
  else if r = Mode.safe then decide (Mode.load ≤ m ∧ m ≤ Mode.drain) || m == Mode.halt
  else false

/-- The levels of the power handshake outputs leave (R599, R673). -/
def State.emitPower (s : State) : State :=
  s.emit (.power (s.flag F.CRP_PWR_STAT_MAIN_REQ) (s.flag F.CRP_PWR_STAT_RET_REQ) (s.flag F.CRP_DROOP_STAT_BOOST)
    (s.flag F.CRP_PWR_STAT_ISO_EN) (s.flag F.CRP_PWR_STAT_HMP_FLUSH))

/-- HALT of the debug module (R648, R687). -/
def State.debugHalt (s : State) : State :=
  let m := s.mode
  if s.dbgLocked then s
  else if (Mode.standby ≤ m ∧ m ≤ Mode.drain) ∨ m = Mode.safe then s.enterMode Mode.halt else s

/-- RESUME of the debug module: the mode held before the halt; of RUN and DEGRADED the degraded condition selects (R650). -/
def State.debugResume (s : State) : State :=
  if s.dbgLocked ∨ s.mode ≠ Mode.halt then s else
  let m := s.crp.haltMode.toNat
  let m1 := if m = Mode.run ∨ m = Mode.degraded then (if s.degradedCond then Mode.degraded else Mode.run) else m
  let s1 := s.setMode m1
  ((s1.allGroups fun a g => (a.pollOff g).pollSignal g).resumeAll).advanceAll

end Sys2Proof.Machine
end

