-- ==== Sys2Proof/Machine/XWrite.lean ====
section
/-! DEFINITION. What an expert register takes and does when its value is set, by a write (R18) or by an EXPERT entry (R111). -/

namespace Sys2Proof.Machine

/-- Index of the instance at `off` in a family of registers from `base` with a stride of `s1`. -/
def famIdx (base s1 off : Nat) : Nat := (off - base) / s1

/-- A field that holds a reserved encoding in `new` keeps its bits of `old` (R20). -/
def keepField (old new lo w : Nat) (ok : Nat → Bool) : Nat := if ok (bits new lo w) then new else putBits new lo w (bits old lo w)

/-- LNK_Ln_CTRL takes a value (R155, R206, R225): a lane excluded is treated as failed from now on. -/
def State.laneCtrl (s : State) (l new : Nat) : State :=
  let old := (s.reg (R.LNK_Ln_CTRL l)).toNat
  let s1 := (s.setReg (R.LNK_Ln_CTRL l) (BitVec.ofNat 32 new)).syncLane l
  if Nat.testBit new 0 && !Nat.testBit old 0 then s1.resolvePhys l else s1

/-- The value that an expert register at `off` shows to a write: the held copy of a pin engine where one is held (R573). -/
def State.xView (s : State) (off : Nat) : Nat :=
  if R.PEn_PROG 0 0 ≤ off ∧ off < R.PEn_PROG 0 0 + 0x4000 then
    let n := famIdx (R.PEn_PROG 0 0) 2048 off
    let w := (off - R.PEn_PROG n 0) / 4
    let p := (((s.pe n).held.map fun h => h.1).getD (s.pe n).prog)
    bits (kget 0 p (w / 2) : BitVec 64).toNat (32 * (w % 2)) 32
  else if R.PEn_BASE 0 ≤ off ∧ off < R.PEn_BASE 0 + 0x200 ∧ (off - R.PEn_BASE 0) % 64 = 0 then
    let n := famIdx (R.PEn_BASE 0) 64 off
    ((s.pe n).held.map fun h => h.2.toNat).getD (s.f (F.PEn_BASE_BOTTOM n))
  else (s.reg off).toNat

/-- The expert register at `off` takes `new`, and the actions of the WO bits `act` run. The answer says whether a write
completes with error status (R572). -/
def State.xPut (s : State) (off new act : Nat) : Bool × State :=
  let old := (s.reg off).toNat
  let put (v : Nat) : State := s.setReg off (BitVec.ofNat 32 v)
  if off = R.SCH_TL_CTRL then (false, if Nat.testBit act 0 then (put new).relock else put new)
  else if off = R.SCH_TL_CFG then (false, put (keepField old new 8 2 fun v => v != 3))
  else if off = R.CRP_DROOP_CFG then (false, put (keepField old new 0 8 fun v => decide (40 ≤ v ∧ v ≤ 150)))
  else if off = R.SBD_IO_CFG then (false, put (keepField old new 2 2 fun v => v != 3))
  else if R.LNK_Ln_CTRL 0 ≤ off ∧ off < R.LNK_Ln_CTRL 18 ∧ (off - R.LNK_Ln_CTRL 0) % 16 = 0 then
    (false, s.laneCtrl (famIdx (R.LNK_Ln_CTRL 0) 16 off) new)
  else if R.LNK_LGn_CFG 0 ≤ off ∧ off < R.LNK_LGn_CFG 8 ∧ (off - R.LNK_LGn_CFG 0) % 256 = 0 then
    (false, (put (keepField old (keepField old new 1 3 fun v => decide (v ≤ 4)) 4 2 fun v => v != 3)).syncLanes)
  else if R.LNK_LGn_CFG 0 ≤ off ∧ off < R.LNK_LGn_CFG 8 ∧ (off - R.LNK_LGn_CFG 0) % 256 = 12 then
    (false, put (keepField old new 16 2 fun v => decide (v ≤ 1)))
  else if R.SBD_PINSELi 0 ≤ off ∧ off < R.SBD_PINSELi 8 then (false, s.ownerSet (famIdx (R.SBD_PINSELi 0) 4 off) new)
  else if R.PEn_PROG 0 0 ≤ off ∧ off < R.PEn_PROG 0 0 + 0x4000 then
    let n := famIdx (R.PEn_PROG 0 0) 2048 off
    s.peProg n ((off - R.PEn_PROG n 0) / 4) new
  else if R.PEn_BASE 0 ≤ off ∧ off < R.PEn_BASE 0 + 0x200 then
    let n := famIdx (R.PEn_BASE 0) 64 off
    match off - R.PEn_BASE n with
    | 0 => s.peBase n new
    | 4 => s.pePinmap n false new
    | 8 => s.pePinmap n true new
    | _ => s.peDepth n new
  else (false, put new)

/-- An EXPERT entry (R111): the bits of `mask` at `off` take those of `value`, IMG fields included, and a 1 in a WO bit performs its
action. -/
def State.expertEntry (s : State) (off mask value : Nat) : State :=
  match regAt off with
  | none => s
  | some d =>
    let keep := (d.rw ||| d.img) &&& mask
    let old := s.xView off
    (s.xPut off (old - (old &&& keep) + (value &&& keep)) (value &&& mask &&& d.wo)).2

end Sys2Proof.Machine
end

