-- ==== Sys2Proof/Machine/Activate.lean ====
section
/-! DEFINITION. What an image does when it becomes active (R130, R135 to R137), at a first activation, at a swap, and at a
re-application (R657): the registers of its sections, its EXPERT entries, pin-engine programs, queues (R280), peers (R260),
threads (R427) and reduction entries (R387). -/

namespace Sys2Proof.Machine

/-- The IMG fields of group `g` take the values of its LINKS entry (R220); reserved bits stay 0 (R229). -/
def State.loadLink (s : State) (h : Half) (g : Nat) : State :=
  let e (o n : Nat) : Nat := h.rd ST.links 0 (0x40 * g + o) n
  let fl := e 0 1
  let cfg := bits fl 0 1 + 2 * bits (e 1 1) 0 3 + 2 ^ 4 * bits (e 2 1) 0 2 + 2 ^ 6 * bits fl 1 4 + 2 ^ 10 * bits (e 5 1) 0 2 +
    2 ^ 12 * bits (e 3 1) 0 4 + 2 ^ 16 * bits (e 4 1) 0 5
  let parm := putBits (e 0x28 4) 16 4 (s.f (F.LNK_LGn_PARM_FEC_MODE g))
  let s1 := ((s.setReg (R.LNK_LGn_CFG g) (BitVec.ofNat 32 cfg)).setReg (R.LNK_LGn_LAND g) (BitVec.ofNat 32 (putBits (e 0x14 4) 10 6 0))).setReg
    (R.LNK_LGn_PARM g) (BitVec.ofNat 32 parm)
  (List.range 8).foldl (fun a v => a.setF (F.LNK_LGn_CREDv_RX_POOL g v) (e (0x18 + 2 * v) 2)) s1

/-- The program store that a PINPROG section gives engine `n` (R566). -/
def Half.peStore (h : Half) (n : Nat) : KMap (BitVec 64) :=
  (List.range 256).filterMap fun i =>
    let v := h.rd ST.pinprog n (8 * i) 8
    if v = 0 then none else some (i, BitVec.ofNat 64 v)

/-- The EXPERT entries of a half, in list order (R111). -/
def State.applyExpert (s : State) (h : Half) : State :=
  let n := (h.bytes ST.expert 0).length / 16
  (List.range n).foldl (fun a i =>
    a.expertEntry (h.rd ST.expert 0 (16 * i) 4) (h.rd ST.expert 0 (16 * i + 4) 4) (h.rd ST.expert 0 (16 * i + 8) 4)) s

/-- The registers of the image's sections, its pin-engine programs and its EXPERT entries (R130, R135, R137, R657). -/
def State.applyImage (s : State) (h : Half) : State :=
  let s1 := match h.hdr with
    | none => s
    | some x => ((s.setReg64 R.SCH_PLAN_LO R.SCH_PLAN_HI x.planId.toNat).setF F.SCH_SHIFT_CFG_K x.k)
  let s2 := (s1.allGroups fun a g => a.loadLink h g).syncLanes
  let s3 := if (h.find ST.tandem 0).isSome then
      ((s2.setF F.GLB_TND_STAT_ROLE (h.rd ST.tandem 0 0 1)).setF F.GLB_TND_LAT_TX_DECL (h.rd ST.tandem 0 2 1)).setF F.GLB_TND_LAT_RX_DECL
        (h.rd ST.tandem 0 3 1)
    else s2
  let s4 := (List.range 8).foldl (fun a n => if (h.find ST.pinprog n).isSome then a.peImage n (h.peStore n) else a) s3
  s4.applyExpert h

/-! ## Queues and peers -/

/-- OWNER and CLASS of a queue in a QUEUES section (R234): those of the entry that covers it, 0 where none does. -/
def Half.queueClass (h : Half) (q : Nat) : Nat × Nat :=
  let n := (h.bytes ST.queues 0).length / 16
  let e (i o w : Nat) : Nat := h.rd ST.queues 0 (16 * i + o) w
  match (List.range n).find? fun i =>
      let c := e i 2 2
      decide (e i 0 2 ≤ q) && decide (q < e i 0 2 + (if c = 0 then 65536 else c)) with
  | some i => (e i 4 1 % 4, e i 5 1 % 8)
  | none => (0, 0)

/-- The partitions of a QUEUES section in order: first queue, number of queues, OWNER and CLASS (R234). -/
def Half.queueParts (h : Half) : List (Nat × Nat × Nat × Nat) :=
  (List.range ((h.bytes ST.queues 0).length / 16)).map fun i =>
    let e (o w : Nat) : Nat := h.rd ST.queues 0 (16 * i + o) w
    (e 0 2, if e 2 2 = 0 then 65536 else e 2 2, e 4 1 % 4, e 5 1 % 8)

/-- Contexts from queue `q` up to queue `e`, out of those in `ctx`, take OWNER and CLASS. The first argument bounds the steps. -/
def ownFrom (owner cls : Nat) : Nat → Nat → Nat → KMap (BitVec 512) → KMap (BitVec 512)
  | 0, _, _, ctx => ctx
  | fuel + 1, q, e, ctx =>
    if q ≥ e then ctx else
    let own (c : BitVec 512) : BitVec 512 := BitVec.ofNat 512 (putBits (putBits c.toNat 2 2 owner) 4 3 cls)
    match ctx with
    | [] => (q, own 0) :: ownFrom owner cls fuel (q + 1) e []
    | (k, c) :: rest =>
      if k < q then (k, c) :: ownFrom owner cls fuel q e rest
      else if k = q then (q, own c) :: ownFrom owner cls fuel (q + 1) e rest
      else (q, own 0) :: ownFrom owner cls fuel (q + 1) e ((k, c) :: rest)

/-- The contexts with OWNER and CLASS of the partitions (R235). -/
def loadOwners (h : Half) (ctx : KMap (BitVec 512)) : KMap (BitVec 512) :=
  let clear := (ctx.map fun e => (e.1, BitVec.ofNat 512 (putBits (putBits e.2.toNat 2 2 0) 4 3 0))).filter fun e => e.2 != 0
  h.queueParts.foldl (fun m p =>
    if p.2.2.1 = 0 ∧ p.2.2.2 = 0 then m else ownFrom p.2.2.1 p.2.2.2 (m.length + p.2.1 + 1) p.1 (p.1 + p.2.1) m) clear

/-- The queues take their OWNER and CLASS from the image; with `flush`, an enabled queue whose OWNER or CLASS changes is flushed
and sends SWAP_FLUSH (R280). -/
def State.loadQueues (s : State) (h : Half) (flush : Bool) : State :=
  let s1 := if !flush then s else
    s.que.ctx.foldl (fun a e =>
      let q := e.1
      if a.qflag q QC.en && h.queueClass q != (a.qf q QC.owner, a.qf q QC.cls) then
        let word (c : Nat × Nat) : Nat := c.1 + 2 ^ 8 * c.2
        (a.exception QX.swapFlush 0 q 0 0 (word (a.qf q QC.owner, a.qf q QC.cls)) (word (h.queueClass q))).flushQueue q
      else a) s
  s1.modQue fun x => { x with ctx := loadOwners h x.ctx }

/-- The peers that the preload creates (R260): at the first activation after a reset. -/
def State.preloadPeers (s : State) (h : Half) : State :=
  let tx : BitVec 32 := if s.tandemImage && s.flag F.GLB_TND_STAT_ROLE then 1 else 0
  let n := min 4096 (s.f F.QUE_PEER_CFG_MAX)
  s.modQue fun x => { x with
    peers := (List.range n).filterMap fun i =>
      let e := h.rd ST.route 0 (0x4000 + 8 * i) 8
      if Nat.testBit e 20 then
        some (i, { Peer.init with
          valid := true, id := e % 2 ^ 20, txNext := tx, ackLow := tx, ackSent := tx, rxH := BitVec.allOnes 32, seen := allSeen })
      else none }

/-! ## Threads (R427, R437) -/

/-- Every thread of a first image, or of a re-applied one, is READY at its entry and starts with RUN. -/
def State.freshThreads (s : State) (h : Half) : State :=
  (List.range 128).foldl (fun a t =>
    if h.tflag t TF.exists_ then (a.resetThread t h TST.ready).modThread t fun x => { x with started := false } else a) s

/-- The threads at a swap: with KEEP they go on, new ones and those without KEEP start at ENTRY, the others are STOPPED. -/
def State.swapThreads (s : State) (old new : Half) : State :=
  let on := s.btp.threads.any fun e => e.2.started
  (List.range 128).foldl (fun a t =>
    if new.tflag t TF.exists_ then
      if old.tflag t TF.exists_ && new.tflag t TF.keep then a
      else (a.resetThread t new TST.ready).modThread t fun x => { x with started := on }
    else if old.tflag t TF.exists_ then a.resetThread t new TST.stopped
    else a) s

/-! ## Activation and swap -/

/-- The image just loaded carries no signature (R116). -/
def State.unsignedLoad (s : State) : Bool :=
  match s.cfg.staged.hdr with
  | none => false
  | some h => unsignedSig (rxBytes s.cfg.rx h.sigOff 256)

/-- The servo returns to UP_LG when the image just activated names as primary the alternate of before, `alt` (R54). -/
def State.alternatePrimary (s : State) (alt : Nat) : State :=
  if s.flag F.SCH_TL_STAT_UP_SEL && s.f F.SCH_TL_CFG_UP_LG == alt then s.setB F.SCH_TL_STAT_UP_SEL false else s

/-- The new image's declared delays are held to the delays measured (R49). -/
def State.checkDelays (s : State) : State :=
  s.allGroups fun a g => if a.flag (F.LNK_LGn_CFG_ACTIVE g) && (a.schGroup g).measured then a.checkDelay g else a

/-- The halves exchange roles; the half that was active is empty from now on (R130, R135). The image's registers and entries
apply, SCH_PLAN and K change, and CONTRACT_STAT.VOID clears (R142). -/
def State.exchange (s : State) : State :=
  let h := s.cfg.staged
  let s1 := { s with
    storeFaults := s.storeFaults.filter fun f => f.unit != 1 && f.unit != 2
    cfg := { s.cfg with active := h, staged := Half.empty, imageActive := true, armedFor := none, hdrArms := false } }
  let s2 := (((s1.setStaged SG.empty).setB F.CFG_STAT_UNSIGNED s.unsignedLoad).setB
    F.CONTRACT_STAT_VOID false).setB F.SCH_BSTAT_SWAP_PEND false
  ((s2.applyImage h).alternatePrimary (s.f F.SCH_TL_CFG_ALT_LG)).checkDelays

/-- The endpoint ID of the first image after a reset (R257), and its peers (R260). -/
def State.firstImage (s : State) (h : Half) : State :=
  if s.cfg.everActive then s else
  let id := h.hdr.elim 0 fun x => x.endpoint.toNat
  ((s.setF F.QUE_EPID_ID id).preloadPeers h).modCfg fun c => { c with everActive := true }

/-- CFG_CTRL.ACTIVATE (R130): ignored while an image is active and while STAGED is other than VALID. -/
def State.activateImage (s : State) : State :=
  if s.cfg.imageActive || s.staged != SG.valid then s else
  let h := s.cfg.staged
  let s1 := (s.exchange).firstImage h
  let s2 := ((s1.modCfg fun c => { c with firstPending := true }).loadQueues h false).freshThreads h
  let s3 := if s2.mode = Mode.load then s2.enterMode Mode.standby else s2
  s3.tandemBegin

/-- The drifts that execute a command (R136). -/
def State.runningDrifts (s : State) : Nat :=
  s.str.drifts.foldl (fun a e => if e.2.held.any fun c => decide (c.phase = .running) then a ||| 2 ^ e.1 else a) 0

/-- The swap in boundary cycle B (R135). -/
def State.swapImage (s : State) : State :=
  let old := s.cfg.active
  let h := s.cfg.staged
  let s0 := s.rebaseThreads (s.sch.ft.toNat / 2)
  let s1 := (s0.loadQueues h true).exchange.firstImage h
  let s2 := (s1.swapThreads old h).redSwap old h
  let s3 := s2.modCfg fun c => { c with oldRoutes := BitVec.ofNat 16 s2.runningDrifts }
  let s4 := (s3.setB F.SCH_BSTAT_SWAP_DONE true).modSch fun x => { x with decided := none }
  let s5 := s4.allGroups fun a g =>
    if !a.flag (F.LNK_LGn_CFG_ACTIVE g) then a.groupOff g else
    let fb := Nat.testBit (a.f (F.LNK_LGn_CFG_FB_MASK g)) (a.f (F.LNK_LGn_STAT_WIDTH g))
    let c := if a.flag (F.LNK_LGn_STAT_DEGRADED g) then
        (a.setB (F.SCH_LGn_PEER_FALLBACK g) fb).modSg g fun x => { x with voidWidth := x.voidWidth || !fb }
      else a
    c.pollOff g
  s5.refreshVoid.refreshHalt.advanceAll

end Sys2Proof.Machine
end

