-- ==== Sys2Proof/Machine/Boundary.lean ====
section
/-! DEFINITION. The shift boundary (R65): the report's counters (R68), swaps (R135), the end of void causes (R83), restores (R214)
and key switches (R218). -/

namespace Sys2Proof.Machine

/-- The next boundary: the present cycle, if it is one that has not been taken, else the next multiple of the shift's length. -/
def State.nextBoundary (s : State) : Nat := s.nextEdge s.shiftLen s.sch.lastBoundary

/-- Own slots of a scheduled thread that have passed without an issue count as stalls of the shift that ends. -/
def State.countStalls (s : State) (t : Nat) : State :=
  let x := s.thread t
  if !(s.threadsRun t && s.isSched t) then s else
  let i := x.slotAt (s.cfg.active.schedSlots t) (s.sch.ft.toNat / 2)
  if i ≤ x.own then s else (s.count (Cnt.thread t 1) (i - x.own)).modThread t fun y => { y with own := i }

/-- The cycles for which the request in front of a host memory port has waited count in the shift that ends (R696). -/
def State.tallyStalls (s : State) : State :=
  (List.range 8).foldl (fun a p =>
    let x := a.hmpPort p
    if x.reqs.isEmpty then a else (a.count (Cnt.hmp p 7) (a.now - x.validAt)).setHmp p { x with validAt := max x.validAt a.now }) s

/-- The IDs held when a shift begins are the first value of its OUTST_MAX (R696). -/
def State.countHeld (s : State) : State :=
  (List.range 8).foldl (fun a p =>
    let n := (a.hmpPort p).reads.length + (a.hmpPort p).writes.length
    if n = 0 then a else a.countMax (Cnt.hmp p 6) n) s

/-- The counters go to their shadows and restart, with the header of the shift that ends at boundary `n` (R65, R68, R78). -/
def State.shadowCounters (s : State) (n : Nat) (swapped : Bool) : State :=
  let hdr := s.reportHeader n swapped
  let s1 := s.modSch fun x => { x with
    shadow := x.counters, shadowHdr := hdr, counters := [], saturated := false, voidCauses := 0, voidFirst := none, droopEvents := 0
    droopCycles := 0 }
  (s1.modCrp fun c => { c with holdStart := c.holdStart.map fun _ => s.now }).setB F.SCH_RPT_STAT_FILLING true

/-- A group at the boundary: a SWAP disagreement shows (R71), and causes whose condition has ended end (R83). The void of a
degraded width ends at the boundary that restores full width (DESIGN CHOICE, log entry 89). -/
def State.boundaryGroup (s : State) (g : Nat) : State :=
  let x := s.schGroup g
  let bad := x.mismatchAtB
  let planVoid := bad || (x.voidPlan && x.planDiffers)
  let s1 := s.modSg g fun y => { y with
    mismatchAtB := false
    planDiffers := y.planDiffers || bad
    planOk := if bad then 0 else y.planOk
    voidPlan := planVoid
    voidTrain := y.voidTrain && !(s.lgUp g && !s.flag (F.SCH_LGn_PEER_DELAY_MISMATCH g))
    voidWidth := y.voidWidth && s.flag (F.LNK_LGn_STAT_DEGRADED g) }
  s1.setB (F.SCH_LGn_PEER_PLAN_MISMATCH g) planVoid

/-- The plan ID agrees on all groups (R83). -/
def State.plansAgree (s : State) : Bool :=
  (List.range 8).all fun g => !s.lgUp g || (!(s.schGroup g).planDiffers && !s.flag (F.SCH_LGn_PEER_PLAN_MISMATCH g))

/-- The endpoint-wide causes at the boundary (R83): `cancelled` says that a swap was cancelled for this boundary. -/
def State.boundaryCauses (s : State) (cancelled : Bool) : State :=
  let c (a : State) (x : Fld) (b : Bool) : State := if a.flag x = b then a else a.setCause x b
  let s1 := if s.running then c s F.SCH_CLS_STAT_MODE false else s
  let s2 := if s1.inBudget then c s1 F.SCH_CLS_STAT_LOCK false else s1
  let s3 := c (c s2 F.SCH_CLS_STAT_DROOP false) F.SCH_CLS_STAT_PSUSP s2.schedHalted
  let s4 := if cancelled then c s3 F.SCH_CLS_STAT_SWAP_CANCEL true
    else if s3.plansAgree then c s3 F.SCH_CLS_STAT_SWAP_CANCEL false else s3
  if s4.f F.GLB_TND_STAT_PCAUSE = 0 then c s4 F.SCH_CLS_STAT_TANDEM false else s4

/-- The tandem port at a swap (R414): a pair whose blocks both swap is joined; a block in SOLO whose partner does not begins again,
and one whose new image is no tandem image is OFF. -/
def State.tandemSwap (s : State) : State :=
  let both := s.tnd.ready && s.tnd.pReady
  if !s.tandemImage then s.setTndState TND.off
  else if s.tnd? = TND.solo ∨ s.tnd? = TND.wait then
    (if both then s.tandemJoin else (s.setTndState TND.off).tandemBegin)
  else s.tandemBegin

/-- Whether the staged image becomes active at boundary `n`: it is armed for that one and its swap is pending (R65). -/
def State.swapsAt (s : State) (n : Nat) : Bool :=
  s.flag F.SCH_BSTAT_SWAP_PEND && s.cfg.armedFor == some n && s.cfg.staged.hdr.isSome

/-- The swap, or its absence, at boundary `n` (R65, R70, R135). A cancelled image is dropped where its half has failed. -/
def State.boundarySwap (s : State) (n : Nat) : State :=
  if s.swapsAt n then s.swapImage.tandemSwap
  else
    let s1 := s.setB F.SCH_BSTAT_SWAP_DONE false
    if s1.staged = SG.pending ∧ s1.sch.cancelled = some n then
      (s1.setStaged (if s1.cfg.staged.hdr.isSome then SG.valid else SG.empty)).modCfg fun c => { c with
        armedFor := none, hdrArms := c.hdrArms && c.staged.hdr.isSome }
    else s1

/-- SHIFT_BOUNDARY (R65). For a cause that applies when the shift begins, VOID_FIRST is the boundary's fabric time (DESIGN CHOICE,
log entry 90). -/
def execShiftBoundary (s : State) : Host.Outcome State Fault Refusal :=
  if !s.crp.mainUp then done s else
  let s1 := (s.passFt s.nextBoundary).modSch fun x => { x with lastBoundary := some x.ft }
  let n := s1.shiftNo
  let cancelled := s1.sch.cancelled == some n
  let swaps := s1.swapsAt n
  let s2 := (List.range 128).foldl (fun a t => a.countStalls t) s1.tallyBusy.tallyStalls
  let s3 := (if s2.planLive then s2.count (Cnt.sch 6) (s2.shiftLen / 512) else s2).shadowCounters n swaps |>.countHeld
  let s3' := { s3 with lnk := { s3.lnk with landK := [], landPrev := s3.lnk.landK } }
  let s4 := s3'.allGroups fun a g => (a.boundaryRestore g n).boundaryGcm g n
  let s5 := (s4.boundarySwap n).planError 1
  let s6 := if s5.cfg.firstPending && s5.running then s5.modCfg fun c => { c with firstPending := false } else s5
  let s7 := s6.modSch fun x => { x with cancelled := if cancelled then none else x.cancelled }
  let s8 := (((s7.allGroups State.boundaryGroup).refreshVoid).boundaryCauses cancelled).settleCauses
  let cls := s8.reg R.SCH_CLS_STAT
  done ((s8.modSch fun x => { x with
    voidCauses := cls, voidFirst := if cls = 0 then none else some x.ft }).modTnd fun x => { x with ready := false, pReady := false })

end Sys2Proof.Machine
end

