-- ==== Sys2Proof/Machine/Access.lean ====
section
/-! DEFINITION. Which register a command accesses, and for whom: what decides the order of accesses in one CK_CTL cycle (R604). -/

namespace Sys2Proof

open Sys2Proof.Machine

/-- The order in which accesses of one CK_CTL cycle to one register take effect: CSP, debug module, thread (R604, R684). -/
def RegSrc.rank : RegSrc → Nat
  | .csp => 0
  | .debug => 1
  | .thread _ => 2

/-- The source and the offset of the register that a command accesses. -/
def Instr.access : Instr → Option (RegSrc × Nat)
  | .registerWrite src off _ _ => some (src, off.toNat)
  | .rcFieldRead src off _ => some (src, off.toNat)
  | .peCatchRead src n => some (src, R.PEn_CATCH n)
  | .timerCapRead src m => some (src, R.TMm_CAP m)
  | .relock src _ => some (src, R.SCH_TL_CTRL)
  | .loadStart src _ => some (src, R.CFG_CTRL)
  | .loadAbort src _ => some (src, R.CFG_CTRL)
  | .disarm src _ => some (src, R.CFG_CTRL)
  | .arm src _ => some (src, R.CFG_ARM_LO)
  | .activate src _ => some (src, R.CFG_CTRL)
  | .expertUnlock src _ => some (src, R.GLB_CTRL)
  | .expertLock src _ => some (src, R.GLB_CTRL)
  | .linkGroupEnable src g _ => some (src, R.LNK_LGn_CTRL g)
  | .retrain src g _ => some (src, R.LNK_LGn_CTRL g)
  | .keyLoad src g _ => some (src, R.LNK_LGn_KEY_CMD g)
  | .keyErase src g _ => some (src, R.LNK_LGn_KEY_CMD g)
  | .gcmArm src g _ => some (src, R.LNK_LGn_GCM_ARM_LO g)
  | .linkReset src _ => some (src, R.CRP_LINK_RST)
  | .doorbellSq src q _ => some (src, 0xC00000 + 64 * q.toNat)
  | .doorbellRq src q _ => some (src, 0xC00004 + 64 * q.toNat)
  | .doorbellCq src q _ => some (src, 0xC00008 + 64 * q.toNat)
  | .queueContextRead src _ => some (src, R.QUE_CTX_CMD)
  | .queueContextWrite src _ => some (src, R.QUE_CTX_CMD)
  | .queueFlush src _ => some (src, R.QUE_CTX_CMD)
  | .barrierRelease src _ => some (src, R.QUE_BAR_CMD)
  | .barrierReset src _ => some (src, R.QUE_BAR_CMD)
  | .peerRead src _ => some (src, R.QUE_PEER_CMD)
  | .peerAdd src _ => some (src, R.QUE_PEER_CMD)
  | .peerRemove src _ => some (src, R.QUE_PEER_CMD)
  | .streamCommandGo src _ => some (src, R.STR_CMD_GO)
  | .driftAbort src d _ => some (src, R.STR_Dd_CTRL d)
  | .driftFlush src d _ => some (src, R.STR_Dd_CTRL d)
  | .reduceEntryReset src _ => some (src, R.STR_RED_CMD)
  | .tandemEnable src _ => some (src, R.GLB_TND_CTRL)
  | .takeover src _ => some (src, R.GLB_TND_CTRL)
  | .threadStop src _ => some (src, R.BTP_TH_CMD)
  | .threadStart src _ => some (src, R.BTP_TH_CMD)
  | .threadResume src _ => some (src, R.BTP_TH_CMD)
  | .resumeAlert src _ => some (src, R.BTP_TH_CMD)
  | .threadReset src _ => some (src, R.BTP_TH_CMD)
  | .threadHalt src _ => some (src, R.BTP_TH_CMD)
  | .threadRun src _ => some (src, R.BTP_TH_CMD)
  | .faultLogPop src _ => some (src, R.BTP_FLOG_POP)
  | .forceReturn src _ => some (src, R.BTP_LAMP_CMD)
  | .lampScan src _ => some (src, R.BTP_LAMP_CMD)
  | .vwkSend src _ => some (src, R.VWK_CTRL)
  | .vwkDetach src _ => some (src, R.VWK_CTRL)
  | .vwkAttn src _ => some (src, R.VWK_CTRL)
  | .vwkRxPop src _ => some (src, R.VWK_RX_POP)
  | .peEnable src n _ => some (src, R.PEn_CTRL n)
  | .peDisable src n _ => some (src, R.PEn_CTRL n)
  | .peFlush src n _ => some (src, R.PEn_CTRL n)
  | .peDiscard src n _ => some (src, R.PEn_CTRL n)
  | .peFeedWrite src n _ => some (src, R.PEn_FEED n)
  | .peProgWrite src n word _ => some (src, R.PEn_PROG n word)
  | .peBaseWrite src n _ => some (src, R.PEn_BASE n)
  | .pePinmapWrite src n hi _ => some (src, if hi then R.PEn_PINMAP_HI n else R.PEn_PINMAP_LO n)
  | .peDepthWrite src n _ => some (src, R.PEn_DEPTH n)
  | .sbOwnerChange src i _ => some (src, R.SBD_PINSELi i)
  | .timerEnable src m _ => some (src, R.TMm_CTRL m)
  | .timerDisable src m _ => some (src, R.TMm_CTRL m)
  | .reloadNow src m _ => some (src, R.TMm_CTRL m)
  | .hardReset src _ => some (src, R.CRP_RST_CTRL)
  | .softReset src _ => some (src, R.CRP_RST_CTRL)
  | .modeReqStandby src _ => some (src, R.CRP_MODE_CTRL)
  | .modeReqTrain src _ => some (src, R.CRP_MODE_CTRL)
  | .modeReqLock src _ => some (src, R.CRP_MODE_CTRL)
  | .modeReqRun src _ => some (src, R.CRP_MODE_CTRL)
  | .modeReqDrain src _ => some (src, R.CRP_MODE_CTRL)
  | .modeReqRetain src _ => some (src, R.CRP_MODE_CTRL)
  | .modeReqSafe src _ => some (src, R.CRP_MODE_CTRL)
  | .evtRaise src _ => some (src, R.EVT_RAISE)
  | .eventPendingClear src k _ => some (src, R.EVT_PENDk k)
  | .debugHalt src _ => some (src, R.DBG_CTRL)
  | .debugResume src _ => some (src, R.DBG_CTRL)
  | .debugReset src _ => some (src, R.DBG_CTRL)
  | .dbgacc dr => if Nat.testBit dr.toNat 57 then some (.debug, bits dr.toNat 32 24) else none
  | .wakeRequest (.csp _) => some (.csp, R.CRP_MODE_CTRL)
  | .vwkClaimStart (.write src _) => some (src, R.VWK_CTRL)
  | _ => none

end Sys2Proof
end

