-- ==== Sys2Proof/Machine/SidebandRows.lean ====
section
/-! DEFINITION. The commands of the sideband that are no register writes (R544 to R582). -/

namespace Sys2Proof.Machine

/-- PE_ENTRY (R565): an enabled engine runs the entry that S names in the next CK_SB cycle. -/
def execPeEntry (n : Fin 8) (s : State) : Host.Outcome State Fault Refusal :=
  let x := s.pe n.val
  if !s.flag (F.PEn_CTRL_EN n.val) || !s.crp.mainUp then done s else
  let s1 := s.passFt (s.nextEdge 64 x.last)
  let s2 := s1.modPe n.val fun x => { x with last := some s1.sch.ft }
  done (s2.peRun n.val (kget 0 x.prog x.s.toNat : BitVec 64).toNat)

/-- TIMER_STEP (R576): one step of a running timer's clock; a LINK timer takes its steps at the expiries of the timer before it
(R577). -/
def execTimerStep (m : Fin 16) (s : State) : Host.Outcome State Fault Refusal :=
  let m := m.val
  if !s.tmRuns m || s.f (F.TMm_CTRL_CLKSEL m) = 2 then done s else
  let s1 := s.tmWait m 1
  done (if s1.tmGate m then s1.tmStep m else s1)

/-- TIMER_LAP_END (R576): the present lap of a timer with a clock runs to its end. -/
def execTimerLapEnd (m : Fin 16) (s : State) : Host.Outcome State Fault Refusal :=
  let m := m.val
  if !s.tmRuns m || !s.tmGate m || s.f (F.TMm_CTRL_CLKSEL m) = 2 then done s else done (s.tmLap m)

/-- TIMER_EXPIRY (R577): the laps of a timer with a clock run to the next expiry. -/
def execTimerExpiry (m : Fin 16) (s : State) : Host.Outcome State Fault Refusal :=
  let m := m.val
  if !s.tmRuns m || !s.tmGate m || s.f (F.TMm_CTRL_CLKSEL m) = 2 then done s else done (s.tmLaps m 256)

/-- TIMER_CAPTURE (R580). -/
def execTimerCapture (m : Fin 16) (level : Bool) (s : State) : Host.Outcome State Fault Refusal :=
  done ((s.tmCapture m.val level).updatePins)

/-- A frame with a command of the row's. -/
def State.vwkRow (s : State) (f : VwkFrame) (ok : Bool) : State := if ok then s.vwkReceive f else s

/-- VWK_PING. -/
def execVwkPing (f : VwkFrame) (s : State) : Host.Outcome State Fault Refusal := done (s.vwkRow f (f.cmd.toNat == VC.ping))
/-- VWK_IDENT_REQ. -/
def execVwkIdentReq (f : VwkFrame) (s : State) : Host.Outcome State Fault Refusal := done (s.vwkRow f (f.cmd.toNat == VC.identReq))
/-- VWK_IDENT. -/
def execVwkIdent (f : VwkFrame) (s : State) : Host.Outcome State Fault Refusal := done (s.vwkRow f (f.cmd.toNat == VC.ident))
/-- VWK_CLAIM. -/
def execVwkClaim (f : VwkFrame) (s : State) : Host.Outcome State Fault Refusal := done (s.vwkRow f (f.cmd.toNat == VC.claim))
/-- VWK_RELEASE. -/
def execVwkRelease (f : VwkFrame) (s : State) : Host.Outcome State Fault Refusal := done (s.vwkRow f (f.cmd.toNat == VC.release))
/-- VWK_USER. -/
def execVwkUser (f : VwkFrame) (s : State) : Host.Outcome State Fault Refusal := done (s.vwkRow f (VC.isUser f.cmd.toNat))
/-- VWK_BAD_FRAME (R549, R550): a frame that fails the checks, or one with a reserved command. -/
def execVwkBadFrame (f : VwkFrame) (s : State) : Host.Outcome State Fault Refusal :=
  done (s.vwkRow f (!vwkValid f || VC.reserved f.cmd.toNat))

/-- VWK_FRAME_SENT (R557). -/
def execVwkFrameSent (r : VwkTxEnd) (s : State) : Host.Outcome State Fault Refusal := done (s.vwkSent r)
/-- VWK_TX_TIMEOUT (R557). -/
def execVwkTxTimeout (s : State) : Host.Outcome State Fault Refusal := done s.vwkTimeout
/-- VWK_CLAIM_RESULT (R552). -/
def execVwkClaimResult (r : VwkTxEnd) (s : State) : Host.Outcome State Fault Refusal := done (s.claimResult r)
/-- VWA_LOW_END (R556). -/
def execVwaLowEnd (bits : Nat) (s : State) : Host.Outcome State Fault Refusal :=
  if s.crp.headOn then done (s.vwaEnd bits) else done s
/-- VWK_ATTENTION (R556). -/
def execVwkAttention (s : State) : Host.Outcome State Fault Refusal :=
  if s.crp.headOn then done s.vwaAttention else done s
/-- VWK_STUCK (R545). -/
def execVwkStuck (s : State) : Host.Outcome State Fault Refusal :=
  if s.crp.headOn then done s.vwkStuckLow else done s

end Sys2Proof.Machine
end

