-- ==== Sys2Proof/Machine/Power.lean ====
section
/-! DEFINITION. Resets, the power sequences, retention and wake, and the droop and temperature monitors (R597 to R599, R625, R626,
R633, R642 to R673). -/

namespace Sys2Proof.Machine

/-! ## What a reset of MAIN keeps (R661) -/

/-- The strength of a request (R655); a wake gives way to every reset. -/
def SeqKind.rank : SeqKind → Nat
  | .por => 0
  | .bor => 1
  | .hard => 2
  | .chain => 2
  | .soft => 3
  | .debug => 3
  | .wake => 4

/-- Its code in CRP_RST_CAUSE.LAST (R671). -/
def SeqKind.code : SeqKind → Nat
  | .por => 0
  | .bor => 1
  | .hard => 2
  | .soft => 3
  | .chain => 4
  | .debug => 5
  | .wake => 6

/-- The image survives and is applied again (R657, R660). -/
def SeqKind.keepsImage : SeqKind → Bool
  | .soft => true
  | .debug => true
  | .wake => true
  | _ => false

/-- The sequence runs from a headframe that is itself reset. -/
def SeqKind.resetsHead : SeqKind → Bool
  | .por => true
  | .bor => true
  | _ => false

/-- The bit of CRP_RST_CAUSE that a request of the kind sets (R655, R671). -/
def SeqKind.cause : SeqKind → Fld
  | .por => F.CRP_RST_CAUSE_POR
  | .bor => F.CRP_RST_CAUSE_BOR
  | .hard => F.CRP_RST_CAUSE_HARD
  | .soft => F.CRP_RST_CAUSE_SOFT
  | .chain => F.CRP_RST_CAUSE_CHAIN
  | .debug => F.CRP_RST_CAUSE_DEBUG
  | .wake => F.CRP_RST_CAUSE_WAKE

/-- The key store, and the secure partition's and the lifecycle's status. -/
def keyStoreReg (off : Nat) : Bool :=
  off == R.CFG_KEY_STAT || decide (R.CFG_KEYHn_i 0 0 ≤ off ∧ off < R.CFG_KEYHn_i 4 0) || off == R.MEM_SEC_STAT || off == R.MEM_LC_STAT

/-- CRP, VWK, TM14 and TM15. -/
def headReg (off : Nat) : Bool :=
  decide (R.CRP_MODE ≤ off ∧ off ≤ R.CRP_TEMP) || decide (R.VWK_CFG ≤ off ∧ off ≤ R.VWK_RX_POP) ||
    decide (R.TMm_CTRL 14 ≤ off ∧ off < R.TMm_CTRL 15 + 0x20)

/-- Whether a reset of the kind keeps the register at `off` whole (R661). -/
def SeqKind.keepsReg (k : SeqKind) (off : Nat) : Bool :=
  match k with
  | .por => false
  | .bor => keyStoreReg off || off == R.CRP_RST_CAUSE
  | .hard => keyStoreReg off || headReg off
  | .chain => keyStoreReg off || headReg off
  | .soft => keyStoreReg off || headReg off || off == R.CONTRACT_STAT
  | .wake => keyStoreReg off || headReg off || off == R.CONTRACT_STAT
  | .debug => keyStoreReg off || headReg off || off == R.CONTRACT_STAT || decide (R.DBG_CTRL ≤ off ∧ off ≤ R.DBG_TR_STAT)

/-- Fields that keep their value in any case: the levels of inputs and of the power handshake, and for a reset other than POR
GLB_PORT_STAT.LC_TMO. -/
def SeqKind.keepsFields (k : SeqKind) : List Fld :=
  (List.range 18).map F.LNK_Ln_STAT_SIG ++
    [F.GLB_TND_STAT_LIVE_IN, F.CRP_PWR_STAT_MAIN_REQ, F.CRP_PWR_STAT_MAIN_ACK, F.CRP_PWR_STAT_RET_REQ, F.CRP_PWR_STAT_RET_ACK,
     F.CRP_PWR_STAT_PLL_LOCK, F.CRP_PWR_STAT_ISO_EN, F.CRP_PWR_STAT_HMP_FLUSH, F.MEM_SEC_STAT_TAMPER_IN, F.MEM_LC_STAT_STATE] ++
    (if k = .por then [] else [F.GLB_PORT_STAT_LC_TMO]) ++ (if k.keepsImage then [F.CFG_STAT_UNSIGNED] else [])

/-- The registers after a reset of the kind (R661). -/
def State.resetRegs (s : State) (k : SeqKind) : State :=
  let s1 := { s with regs := s.regs.filter fun e => k.keepsReg e.1, hits := [] }
  k.keepsFields.foldl (fun a x => a.setF x (s.f x)) s1

/-- A queue context disabled by a reset (R661). -/
def disableCtx (c : BitVec 512) : BitVec 512 :=
  let v := c.toNat
  let outst := bits v QC.outst.lo QC.outst.w
  let v1 := putBits (putBits v QC.en.lo QC.en.w 0) QC.outst.lo QC.outst.w 0
  BitVec.ofNat 512 (if outst = 0 then v1 else putBits v1 QC.err.lo QC.err.w 1)

/-- The queue engine (R661). Messages that wait in a queue engine stopped for RETAIN stay outstanding (R651). -/
def State.resetQue (s : State) (k : SeqKind) : State :=
  let q := s.que
  let base := { QueState.init with clock := q.clock, msgClock := q.msgClock, order := q.order }
  s.modQue fun _ =>
    match k with
    | .por => base
    | .wake => { base with
        ctx := q.ctx, poisoned := q.poisoned, peers := q.peers, cache := q.cache
        out := q.out.map fun (m : OutMsg) => { m with pendingRd := 0, pendingWr := 0, timer := m.timer.or (some q.msgClock) } }
    | _ => { base with
        ctx := (q.ctx.map fun e => (e.1, disableCtx e.2)).filter fun e => e.2 != 0
        poisoned := q.poisoned
        peers := if !k.keepsImage then q.peers else q.peers.map fun e =>
          (e.1, { e.2 with seen := allSeen, done := 0, outst := 0, pSeen := false, pAckSeen := false }) }

/-- The host memory ports (R618, R619): flushed, or requests not yet sent dropped and the IDs of the others held. -/
def State.resetHmp (s : State) (k : SeqKind) : State :=
  if k.resetsHead || k == .wake then { s with hmp := [] }
  else { s with hmp := s.hmp.filterMap fun e =>
    let hold (t : HmpTxn) : HmpTxn := { t with heldOver := true }
    let p : HmpPort := { reqs := [], validAt := 0, reads := e.2.reads.map hold, writes := e.2.writes.map hold }
    if p = HmpPort.init then none else some (e.1, p) }

/-- The stores whose errors a reset leaves present (R683): memories keep their contents, the state of MAIN logic does not. -/
def SeqKind.keepsStore (k : SeqKind) (unit : Nat) : Bool :=
  match k with
  | .por => false
  | .wake => decide (unit ≤ 5)
  | .soft => decide (unit ≤ 4)
  | .debug => decide (unit ≤ 4)
  | _ => unit == 3

/-- MAIN logic takes the values of R661: everything but the sequencer's own state. -/
def State.resetMain (s : State) (k : SeqKind) : State :=
  let irq := s.reg64 R.EVT_IRQ_LVL_LO R.EVT_IRQ_LVL_HI
  let steer := s.f F.SCH_TL_FREQ_STEER
  let s1 := s.allGroups State.groupOff
  let s2 := (((s1.resetRegs k).resetQue k).resetHmp k)
  let wiping := s2.flag F.MEM_SEC_STAT_ACTIVE
  let off := k.resetsHead || k == .wake
  let s3 := { s2 with
    sch := SchState.init
    cfg := if k.keepsImage then
        { CfgState.init with
          gen := s2.cfg.gen + 1, active := s2.cfg.active, imageActive := s2.cfg.imageActive, firstPending := s2.cfg.firstPending
          everActive := s2.cfg.everActive }
      else { CfgState.init with gen := s2.cfg.gen + 1 }
    lnk := LnkState.init
    str := { StrState.init with mem := s2.str.mem, poison := s2.str.poison, ecc := s2.str.ecc }
    tnd := { TndState.init with fell := s2.tnd.fell, live := s2.tnd.live }
    btp := BtpState.init
    mem := { s2.mem with
      lastAcc := [], wakeT := none, wakeS := none, scrub := 0, wipeEnd := if off then none else s2.mem.wipeEnd
      wipeOwed := s2.mem.wipeOwed || (off && wiping && k != SeqKind.por) }
    vwk := if k.resetsHead then VwkState.init else s2.vwk
    sbd := { s2.sbd with pe := [], tm := if k.resetsHead then [] else s2.sbd.tm.filter fun e => decide (e.1 ≥ 14) }
    dbg := if k = SeqKind.debug then s2.dbg else { DbgState.init with ir := if off then 1 else s2.dbg.ir }
    storeFaults := s2.storeFaults.filter fun f => k.keepsStore f.unit }
  let s4 := if k.resetsHead && s.vwk.tx.isSome then s3.emit .vwkRelease else s3
  let s5 := if irq = 0 then s4 else s4.emit (.irq 0)
  (if steer = 0 then s5 else s5.emit (.pllSteer 0)).updatePins

/-! ## The sequences (R655 to R660) -/

/-- A step of the sequence begins now. -/
def State.setStep (s : State) (k : SeqKind) (n : Nat) : State := s.modCrp fun c => { c with seq := some { kind := k, step := n, at_ := s.now } }

/-- Step 3: the RET rail is requested (R645, R656). -/
def State.askRet (s : State) (k : SeqKind) : State := (s.setB F.CRP_PWR_STAT_RET_REQ true).emitPower.setStep k 3

/-- One of steps 3 to 5 ends, where what it waits for is there (R656). Of a sequence that leaves RETAIN the memory wake delays
begin when MAIN is powered (R529). -/
def State.seqStep (s : State) : State :=
  match s.crp.seq with
  | none => s
  | some q =>
    if q.step = 3 && s.flag F.CRP_PWR_STAT_RET_ACK then ((s.setB F.CRP_PWR_STAT_MAIN_REQ true).emitPower).setStep q.kind 4
    else if q.step = 4 && s.flag F.CRP_PWR_STAT_MAIN_ACK then
      let s1 := if s.flag F.CRP_DROOP_STAT_BOOST then (s.setB F.CRP_DROOP_STAT_BOOST false).emitPower else s
      let s2 := if q.kind.resetsHead then s1 else
        ((s1.setB F.MEM_STAT_WAKE_T true).setB F.MEM_STAT_WAKE_S true).modMem fun m =>
          { m with wakeT := some (s1.now + 12 * usCycles), wakeS := some (s1.now + 40 * usCycles) }
      s2.setStep q.kind 5
    else if q.step = 5 && s.flag F.CRP_PWR_STAT_PLL_LOCK then s.setStep q.kind 6
    else s

/-- The sequence goes on as far as its inputs let it. -/
def State.seqGo (s : State) : State := s.seqStep.seqStep.seqStep

/-- The droop hold ends with a reset (R665). -/
def State.dropHold (s : State) : State :=
  (s.setB F.CRP_DROOP_STAT_HOLD false).modCrp fun c => { c with holdEnd := none, holdStart := none }

/-- A sequence begins (R654 to R656): MAIN logic is in reset from now on, and the mode is RESET. -/
def State.startSeq (s : State) (k : SeqKind) : State :=
  let old := s.mode
  let s0 := (s.dropHold).modCrp fun c => { c with
    mainUp := false, retaining := false, fatalOwed := c.fatalOwed && !k.resetsHead
    wake14 := c.wake14 && !k.resetsHead, wake15 := c.wake15 && !k.resetsHead, lcEventOwed := c.lcEventOwed && k != .por }
  let s1 := s0.resetMain k
  let s2 := ((s1.setF F.CRP_MODE_MODE old).setB F.CRP_MODE_BUSY false).setB F.CRP_DROOP_STAT_BOOST (k == .bor)
  let s3 := (s2.hit k.cause).setF F.CRP_RST_CAUSE_LAST k.code
  let s4 := if old = Mode.retain && k != .por then s3.hit F.CRP_RST_CAUSE_WAKE else s3
  let s5 := s4.setMode Mode.reset
  if k.resetsHead then
    let s6 := ((s5.setB F.CRP_PWR_STAT_ISO_EN true).setB F.CRP_PWR_STAT_HMP_FLUSH true).emitPower
    if k = .por then s6.setStep k 1 else (s6.askRet k).seqGo
  else if s5.flag F.CRP_PWR_STAT_MAIN_REQ && s5.flag F.CRP_PWR_STAT_MAIN_ACK then ((if s.flag F.CRP_DROOP_STAT_BOOST then s5.emitPower else s5).setStep k 5).seqGo
  else (((s5.setB F.CRP_PWR_STAT_MAIN_REQ true).emitPower).setStep k 4).seqGo

/-- A reset is requested (R655): its cause bit is set, and it runs unless one as strong is in progress. Nothing is requested of a
headframe without power. -/
def State.requestReset (s : State) (k : SeqKind) : State :=
  if !s.crp.headOn then s else
  let s1 := s.setB k.cause true
  match s.crp.seq with
  | some q => if q.kind.rank ≤ k.rank then s1 else s1.startSeq k
  | none => s1.startSeq k

/-- Isolation and flush end, one REFCLK cycle apart (R656, R660). -/
def State.endIsolation (s : State) : State :=
  if !s.flag F.CRP_PWR_STAT_ISO_EN && !s.flag F.CRP_PWR_STAT_HMP_FLUSH then s else
  let s1 := ((s.setB F.CRP_PWR_STAT_ISO_EN false).emitPower).pass 13
  (s1.setB F.CRP_PWR_STAT_HMP_FLUSH false).emitPower

/-- The sequence has ended in mode `m`; SAFE takes its place after a fatal error (R653). -/
def State.endSeq (s : State) (m : Nat) : State :=
  let s1 := (s.endIsolation).modCrp fun c => { c with seq := none }
  if s1.crp.fatalOwed then ((s1.modCrp fun c => { c with fatalOwed := false }).setMode Mode.safe).raise EV.safe
  else s1.setMode m

/-- POR (R654). -/
def execPor (cause : PorCause) (s : State) : Host.Outcome State Fault Refusal :=
  match cause with
  | .porN => done ((s.modCrp fun c => { c with porN := false }).requestReset .por)
  | .headLow => done (s.requestReset .por)
  | .headRise => if s.crp.headOn then done s else done ((s.modCrp fun c => { c with headOn := true }).requestReset .por)

/-- POR_N_HIGH (R656, step 1): the headframe leaves reset, and the lifecycle bus transfer starts (R625). -/
def execPorNHigh (s : State) : Host.Outcome State Fault Refusal :=
  let s1 := s.modCrp fun c => { c with porN := true }
  match s.crp.seq with
  | none => done s1
  | some q =>
    if q.step ≠ 1 then done s1 else
    let s2 := (((s1.pass 26).setB F.CRP_PWR_STAT_ISO_EN true).setB F.CRP_PWR_STAT_HMP_FLUSH true).emitPower
    done (((s2.modCrp fun c => { c with lcWords := 0 }).setStep q.kind 2).emit (.lcRequest 0))

/-- BOR (R666). -/
def execBor (s : State) : Host.Outcome State Fault Refusal := done (s.requestReset .bor)

/-- The lifecycle bus transfer is in progress. -/
def State.lcReads (s : State) : Bool := s.crp.seq.any fun q => q.step == 2

/-- LC_BUS_WORD (R625, R115): the word at the address asked for, and the next request. -/
def execLcBusWord (w : BitVec 32) (s : State) : Host.Outcome State Fault Refusal :=
  if !s.lcReads then done s else
  let n := s.crp.lcWords
  if n < 48 then
    done (((s.setReg (R.CFG_KEYHn_i (n / 12) (n % 12)) w).modCrp fun c => { c with lcWords := n + 1 }).emit (.lcRequest (n + 1)))
  else
    let s1 := s.setReg R.CFG_KEY_STAT (BitVec.ofNat 32 (bits w.toNat 0 16))
    done (((s1.modCrp fun c => { c with lcWords := n + 1 }).askRet .por).seqGo)

/-- LC_BUS_TIMEOUT (R626): 4,096 REFCLK cycles without LC_ACK. -/
def execLcBusTimeout (s : State) : Host.Outcome State Fault Refusal :=
  if !s.lcReads then done s else
  let s1 := s.pass 52429
  let s2 := { s1 with regs := s1.regs.filter fun e => !decide (R.CFG_KEYHn_i 0 0 ≤ e.1 ∧ e.1 < R.CFG_KEYHn_i 4 0) }
  let s3 := (s2.setReg R.CFG_KEY_STAT 0xFFF0).setB F.GLB_PORT_STAT_LC_TMO true
  done (((s3.modCrp fun c => { c with lcEventOwed := true }).askRet .por).seqGo)

/-- POWER_ACK_CHANGE (R599): the sequences go on; a fall of PWR_MAIN_ACK completes RETAIN (R659). -/
def execPowerAckChange (rail : Rail) (level : Bool) (s : State) : Host.Outcome State Fault Refusal :=
  if !s.crp.headOn then done s else
  match rail with
  | .ret => done (s.setB F.CRP_PWR_STAT_RET_ACK level).seqGo
  | .main =>
    let s1 := s.setB F.CRP_PWR_STAT_MAIN_ACK level
    if !level && s.crp.retaining then
      done (((s1.setB F.CRP_MODE_BUSY false).modCrp fun c => { c with retaining := false, wake14 := false, wake15 := false }).setMode
        Mode.retain)
    else done s1.seqGo

/-- PLL_LOCK_RISE (R656, step 5). -/
def execPllLockRise (s : State) : Host.Outcome State Fault Refusal :=
  if s.crp.headOn then done (s.setB F.CRP_PWR_STAT_PLL_LOCK true).seqGo else done s

/-- PLL_LOCK_FALL (R643, R653): a HARD reset while MAIN is powered, a fatal error where a HARD reset is already in progress. -/
def execPllLockFall (s : State) : Host.Outcome State Fault Refusal :=
  if !s.crp.headOn || !s.flag F.CRP_PWR_STAT_PLL_LOCK then done s else
  let s1 := s.setB F.CRP_PWR_STAT_PLL_LOCK false
  if !s1.flag F.CRP_PWR_STAT_MAIN_ACK then done s1 else
  let s2 := s1.hit F.CRP_RST_CAUSE_PLL
  if s2.crp.seq.any fun q => decide (q.kind = .hard ∨ q.kind = .chain) then
    done ((s2.hit F.CRP_MODE_FATAL).modCrp fun c => { c with fatalOwed := true })
  else done (s2.requestReset .hard)

/-- MAIN_RESET_RELEASE (R656, R657): after 64 CK_CTL cycles MAIN logic leaves reset; fabric time starts at 0. What was owed to a
powered MAIN happens now (R534, R626). -/
def execMainResetRelease (s : State) : Host.Outcome State Fault Refusal :=
  match s.crp.seq with
  | none => done s
  | some q =>
    if q.step ≠ 6 || !s.flag F.CRP_PWR_STAT_PLL_LOCK then done s else
    let s1 := (s.passTo (q.at_ + 64 * ctlCycles)).modCrp fun c => { c with mainUp := true }
    let s2 := s1.modSch fun x => { x with ft := 0, phase := 0, lastBoundary := some 0 }
    let s3 := if s2.crp.lcEventOwed then (s2.raise EV.lcBus).modCrp fun c => { c with lcEventOwed := false } else s2
    let s4 := if s3.mem.wipeOwed || q.kind == .por then s3.startWipe.modMem fun m => { m with wipeOwed := false } else s3
    if q.kind.resetsHead then done (s4.setStep q.kind 7)
    else if q.kind = .wake then done (s4.setStep q.kind 10)
    else if q.kind.keepsImage then done (s4.setStep q.kind 9)
    else done (s4.endSeq Mode.load)

/-- Every memory reads zero, with valid check bits and clear marks (R656, R661). -/
def State.clearMemories (s : State) : State :=
  { s with
    str := { s.str with mem := [], poison := [], ecc := [] }
    mem := { s.mem with mem := [], poison := [], ecc := [] }
    storeFaults := [] }

/-- POR_MEMORY_CLEAR_DONE (R656, steps 7 and 8): the memories are clear after a POR, and as they were after a BOR. -/
def execPorMemoryClearDone (s : State) : Host.Outcome State Fault Refusal :=
  match s.crp.seq with
  | none => done s
  | some q =>
    if q.step ≠ 7 || !s.flag F.CRP_PWR_STAT_PLL_LOCK then done s else
    let s1 := s.passTo (q.at_ + 64000 * thrCycles)
    if q.kind ≠ .por then done (s1.endSeq Mode.load) else
    let s2 := s1.clearMemories
    let s3 := if s2.mem.wipeEnd.any fun t => decide (t ≤ s2.now) then
        ((s2.setB F.MEM_SEC_STAT_ACTIVE false).modMem fun m => { m with wipeEnd := none }).raise EV.secWipe
      else s2
    done (s3.endSeq Mode.load)

/-- The active image is applied again (R657): its registers, queues' partitions and threads; the endpoint ID stands. -/
def State.reapply (s : State) : State :=
  let h := s.cfg.active
  let id := h.hdr.elim 0 fun x => x.endpoint.toNat
  ((((s.setF F.QUE_EPID_ID id).applyImage h).loadQueues h false).freshThreads h).modCfg fun c => { c with firstPending := true }

/-- IMAGE_REAPPLY_DONE (R657, R660): the end of a SOFT, DEBUG or wake sequence. After a wake it waits for the memories (R529). -/
def execImageReapplyDone (s : State) : Host.Outcome State Fault Refusal :=
  match s.crp.seq with
  | none => done s
  | some q =>
    if !(q.step == 9 || (q.step == 10 && s.mem.wakeT.isNone && s.mem.wakeS.isNone)) || !s.flag F.CRP_PWR_STAT_PLL_LOCK then done s else
    let m := if s.cfg.imageActive then Mode.standby else Mode.load
    let s1 := if s.cfg.imageActive then s.reapply else s
    let s2 := if q.kind = .debug then
        ((s1.endSeq Mode.halt).haltAll).modCrp fun c => { c with haltMode := BitVec.ofNat 4 m }
      else s1.endSeq m
    let s3 := if q.kind = .wake then s2.raise EV.wake else s2
    done (if s3.cfg.imageActive then s3.tandemBegin else s3)

/-- HEAD_POWER_LOSS (R648, R594). -/
def execHeadPowerLoss (s : State) : Host.Outcome State Fault Refusal :=
  if !s.crp.headOn then done s else
  let s1 := (((s.dropHold).modCrp fun c => { c with mainUp := false, seq := none, retaining := false, fatalOwed := false }).resetMain
    .por).setF F.CRP_MODE_MODE s.mode
  let s2 := (((s1.setB F.CRP_PWR_STAT_MAIN_REQ false).setB F.CRP_PWR_STAT_RET_REQ false).setB F.CRP_PWR_STAT_ISO_EN true).setB
    F.CRP_PWR_STAT_HMP_FLUSH true
  done ((s2.emitPower.setMode Mode.off).modCrp fun c => { c with headOn := false })

/-! ## Requests of modes (R649, R659, R660) -/

/-- REQ = RETAIN from STANDBY (R659). -/
def State.beginRetain (s : State) : State :=
  let s1 := (s.setB F.CRP_PWR_STAT_ISO_EN true).setB F.CRP_PWR_STAT_HMP_FLUSH true
  let s2 := ((s1.modCrp fun c => { c with mainUp := false, retaining := true }).resetMain .wake).dropHold
  let s3 := ((s2.setB F.CRP_MODE_BUSY true).setB F.CRP_DROOP_STAT_BOOST false).emitPower
  (s3.setB F.CRP_PWR_STAT_MAIN_REQ false).emitPower

/-- A wake request in RETAIN from source `src` (R660). -/
def State.wake (s : State) (src : Nat) : State :=
  if s.mode ≠ Mode.retain || s.crp.seq.isSome then s else
  ((s.modCrp fun c => { c with wake14 := false, wake15 := false }).setF F.CRP_WAKE_SRC src).startSeq .wake

/-- CRP_MODE_CTRL.REQ (R649, R660). -/
def State.requestMode (s : State) (r : Nat) : State :=
  if s.flag F.CRP_MODE_BUSY then s.hit F.CRP_MODE_CTRL_ERR
  else if r = Mode.standby && s.mode == Mode.retain then s.wake 1
  else if !s.mayRequest r then s.hit F.CRP_MODE_CTRL_ERR
  else if r = Mode.retain then s.beginRetain
  else s.enterMode r

/-- A write of CRP_MODE_CTRL (R670): ERR is W1C; REQ 0 requests nothing. -/
def State.modeCtrl (s : State) (data : Word) : State :=
  let s1 := if wb data F.CRP_MODE_CTRL_ERR then s.setB F.CRP_MODE_CTRL_ERR false else s
  let r := wf data F.CRP_MODE_CTRL_REQ
  if r = 0 then s1 else s1.requestMode r

/-- A write of CRP_RST_CTRL (R654): without the key it is ignored. -/
def State.rstCtrl (s : State) (data : Word) : State :=
  if wf data F.CRP_RST_CTRL_KEY ≠ 0x7E57 then s else
  let s1 := if wb data F.CRP_RST_CTRL_HARD then s.requestReset .hard else s
  if wb data F.CRP_RST_CTRL_SOFT then s1.requestReset .soft else s1

/-- CRP_LINK_RST (R658): nothing while MAIN is in reset (R655). -/
def State.linkRst (s : State) (data : Word) : State :=
  if !s.crp.mainUp then s else
  s.allGroups fun a g => if Nat.testBit data.toNat g then a.linkReset g else a

/-- VWK_CHAIN (R560): the frame is received, and a CHAIN reset follows where it asks for one. -/
def execVwkChain (f : VwkFrame) (s : State) : Host.Outcome State Fault Refusal :=
  let s1 := s.vwkRow f (f.cmd.toNat == VC.chain)
  if s1.vwk.chainReq then done ((s1.modVwk fun x => { x with chainReq := false }).requestReset .chain) else done s1

/-! ## Droop and temperature (R662 to R667) -/

/-- DROOP_WARN_CROSS (R663, R664): a hold begins in the cycle after, or the one in progress is extended. -/
def execDroopWarnCross (s : State) : Host.Outcome State Fault Refusal :=
  if !s.crp.headOn || !s.crp.mainUp then done s else
  if s.flag F.CRP_DROOP_STAT_HOLD then done (s.modCrp fun c => { c with holdEnd := some (s.now + c.holdUs * usCycles) }) else
  let us := s.f F.CRP_DROOP_CFG_WARN_HOLD + 1
  let s1 := ((s.pass 1).modCrp fun c => { c with holdStart := some (s.now + 1), holdUs := us, holdEnd := some (s.now + us * usCycles) }).modSch
    fun x => { x with droopEvents := x.droopEvents + 1, droopSinceMark := true }
  let s2 := (((s1.setB F.CRP_DROOP_STAT_HOLD true).setB F.CRP_DROOP_STAT_BOOST true).satF F.CRP_DROOP_STAT_HOLDS 1).emitPower
  done ((List.range 16).foldl State.deferCmd (s2.raise EV.droop))

/-- DROOP_HOLD_END (R664). -/
def execDroopHoldEnd (s : State) : Host.Outcome State Fault Refusal :=
  match s.crp.holdEnd with
  | none => done s
  | some t =>
    let s1 := s.passTo t
    let s2 := s1.modSch fun x => { x with droopCycles := s1.droopNow }
    done ((((s2.dropHold).setB F.CRP_DROOP_STAT_BOOST false).emitPower).endDefer.advanceAll.handOver)

/-- DROOP_ALLOWANCE_OVERRUN (R664): the hold time of the shift passes DROOP_ALLOW within the hold. -/
def execDroopAllowanceOverrun (s : State) : Host.Outcome State Fault Refusal :=
  match s.crp.holdEnd with
  | none => done s
  | some t =>
    let limit := s.f F.SCH_SHIFT_CFG_DROOP_ALLOW * usCycles + 1
    let at_ := s.now + (limit - s.droopNow)
    if at_ > t || s.flag F.SCH_CLS_STAT_DROOP then done s else done ((s.passTo at_).setCause F.SCH_CLS_STAT_DROOP true)

/-- TEMP_UPDATE (R667): every 1 ms while MAIN is powered. -/
def execTempUpdate (t : BitVec 9) (s : State) : Host.Outcome State Fault Refusal :=
  if !s.crp.mainUp then done s else
  let s1 := s.passTo ((s.now / (1000 * usCycles) + 1) * (1000 * usCycles))
  let trip := s1.fi F.CRP_TEMP_TRIP
  let old := s1.fi F.CRP_TEMP_T
  let s2 := s1.setF F.CRP_TEMP_T t.toNat
  done (if old < trip ∧ trip ≤ t.toInt then (s2.hit F.CRP_TEMP_OVER).raise EV.temp else s2)

/-! ## Scan and memory test (R633) -/

/-- Scan and memory test inputs are ignored in DEPLOYED and END. -/
def State.testLocked (s : State) : Bool := s.lifecycle == LC.deployed || s.lifecycle == LC.end_

/-- SCAN_MODE_RISE: handled as a tamper. -/
def execScanModeRise (s : State) : Host.Outcome State Fault Refusal :=
  if !s.crp.mainUp || s.testLocked || s.crp.scan then done s
  else done (((s.modCrp fun c => { c with scan := true }).hit F.GLB_PORT_STAT_SCAN_TAMPER).takeTamper)

/-- MEMORY_TEST_START: every memory's contents are destroyed. -/
def execMemoryTestStart (s : State) : Host.Outcome State Fault Refusal :=
  if !s.crp.mainUp || s.testLocked || !s.crp.scan || s.crp.mbist then done s
  else done (((s.clearMemories.modQue fun x => { x with ctx := [], poisoned := [] }).modCfg fun c =>
    { c with active := Half.empty, staged := Half.empty }).modCrp fun c => { c with mbist := true })

/-- MBIST_END. -/
def execMbistEnd (fail : Bool) (s : State) : Host.Outcome State Fault Refusal :=
  if !s.crp.mbist then done s else done ((s.modCrp fun c => { c with mbist := false }).emit (.mbist true fail))

end Sys2Proof.Machine
end

