-- ==== Sys2Proof/Machine/ThreadWord.lean ====
section
/-! DEFINITION. Instruction words (R473 to R519): their fields, conditions, registers, legality, own slots, and the registers
they read. -/

namespace Sys2Proof.Machine

/-! ## Fields (R473, R486) -/

/-- A paired word. -/
def isPair (w : Nat) : Bool := Nat.testBit w 31
def wCond (w : Nat) : Nat := bits w 27 4
def wOp (w : Nat) : Nat := bits w 21 6
/-- The three register fields of most layouts: [20:16], [15:11], [10:6]. -/
def wRd (w : Nat) : Nat := bits w 16 5
def wRa (w : Nat) : Nat := bits w 11 5
def wRb (w : Nat) : Nat := bits w 6 5
def wFn (w : Nat) : Nat := bits w 0 6
/-- The operation in [5:2] and the width, size or format in [1:0]. -/
def wFnOp (w : Nat) : Nat := bits w 2 4
def wFnW (w : Nat) : Nat := bits w 0 2
/-- MODE and imm8 of loads and stores. -/
def wMode (w : Nat) : Nat := bits w 8 3
def wImm8 (w : Nat) : Nat := bits w 0 8
/-- SPR of MVS and MVSW. -/
def wSpr (w : Nat) : Nat := bits w 10 6

/-- The two short operations of a paired word. -/
def short1 (w : Nat) : Nat := bits w 16 15
def short2 (w : Nat) : Nat := bits w 1 15
def shSc (o : Nat) : Nat := bits o 13 2
def shSop (o : Nat) : Nat := bits o 8 5
def shRd (o : Nat) : Nat := bits o 4 4
def shRs (o : Nat) : Nat := bits o 0 4

/-! ## Registers of a thread (R478, R479) -/

/-- The index in the thread's register file that a 5-bit field names. -/
def regIdx (full : Bool) (cwp code : Nat) : Nat :=
  if !full then code else if code < 24 then 8 + 8 * ((cwp + code / 8) % 15) + code % 8 else code - 24

/-- The 5-bit field that names the register of a 4-bit field. -/
def code4 (full : Bool) (code : Nat) : Nat := if full && decide (8 ≤ code) then code + 16 else code

/-- A register field that the profile has (R519). -/
def codeOk (full : Bool) (code : Nat) : Bool := full || decide (code ≤ 2)

def Thread.gprAt (x : Thread) (i : Nat) : BitVec 64 := kget 0 x.gpr i

/-- Register `i` holds `v`, usable by the next instruction (R432). -/
def Thread.put (x : Thread) (i : Nat) (v : BitVec 64) : Thread := { x with gpr := kset 0 x.gpr i v, usable := kset 0 x.usable i 0 }

/-- What stands at key `i` is usable from CK_THR cycle `c` on (R430). -/
def Thread.usableFrom (x : Thread) (i c : Nat) : Thread := { x with usable := kset 0 x.usable i c }

/-- The register that field `code` names, and its value. -/
def Thread.idx (x : Thread) (full : Bool) (code : Nat) : Nat := regIdx full x.cwp code
def Thread.rg (x : Thread) (full : Bool) (code : Nat) : BitVec 64 := x.gprAt (x.idx full code)

/-! ## Flags and conditions (R474, R475, R487, R488) -/

/-- Z, N, C and V as the value of SR[3:0]. -/
def flagBits (z n c v : Bool) : Nat := b2n z + 2 * b2n n + 4 * b2n c + 8 * b2n v

def Thread.flags (x : Thread) : Nat := x.srf SR.z 4

/-- The flags become `v`, usable by the next instruction. -/
def Thread.setFlags (x : Thread) (v : Nat) : Thread := { x.setSrf SR.z 4 v with usable := kset 0 x.usable 512 0 }

/-- A condition on the flags `fl` and predicates `p`. -/
def condOf (cond fl p : Nat) : Bool :=
  let z := Nat.testBit fl 0
  let n := Nat.testBit fl 1
  let c := Nat.testBit fl 2
  let v := Nat.testBit fl 3
  match cond with
  | 0 => true
  | 1 => z
  | 2 => !z
  | 3 => c
  | 4 => !c
  | 5 => n
  | 6 => c && !z
  | 7 => !c || z
  | 8 => n == v
  | 9 => n != v
  | 10 => !z && n == v
  | 11 => z || n != v
  | k => Nat.testBit p (k - 12)

def Thread.condHolds (x : Thread) (cond : Nat) : Bool := condOf cond x.flags (x.srf SR.p 4)

/-- The condition of a short operation (R475). -/
def Thread.scHolds (x : Thread) (sc : Nat) : Bool :=
  if sc = 1 then x.srb SR.p else if sc = 2 then !x.srb SR.p else true

/-- Class A: the sum a + b + cin and its flags; a − b is a + NOT b + 1 (R488). -/
def addFlags (a b : BitVec 64) (cin : Nat) : Nat :=
  let n := a.toNat + b.toNat + cin
  let r := BitVec.ofNat 64 n
  flagBits (r == 0) r.msb (decide (n ≥ 2 ^ 64)) (a.msb == b.msb && r.msb != a.msb)
def addVal (a b : BitVec 64) (cin : Nat) : BitVec 64 := BitVec.ofNat 64 (a.toNat + b.toNat + cin)

/-- Class L: Z and N of the result, C kept, V cleared. -/
def logicFlags (old : Nat) (r : BitVec 64) : Nat := flagBits (r == 0) r.msb (Nat.testBit old 2) false

/-- Class S: Z and N of the result, C the last bit shifted out, V kept. -/
def shiftFlags (old : Nat) (r : BitVec 64) (last : Option Bool) : Nat :=
  flagBits (r == 0) r.msb (last.getD (Nat.testBit old 2)) (Nat.testBit old 3)

/-- The kinds of shift (R486): result and the last bit shifted out, none for a count of 0. -/
def shiftOf (kind : Nat) (a : BitVec 64) (n : Nat) : BitVec 64 × Option Bool :=
  let low := if n = 0 then none else some (a.getLsbD (n - 1))
  match kind with
  | 0 => (a <<< n, if n = 0 then none else some (a.getLsbD (64 - n)))
  | 1 => (a >>> n, low)
  | 2 => (a.sshiftRight n, low)
  | _ => (a.rotateRight n, low)

/-! ## Vectors (R507) -/

/-- Width in bits of a width code, and elements of a group at it. -/
def widthOf (code : Nat) : Nat := 8 * 2 ^ code
def Thread.vlmax (x : Thread) (w : Nat) : Nat := x.vgrp * 128 / w

/-- Format of a format code (R494). -/
def fmtOf (code : Nat) : Fmt := if code = 0 then .f64 else if code = 1 then .f32 else if code = 2 then .f16 else .bf16

/-- Element `i` of the group at `v`. -/
def Thread.elem (x : Thread) (v w i : Nat) : Nat := bits (kget 0 x.v (v + i * w / 128) : BitVec 128).toNat (i * w % 128) w
def Thread.putElem (x : Thread) (v w i e : Nat) : Thread :=
  let r := v + i * w / 128
  { x with v := kset 0 x.v r (BitVec.ofNat 128 (putBits (kget 0 x.v r : BitVec 128).toNat (i * w % 128) w e)), usable := kset 0 x.usable (256 + r) 0 }

/-- Width of a vector word; VFPU takes it from the format (R509 to R512). -/
def vecWidth (w : Nat) : Nat :=
  let op := wOp w
  if op = 0x30 ∨ op = 0x31 then widthOf (bits w 4 2) else if op = 0x33 then (fmtOf (wFnW w)).w
  else if op = 0x34 then widthOf (bits w 9 2) else widthOf (wFnW w)

/-! ## Legality (R433, R506, R519) -/

/-- The SPRs that the profile has (R481). -/
def sprOk (full vec : Bool) (n : Nat) : Bool :=
  n ≤ 2 || n == 4 || n == 8 || n == 0xC || n == 0x10 || (decide (0x1B ≤ n) && decide (n ≤ 0x1D)) ||
    (full && (n == 3 || (decide (5 ≤ n) && decide (n ≤ 0x17)))) || (vec && decide (0x18 ≤ n) && decide (n ≤ 0x1A))

/-- Level of a REP (R505). -/
def repLevel (full : Bool) : Nat := if full then 3 else 0

/-- A word that may not follow a REP at level `n` (R506). -/
def repBars (w n : Nat) : Bool :=
  if isPair w then shSop (short1 w) == 0x16 || shSop (short2 w) == 0x16 else
  let op := wOp w
  op == 0x18 || op == 0x19 || op == 0x1A || op == 0x1C || op == 0x1D || op == 0x3E ||
    (op == 0x3D && (wSpr w == 8 + n || wSpr w == 0xC + n || wSpr w == 0x10 + n))

/-- What legality depends on beside the word: profile, VEC, the thread, the word after it. -/
structure WordCtx where
  full : Bool
  vec : Bool
  x : Thread
  next : Nat

/-- Fields rd, ra and rb name registers, or are zero where `z` says so. -/
def fieldOk (full zero : Bool) (code : Nat) : Bool := if zero then code == 0 else codeOk full code

/-- ALU (R487). -/
def legalAlu (full : Bool) (w : Nat) : Bool :=
  let fn := wFn w
  decide (fn ≤ 0x1A) && fieldOk full (fn == 0xC || fn == 0xD) (wRd w) && codeOk full (wRa w) &&
    fieldOk full (fn == 0xE || fn == 0xF || fn == 0x10 || (decide (0x15 ≤ fn) && decide (fn ≤ 0x19))) (wRb w)

/-- FPU (R494). -/
def legalFpu (full : Bool) (w : Nat) : Bool :=
  let op := wFnOp w
  decide (op ≤ 0xA) && fieldOk full (op == 0xA) (wRd w) && codeOk full (wRa w) && fieldOk full (op == 5 || op == 8 || op == 9) (wRb w)

/-- FCVT (R495). -/
def legalFcvt (full : Bool) (w : Nat) : Bool :=
  let st := bits w 7 4
  let dt := bits w 3 4
  codeOk full (wRd w) && codeOk full (wRa w) && bits w 0 3 == 0 && decide (st ≤ 0xD) && decide (dt ≤ 0xD) && st != dt &&
    !(decide (st ≤ 7) && decide (dt ≤ 7))

/-- CMPP (R491). -/
def legalCmpp (full : Bool) (w : Nat) : Bool :=
  let c := bits w 15 4
  c != 0 && decide (c < 0xC) && codeOk full (bits w 10 5) && codeOk full (bits w 5 5) && bits w 0 5 == 0

/-- Loads, stores, ADDM, SUBM and CMPM (R498, R499). -/
def legalMem (full : Bool) (op w : Nat) : Bool :=
  let m := wMode w
  let load := decide (op ≤ 0x26)
  m != 7 && codeOk full (wRd w) && (m == 6 || codeOk full (wRa w)) &&
    (m != 1 || (bits w 5 3 == 0 && codeOk full (bits w 0 5))) && (full || (m != 4 && m != 5)) &&
    !(load && decide (2 ≤ m) && decide (m ≤ 5) && wRd w == wRa w) && (decide (op ≤ 0x2B) || m == 0 || m == 6)

/-- VLD, VST, VALU, VFPU and VMOV (R507 to R512). -/
def legalVec (c : WordCtx) (op w : Nat) : Bool :=
  let v (n : Nat) : Bool := n % c.x.vgrp == 0
  c.vec && decide (c.x.vl ≤ c.x.vlmax (vecWidth w)) &&
    (if op = 0x30 ∨ op = 0x31 then
      bits w 0 2 == 0 && bits w 2 2 != 3 && v (wRd w) && (bits w 2 2 != 2 || v (wRb w))
    else if op = 0x32 then decide (wFnOp w ≤ 0xC) && v (wRd w) && v (wRa w) && v (wRb w)
    else if op = 0x33 then decide (wFnOp w ≤ 5) && v (wRd w) && v (wRa w) && v (wRb w)
    else match wFnOp w with
      | 0 => v (wRd w) && wRb w == 0
      | 1 => v (wRa w)
      | 2 => v (wRd w)
      | 3 => v (wRa w) && wRb w == 0
      | 4 => v (wRd w) && v (wRa w)
      | _ => false)

/-- CHLI and CHLR (R514). -/
def legalChan (full : Bool) (op w : Nat) : Bool :=
  let fn := bits w 0 4
  decide (fn ≤ 0xA) && fieldOk full (fn == 6 || fn == 7 || fn == 8 || fn == 0xA) (wRd w) &&
    (if op = 0x38 then (decide (5 < fn) || bits w 14 2 == 0) && (fn != 9 || bits w 6 10 == 0)
    else codeOk full (wRa w) && bits w 4 7 == 0)

/-- SYS (R515). -/
def legalSys (c : WordCtx) (w : Nat) : Bool :=
  let fn := wFn w
  wRd w == 0 && wRb w == 0 && decide (fn ≤ 6) && fieldOk c.full (decide (fn < 5)) (wRa w) && (c.full || decide (fn < 5)) &&
    (fn != 1 || c.x.srb SR.al)

/-- A long word that decodes (R519). -/
def legalLong (c : WordCtx) (w : Nat) : Bool :=
  let full := c.full
  let rd := codeOk full (wRd w)
  let ra := codeOk full (wRa w)
  let rb := codeOk full (wRb w)
  match wOp w with
  | 0x01 => legalAlu full w
  | 0x02 => rd && ra
  | 0x03 => rd && ra
  | 0x04 => rd && ra
  | 0x05 => rd && ra
  | 0x06 => wRd w == 0 && ra
  | 0x07 => rd
  | 0x08 => rd
  | 0x09 => rd
  | 0x0A => rd
  | 0x0B => rd
  | 0x0C => rd && ra && bits w 0 3 == 0
  | 0x0D => rd && ra && decide (bits w 5 6 + bits w 0 5 + 1 ≤ 64)
  | 0x0E => rd && ra && decide (bits w 5 6 + bits w 0 5 + 1 ≤ 64)
  | 0x0F => rd && ra && decide (bits w 5 6 + bits w 0 5 + 1 ≤ 64)
  | 0x10 => bits w 18 3 == 0 && (full || bits w 16 2 == 0) && ra && rb && decide (wFn w ≤ 5)
  | 0x11 => rd && ra && rb && decide (wFn w ≤ 3)
  | 0x12 => legalFpu full w
  | 0x13 => legalFcvt full w
  | 0x14 => legalCmpp full w
  | 0x18 => true
  | 0x19 => true
  | 0x1A => wRd w == 0 && wRb w == 0 && decide (wFn w ≤ 2) && fieldOk full (wFn w == 2) (wRa w)
  | 0x1C => (full || bits w 19 2 == 0) && (Nat.testBit w 7 || (bits w 5 2 == 0 && codeOk full (bits w 0 5)))
  | 0x1D => bits w 16 4 == 0 && (Nat.testBit w 20 || (bits w 5 11 == 0 && codeOk full (bits w 0 5))) &&
      c.x.lcOf (repLevel full) == 0 && !repBars c.next (repLevel full)
  | 0x2C => rd && ra && rb && decide (2 ≤ wFnW w) && decide (1 ≤ wFnOp w) && decide (wFnOp w ≤ 0xA)
  | 0x34 => c.vec && rd && ra && bits w 0 7 == 0
  | 0x3C => rd && bits w 0 10 == 0 && sprOk full c.vec (wSpr w)
  | 0x3D => rd && bits w 0 10 == 0 && sprOk full c.vec (wSpr w) && decide (wSpr w < 0x1B)
  | 0x3E => legalSys c w
  | 0x3F => rd && ra
  | op =>
    if (0x20 ≤ op ∧ op ≤ 0x26) ∨ (0x28 ≤ op ∧ op ≤ 0x2B) ∨ (0x2D ≤ op ∧ op ≤ 0x2F) then legalMem full op w
    else if (0x30 ≤ op ∧ op ≤ 0x33) ∨ op = 0x35 then legalVec c op w
    else if op = 0x38 ∨ op = 0x39 then legalChan full op w
    else false

/-- A short operation's fields (R518): which of RD and RS name registers. -/
def shReadsRs (sop : Nat) : Bool := (decide (1 ≤ sop) && decide (sop ≤ 7)) || (decide (0xD ≤ sop) && decide (sop ≤ 0x10)) ||
  (decide (0x12 ≤ sop) && decide (sop ≤ 0x15)) || sop == 0x17 || sop == 0x18
def shUsesRd (sop : Nat) : Bool := sop != 0 && sop != 0x16
/-- Operations that read RD. -/
def shReadsRd (sop : Nat) : Bool := (decide (2 ≤ sop) && decide (sop ≤ 8)) || (decide (0xA ≤ sop) && decide (sop ≤ 0xC)) ||
  sop == 0xE || sop == 0x10 || sop == 0x17 || sop == 0x18
def shMem (sop : Nat) : Bool := decide (0xD ≤ sop) && decide (sop ≤ 0x10)
def shFlags (sop : Nat) : Bool := (decide (2 ≤ sop) && decide (sop ≤ 8)) || (decide (0xA ≤ sop) && decide (sop ≤ 0xC)) || sop == 0x12 ||
  sop == 0x13
/-- Register fields written (R433, R518): LDI and STI count as writing both. -/
def shWrites (o : Nat) : List Nat :=
  let sop := shSop o
  if sop = 0xF ∨ sop = 0x10 then [shRd o, shRs o]
  else if sop = 0 ∨ sop = 7 ∨ sop = 0xE ∨ sop = 0x16 then [] else [shRd o]

def legalShort (full : Bool) (o : Nat) : Bool :=
  let sop := shSop o
  shSc o != 3 && decide (sop ≤ 0x18) && (sop != 0 || (shRd o == 0 && shRs o == 0)) && (!shUsesRd sop || codeOk full (shRd o)) &&
    (!shReadsRs sop || codeOk full (shRs o)) && (sop != 0x11 || (decide (shRs o ≤ 3) && (full || shRs o == 0))) &&
    (sop != 0xF || shRd o != shRs o)

/-- A paired word that decodes (R433, R519). -/
def legalPair (full : Bool) (w : Nat) : Bool :=
  let a := short1 w
  let b := short2 w
  !Nat.testBit w 0 && legalShort full a && legalShort full b && shSop a != 0x16 && !(shFlags (shSop a) && shFlags (shSop b)) &&
    !(shMem (shSop a) && shMem (shSop b)) && (shWrites a).all fun r => !(shWrites b).contains r

/-- A word that decodes; every other raises ILLEGAL, whatever its condition (R476, R519). -/
def legalWord (c : WordCtx) (w : Nat) : Bool := if isPair w then legalPair c.full w else legalLong c w

/-- Only REG needs PRIV (R517, R519); MVSW of SR is checked as it executes (R516). -/
def privWord (w : Nat) : Bool := !isPair w && wOp w == 0x3F

/-! ## Own slots (R483) -/

/-- The cost of a word: AMO and vector accesses outside thread memory count their issue slot. -/
def wordCost (full : Bool) (x : Thread) (w : Nat) : Nat :=
  if isPair w then 1 else
  let op := wOp w
  let n := x.vl - x.vstart
  let beats := max 1 ((n * vecWidth w + 127) / 128)
  if op = 0x11 then 17
  else if op = 0x12 ∧ (wFnOp w = 4 ∨ wFnOp w = 5) then (if wFnW w = 0 then 17 else 9)
  else if op = 0x2C then (if (x.rg full (wRa w)).toNat < 0x400000 then 2 else 1)
  else if op = 0x30 ∨ op = 0x31 then (if bits w 2 2 = 0 then beats else max 1 n)
  else if op = 0x32 ∨ op = 0x33 then beats
  else if op = 0x35 then (if wFnOp w = 1 ∨ wFnOp w = 2 then 1 else beats)
  else if (op = 0x38 ∨ op = 0x39) ∧ (bits w 0 4 = 6 ∨ bits w 0 4 = 7) then 2
  else if op = 0x3E then (if wFn w = 1 then 4 else if wFn w = 5 ∨ wFn w = 6 then 8 else 1)
  else 1

/-- Words after which three CK_THR cycles pass (R484). -/
def gapWord (w : Nat) : Bool :=
  if isPair w then shSop (short2 w) == 0x16 else
  let op := wOp w
  op == 0x18 || op == 0x19 || op == 0x1A || (op == 0x3E && wFn w == 1)

/-! ## Registers read (R430) -/

/-- Keys of a vector register group. -/
def Thread.vecKeys (x : Thread) (v : Nat) : List Nat := (List.range x.vgrp).map fun i => 256 + v + i

/-- Keys that a short operation reads. -/
def shKeys (full : Bool) (x : Thread) (o : Nat) : List Nat :=
  (if shReadsRd (shSop o) then [x.idx full (code4 full (shRd o))] else []) ++
    if shReadsRs (shSop o) then [x.idx full (code4 full (shRs o))] else []

/-- Keys of `usable` that a long word reads; the condition's flags among them. -/
def longKeys (full : Bool) (x : Thread) (w : Nat) : List Nat :=
  let r (code : Nat) : List Nat := [x.idx full code]
  let op := wOp w
  let d := r (wRd w)
  let a := r (wRa w)
  let b := r (wRb w)
  let fl := if 1 ≤ wCond w ∧ wCond w ≤ 11 then [512] else []
  let m := wMode w
  let addr := if m = 6 then [] else if m = 1 then a ++ r (bits w 0 5) else a
  fl ++
    if op = 1 then (if wFn w = 2 ∨ wFn w = 3 then [512] else []) ++ a ++ b
    else if (2 ≤ op ∧ op ≤ 6) ∨ (0xC ≤ op ∧ op ≤ 0xE) ∨ op = 0x13 ∨ op = 0x34 then a
    else if 8 ≤ op ∧ op ≤ 0xB then d
    else if op = 0xF then d ++ a
    else if op = 0x10 ∨ op = 0x11 then a ++ b
    else if op = 0x12 then (if wFnOp w = 3 then d else []) ++ a ++ b
    else if op = 0x14 then r (bits w 10 5) ++ r (bits w 5 5)
    else if op = 0x1A then (if wFn w = 2 then [] else a)
    else if op = 0x1C then (if Nat.testBit w 7 then [] else r (bits w 0 5))
    else if op = 0x1D then (if Nat.testBit w 20 then [] else r (bits w 0 5))
    else if 0x20 ≤ op ∧ op ≤ 0x26 then addr
    else if (0x28 ≤ op ∧ op ≤ 0x2B) ∨ (0x2D ≤ op ∧ op ≤ 0x2F) then d ++ addr
    else if op = 0x2C then (if wFnOp w = 3 then d else []) ++ a ++ b
    else if op = 0x30 ∨ op = 0x31 then
      a ++ (if bits w 2 2 = 1 then b else if bits w 2 2 = 2 then x.vecKeys (wRb w) else []) ++ if op = 0x31 then x.vecKeys (wRd w) else []
    else if op = 0x32 then x.vecKeys (wRa w) ++ x.vecKeys (wRb w)
    else if op = 0x33 then (if wFnOp w = 3 then x.vecKeys (wRd w) else []) ++ x.vecKeys (wRa w) ++ x.vecKeys (wRb w)
    else if op = 0x35 then
      (match wFnOp w with
        | 0 => a
        | 1 => x.vecKeys (wRa w) ++ b
        | 2 => a ++ b ++ x.vecKeys (wRd w)
        | _ => x.vecKeys (wRa w))
    else if op = 0x38 then (if 2 ≤ bits w 0 4 ∧ bits w 0 4 ≤ 5 then d else [])
    else if op = 0x39 then a ++ if 2 ≤ bits w 0 4 ∧ bits w 0 4 ≤ 5 then d else []
    else if op = 0x3C then (if wSpr w = 0 then [512] else [])
    else if op = 0x3D then d
    else if op = 0x3E then
      (if wFn w = 5 then a ++ (List.range 8).map fun j => 8 + 8 * x.wbot + j else if wFn w = 6 then a else [])
    else if op = 0x3F then a ++ if Nat.testBit w 0 then d else []
    else []

def wordKeys (full : Bool) (x : Thread) (w : Nat) : List Nat :=
  if isPair w then shKeys full x (short1 w) ++ shKeys full x (short2 w) else longKeys full x w

/-- The CK_THR cycle from which every register that the word reads is usable. -/
def Thread.needs (x : Thread) (full : Bool) (w : Nat) : Nat := (wordKeys full x w).foldl (fun a k => max a (kget 0 x.usable k)) 0

end Sys2Proof.Machine
end

