-- ==== Sys2Proof/Machine/Csr.lean ====
section
/-! DEFINITION. A register access as a whole (R14 to R22, R138 to R141, R240, R517, R602, R646, R684, R685): what a write of
each register does, and what a read of it shows. -/

namespace Sys2Proof.Machine

/-- The index `i < n` with `off = base + i * stride`. -/
def famOf (base stride n off : Nat) : Option Nat :=
  if base ≤ off ∧ (off - base) % stride = 0 ∧ (off - base) / stride < n then some ((off - base) / stride) else none

/-! ## Expert registers (R18, R140, R141) -/

/-- The bits that the GUARD section of a half names at `off`. -/
def Half.guardMask (h : Half) (off : Nat) : Nat :=
  ((chunks 8 (h.bytes ST.guard 0)).filter fun e => bits e 0 32 == off).foldl (fun a e => a ||| bits e 32 32) 0

/-- A guarded bit changed (R141). -/
def State.voidContract (s : State) (off : Nat) : State :=
  let s1 := if s.flag F.CONTRACT_STAT_VOID then s else s.setF F.CONTRACT_STAT_FIRST_OFF off
  (s1.setB F.CONTRACT_STAT_VOID true).raise EV.contractVoid

/-- What a write of `data` makes of a register that holds `old` (R14, R17): RW bits follow, W1C bits written 1 clear. -/
def RegDef.merge (d : RegDef) (old data : Word) : Word :=
  ((old &&& ~~~(BitVec.ofNat 32 d.rw)) ||| (data &&& BitVec.ofNat 32 d.rw)) &&& ~~~(data &&& BitVec.ofNat 32 d.w1c)

/-- Expert access is unlocked. -/
def State.expertOn (s : State) : Bool :=
  match s.cfg.expert with
  | .unlocked _ => true
  | _ => false

/-- A write of an expert register: refused while locked (R140), else taken, with the guard check of R141. -/
def State.xWrite (s : State) (d : RegDef) (off : Nat) (data : Word) : Acc :=
  if !s.expertOn then { refusedAcc s with s := s.hit F.CONTRACT_STAT_LOCKED_WR } else
  let old := s.xView off
  let new := (d.merge (BitVec.ofNat 32 old) data).toNat
  let act := data.toNat &&& d.wo
  let r : Bool × State := match famOf (R.SBD_PINSELi 0) 4 8 off with
    | some i => (false, s.ownerWrite i new)
    | none => s.xPut off new act
  let changed := (old ^^^ r.2.xView off) ||| act
  let s1 := if s.cfg.imageActive && s.cfg.active.guardMask off &&& changed != 0 then r.2.voidContract off else r.2
  { data := 0, err := r.1, s := s1 }

/-! ## Basic registers with an action -/

/-- CFG_CTRL (R118, R128, R130, R134): a start that is refused leaves SRC as it was. -/
def State.cfgCtrl (s : State) (data : Word) : State :=
  let s1 := if wb data F.CFG_CTRL_START && s.startRefused then s else s.setB F.CFG_CTRL_SRC (wb data F.CFG_CTRL_SRC)
  let s2 := if wb data F.CFG_CTRL_START then s1.startLoad else s1
  let s3 := if wb data F.CFG_CTRL_ABORT then s2.abortLoad else s2
  let s4 := if wb data F.CFG_CTRL_DISARM then s3.disarmImage else s3
  if wb data F.CFG_CTRL_ACTIVATE then s4.activateImage else s4

/-- CFG_ARM_LO and CFG_ARM_HI (R132): a write of LO arms. -/
def State.cfgArm (s : State) (off : Nat) (data : Word) : State :=
  if s.armLocked then s.hit F.CFG_STAT_ARM_ERR
  else if off = R.CFG_ARM_LO then (s.setReg off data).armImage else s.setReg off data

/-- LNK_LGn_CTRL (R168, R227, R652). -/
def State.lgCtrl (s : State) (g : Nat) (d : RegDef) (data : Word) : State :=
  let s1 := s.setReg (R.LNK_LGn_CTRL g) (d.merge (s.reg (R.LNK_LGn_CTRL g)) data)
  let s2 := if wb data (F.LNK_LGn_CTRL_EN g) then (s1.pollOff g).pollSignal g else s1.groupOff g
  if wb data (F.LNK_LGn_CTRL_RETRAIN g) && s2.tstate g != TS.off then s2.toSignal g true else s2

/-- LNK_LGn_KEY_CMD (R217, R232). -/
def State.keyCmd (s : State) (g : Nat) (data : Word) : State :=
  let dir := wf data (F.LNK_LGn_KEY_CMD_DIR g)
  let slot := wf data (F.LNK_LGn_KEY_CMD_SLOT g)
  let s1 := if wb data (F.LNK_LGn_KEY_CMD_LOAD g) then s.keyLoad g dir slot else s
  if wb data (F.LNK_LGn_KEY_CMD_ERASE g) then s1.keyErase g dir slot else s1

/-- QUE_BAR_CMD (R255). -/
def State.barCmd (s : State) (data : Word) : State :=
  let b := wf data F.QUE_BAR_CMD_BAR_ID
  match wf data F.QUE_BAR_CMD_CMD with
  | 1 => s.barRelease b (wf data F.QUE_BAR_CMD_STATUS)
  | 2 => s.barReset b
  | _ => s

/-- QUE_CTX_CMD (R236, R237, R286). -/
def State.ctxCmd (s : State) (data : Word) : State :=
  let s1 := if wb data F.QUE_CTX_CMD_ERR then s.setB F.QUE_CTX_CMD_ERR false else s
  let s2 := if wb data F.QUE_CTX_CMD_READ then s1.ctxRead else s1
  let s3 := if wb data F.QUE_CTX_CMD_WRITE then s2.ctxWrite else s2
  if wb data F.QUE_CTX_CMD_FLUSH then s3.flushQueue (s3.f F.QUE_CTX_SEL_Q) else s3

/-- QUE_PEER_CMD (R261, R287). -/
def State.peerCmd (s : State) (data : Word) : State :=
  let s1 := if wb data F.QUE_PEER_CMD_ERR then s.setB F.QUE_PEER_CMD_ERR false else s
  let s2 := if wb data F.QUE_PEER_CMD_READ then s1.peerRead else s1
  let s3 := if wb data F.QUE_PEER_CMD_ADD then s2.peerAdd else s2
  if wb data F.QUE_PEER_CMD_REMOVE then s3.peerRemove else s3

/-- STR_CMD_GO (R302, R345). -/
def State.cmdGo (s : State) (data : Word) : State :=
  let s1 := s.setF F.STR_CMD_GO_DRIFT (wf data F.STR_CMD_GO_DRIFT)
  let s2 := if wb data F.STR_CMD_GO_ERR then s1.setB F.STR_CMD_GO_ERR false else s1
  if wb data F.STR_CMD_GO_GO then s2.streamGo (wf data F.STR_CMD_GO_DRIFT) else s2

/-- STR_RED_CMD (R386). -/
def State.redCmd (s : State) (data : Word) : State :=
  let s1 := if wb data F.STR_RED_CMD_ERR then s.setB F.STR_RED_CMD_ERR false else s
  if wb data F.STR_RED_CMD_RESET then s1.redReset else s1

/-- STR_Dd_CTRL (R336). -/
def State.driftCtrl (s : State) (d : Nat) (data : Word) : State :=
  let s1 := if wb data (F.STR_Dd_CTRL_ABORT d) then s.driftAbort d else s
  if wb data (F.STR_Dd_CTRL_FLUSH d) then s1.driftFlush d else s1

/-- EVT_RAISE (R675): a CSP or debug write alone raises a general source. -/
def State.evtRaise (s : State) (src : RegSrc) (data : Word) : State :=
  let n := wf data F.EVT_RAISE_EV
  match src with
  | .thread _ => if n < 512 then s.raiseGeneral n else s
  | _ => s.raiseGeneral n

/-- DBG_CTRL (R654, R687). -/
def State.dbgCtrl (s : State) (data : Word) : State :=
  let s1 := s.traceFill.setB F.DBG_CTRL_ATTACH (wb data F.DBG_CTRL_ATTACH)
  let s2 := if wb data F.DBG_CTRL_HALT then s1.debugHalt else s1
  let s3 := if wb data F.DBG_CTRL_RESUME then s2.debugResume else s2
  if wb data F.DBG_CTRL_DBG_RST && wf data F.DBG_CTRL_KEY == 0xDB60 && !s3.dbgLocked then s3.requestReset .debug else s3

/-- DBG_TR_CFG (R690, R691): setting EN starts the trace at the present cycle; clearing it writes the partial word with pad records. -/
def State.traceCfg (s : State) (data : Word) : State :=
  let was := s.flag F.DBG_TR_CFG_EN
  let en := wb data F.DBG_TR_CFG_EN
  let s1 := s.traceFill.setReg R.DBG_TR_CFG (data &&& 0x1FFF)
  if was && !en && !s1.dbg.trace.isEmpty then
    let s2 := s1.traceFlush false
    s2.setF F.DBG_TR_WIDX_IDX ((s2.f F.DBG_TR_WIDX_IDX + 7) / 8 * 8 % (s2.traceSize / 8))
  else if en && !was then { s1 with dbg := { s1.dbg with next := s1.cyc, seen := [] } }
  else s1

/-- A write of a basic register of GLB, CRP, CFG or SCH. -/
def State.writeLow (s : State) (d : RegDef) (off : Nat) (data : Word) : State :=
  let put := s.setReg off (d.merge (s.reg off) data)
  if off = R.GLB_TND_CTRL then s.tandemCtrl data
  else if off = R.CRP_MODE_CTRL then s.modeCtrl data
  else if off = R.CRP_RST_CTRL then s.rstCtrl data
  else if off = R.CRP_LINK_RST then s.linkRst data
  else if off = R.CFG_CTRL then s.cfgCtrl data
  else if off = R.CFG_ARM_LO ∨ off = R.CFG_ARM_HI then s.cfgArm off data
  else if off = R.SCH_RPT_CTRL then
    s.setReg off (BitVec.ofNat 32 (keepField (s.reg off).toNat (d.merge (s.reg off) data).toNat 8 4 fun v => decide (v ≤ 12)))
  else put

/-- A write of a basic register of LNK. -/
def State.writeLnk (s : State) (d : RegDef) (off : Nat) (data : Word) : State :=
  let g := (off - R.LNK_LGn_CFG 0) / 256
  let r := (off - R.LNK_LGn_CFG 0) % 256
  let put := s.setReg off (d.merge (s.reg off) data)
  if off < R.LNK_LGn_CFG 0 then put
  else if r = 0x04 then s.lgCtrl g d data
  else if r = 0x44 then put.gcmArm g
  else if r = 0x4C then s.keyCmd g data
  else if 0x50 ≤ r ∧ r ≤ 0x70 then s.setReg off data
  else put

/-- A write of a basic register of QUE or STR. -/
def State.writeEngines (s : State) (d : RegDef) (off : Nat) (data : Word) : State :=
  if off = R.QUE_BAR_CMD then s.barCmd data
  else if off = R.QUE_CTX_CMD then s.ctxCmd data
  else if off = R.QUE_PEER_CMD then s.peerCmd data
  else if off = R.STR_CMD_GO then s.cmdGo data
  else if off = R.STR_RED_CMD then s.redCmd data
  else match famOf (R.STR_Dd_CTRL 0) 64 16 off with
    | some i => s.driftCtrl i data
    | none => s.setReg off (d.merge (s.reg off) data)

/-- A write of a basic register of VWK, SBD, PE or TM. -/
def State.writeSide (s : State) (d : RegDef) (off : Nat) (data : Word) : State :=
  let put := s.setReg off (d.merge (s.reg off) data)
  if off = R.VWK_CTRL then s.vwkCtrl data.toNat
  else if off = R.VWK_RX_POP then (if Nat.testBit data.toNat 0 then s.modVwk fun x => { x with rxq := x.rxq.tail } else s)
  else if off = R.SBD_GPIO_OUT ∨ off = R.SBD_GPIO_OE then put.updatePins
  else match famOf (R.PEn_CTRL 0) 64 8 off, famOf (R.PEn_FEED 0) 64 8 off, famOf (R.TMm_CTRL 0) 32 16 off with
    | some n, _, _ => s.peCtrl n data.toNat
    | none, some n, _ => s.peFeed n data
    | none, none, some m => s.tmCtrl m data.toNat
    | none, none, none => put

/-- EVT_PENDk (R678): a bit written 1 is cleared; a source raised again in the same CK_CTL cycle is delivered anew, its bit set. -/
def State.pendWrite (s : State) (d : RegDef) (off : Nat) (data : Word) : State :=
  let k := (off - R.EVT_PENDk 0) / 4
  (List.range 32).foldl (fun a b => if data.getLsbD b && s.raisedAgain (32 * k + b) then a.redeliver (32 * k + b) else a)
    (s.setReg off (d.merge (s.reg off) data))

/-- A write of a basic register of BTP, EVT or DBG. -/
def State.writeHigh (s : State) (src : RegSrc) (d : RegDef) (off : Nat) (data : Word) : State :=
  if off = R.BTP_TH_CMD then s.thCtrl src data.toNat
  else if off = R.BTP_FLOG_POP then (if Nat.testBit data.toNat 0 then s.modBtp fun b => { b with flog := b.flog.tail } else s)
  else if off = R.BTP_LAMP_CMD then s.lampCtrl src data.toNat
  else if off = R.EVT_RAISE then s.evtRaise src data
  else if R.EVT_PENDk 0 ≤ off ∧ off < R.EVT_PENDk 128 then s.pendWrite d off data
  else if off = R.DBG_CTRL then s.dbgCtrl data
  else if off = R.DBG_TR_CFG then s.traceCfg data
  else if off = R.DBG_TR_RING then
    s.setReg off (BitVec.ofNat 32 (keepField (s.reg off).toNat (d.merge (s.reg off) data).toNat 10 4 fun v => decide (v ≤ 10)))
  else s.setReg off (d.merge (s.reg off) data)

/-- A write of the basic register at `off`. -/
def State.bWrite (s : State) (src : RegSrc) (d : RegDef) (off : Nat) (data : Word) : State :=
  if off < 0x80000 then s.writeLow d off data
  else if off < 0x100000 then s.writeLnk d off data
  else if off < 0x300000 then s.writeEngines d off data
  else if 0x3C0000 ≤ off ∧ off < 0x3E0000 then s.writeSide d off data
  else s.writeHigh src d off data

/-- The DBG region. -/
def dbgRegion (off : Nat) : Bool := decide (0x3F0000 ≤ off ∧ off < 0x400000)

/-- W1C bits that hardware has set in the same CK_CTL cycle in which a write clears them end set (R15). -/
def State.keepHits (s : State) (d : RegDef) (off : Nat) : State :=
  let h := (s.hitsAt off).1 &&& BitVec.ofNat 32 d.w1c
  if h = 0 then s else s.setReg off (s.reg off ||| h)

/-- A write of a register (R15, R18, R21, R646, R685). -/
def State.regWrite (s : State) (src : RegSrc) (off : Nat) (data : Word) : Acc :=
  let needsMain := (off == R.VWK_CTRL && Nat.testBit data.toNat 0) || (off == R.CRP_LINK_RST && wf data F.CRP_LINK_RST_LG != 0)
  if !s.crp.mainUp && needsMain then refusedAcc s else
  match regAt off with
  | none => refusedAcc s
  | some d =>
    if dbgRegion off && src != .debug then refusedAcc s
    else if d.expert then s.xWrite d off data
    else { data := 0, err := false, s := (s.bWrite src d off data).keepHits d off }

/-- A write of a doorbell (R240). -/
def State.doorbellWrite (s : State) (src : RegSrc) (off : Nat) (data : Word) : State :=
  let q := (off - 0xC00000) / 64
  let v := bits data.toNat 0 16
  match off % 64 with
  | 0 => s.doorbellSq src q v
  | 4 => s.doorbellRq src q v
  | 8 => s.doorbellCq src q v
  | _ => s

/-- A write of `data` of size code `size` at `off` as it ends, before its end reaches the source. -/
def State.writeAcc (s0 : State) (src : RegSrc) (off size : Nat) (data : Word) : Acc :=
  let glb := off == R.GLB_CTRL && !badSize size off && s0.crp.mainUp
  let s := if glb then s0.expertWrite src (wf data F.GLB_CTRL_EXPERT) else s0.noteWrite src
  if badSize size off then refusedAcc s
  else if glb then { data := 0, err := false, s := s }
  else if !s.crp.mainUp && !headServed off then absent s
  else if off < 0x400000 then s.regWrite src off data
  else if off < 0x800000 then s.tmemWindow (off - 0x400000) (some data)
  else if off < 0xC00000 then s.stagingWindow (off - 0x800000) (some data)
  else { data := 0, err := false, s := s.doorbellWrite src off data }

/-! ## What reads show -/

/-- The value `v` in field `x` of a word. -/
def wput (w : Word) (x : Fld) (v : Nat) : Word := BitVec.ofNat 32 (putBits w.toNat x.lo x.w v)

/-- GLB_CTRL and CONTRACT_STAT (R138), GLB_HMPp_STAT (R639). -/
def State.viewGlb (s : State) (off : Nat) (w : Word) : Word :=
  if off = R.GLB_CTRL then wput 0 F.GLB_CTRL_EXP_ON (b2n s.expertOn)
  else if off = R.CONTRACT_STAT then wput w F.CONTRACT_STAT_EXPERT (b2n s.expertOn)
  else match famOf (R.GLB_HMPp_STAT 0) 4 8 off with
    | some p =>
      let h := s.hmpPort p
      let quar := (h.reads.filter fun t => t.heldOver).length + (h.writes.filter fun t => t.heldOver).length
      wput (wput (wput w (F.GLB_HMPp_STAT_RD_OUT p) h.reads.length) (F.GLB_HMPp_STAT_WR_OUT p) h.writes.length)
        (F.GLB_HMPp_STAT_QUAR p) (min 127 quar)
    | none => w

/-- The half that a STAGED bit selects. -/
def State.halfOf (s : State) (staged : Bool) : Half := if staged then s.cfg.staged else s.cfg.active

/-- The calendar that SCH_CAL_SEL selects (R223). -/
def State.calSel (s : State) : List Nat :=
  (s.halfOf (s.flag F.SCH_CAL_SEL_STAGED)).calendar (s.f F.SCH_CAL_SEL_LG) (s.f F.SCH_CAL_SEL_DIR)
    (if s.flag F.SCH_CAL_SEL_FB then some (s.f F.SCH_CAL_SEL_WCODE) else none)

/-- SCH registers (R90, R100, R223, R343, R72). -/
def State.viewSch (s : State) (off : Nat) (w : Word) : Word :=
  if off = R.SCH_TIME_LO then BitVec.ofNat 32 s.sch.ft.toNat
  else if off = R.SCH_TIME_HI then BitVec.ofNat 32 (s.sch.ft.toNat / 2 ^ 32)
  else if off = R.SCH_SHIFT_LO then BitVec.ofNat 32 s.shiftNo
  else if off = R.SCH_SHIFT_HI then BitVec.ofNat 32 (s.shiftNo / 2 ^ 32)
  else if off = R.SCH_DROOP_USED then BitVec.ofNat 32 (usCeil s.droopNow)
  else if off = R.SCH_CAL_SEL then wput w F.SCH_CAL_SEL_COUNT s.calSel.length
  else if R.SCH_CAL_WIN 0 ≤ off ∧ off < R.SCH_CAL_WIN 32768 then BitVec.ofNat 32 (s.calSel.getD ((off - R.SCH_CAL_WIN 0) / 4) 0)
  else if R.SCH_BSM_WIN 0 ≤ off ∧ off < R.SCH_BSM_WIN 16384 then
    BitVec.ofNat 32 ((s.halfOf (s.flag F.SCH_BSM_SEL_STAGED)).rd ST.bankslot 0
      (s.f F.SCH_BSM_SEL_PAGE * 65536 + (off - R.SCH_BSM_WIN 0)) 4)
  else if R.SCH_RPT_BANK0 0 ≤ off ∧ off < R.SCH_RPT_BANK0 2048 then kget 0 s.sch.bank0 ((off - R.SCH_RPT_BANK0 0) / 4)
  else if R.SCH_RPT_BANK1 0 ≤ off ∧ off < R.SCH_RPT_BANK1 2048 then kget 0 s.sch.bank1 ((off - R.SCH_RPT_BANK1 0) / 4)
  else w

/-- The commands that drift `d` holds (R303): a command whose record has entered its channel is held no longer (R340). -/
def State.heldBy (s : State) (d : Nat) : List DCmd := ((s.settleRecords d).drift d).held

/-- QUE and STR registers (R284, R285, R344, R346, R392, R393). -/
def State.viewEngines (s : State) (off : Nat) (w : Word) : Word :=
  let cc := 16384 - s.que.cache.length
  let rc := 4096 - s.rctxUsed
  let id := s.f F.STR_RED_SEL_RED_ID
  let x := s.red id
  if off = R.QUE_STAT then wput (wput w F.QUE_STAT_CC_FULL (b2n (cc == 0))) F.QUE_STAT_RCTX_FULL (b2n (rc == 0))
  else if off = R.QUE_RESRC then wput (wput w F.QUE_RESRC_RCTX_FREE rc) F.QUE_RESRC_CC_FREE cc
  else if off = R.STR_STAT then
    wput w F.STR_STAT_BUSY ((List.range 16).foldl (fun a d => if (s.heldBy d).isEmpty then a else a + 2 ^ d) 0)
  else if off = R.STR_RED_STAT then
    if (s.cfg.active.redEnt id).isNone then 0 else
    wput (wput (wput (wput (wput 0 F.STR_RED_STAT_STATE (if x.broken then 2 else 1)) F.STR_RED_STAT_BUSY (b2n x.cur.isSome))
      F.STR_RED_STAT_FLAGS x.flags.toNat) F.STR_RED_STAT_NEXT x.next) F.STR_RED_STAT_HELD x.held.length
  else if off = R.STR_RED_ROUND then (if (s.cfg.active.redEnt id).isNone then 0 else BitVec.ofNat 32 x.round)
  else if off = R.STR_RED_HOLD then wput 0 F.STR_RED_HOLD_FREE s.holdFree
  else match famOf (R.STR_Dd_STAT 0) 64 16 off with
    | some d =>
      let held := s.heldBy d
      wput (wput w (F.STR_Dd_STAT_STATE d) (driftState held)) (F.STR_Dd_STAT_HELD d) held.length
    | none => w

/-- BTP registers (R468 to R472). -/
def State.viewBtp (s : State) (off : Nat) (w : Word) : Word :=
  if off = R.BTP_TH_STAT then s.viewThStat
  else if off = R.BTP_TH_PC then s.viewThPc
  else if off = R.BTP_FLOG_STAT then wput w F.BTP_FLOG_STAT_COUNT s.btp.flog.length
  else if off = R.BTP_LAMP_STAT then s.viewLamp
  else if off = R.BTP_CH_STAT then s.viewChan
  else match famOf R.BTP_FLOG_D0 4 4 off, famOf (R.BTP_WAITFOR_t 0) 4 128 off with
    | some i, _ => s.viewFlog i
    | none, some t => s.viewWaitFor t
    | none, none => w

/-- VWK, SBD, PE and TM registers (R586, R587, R588, R590, R592). -/
def State.viewSide (s : State) (off : Nat) (w : Word) : Word :=
  let rx := s.vwk.rxq.head?
  let n := (off - R.PEn_CTRL 0) / 64
  let x := s.pe n
  if off = R.VWK_STAT then wput w F.VWK_STAT_RX_FILL s.vwk.rxq.length
  else if off = R.VWK_RX_HDR then
    match rx with
    | none => 0
    | some f => BitVec.ofNat 32 (f.srcT.toNat + 2 ^ 12 * f.cmd.toNat + 2 ^ 16 * f.len.toNat + 2 ^ 20 * b2n (f.dst == 0) + 2 ^ 31)
  else if off = R.VWK_RX_D0 ∨ off = R.VWK_RX_D1 then
    match rx with
    | none => 0
    | some f => BitVec.ofNat 32 ((f.data.toNat % 2 ^ (8 * f.len.toNat)) >>> (8 * (off - R.VWK_RX_D0)))
  else if off = R.SBD_PIN_IN then
    BitVec.ofNat 32 ((List.range 32).foldl (fun a i => a + 2 ^ i * b2n (s.pinSeen ctlLag i)) 0)
  else if R.PEn_PROG 0 0 ≤ off ∧ off < R.PEn_PROG 0 0 + 0x4000 then
    let m := (off - R.PEn_PROG 0 0) / 2048
    let i := (off - R.PEn_PROG m 0) / 4
    BitVec.ofNat 32 ((kget 0 (s.pe m).prog (i / 2) : BitVec 64).toNat >>> (32 * (i % 2)))
  else if R.PEn_CTRL 0 ≤ off ∧ off < R.PEn_CTRL 8 then
    if off = R.PEn_STAT n then
      wput (wput (wput (wput (wput (wput w (F.PEn_STAT_RUN n) (s.f (F.PEn_CTRL_EN n))) (F.PEn_STAT_HELD n) (b2n x.held.isSome))
        (F.PEn_STAT_FEED_FILL n) x.feed.length) (F.PEn_STAT_CATCH_FILL n) x.catch_.length) (F.PEn_STAT_S n) x.s.toNat)
        (F.PEn_STAT_MF n) (b2n x.mf)
    else if off = R.PEn_DBG n then wput 0 (F.PEn_DBG_BC n) x.bc.toNat
    else if off = R.PEn_SR n then x.sr
    else w
  else match famOf (R.TMm_STAT 0) 32 16 off with
    | some m => wput w (F.TMm_STAT_RUN m) (s.f (F.TMm_CTRL_EN m))
    | none => w

/-- DBG registers (R686, R694). -/
def State.viewDbg (s : State) (off : Nat) (w : Word) : Word :=
  if off = R.DBG_STAT then
    wput (wput (wput (wput w F.DBG_STAT_ATTACHED (b2n s.attached)) F.DBG_STAT_LOCKED (b2n s.dbgLocked)) F.DBG_STAT_ANY_HALTED
      (b2n (s.btp.threads.any fun e => e.2.st == TST.halted))) F.DBG_STAT_BLOCK_HALT (b2n (s.mode == Mode.halt))
  else if off = R.DBG_TR_STAT then
    wput w F.DBG_TR_STAT_ACTIVE (b2n (s.flag F.DBG_TR_CFG_EN && s.attached && !s.flag F.DBG_TR_STAT_FULL))
  else w

/-- The register at `off` as a read shows it: what the register file holds, with the fields that follow the state of a unit, and
zero in the bits of WO fields (R14). -/
def State.regView (s : State) (d : RegDef) (off : Nat) : Word :=
  let w := s.reg off &&& ~~~(BitVec.ofNat 32 d.wo)
  if off < 0x10000 ∨ off = R.CONTRACT_STAT then s.viewGlb off w
  else if 0x40000 ≤ off ∧ off < 0x80000 then s.viewSch off w
  else if 0x100000 ≤ off ∧ off < 0x300000 then s.viewEngines off w
  else if 0x300000 ≤ off ∧ off < 0x380000 then s.viewBtp off w
  else if 0x3C0000 ≤ off ∧ off < 0x3E0000 then s.viewSide off w
  else if 0x3F0000 ≤ off then s.viewDbg off w
  else w

/-- What a read of the RC register `d` at `off` shows of `w`, its present view, and leaves (R16): an RC field counted in the present
CK_CTL cycle shows its value from before, and keeps the count alone. -/
def State.readClear (s : State) (d : RegDef) (off : Nat) (w : Word) : Word × State :=
  let rc := BitVec.ofNat 32 d.rc
  let h := s.hitsAt off
  let s1 := s.setReg off ((s.reg off &&& ~~~rc) ||| (h.1 &&& rc))
  if h.1 = 0 then (w, s1)
  else ((w &&& ~~~rc) ||| (h.2 &&& rc), { s1 with hits := kset (0, 0) s1.hits off (h.1, h.2 &&& ~~~rc) })

/-- A read of a register (R14, R16, R569, R580). -/
def State.regRead (s : State) (off : Nat) : Acc :=
  match regAt off with
  | none => refusedAcc s
  | some d =>
    match famOf (R.PEn_CATCH 0) 64 8 off, famOf (R.TMm_CAP 0) 32 16 off with
    | some n, _ => let r := s.peCatch n; { data := r.1, err := false, s := r.2 }
    | none, some m => let r := s.tmCapRead m; { data := r.1, err := false, s := r.2 }
    | none, none =>
      let w := s.regView d off
      let r := if d.rc = 0 then (w, s) else s.readClear d off w
      { data := r.1, err := false, s := r.2 }

/-- A read at `off` of size code `size` as it ends. -/
def State.readAcc (s : State) (off size : Nat) : Acc :=
  if badSize size off then refusedAcc s
  else if !s.crp.mainUp && !headServed off then absent s
  else if off < 0x400000 then s.regRead off
  else if off < 0x800000 then s.tmemWindow (off - 0x400000) none
  else if off < 0xC00000 then s.stagingWindow (off - 0x800000) none
  else { data := BitVec.ofNat 32 (s.doorbellRead ((off - 0xC00000) / 64) (off % 64)), err := false, s := s }

/-- An access to its end (R601, R602, R684, R686); a thread's REG takes the data read, and CHV (R517). -/
def State.doAcc (s : State) (a : LateAcc) : State :=
  let go : Acc := match a.wr with
    | some data => s.writeAcc a.src a.off a.size data
    | none => s.readAcc a.off a.size
  match a.src, a.reg with
  | .thread t, some (gen, rd) =>
    if (go.s.thread t).gen ≠ gen then go.s else
    go.s.modThread t fun x =>
      (if a.wr.isNone then x.put rd (BitVec.ofNat 64 go.data.toNat) else x).setSrb SR.chv (!go.err)
  | src, _ =>
    if !s.crp.headOn then s.endAcc src 0xFFFFFFFF true
    else if s.dbgBarred src then s.endAcc src 0 true
    else go.s.endAcc src go.data go.err

/-- An access of `src` to `off` takes effect after that of the command which waits in front, where that is an access to the same
register by a source which goes first in one CK_CTL cycle (R604, R684; log entry 97). -/
def State.yields (s : State) (src : RegSrc) (off : Nat) : Bool :=
  match s.pending.head?.bind Instr.access with
  | some (o, a) => a == off && decide (o.rank < src.rank)
  | none => false

/-- An access reaches its register: at once, and with it those that waited for it, or after the CSP's or the debug module's of the
same cycle (R604). -/
def State.access (s : State) (a : LateAcc) : State :=
  if s.yields a.src a.off then s.modCfg fun c => { c with late := a :: c.late } else
  let s1 := s.doAcc a
  s1.cfg.late.foldl State.doAcc (s1.modCfg fun c => { c with late := [] })

/-- A write at `off` by `src`. -/
def State.csrWrite (s : State) (src : RegSrc) (off size : Nat) (data : Word) : State :=
  s.access { src := src, off := off, size := size, wr := some data, reg := none }

/-- A read at `off` by `src`. -/
def State.csrRead (s : State) (src : RegSrc) (off size : Nat) : State :=
  s.access { src := src, off := off, size := size, wr := none, reg := none }

end Sys2Proof.Machine
end

