-- ==== Sys2Proof/Machine/ThreadMem.lean ====
section
/-! DEFINITION. Data accesses of threads (R428 to R431, R497 to R500, R521 to R525, R689): permission, watchpoints, overlap
with buffered stores, loads, stores and atomics. -/

namespace Sys2Proof.Machine

/-- How an access ends: with the bytes read and the host answers left over; with a request that the host has to answer
first; with a fault of a cause at an address; at a watchpoint; or waiting for a buffered store that it overlaps. -/
inductive MOut where
  | ok (s : State) (bs : List Byte) (ans : List HostAns)
  | askRead (a n : Nat)
  | askWrite (a : Nat) (bs : List Byte)
  | bad (s : State) (cause a : Nat)
  | hit (j : Nat)
  | overlap

/-- Who makes an access: the thread, its CK_THR cycle, and its SR.SEC. -/
structure Accessor where
  t : Nat
  c : Nat
  sec : Bool

/-- A byte range lies in the rescue slots or in some thread's shadow stack (R429). -/
def State.guarded (s : State) (a n : Nat) : Bool :=
  let o := a - secBase
  decide (o < 0x2000) || (List.range 128).any fun t => s.tflag t TF.exists_ && s.tflag t TF.shstk &&
    decide (o < s.cfg.active.ssEnd t) && decide (s.cfg.active.ssBase t < o + n)

/-- R428 and R429 allow the access. -/
def State.permits (s : State) (k : Accessor) (wr : Bool) (a n : Nat) : Bool :=
  match target a n with
  | some (.sec _) => k.sec && !(wr && s.guarded a n)
  | some _ => true
  | none => false

/-- Watchpoint `j` matches an access to the 8-byte word that holds `a` (R689): ADDR is compared but for its IGN lowest
bits. -/
def State.watchHit (s : State) (t : Nat) (wr : Bool) (a j : Nat) : Bool :=
  s.flag (F.DBG_WPj_CFG_EN j) && (if wr then s.flag (F.DBG_WPj_CFG_WR j) else s.flag (F.DBG_WPj_CFG_RD j)) &&
    (s.flag (F.DBG_WPj_CFG_ANY j) || s.f (F.DBG_WPj_CFG_THREAD j) == t) &&
    (a / 8 % 2 ^ 32) >>> s.f (F.DBG_WPj_CFG_IGN j) == s.f (F.DBG_WPj_ADDR_ADDR j) >>> s.f (F.DBG_WPj_CFG_IGN j)

/-- The lowest watchpoint that either half of an access matches; RUN steps over one match, and host addresses never
match. -/
def State.watched (s : State) (t : Nat) (wr : Bool) (a n : Nat) : Option Nat :=
  if !s.attached || (s.thread t).skipMatch || decide (2 ^ 63 ≤ a) then none else
  (List.range 4).find? fun j => (halves a n).any fun h => s.watchHit t wr h.1 j

/-- A buffered store of the thread that shares a byte with the access (R430). -/
def Thread.overlaps (x : Thread) (a n : Nat) : Bool := x.stores.any fun e => decide (e.1 < a + n) && decide (a < e.1 + e.2.length)

/-- One half of a load from thread memory. -/
def State.readHalf (s : State) (k : Accessor) (a n : Nat) : List Byte × Bool × State :=
  let (bs, p, s1) := s.thrRead k.t k.c (a / 8)
  ((bs.drop (a % 8)).take n, p, s1)

/-- The halves of a load from thread memory, in order. -/
def State.readHalves (s : State) (k : Accessor) : List (Nat × Nat) → List Byte × Bool × State
  | [] => ([], false, s)
  | (a, n) :: hs =>
    let (bs, p, s1) := s.readHalf k a n
    let (rest, q, s2) := State.readHalves s1 k hs
    (bs ++ rest, p || q, s2)

/-- Host halves against the answers so far. -/
def hostHalves (ans : List HostAns) : List (Nat × Nat) → Except (Nat × Nat) (List Byte × Option (Nat × Nat) × List HostAns)
  | [] => .ok ([], none, ans)
  | h :: hs =>
    match ans with
    | [] => .error h
    | r :: rs =>
      if r.err then .ok ([], some (TC.bus, h.1), rs) else if r.poison then .ok ([], some (TC.poison, h.1), rs) else
      match hostHalves rs hs with
      | .error e => .error e
      | .ok (bs, f, left) => .ok (r.bytes ++ bs, f, left)

/-- A load of `n` bytes at `a`. -/
def State.load (s : State) (k : Accessor) (ans : List HostAns) (a n : Nat) : MOut :=
  if !s.permits k false a n then .bad s TC.access a else
  match s.watched k.t false a n with
  | some j => .hit j
  | none =>
  if (s.thread k.t).overlaps a n then .overlap else
  match target a n with
  | some (.smem x) =>
    let (bs, p, s1) := s.smemGet x n .thread
    if p then .bad s1 TC.poison a else .ok s1 bs ans
  | some (.host _) =>
    match hostHalves ans (halves a n) with
    | .error (x, m) => .askRead x m
    | .ok (_, some (cause, x), _) => .bad s cause x
    | .ok (bs, none, left) => .ok s bs left
  | some (.sec x) =>
    if s.secHeld then .ok (s.hit F.MEM_SEC_STAT_WIPING) (natLe n 0) ans else
    let (bs, p, s1) := s.readHalves k (halves x n)
    if p then .bad s1 TC.poison a else .ok s1 bs ans
  | some (.tmem x) =>
    let (bs, p, s1) := s.readHalves k (halves x n)
    if p then .bad s1 TC.poison a else .ok s1 bs ans
  | none => .bad s TC.access a

/-- A store enters the store buffer (R430, R497); with four entries held, the oldest is written first. -/
def State.store (s : State) (k : Accessor) (a : Nat) (bs : List Byte) : MOut :=
  if !s.permits k true a bs.length then .bad s TC.access a else
  match s.watched k.t true a bs.length with
  | some j => .hit j
  | none =>
    let s1 := if (s.thread k.t).stores.length ≥ 4 then s.drainOne k.t k.c else s
    .ok (s1.modThread k.t fun x => { x with stores := x.stores ++ [(a, bs)] }) [] []

/-- A store that passes by the buffer: SPILL and VST. A host write waits for its answer (R513). -/
def State.storeNow (s : State) (k : Accessor) (ans : List HostAns) (a : Nat) (bs : List Byte) : MOut :=
  let n := bs.length
  if !s.permits k true a n then .bad s TC.access a else
  match s.watched k.t true a n with
  | some j => .hit j
  | none =>
    if a < 2 ^ 63 then .ok (s.putNow k.t k.c a bs) [] ans else
    match halves a n, ans with
    | (x, m) :: _, [] => .askWrite x (bs.take m)
    | [(x, _)], r :: rs => if r.err then .bad s TC.bus x else .ok s [] rs
    | (x, m) :: (y, _) :: _, [r] => if r.err then .bad s TC.bus x else .askWrite y (bs.drop m)
    | (x, _) :: (y, _) :: _, r :: q :: rs =>
      if r.err then .bad s TC.bus x else if q.err then .bad s TC.partialStore y else .ok s [] rs
    | [], _ => .ok s [] ans

/-! ## Atomics (R500, R525) -/

/-- An atomic operation of a thread: where its old value goes, the operation, size, operand and compare value. -/
structure Amo where
  rd : Nat
  op : Nat
  size : Nat
  operand : Nat
  cmp : Nat

/-- The new value: CAS compares with `cmp` and stores the operand, every other operation uses the operand. -/
def Amo.new (m : Amo) (old : Nat) : Nat :=
  (atomicOp m.op (8 * m.size) old (if m.op = 3 then m.cmp else m.operand) m.operand).getD old

/-- A word's bytes with the value at offset `off` replaced. -/
def patchWord (bs : List Byte) (off : Nat) (v : List Byte) : List Byte := bs.take off ++ v ++ bs.drop (off + v.length)
def wordVal (bs : List Byte) (off n : Nat) : Nat := leNat ((bs.drop off).take n)

/-- Word `w` of thread memory is `bs`, but for the bytes that `keep` does not list: plain bytes of an earlier loser. -/
def State.setWord (s : State) (w : Nat) (bs : List Byte) : State := s.modMem fun m => { m with mem := Memory.write m.mem (8 * w) bs }

/-- An AMO at thread-memory address `a` in cycle `k.c`: the old value and the state (R500, R525). -/
def State.amoTmem (s : State) (k : Accessor) (m : Amo) (a : Nat) : Nat × Bool × State :=
  let p := pipeOf k.t
  let w := a / 8
  let off := a % 8
  let lost := s.laterPort = p
  let met := s.metBy p k.c w
  let (now, bad, s1) := s.tmemWord w
  let acc (before : List Byte) : PortAcc :=
    { cyc := k.c, word := w, kind := 2, before := before, thread := k.t, rd := m.rd, op := m.op, size := m.size, off := off,
      a := m.operand, b := m.cmp }
  let apply (s : State) (bs : List Byte) : Nat × State :=
    let old := wordVal bs off m.size
    (old, (s.tmemPut1 a (natLe m.size (m.new old))).noteAcc p (acc bs))
  if bad then (0, true, s1) else
  match met.find? fun x => x.kind == 2 with
  | some x =>
    if lost then
      let (old, s2) := apply s1 now
      (old, false, s2)
    else
      let (old, s2) := apply (s1.setWord w x.before) x.before
      let mid := Memory.read s2.mem.mem (8 * w) 8
      let y : Amo := { rd := x.rd, op := x.op, size := x.size, operand := x.a, cmp := x.b }
      let oldY := wordVal mid x.off x.size
      let s3 := s2.tmemPut1 (8 * w + x.off) (natLe x.size (y.new oldY))
      (old, false, s3.modThread x.thread fun z => { z with gpr := kset 0 z.gpr x.rd (BitVec.ofNat 64 oldY) })
  | none =>
    match met.find? fun x => x.kind == 1 with
    | some x =>
      let s2 := s1.meeting false w
      if lost then (wordVal x.before off m.size, false, s2.noteAcc p (acc x.before))
      else
        let (old, s3) := apply (s2.setWord w x.before) x.before
        (old, false, s3)
    | none =>
      let (old, s2) := apply (if met.isEmpty then s1 else s1.meeting true w) now
      (old, false, s2)

/-- An AMO at address `a`. The old value comes back as bytes. -/
def State.amo (s : State) (k : Accessor) (ans : List HostAns) (m : Amo) (a : Nat) : MOut :=
  let n := m.size
  if a % n ≠ 0 || !s.permits k false a n || !s.permits k true a n then .bad s TC.access a else
  match (s.watched k.t false a n).or (s.watched k.t true a n) with
  | some j => .hit j
  | none =>
  if (s.thread k.t).overlaps a n then .overlap else
  match target a n with
  | some (.smem x) =>
    let (bs, p, s1) := s.smemGet x n .thread
    if p then .bad s1 TC.poison a else
    .ok (s1.smemPut x (natLe n (m.new (leNat bs))) false .thread) bs ans
  | some (.host x) =>
    match ans with
    | r :: rs => if r.err then .bad s TC.bus a else if r.poison then .bad s TC.poison a else .ok s (r.bytes.take n) rs
    | [] => .askRead x 0
  | some (.sec x) =>
    if s.secHeld then .ok (s.hit F.MEM_SEC_STAT_WIPING) (natLe n 0) ans else
    let (old, bad, s1) := s.amoTmem k m x
    if bad then .bad s1 TC.poison a else .ok s1 (natLe n old) ans
  | some (.tmem x) =>
    let (old, bad, s1) := s.amoTmem k m x
    if bad then .bad s1 TC.poison a else .ok s1 (natLe n old) ans
  | none => .bad s TC.access a

/-- The host request of an AMO (R500, R614). -/
def State.hostAmo (s : State) (t a : Nat) (m : Amo) : State :=
  let w := 2 ^ (8 * m.size)
  let ops := if m.op = 3 then natLe 8 (m.cmp % w) ++ natLe 8 (m.operand % w) else natLe 8 (m.operand % w) ++ natLe 8 0
  s.hmpPush (s.threadPort t)
    { opc := 2, arg := BitVec.ofNat 8 m.op, addr := BitVec.ofNat 64 (a - 2 ^ 63), len := m.size, data := ops, poison := false, src := 0x11,
      intr := false, who := .thread t (s.thread t).gen }

end Sys2Proof.Machine
end

