-- ==== Sys2Proof/Machine/ThreadAlu.lean ====
section
/-! DEFINITION. What instructions do in their slot, first part: integer, multiply and divide, floating point, control flow and
special registers (R487 to R496, R501 to R506, R481). -/

namespace Sys2Proof.Machine

/-- The slot in which a word issues: thread, own slot, CK_THR cycle, cycle of the last slot that it occupies, the word, and
the thread's profile. -/
structure Issue where
  t : Nat
  i : Nat
  c : Nat
  last : Nat
  w : Nat
  full : Bool
  deriving DecidableEq, Repr

/-- What a word comes to: it completes and goes on at PC + 1 by way of the loop ends, or at `next` by way of them, or at the
target of a taken branch; it traps; it waits; it waits for a buffered store; it halts at a watchpoint; or it completes and then
something happens. -/
inductive Res where
  | go (s : State)
  | to (s : State) (next : Nat)
  | jump (s : State) (tgt : Nat)
  | trap (s : State) (fault : Bool) (e : Trap)
  | wait (s : State) (w : Wait) (st : BitVec 3)
  | overlap
  | watch (s : State) (j : Nat)
  | after (s : State) (k : State → State)

/-- The effect of an instruction. -/
abbrev Eff := Issue → State → Res

/-- A fault of cause `c` with data address `a`. -/
def Res.fault (s : State) (c a : Nat) : Res := .trap s true { cause := c, flags := 0, event := 0, addr := a }

/-- An effect on the thread's registers alone. -/
def regEff (f : Issue → Thread → Thread) : Eff := fun k s => .go (s.modThread k.t (f k))

/-- Values of the register fields of a long word. -/
def Issue.rd (k : Issue) (x : Thread) : BitVec 64 := x.rg k.full (wRd k.w)
def Issue.ra (k : Issue) (x : Thread) : BitVec 64 := x.rg k.full (wRa k.w)
def Issue.rb (k : Issue) (x : Thread) : BitVec 64 := x.rg k.full (wRb k.w)
/-- The thread with rd written. -/
def Issue.putRd (k : Issue) (x : Thread) (v : BitVec 64) : Thread := x.put (x.idx k.full (wRd k.w)) v

/-! ## Integer operations (R487 to R491) -/

/-- The outcome of an integer operation: the value of its destination and the flags, where it writes them. -/
structure AluOut where
  val : Option (BitVec 64)
  fl : Option Nat
  deriving DecidableEq, Repr

/-- An operation on two operands and the old flags. -/
abbrev AluOp := BitVec 64 → BitVec 64 → Nat → AluOut

def AluOut.classA (a b : BitVec 64) (cin : Nat) : AluOut := ⟨some (addVal a b cin), some (addFlags a b cin)⟩
def AluOut.classL (r : BitVec 64) (old : Nat) : AluOut := ⟨some r, some (logicFlags old r)⟩
def AluOut.classS (kind : Nat) (a : BitVec 64) (n old : Nat) : AluOut :=
  let p := shiftOf kind a n
  ⟨some p.1, some (shiftFlags old p.1 p.2)⟩
def AluOut.plain (r : BitVec 64) : AluOut := ⟨some r, none⟩

/-- Leading zeros of a 64-bit word, 64 for 0. -/
def clz64 (a : BitVec 64) : Nat := if a = 0 then 64 else 63 - Nat.log2 a.toNat
/-- Set bits of the lowest `n` bits. -/
def popBelow (a : BitVec 64) : Nat → Nat
  | 0 => 0
  | n + 1 => popBelow a n + b2n (a.getLsbD n)
/-- Trailing zeros: bits below the lowest set bit. -/
def ctz64 (a : BitVec 64) : Nat := if a = 0 then 64 else Nat.log2 (a &&& (0 - a)).toNat

def opAdd : AluOp := fun a b _ => .classA a b 0
def opSub : AluOp := fun a b _ => .classA a (~~~b) 1
def opAdc : AluOp := fun a b f => .classA a b (bits f 2 1)
def opSbc : AluOp := fun a b f => .classA a (~~~b) (bits f 2 1)
def opAnd : AluOp := fun a b f => .classL (a &&& b) f
def opOr : AluOp := fun a b f => .classL (a ||| b) f
def opXor : AluOp := fun a b f => .classL (a ^^^ b) f
def opAndn : AluOp := fun a b f => .classL (a &&& ~~~b) f
def opShl : AluOp := fun a b f => .classS 0 a (b.toNat % 64) f
def opShr : AluOp := fun a b f => .classS 1 a (b.toNat % 64) f
def opSar : AluOp := fun a b f => .classS 2 a (b.toNat % 64) f
def opRor : AluOp := fun a b f => .classS 3 a (b.toNat % 64) f
def opCmp : AluOp := fun a b f => { opSub a b f with val := none }
def opTst : AluOp := fun a b f => { opAnd a b f with val := none }
def opMov : AluOp := fun a _ _ => .plain a
def opNot : AluOp := fun a _ f => .classL (~~~a) f
def opNeg : AluOp := fun a _ _ => .classA 0 (~~~a) 1
def opMin : AluOp := fun a b _ => .plain (if a.slt b then a else b)
def opMax : AluOp := fun a b _ => .plain (if a.slt b then b else a)
def opMinu : AluOp := fun a b _ => .plain (if a.ult b then a else b)
def opMaxu : AluOp := fun a b _ => .plain (if a.ult b then b else a)
def opClz : AluOp := fun a _ _ => .plain (BitVec.ofNat 64 (clz64 a))
def opCtz : AluOp := fun a _ _ => .plain (BitVec.ofNat 64 (ctz64 a))
def opPopc : AluOp := fun a _ _ => .plain (BitVec.ofNat 64 (popBelow a 64))
def opBrev : AluOp := fun a _ _ => .plain (BitVec.ofNat 64 (revBits 64 a.toNat))
def opBswap : AluOp := fun a _ _ => .plain (BitVec.ofNat 64 (leNat (natLe 8 a.toNat).reverse))
def opPerm : AluOp := fun a b _ => .plain (BitVec.ofNat 64 (leNat ((List.range 8).map fun i =>
  let k := bits b.toNat (4 * i) 4
  BitVec.ofNat 8 (if k ≥ 8 then 0 else bits a.toNat (8 * k) 8))))

/-- The thread with an operation's outcome; `d` is the destination's index. -/
def Thread.outcome (x : Thread) (d : Nat) (o : AluOut) : Thread :=
  let y := match o.val with
    | some v => x.put d v
    | none => x
  match o.fl with
  | some f => y.setFlags f
  | none => y

/-- ALU rows: ra, rb to rd. -/
def aluEff (op : AluOp) : Eff := regEff fun k x => x.outcome (x.idx k.full (wRd k.w)) (op (k.ra x) (k.rb x) x.flags)

/-- Rows with imm11, sign-extended (R489). -/
def immEff (op : AluOp) : Eff := regEff fun k x =>
  x.outcome (x.idx k.full (wRd k.w)) (op (k.ra x) (BitVec.ofInt 64 (sext (bits k.w 0 11) 11)) x.flags)

def effMovi : Eff := regEff fun k x => k.putRd x (BitVec.ofInt 64 (sext (bits k.w 0 16) 16))
def effMovk : Eff := regEff fun k x => k.putRd x (BitVec.ofNat 64 (putBits (k.rd x).toNat (16 * (wOp k.w - 8)) 16 (bits k.w 0 16)))
/-- SHI of a kind (R489). -/
def effShi (kind : Nat) : Eff := regEff fun k x => x.outcome (x.idx k.full (wRd k.w)) (.classS kind (k.ra x) (bits k.w 5 6) x.flags)
/-- Position and width of EXTU, EXTS and INS (R490). -/
def extPos (w : Nat) : Nat := bits w 5 6
def extWidth (w : Nat) : Nat := bits w 0 5 + 1
def effExtu : Eff := regEff fun k x => k.putRd x (BitVec.ofNat 64 (bits (k.ra x).toNat (extPos k.w) (extWidth k.w)))
def effExts : Eff := regEff fun k x =>
  k.putRd x (BitVec.ofInt 64 (sext (bits (k.ra x).toNat (extPos k.w) (extWidth k.w)) (extWidth k.w)))
def effIns : Eff := regEff fun k x =>
  k.putRd x (BitVec.ofNat 64 (putBits (k.rd x).toNat (extPos k.w) (extWidth k.w) (k.ra x).toNat))
def effCmpp : Eff := regEff fun k x =>
  let a := x.rg k.full (bits k.w 10 5)
  let b := x.rg k.full (bits k.w 5 5)
  x.setSrb (SR.p + bits k.w 19 2) (condOf (bits k.w 15 4) (addFlags a (~~~b) 1) 0)

/-! ## Multiply and divide (R485, R492, R493) -/

/-- A product that lands `n` own slots later in the MQ register of the word. -/
def mulEff (n : Nat) (acc : Bool) (f : BitVec 64 → BitVec 64 → Int) : Eff := regEff fun k x =>
  { x with mqLand := x.mqLand ++
      [{ mq := bits k.w 16 2, due := k.i + n, value := BitVec.ofInt 64 (f (k.ra x) (k.rb x)), acc := acc }] }

def effMulu32 : Eff := mulEff 3 false fun a b => ((a.toNat % 2 ^ 32) * (b.toNat % 2 ^ 32) : Nat)
def effMuls32 : Eff := mulEff 3 false fun a b => sext a.toNat 32 * sext b.toNat 32
def effMacs32 : Eff := mulEff 3 true fun a b => sext a.toNat 32 * sext b.toNat 32
def effMull64 : Eff := mulEff 4 false fun a b => (a.toNat * b.toNat : Nat)
def effMulhu64 : Eff := mulEff 4 false fun a b => (a.toNat * b.toNat / 2 ^ 64 : Nat)
def effMulhs64 : Eff := mulEff 4 false fun a b => a.toInt * b.toInt / 2 ^ 64

/-- A result with flags (R366): a flag whose trap is enabled suppresses the instruction, the others accrue in SR.FF. -/
def fpRes (k : Issue) (s : State) (fl : Nat) (f : Thread → Thread) : Res :=
  if fl &&& (s.thread k.t).srf SR.fe 5 ≠ 0 then .trap s false { cause := TC.fpTrap, flags := fl, event := 0, addr := 0 }
  else .go (s.modThread k.t fun x => (f x).setSrf SR.ff 5 (x.srf SR.ff 5 ||| fl))

/-- Quotient and remainder of R375. -/
def divEff (f : BitVec 64 → BitVec 64 → BitVec 64) : Eff := fun k s =>
  let x := s.thread k.t
  fpRes k s (if k.rb x = 0 then FF.dz else 0) fun x => k.putRd x (f (k.ra x) (k.rb x))

def effDivu : Eff := divEff fun a b => if b = 0 then BitVec.allOnes 64 else a / b
def effDivs : Eff := divEff fun a b => if b = 0 then BitVec.allOnes 64 else a.sdiv b
def effRemu : Eff := divEff fun a b => if b = 0 then a else a % b
def effRems : Eff := divEff fun a b => if b = 0 then a else a.srem b

/-! ## Floating point (R494 to R496) -/

/-- Operands at the format's width. -/
def lowBits (v : BitVec 64) (w : Nat) : Nat := v.toNat % 2 ^ w

/-- An FPU operation on format, rounding mode, ra, rb and rd; the result is written zero-extended. -/
def fpuEff (f : Fmt → Nat → Nat → Nat → Nat → Nat × Nat) : Eff := fun k s =>
  let x := s.thread k.t
  let t := fmtOf (wFnW k.w)
  let r := f t (x.srf SR.rm 2) (lowBits (k.ra x) t.w) (lowBits (k.rb x) t.w) (lowBits (k.rd x) t.w)
  fpRes k s r.2 fun x => k.putRd x (BitVec.ofNat 64 r.1)

def effFadd : Eff := fpuEff fun t m a b _ => t.add m 0 false a b
def effFsub : Eff := fpuEff fun t m a b _ => t.add m 0 true a b
def effFmul : Eff := fpuEff fun t m a b _ => t.mul m 0 a b
def effFma : Eff := fpuEff fun t m a b d => t.fma m 0 a b d
def effFdiv : Eff := fpuEff fun t m a b _ => t.div m a b
def effFsqrt : Eff := fpuEff fun t m a _ _ => t.sqrt m a
def effFmin : Eff := fpuEff fun t _ a b _ => t.minMax false a b
def effFmax : Eff := fpuEff fun t _ a b _ => t.minMax true a b
def effFabs : Eff := fpuEff fun t _ a _ _ => t.abs a
def effFneg : Eff := fpuEff fun t _ a _ _ => t.neg a

/-- Flags of FCMP (R496). -/
def fcmpFlags (r : Option Int) : Nat :=
  match r with
  | none => flagBits false false true true
  | some d => if d < 0 then flagBits false true false false else if d = 0 then flagBits true false true false else flagBits false false true false
def effFcmp : Eff := fun k s =>
  let x := s.thread k.t
  let t := fmtOf (wFnW k.w)
  let a := lowBits (k.ra x) t.w
  let b := lowBits (k.rb x) t.w
  fpRes k s (if (t.decode a).isSnan || (t.decode b).isSnan then FF.nv else 0) fun x => x.setFlags (fcmpFlags (t.cmp a b))

/-- The conversion of an element `a` from type `st` to type `dt` (R369, R495): the register value and the flags. -/
def fcvt (st dt mode a : Nat) : BitVec 64 × Nat :=
  match typeFmt st, typeFmt dt with
  | some p, some q => let r := p.convert q mode 0 (a % 2 ^ p.w); (BitVec.ofNat 64 r.1, r.2)
  | some p, none =>
    let n := 8 * typeSize dt
    let r := p.toInt mode 0 (typeSigned dt) n (a % 2 ^ p.w)
    (if typeSigned dt then BitVec.ofInt 64 (sext r.1 n) else BitVec.ofNat 64 r.1, r.2)
  | none, some q => let r := q.ofInt mode 0 (intVal st a); (BitVec.ofNat 64 r.1, r.2)
  | none, none => (BitVec.ofNat 64 a, 0)

def effFcvt : Eff := fun k s =>
  let x := s.thread k.t
  let r := fcvt (bits k.w 7 4) (bits k.w 3 4) (x.srf SR.rm 2) (k.ra x).toNat
  fpRes k s r.2 fun x => k.putRd x r.1

/-! ## Control flow (R501 to R505) -/

/-- PC plus a signed word offset, modulo 2^17. -/
def pcPlus (pc : Nat) (d : Int) : Nat := wrapBits ((pc : Int) + d) 17

def effBranch : Eff := fun k s => .jump s (pcPlus (s.thread k.t).pc.toNat (sext (bits k.w 0 21) 21))

/-- A call to `tgt` (R480, R450, R502): the window first, then the shadow stack. -/
def callTo (k : Issue) (s : State) (tgt : Nat) : Res :=
  let x := s.thread k.t
  let back := (x.pc.toNat + 1) % 2 ^ 17
  if k.full && (x.cwp + 3) % 15 == x.wbot then .trap s false { cause := TC.winOvf, flags := 0, event := 0, addr := 0 } else
  let sh := s.tflag k.t TF.shstk
  if sh && decide (x.ssp ≥ s.cfg.active.ssEnd k.t) then .fault s TC.shadow 0 else
  let s1 := if sh && !s.secHeld then s.tmemPut (secBase + x.ssp) (natLe 8 back) else s
  .jump (s1.modThread k.t fun x => { x with
    lr := BitVec.ofNat 17 back
    cwp := if k.full then (x.cwp + 1) % 15 else x.cwp
    ssp := if sh then x.ssp + 8 else x.ssp }) tgt

def effCall : Eff := fun k s => callTo k s (pcPlus (s.thread k.t).pc.toNat (sext (bits k.w 0 21) 21))
def effJmpr : Eff := fun k s => .jump s (bits (k.ra (s.thread k.t)).toNat 0 17)
def effCallr : Eff := fun k s => callTo k s (bits (k.ra (s.thread k.t)).toNat 0 17)

/-- RET: while the partition is held its words read zero (R532). -/
def effRet : Eff := fun k s =>
  let x := s.thread k.t
  if k.full && x.cwp == x.wbot then .trap s false { cause := TC.winUnf, flags := 0, event := 0, addr := 0 } else
  let sh := s.tflag k.t TF.shstk
  if sh && decide (x.ssp ≤ s.cfg.active.ssBase k.t) then .fault s TC.shadow 0 else
  let (top, _, s1) := if sh && !s.secHeld then s.tmemGet (secBase + x.ssp - 8) 8 else (natLe 8 0, false, s)
  if sh && leNat top != x.lr.toNat then .fault s1 TC.shadow 0 else
  .jump (s1.modThread k.t fun x => { x with
    cwp := if k.full then (x.cwp + 14) % 15 else x.cwp
    ssp := if sh then x.ssp - 8 else x.ssp }) x.lr.toNat

/-- The thread with loop level `n` set up (R503, R505). -/
def Thread.setLoop (x : Thread) (n body count : Nat) : Thread :=
  { x with ls := kset 0 x.ls n (x.pc + 1), le := kset 0 x.le n (x.pc + BitVec.ofNat 17 body),
           lc := kset 0 x.lc n (BitVec.ofNat 32 count) }

def effLoop : Eff := fun k s =>
  let x := s.thread k.t
  let body := bits k.w 8 11 + 1
  let count := if Nat.testBit k.w 7 then bits k.w 0 7 else (x.rg k.full (bits k.w 0 5)).toNat % 2 ^ 32
  let s1 := s.modThread k.t fun x => x.setLoop (bits k.w 19 2) body count
  if count = 0 then .to s1 (x.pc.toNat + body + 1) else .go s1
def effRep : Eff := fun k s =>
  let x := s.thread k.t
  let count := if Nat.testBit k.w 20 then bits k.w 0 16 else (x.rg k.full (bits k.w 0 5)).toNat % 2 ^ 32
  let s1 := s.modThread k.t fun x => x.setLoop (repLevel k.full) 1 count
  if count = 0 then .to s1 (x.pc.toNat + 2) else .go s1

/-! ## Special registers (R481, R516) -/

/-- The ID register of thread `t`. -/
def State.threadId (s : State) (t : Nat) : Nat :=
  t + 2 ^ 7 * pipeOf t + 2 ^ 8 * b2n (s.isSched t) + 2 ^ 9 * b2n (s.tflag t TF.full) + 2 ^ 10 * b2n (s.tflag t TF.vec)

/-- The contents of SPR `n`. -/
def State.sprValue (s : State) (k : Issue) (n : Nat) : BitVec 64 :=
  let x := s.thread k.t
  if n = 0 then BitVec.ofNat 64 x.sr.toNat
  else if n = 1 then BitVec.ofNat 64 x.lr.toNat
  else if n = 2 then x.sp
  else if n = 3 then BitVec.ofNat 64 (x.cwp + 2 ^ 4 * x.wbot)
  else if n < 8 then kget 0 x.mq (n - 4)
  else if n < 0xC then BitVec.ofNat 64 (x.lsOf (n - 8))
  else if n < 0x10 then BitVec.ofNat 64 (x.leOf (n - 0xC))
  else if n < 0x14 then BitVec.ofNat 64 (x.lcOf (n - 0x10))
  else if n < 0x18 then kget 0 x.am (n - 0x14)
  else if n = 0x18 then BitVec.ofNat 64 x.vl
  else if n = 0x19 then BitVec.ofNat 64 x.vstart
  else if n = 0x1A then BitVec.ofNat 64 x.vgrp
  else if n = 0x1B then BitVec.ofNat 64 x.ssp
  else if n = 0x1C then BitVec.ofNat 64 (s.threadId k.t)
  else BitVec.ofNat 64 (2 * k.c)

def effMvs : Eff := fun k s => .go (s.modThread k.t fun x => k.putRd x (s.sprValue k (wSpr k.w)))

/-- A write of SR (R436, R516): PRIV, SEC and CT change after three more instructions, the rest at once. -/
def Thread.writeSr (x : Thread) (v : BitVec 64) : Thread :=
  let new := BitVec.ofNat 32 (v.toNat % 2 ^ 28)
  let y := { x with sr := withMode new x.sr, usable := kset 0 x.usable 512 0 }
  if withMode 0 new = withMode 0 x.srSaved then y else { y with srNew := y.srNew ++ [(new, 4)] }

/-- A write of SR that would set PRIV or SEC without PRIV (R516). -/
def Thread.srPriv (x : Thread) (v : BitVec 64) : Bool :=
  !x.srb SR.priv && (v.getLsbD SR.priv || (v.getLsbD SR.sec && !x.srb SR.sec))

/-- A value that MVSW to SPR `n` does not accept (R481). -/
def Thread.sprBad (x : Thread) (n : Nat) (v : BitVec 64) : Bool :=
  if n = 3 then bits v.toNat 0 4 == 15 || bits v.toNat 4 4 == 15
  else if n = 0x18 then decide (v.toNat > 16 * x.vgrp)
  else if n = 0x1A then !(v.toNat == 1 || v.toNat == 2 || v.toNat == 4 || v.toNat == 8)
  else false

/-- SPR `n` written. -/
def Thread.writeSpr (x : Thread) (n : Nat) (v : BitVec 64) : Thread :=
  let u := v.toNat
  if n = 0 then x.writeSr v
  else if n = 1 then { x with lr := BitVec.ofNat 17 u }
  else if n = 2 then { x with sp := v }
  else if n = 3 then { x with cwp := bits u 0 4, wbot := bits u 4 4 }
  else if n < 8 then { x with mq := kset 0 x.mq (n - 4) v }
  else if n < 0xC then { x with ls := kset 0 x.ls (n - 8) (BitVec.ofNat 17 u) }
  else if n < 0x10 then { x with le := kset 0 x.le (n - 0xC) (BitVec.ofNat 17 u) }
  else if n < 0x14 then { x with lc := kset 0 x.lc (n - 0x10) (BitVec.ofNat 32 u) }
  else if n < 0x18 then { x with am := kset 0 x.am (n - 0x14) v }
  else if n = 0x18 then { x with vl := u }
  else if n = 0x19 then { x with vstart := u % 2 ^ 16 }
  else { x with vgrp := u }

def effMvsw : Eff := fun k s =>
  let x := s.thread k.t
  let n := wSpr k.w
  let v := k.rd x
  if n = 0 && x.srPriv v then .fault s TC.priv 0
  else if x.sprBad n v then .fault s TC.illegal 0
  else .go (s.modThread k.t fun x => x.writeSpr n v)

end Sys2Proof.Machine
end

