-- ==== Sys2Proof/Machine/ThreadExec.lean ====
section
/-! DEFINITION. What instructions do in their slot, second part: memory, vectors, channels, lamps, events, system
instructions, register accesses and short operations (R497 to R500, R507 to R518). -/

namespace Sys2Proof.Machine

/-! ## Memory (R497 to R500) -/

def Issue.acc (k : Issue) (s : State) : Accessor := { t := k.t, c := k.c, sec := (s.thread k.t).srb SR.sec }

/-- A host request of the thread, and its wait (R437). -/
def waitHostRead (k : Issue) (s : State) (a n : Nat) : Res :=
  .wait (s.hostRead (s.threadPort k.t) (a - 2 ^ 63) n 0x11 (.thread k.t (s.thread k.t).gen)) .host TST.hmpWait
def waitHostWrite (k : Issue) (s : State) (a : Nat) (bs : List Byte) : Res :=
  .wait (s.hostWrite (s.threadPort k.t) (a - 2 ^ 63) bs false 0x11 (.thread k.t (s.thread k.t).gen)) .host TST.hmpWait

/-- The instruction whose one access of state `s` ended as `m`: it goes on with `f`, or waits, faults or halts. -/
def Res.ofAccess (k : Issue) (s : State) (m : MOut) (f : State → List Byte → Res) : Res :=
  match m with
  | .ok s1 bs _ => f s1 bs
  | .askRead a n => waitHostRead k s a n
  | .askWrite a bs => waitHostWrite k s a bs
  | .bad s1 cause a => .fault s1 cause a
  | .hit j => .watch s j
  | .overlap => .overlap

/-- Buffer base and length of AM register `n` (R481). -/
def Thread.amBase (x : Thread) (n : Nat) : Nat := bits (kget 0 x.am n : BitVec 64).toNat 0 32
def Thread.amLen (x : Thread) (n : Nat) : Nat := bits (kget 0 x.am n : BitVec 64).toNat 32 32

/-- The effective address of an access of `n` bytes, and the value written back to rb (R498). -/
def Issue.ea (k : Issue) (x : Thread) (n : Nat) : BitVec 64 × Option (BitVec 64) :=
  let rb := k.ra x
  let imm := wImm8 k.w
  let step (v : Int) : BitVec 64 := rb + BitVec.ofInt 64 (v * n)
  let am := bits imm 6 2
  let base := x.amBase am
  let len := x.amLen am
  match wMode k.w with
  | 0 => (step (sext imm 8), none)
  | 1 => (rb + BitVec.ofNat 64 ((x.rg k.full (bits imm 0 5)).toNat * n), none)
  | 2 => (rb, some (step (sext imm 8)))
  | 3 => (step (sext imm 8), some (step (sext imm 8)))
  | 4 =>
    (rb, some (if len = 0 then step (sext (bits imm 0 6) 6)
      else BitVec.ofInt 64 (base + ((rb.toNat : Int) - base + sext (bits imm 0 6) 6 * n) % (len : Int))))
  | 5 =>
    let b := if len = 0 then 0 else Nat.log2 len
    let o := wrapBits ((rb.toNat : Int) - base) b
    let d := 2 ^ bits imm 0 6 % 2 ^ b
    (rb, some (BitVec.ofNat 64 (base + revBits b ((revBits b o + revBits b d) % 2 ^ b))))
  | _ => (x.sp + BitVec.ofInt 64 (sext (wRa k.w * 2 ^ 8 + imm) 13 * n), none)

/-- The thread with rb written back. -/
def Issue.back (k : Issue) (x : Thread) (b : Option (BitVec 64)) : Thread :=
  match b with
  | some v => x.put (x.idx k.full (wRa k.w)) v
  | none => x

/-- A register loaded in cycle `c`: usable three cycles later (R430). -/
def Thread.putLoaded (x : Thread) (i : Nat) (v : BitVec 64) (c : Nat) : Thread := (x.put i v).usableFrom i (c + 3)

/-- A load of `n` bytes, sign-extended or not (R497). -/
def loadEff (n : Nat) (signed : Bool) : Eff := fun k s =>
  let x := s.thread k.t
  let (a, b) := k.ea x n
  Res.ofAccess k s (s.load (k.acc s) x.ans a.toNat n) fun s1 bs =>
    let v := if signed then BitVec.ofInt 64 (sext (leNat bs) (8 * n)) else BitVec.ofNat 64 (leNat bs)
    .go (s1.modThread k.t fun x => (k.back x b).putLoaded (x.idx k.full (wRd k.w)) v k.c)

/-- A store of `n` bytes of rt, read before the write-back. -/
def storeEff (n : Nat) : Eff := fun k s =>
  let x := s.thread k.t
  let (a, b) := k.ea x n
  Res.ofAccess k s (s.store (k.acc s) a.toNat (natLe n (k.rd x).toNat)) fun s1 _ => .go (s1.modThread k.t fun x => k.back x b)

/-- ADDM, SUBM and CMPM (R499): an operation on rd and the memory word; results follow the load timing. -/
def memAluEff (op : AluOp) : Eff := fun k s =>
  let x := s.thread k.t
  Res.ofAccess k s (s.load (k.acc s) x.ans (k.ea x 8).1.toNat 8) fun s1 bs =>
    .go (s1.modThread k.t fun x =>
      let o := op (k.rd x) (BitVec.ofNat 64 (leNat bs)) x.flags
      let i := x.idx k.full (wRd k.w)
      let y := (x.outcome i o).usableFrom 512 (k.c + 3)
      if o.val.isSome then y.usableFrom i (k.c + 3) else y)

/-- AMO (R500): operation and size come from FN. -/
def amoEff (op : Nat) : Eff := fun k s =>
  let x := s.thread k.t
  let a := (k.ra x).toNat
  let i := x.idx k.full (wRd k.w)
  let n := 4 * (wFnW k.w - 1)
  let m : Amo := { rd := i, op := op, size := n, operand := (k.rb x).toNat, cmp := (k.rd x).toNat }
  match s.amo (k.acc s) x.ans m a with
  | .askRead _ _ => .wait (s.hostAmo k.t a m) .host TST.hmpWait
  | r => Res.ofAccess k s r fun s1 bs => .go (s1.modThread k.t fun x => x.putLoaded i (BitVec.ofNat 64 (leNat bs)) k.c)

/-! ## Vectors (R507 to R513) -/

/-- The address of element `i` (R512). -/
def Issue.elemAddr (k : Issue) (x : Thread) (i : Nat) : Nat :=
  let w := vecWidth k.w
  let ra := k.ra x
  (match bits k.w 2 2 with
    | 0 => ra + BitVec.ofNat 64 (i * w / 8)
    | 1 => ra + BitVec.ofNat 64 (i * (k.rb x).toNat)
    | _ => ra + BitVec.ofNat 64 (x.elem (wRb k.w) w i)).toNat

/-- The vector access of element `i` ended without completing it: elements before `i` are done, and VSTART is `i` (R513). -/
def Issue.stopAt (k : Issue) (s : State) (i : Nat) (ans : List HostAns) (m : MOut) : Res :=
  let mark (s : State) : State := s.modThread k.t fun x => { x with vstart := i, ans := ans }
  match m with
  | .askRead a n => waitHostRead k (mark s) a n
  | .askWrite a bs => waitHostWrite k (mark s) a bs
  | .bad s1 cause a => .fault (mark s1) (if bits k.w 2 2 = 2 then TC.vgather else cause) a
  | .hit j => .watch (mark s) j
  | _ => .overlap

/-- Elements from `i` on, `n` of them, by an access of one element. The first argument counts them. -/
def vecGo (access : Issue → State → List HostAns → Nat → MOut) (land : Issue → Nat → List Byte → Thread → Thread) :
    Nat → Issue → State → Nat → List HostAns → Res
  | 0, k, s, _, _ => .go (s.modThread k.t fun x => { x with vstart := 0 })
  | n + 1, k, s, i, ans =>
    match access k s ans i with
    | .ok s1 bs left => vecGo access land n k (s1.modThread k.t (land k i bs)) (i + 1) left
    | m => k.stopAt s i ans m

/-- VLD: a load that overlaps a buffered store waits; loaded registers are usable three cycles after the last slot. -/
def effVld : Eff := fun k s =>
  let x := s.thread k.t
  let n := vecWidth k.w / 8
  let todo := (List.range x.vl).filter fun i => decide (x.vstart ≤ i)
  if todo.any fun i => x.overlaps (k.elemAddr x i) n then .overlap else
  match vecGo (fun k s ans i => s.load (k.acc s) ans (k.elemAddr (s.thread k.t) i) n)
      (fun k i bs x => x.putElem (wRd k.w) (8 * n) i (leNat bs)) (x.vl - x.vstart) k s x.vstart x.ans with
  | .go s1 => .go (s1.modThread k.t fun x => (x.vecKeys (wRd k.w)).foldl (fun y r => y.usableFrom r (k.last + 3)) x)
  | r => r

/-- VST: elements in index order. -/
def effVst : Eff := fun k s0 =>
  let s := s0.drainAll k.t k.c
  let x := s.thread k.t
  let n := vecWidth k.w / 8
  vecGo (fun k s ans i =>
      let x := s.thread k.t
      s.storeNow (k.acc s) ans (k.elemAddr x i) (natLe n (x.elem (wRd k.w) (8 * n) i)))
    (fun _ _ _ x => x) (x.vl - x.vstart) k s x.vstart x.ans

/-- Elements VSTART to VL − 1 of vd by `f` of the old thread; VSTART becomes 0 (R508). -/
def Thread.vmap (x : Thread) (d w : Nat) (f : Nat → Nat) : Thread :=
  let y := ((List.range x.vl).filter fun i => decide (x.vstart ≤ i)).foldl (fun y i => y.putElem d w i (f i)) x
  { y with vstart := 0 }

/-- VALU (R509): an operation on elements of width `w`. -/
def valuEff (f : Nat → Nat → Nat → Nat) : Eff := regEff fun k x =>
  let w := vecWidth k.w
  x.vmap (wRd k.w) w fun i => f w (x.elem (wRa k.w) w i) (x.elem (wRb k.w) w i)

def effVadd : Eff := valuEff fun _ a b => a + b
def effVsub : Eff := valuEff fun w a b => a + (2 ^ w - b)
def effVmul : Eff := valuEff fun _ a b => a * b
def effVand : Eff := valuEff fun _ a b => a &&& b
def effVor : Eff := valuEff fun _ a b => a ||| b
def effVxor : Eff := valuEff fun _ a b => a ^^^ b
def effVmin : Eff := valuEff fun w a b => if sext a w < sext b w then a else b
def effVmax : Eff := valuEff fun w a b => if sext a w < sext b w then b else a
def effVminu : Eff := valuEff fun _ a b => min a b
def effVmaxu : Eff := valuEff fun _ a b => max a b
def effVshl : Eff := valuEff fun w a b => a <<< (b % w)
def effVshr : Eff := valuEff fun w a b => a >>> (b % w)
def effVsar : Eff := valuEff fun w a b => wrapBits (sext a w / (2 ^ (b % w) : Nat)) w

/-- VFPU (R510): an enabled trap suppresses the whole instruction. -/
def vfpuEff (f : Fmt → Nat → Nat → Nat → Nat → Nat × Nat) : Eff := fun k s =>
  let x := s.thread k.t
  let t := fmtOf (wFnW k.w)
  let r (i : Nat) : Nat × Nat := f t (x.srf SR.rm 2) (x.elem (wRa k.w) t.w i) (x.elem (wRb k.w) t.w i) (x.elem (wRd k.w) t.w i)
  let fl := ((List.range x.vl).filter fun i => decide (x.vstart ≤ i)).foldl (fun a i => a ||| (r i).2) 0
  fpRes k s fl fun x => x.vmap (wRd k.w) t.w fun i => (r i).1

def effVfadd : Eff := vfpuEff fun t m a b _ => t.add m 0 false a b
def effVfsub : Eff := vfpuEff fun t m a b _ => t.add m 0 true a b
def effVfmul : Eff := vfpuEff fun t m a b _ => t.mul m 0 a b
def effVfma : Eff := vfpuEff fun t m a b d => t.fma m 0 a b d
def effVfmin : Eff := vfpuEff fun t _ a b _ => t.minMax false a b
def effVfmax : Eff := vfpuEff fun t _ a b _ => t.minMax true a b

def effSetvl : Eff := regEff fun k x =>
  let grp := 2 ^ bits k.w 7 2
  let n := min (k.ra x).toNat (grp * 128 / vecWidth k.w)
  { k.putRd x (BitVec.ofNat 64 n) with vgrp := grp, vl := n, vstart := 0 }

def effVbcast : Eff := regEff fun k x => x.vmap (wRd k.w) (vecWidth k.w) fun _ => (k.ra x).toNat
def effVext : Eff := regEff fun k x =>
  let i := (k.rb x).toNat
  { k.putRd x (BitVec.ofNat 64 (if i ≥ x.vl then 0 else x.elem (wRa k.w) (vecWidth k.w) i)) with vstart := 0 }
def effVins : Eff := regEff fun k x =>
  let i := (k.rb x).toNat
  { (if i ≥ x.vl then x else x.putElem (wRd k.w) (vecWidth k.w) i (k.ra x).toNat) with vstart := 0 }
def effVredadd : Eff := regEff fun k x =>
  let w := vecWidth k.w
  let sum := (List.range x.vl).foldl (fun a i => a + x.elem (wRa k.w) w i) 0
  { k.putRd x (BitVec.ofNat 64 (sum % 2 ^ w)) with vstart := 0 }
def effVmv : Eff := regEff fun k x => let w := vecWidth k.w; x.vmap (wRd k.w) w fun i => x.elem (wRa k.w) w i

/-! ## Channels, lamps and events (R439, R451 to R459, R514) -/

/-- The object that a channel, lamp or event word names. -/
def Issue.num (k : Issue) (x : Thread) (n : Nat) : Nat := if wOp k.w = 0x38 then bits k.w 4 n else bits (k.ra x).toNat 0 n

/-- A channel that a thread may not read: a drift's command channel (R454), or one that a hardware reader holds (R456). -/
def State.chanForbidden (s : State) (ch : Nat) : Bool :=
  ((List.range 16).any fun d => s.f (F.STR_Dd_CFG_CMD_CH d) == ch) || (s.chan ch).rhold == some .hw

/-- T0 waits only with WAITEV: its blocking forms act as their non-blocking ones (R439). -/
def blocks (t : Nat) (blocking : Bool) : Bool := blocking && t != 0

/-- The words of channel `ch` move on. -/
def State.pumped (s : State) (ch : Nat) : State := s.chanPump 8 ch

/-- A read of a channel (R453, R514). -/
def chanReadEff (blocking : Bool) : Eff := fun k s =>
  let x := s.thread k.t
  let ch := k.num x 10
  if s.chanForbidden ch then .fault s TC.channel 0
  else if s.chanReadable ch k.t then
    if s.storeFault 10 ch then .fault ({ s with storeFaults := s.storeFaults.filter fun e => e.unit != 10 || e.index != ch }.logUe 10 ch) TC.poison 0 else
    match (s.chan ch).words with
    | [] => .go s
    | w :: _ =>
      let s1 := (s.setChan ch (chanPop (s.chan ch) w (.thread k.t))).pumped ch
      .go (s1.modThread k.t fun x =>
        let y := ((x.putLoaded (x.idx k.full (wRd k.w)) w.data k.c).setSrb SR.che w.fin).setSrb SR.chb w.brk
        if blocks k.t blocking then y else y.setSrb SR.chv true)
  else if blocks k.t blocking then .wait s (.chanRead ch (wRd k.w)) TST.blocked
  else .go (s.modThread k.t fun x => x.setSrb SR.chv false)

def effChr : Eff := chanReadEff true
def effChrn : Eff := chanReadEff false

/-- A write to a channel (R452, R453, R514). -/
def chanWriteEff (blocking fin : Bool) : Eff := fun k s =>
  let x := s.thread k.t
  let ch := k.num x 10
  let v := k.rd x
  if s.chanWritable ch k.t then
    let w : ChanWord := { data := v, fin := fin, brk := false, at_ := s.thr, sched := s.isSched k.t }
    let s1 := (s.setChan ch (chanPush (s.chan ch) w (.thread k.t))).pumped ch
    .go (if blocks k.t blocking then s1 else s1.modThread k.t fun x => x.setSrb SR.chv true)
  else if blocks k.t blocking then .wait s (.chanWrite ch v fin) TST.blocked
  else .go (s.modThread k.t fun x => x.setSrb SR.chv false)

def effChw : Eff := chanWriteEff true false
def effChwl : Eff := chanWriteEff true true
def effChwn : Eff := chanWriteEff false false
def effChwln : Eff := chanWriteEff false true

/-- The thread waited for lamp `l`, and the lamp passed to it while it was halted: its TAKE completes when it runs again (R459). -/
def State.lampPassed (s : State) (l t : Nat) : Bool :=
  (s.thread t).wait == .lamp l && !((s.lamp l).waiters.contains t)

/-- TAKE and TRYTAKE (R457, R458). -/
def takeEff (waits : Bool) : Eff := fun k s =>
  let l := k.num (s.thread k.t) 12
  if s.lampPassed l k.t then .go s else
  match (s.lamp l).owner with
  | some o =>
    if o = k.t then .fault s TC.lamp 0
    else if blocks k.t waits then .wait s (.lamp l) TST.blocked
    else .go (s.modThread k.t fun x => x.setSrb SR.chv false)
  | none =>
    let s1 := (s.setLamp l { s.lamp l with owner := some k.t }).count (Cnt.btp 4) 1
    .go (if blocks k.t waits then s1 else s1.modThread k.t fun x => x.setSrb SR.chv true)

def effTake : Eff := takeEff true
def effTrytake : Eff := takeEff false
def effReturn : Eff := fun k s =>
  let l := k.num (s.thread k.t) 12
  if (s.lamp l).owner = some k.t then .go (s.returnLamp l) else .fault s TC.lamp 0

def effWaitev : Eff := fun k s =>
  let x := s.thread k.t
  let wset := k.num x 2
  match s.threadEvent k.t (if wset = 0 then none else some wset) with
  | some n => .go ((s.clearEvent n).modThread k.t fun x => k.putRd x (BitVec.ofNat 64 n))
  | none => .wait s (.event wset (wRd k.w)) TST.blocked

/-- SIGEV: only general sources, 512 and above, are raised by threads (R514, R675). -/
def effSigev : Eff := fun k s =>
  let n := k.num (s.thread k.t) 12
  if n < 512 then .fault s TC.access 0 else .go (s.raise n)

/-! ## System instructions (R515 to R517) -/

def effNop : Eff := fun _ s => .go s

/-- The words at the addresses `a`, `a + 8`, and so on, `n` of them. -/
def State.loadWords (s : State) (k : Accessor) (ans : List HostAns) (a : Nat) : Nat → MOut
  | 0 => .ok s [] ans
  | n + 1 =>
    match s.loadWords k ans a n with
    | .ok s1 bs left =>
      match s1.load k left (a + 8 * n) 8 with
      | .ok s2 b rest => .ok s2 (bs ++ b) rest
      | m => m
    | m => m

/-- RETA (R445, R516): the frame at sp. -/
def effReta : Eff := fun k s0 =>
  let s := s0.drainAll k.t k.c
  let x := s.thread k.t
  Res.ofAccess k s (s.loadWords (k.acc s) x.ans x.sp.toNat 8) fun s1 bs =>
    let y := (s1.thread k.t).unstack bs
    .jump (s1.setThread k.t y) y.pc.toNat

def effAlert : Eff := fun _ s => .trap s false { cause := TC.soft, flags := 0, event := 0, addr := 0 }

/-- BREAK (R688): with a debugger attached the thread halts after it. -/
def effBreak : Eff := fun k s => if s.attached then .after s fun s1 => s1.haltThread k.t else .fault s TC.break_ 0

def effFence : Eff := fun k s0 =>
  let s := s0.drainAll k.t k.c
  if (s.thread k.t).pendingWr = 0 then .go s else .wait s .fence TST.hmpWait

/-- Eight words, the first at address `a`, by `f`. -/
def State.putWords (s : State) (k : Accessor) (a : Nat) : List (BitVec 64) → State
  | [] => s
  | v :: vs =>
    let bs := natLe 8 v.toNat
    State.putWords (if a < 2 ^ 63 then s.putNow k.t k.c a bs else
      match halves a 8 with
      | [(a1, n), _] => s.hostStore k.t a1 (bs.take n) (bs.drop n) false
      | _ => s.hostStore k.t a bs [] false) k (a + 8) vs

/-- The registers of window group `g` (R479). -/
def Thread.groupRegs (x : Thread) (g : Nat) : List (BitVec 64) := (List.range 8).map fun j => x.gprAt (8 + 8 * g + j)

/-- SPILL: permission and watchpoints of all eight words come before the first write. -/
def effSpill : Eff := fun k s0 =>
  let x0 := s0.thread k.t
  if x0.wbot = x0.cwp then .fault s0 TC.illegal 0 else
  let s := s0.drainAll k.t k.c
  let x := s.thread k.t
  let a := (k.ra x).toNat
  let ws := (List.range 8).map fun j => a + 8 * j
  match ws.find? fun w => !s.permits (k.acc s) true w 8 with
  | some w => .fault s TC.access w
  | none =>
    match ws.findSome? fun w => s.watched k.t true w 8 with
    | some j => .watch s j
    | none => .go ((s.putWords (k.acc s) a (x.groupRegs x.wbot)).modThread k.t fun x => { x with wbot := (x.wbot + 1) % 15 })

def effFill : Eff := fun k s =>
  let x := s.thread k.t
  if (x.cwp + 3) % 15 = x.wbot then .fault s TC.illegal 0 else
  let a := (k.ra x).toNat
  let g := (x.wbot + 14) % 15
  if (List.range 8).any fun j => x.overlaps (a + 8 * j) 8 then .overlap else
  Res.ofAccess k s (s.loadWords (k.acc s) x.ans a 8) fun s1 bs =>
    .go (s1.modThread k.t fun x =>
      { (List.range 8).foldl (fun y j => y.putLoaded (8 + 8 * g + j) (BitVec.ofNat 64 (leNat ((bs.drop (8 * j)).take 8))) k.last) x with
        wbot := g })

/-- The aperture offset of a REG word (R517). -/
def Issue.regOff (k : Issue) (x : Thread) : Nat := ((k.ra x).toNat + wrapBits (sext (bits k.w 1 10) 10 * 4) 64) % 2 ^ 24

def effRegRead : Eff := fun k s =>
  let off := k.regOff (s.thread k.t)
  if off % 4 ≠ 0 then .fault s TC.access off else
  let x := s.thread k.t
  .go (s.access { src := .thread (Fin.ofNat 128 k.t), off := off, size := 2, wr := none, reg := some (x.gen, x.idx k.full (wRd k.w)) })

/-- A register write by a thread: what it does to threads comes after the instruction has completed. -/
def effRegWrite : Eff := fun k s =>
  let x := s.thread k.t
  let off := k.regOff x
  if off % 4 ≠ 0 then .fault s TC.access off else
  .after s fun s1 => s1.access { src := .thread (Fin.ofNat 128 k.t), off := off, size := 2, wr := some (BitVec.ofNat 32 (k.rd x).toNat), reg := some (x.gen, 0) }

/-! ## Short operations (R433, R518) -/

/-- What a short operation does beside a memory access: register values by index, flags, and a taken branch. -/
structure ShortOut where
  regs : List (Nat × BitVec 64)
  fl : Option Nat
  tgt : Option Nat

/-- RD and RS of a short operation, as indices and values. -/
structure ShortIn where
  x : Thread
  d : Nat
  r : Nat
  rd : BitVec 64
  rs : BitVec 64
  o : Nat

/-- A short operation: what it does to registers, or the memory access that it makes, with the registers written beside. -/
inductive ShortEff where
  | calc (f : ShortIn → ShortOut)
  | load (back : Bool)
  | store (back : Bool)

def shortAlu (f : ShortIn → AluOut) : ShortEff := .calc fun k =>
  let o := f k
  { regs := match o.val with | some v => [(k.d, v)] | none => [], fl := o.fl, tgt := none }

/-- The RS field as a signed number. -/
def ShortIn.imm (k : ShortIn) : BitVec 64 := BitVec.ofInt 64 (sext (shRs k.o) 4)

def seNop : ShortEff := .calc fun _ => { regs := [], fl := none, tgt := none }
def seMov : ShortEff := shortAlu fun k => opMov k.rs k.rs 0
def seAdd : ShortEff := shortAlu fun k => opAdd k.rd k.rs 0
def seSub : ShortEff := shortAlu fun k => opSub k.rd k.rs 0
def seAnd : ShortEff := shortAlu fun k => opAnd k.rd k.rs k.x.flags
def seOr : ShortEff := shortAlu fun k => opOr k.rd k.rs k.x.flags
def seXor : ShortEff := shortAlu fun k => opXor k.rd k.rs k.x.flags
def seCmp : ShortEff := shortAlu fun k => opCmp k.rd k.rs 0
def seAddi : ShortEff := shortAlu fun k => opAdd k.rd k.imm 0
def seMovi : ShortEff := shortAlu fun k => opMov k.imm k.imm 0
def seShli : ShortEff := shortAlu fun k => .classS 0 k.rd (shRs k.o + 1) k.x.flags
def seShri : ShortEff := shortAlu fun k => .classS 1 k.rd (shRs k.o + 1) k.x.flags
def seSari : ShortEff := shortAlu fun k => .classS 2 k.rd (shRs k.o + 1) k.x.flags
def seLd : ShortEff := .load false
def seSt : ShortEff := .store false
def seLdi : ShortEff := .load true
def seSti : ShortEff := .store true
def seMqr : ShortEff := shortAlu fun k => .plain (kget 0 k.x.mq (shRs k.o))
def seNeg : ShortEff := shortAlu fun k => opNeg k.rs 0 0
def seNot : ShortEff := shortAlu fun k => opNot k.rs 0 k.x.flags
def seClz : ShortEff := shortAlu fun k => opClz k.rs 0 0
def sePopc : ShortEff := shortAlu fun k => opPopc k.rs 0 0
def seBs : ShortEff := .calc fun k => { regs := [], fl := none, tgt := some (pcPlus k.x.pc.toNat (sext (bits k.o 0 8) 8)) }
def seMin : ShortEff := shortAlu fun k => opMin k.rd k.rs 0
def seMax : ShortEff := shortAlu fun k => opMax k.rd k.rs 0

/-- The operands of short operation `o` of thread `x`. -/
def shortIn (full : Bool) (x : Thread) (o : Nat) : ShortIn :=
  let d := x.idx full (code4 full (shRd o))
  let r := x.idx full (code4 full (shRs o))
  { x := x, d := d, r := r, rd := x.gprAt d, rs := x.gprAt r, o := o }

/-- A short operation of the pair, in state `s`; registers come from the thread as it stood before the pair. -/
def shortRun (k : Issue) (e : ShortEff) (i : ShortIn) (s : State) : Res :=
  let a := i.rs.toNat
  let back (b : Bool) (x : Thread) : Thread := if b then x.put i.r (i.rs + 8) else x
  match e with
  | .calc f =>
    let o := f i
    let s1 := s.modThread k.t fun x =>
      let y := o.regs.foldl (fun y p => y.put p.1 p.2) x
      match o.fl with
      | some v => y.setFlags v
      | none => y
    match o.tgt with
    | some t => .jump s1 t
    | none => .go s1
  | .load b =>
    Res.ofAccess k s (s.load (k.acc s) i.x.ans a 8) fun s1 bs =>
      .go (s1.modThread k.t fun x => (back b x).putLoaded i.d (BitVec.ofNat 64 (leNat bs)) k.c)
  | .store b =>
    Res.ofAccess k s (s.store (k.acc s) a (natLe 8 i.rd.toNat)) fun s1 _ => .go (s1.modThread k.t fun x => back b x)

/-- The short operations by SOP (R518). -/
def shortOps : List ShortEff :=
  [seNop, seMov, seAdd, seSub, seAnd, seOr, seXor, seCmp, seAddi, seMovi, seShli, seShri, seSari, seLd, seSt, seLdi, seSti, seMqr,
   seNeg, seNot, seClz, sePopc, seBs, seMin, seMax]

/-- The effect of short operation `o`. -/
def shortEffOf (o : Nat) : ShortEff := (shortOps[shSop o]?).getD seNop

/-- A paired word (R433): both operations read before either writes, each under its own condition; the operation that may
fault comes first, so that a fault suppresses both. -/
def pairEff : Eff := fun k s =>
  let x := s.thread k.t
  let on (o : Nat) : Bool := x.scHolds (shSc o)
  let a := short1 k.w
  let b := short2 k.w
  let run (o : Nat) (s : State) : Res := if on o then shortRun k (shortEffOf o) (shortIn k.full x o) s else .go s
  let (p, q) := if shMem (shSop b) then (b, a) else (a, b)
  match run p s with
  | .go s1 => run q s1
  | r => r

end Sys2Proof.Machine
end

