-- ==== Sys2Proof/Machine/ThreadIssue.lean ====
section
/-! DEFINITION. The opcode map (R486), and the issue of an instruction word in an own slot of its thread (R420 to R423, R430, R442,
R476, R483 to R485, R688 to R690). -/

namespace Sys2Proof.Machine

/-! ## The opcode map -/

/-- ALU by FN (R487). -/
def aluOps : List Eff :=
  [aluEff opAdd, aluEff opSub, aluEff opAdc, aluEff opSbc, aluEff opAnd, aluEff opOr, aluEff opXor, aluEff opAndn, aluEff opShl,
   aluEff opShr, aluEff opSar, aluEff opRor, aluEff opCmp, aluEff opTst, aluEff opMov, aluEff opNot, aluEff opNeg, aluEff opMin,
   aluEff opMax, aluEff opMinu, aluEff opMaxu, aluEff opClz, aluEff opCtz, aluEff opPopc, aluEff opBrev, aluEff opBswap, aluEff opPerm]

/-- MUL, DIV, FPU, JR, AMO, VALU, VFPU, VMOV, CHLI and CHLR, SYS and REG by their operation field. -/
def mulOps : List Eff := [effMulu32, effMuls32, effMacs32, effMull64, effMulhu64, effMulhs64]
def divOps : List Eff := [effDivu, effDivs, effRemu, effRems]
def fpuOps : List Eff := [effFadd, effFsub, effFmul, effFma, effFdiv, effFsqrt, effFmin, effFmax, effFabs, effFneg, effFcmp]
def jrOps : List Eff := [effJmpr, effCallr, effRet]
def valuOps : List Eff :=
  [effVadd, effVsub, effVmul, effVand, effVor, effVxor, effVmin, effVmax, effVminu, effVmaxu, effVshl, effVshr, effVsar]
def vfpuOps : List Eff := [effVfadd, effVfsub, effVfmul, effVfma, effVfmin, effVfmax]
def vmovOps : List Eff := [effVbcast, effVext, effVins, effVredadd, effVmv]
def chanOps : List Eff :=
  [effChr, effChrn, effChw, effChwl, effChwn, effChwln, effTake, effTrytake, effReturn, effWaitev, effSigev]
def sysOps : List Eff := [effNop, effReta, effAlert, effBreak, effFence, effSpill, effFill]

/-- The major opcode and the operation within it that a long word names; MOVK0 to MOVK3 are one operation, and so are the forms
of CHLI and CHLR (R486). -/
def longKey (w : Nat) : Nat × Nat :=
  let op := wOp w
  if op = 0x01 ∨ op = 0x10 ∨ op = 0x11 ∨ op = 0x1A ∨ op = 0x3E then (op, wFn w)
  else if op = 0x0C then (op, bits w 3 2)
  else if 0x08 ≤ op ∧ op ≤ 0x0B then (0x08, 0)
  else if op = 0x12 ∨ op = 0x2C ∨ op = 0x32 ∨ op = 0x33 ∨ op = 0x35 then (op, wFnOp w)
  else if op = 0x38 ∨ op = 0x39 then (0x38, bits w 0 4)
  else if op = 0x3F then (op, bits w 0 1)
  else (op, 0)

/-- The effect that the opcode map gives a key; none for reserved codes. -/
def effOf (key : Nat × Nat) : Option Eff :=
  match key with
  | (0x01, n) => aluOps[n]?
  | (0x02, _) => some (immEff opAdd)
  | (0x03, _) => some (immEff opAnd)
  | (0x04, _) => some (immEff opOr)
  | (0x05, _) => some (immEff opXor)
  | (0x06, _) => some (immEff opCmp)
  | (0x07, _) => some effMovi
  | (0x08, _) => some effMovk
  | (0x0C, n) => some (effShi n)
  | (0x0D, _) => some effExtu
  | (0x0E, _) => some effExts
  | (0x0F, _) => some effIns
  | (0x10, n) => mulOps[n]?
  | (0x11, n) => divOps[n]?
  | (0x12, n) => fpuOps[n]?
  | (0x13, _) => some effFcvt
  | (0x14, _) => some effCmpp
  | (0x18, _) => some effBranch
  | (0x19, _) => some effCall
  | (0x1A, n) => jrOps[n]?
  | (0x1C, _) => some effLoop
  | (0x1D, _) => some effRep
  | (0x20, _) => some (loadEff 1 true)
  | (0x21, _) => some (loadEff 2 true)
  | (0x22, _) => some (loadEff 4 true)
  | (0x23, _) => some (loadEff 8 false)
  | (0x24, _) => some (loadEff 1 false)
  | (0x25, _) => some (loadEff 2 false)
  | (0x26, _) => some (loadEff 4 false)
  | (0x28, _) => some (storeEff 1)
  | (0x29, _) => some (storeEff 2)
  | (0x2A, _) => some (storeEff 4)
  | (0x2B, _) => some (storeEff 8)
  | (0x2C, n) => if 1 ≤ n ∧ n ≤ 0xA then some (amoEff n) else none
  | (0x2D, _) => some (memAluEff opAdd)
  | (0x2E, _) => some (memAluEff opSub)
  | (0x2F, _) => some (memAluEff opCmp)
  | (0x30, _) => some effVld
  | (0x31, _) => some effVst
  | (0x32, n) => valuOps[n]?
  | (0x33, n) => vfpuOps[n]?
  | (0x34, _) => some effSetvl
  | (0x35, n) => vmovOps[n]?
  | (0x38, n) => chanOps[n]?
  | (0x3C, _) => some effMvs
  | (0x3D, _) => some effMvsw
  | (0x3E, n) => sysOps[n]?
  | (0x3F, n) => some (if n = 0 then effRegRead else effRegWrite)
  | _ => none

/-- The key of short operations beside their SOP. -/
def shortKey : Nat := 0x40

/-- The operations that a word names: one of a long word, those of both positions of a paired word, none where it is
reserved. -/
def wordOps (w : Nat) : List (Nat × Nat) :=
  if isPair w then
    (if shSop (short1 w) ≤ 0x18 then [(shortKey, shSop (short1 w))] else []) ++
      if shSop (short2 w) ≤ 0x18 then [(shortKey, shSop (short2 w))] else []
  else if (effOf (longKey w)).isSome then [longKey w] else []

/-- The effect of a word that is legal. -/
def wordEff (w : Nat) : Eff := if isPair w then pairEff else (effOf (longKey w)).getD effNop

/-! ## One word -/

/-- The word at the thread's PC. -/
def State.wordAt (s : State) (t : Nat) : Nat := s.cfg.active.code (s.thread t).pc.toNat

/-- What the legality of thread `t`'s word depends on. -/
def State.wordCtx (s : State) (t : Nat) : WordCtx :=
  { full := s.tflag t TF.full, vec := s.tflag t TF.vec, x := s.thread t,
    next := s.cfg.active.code (((s.thread t).pc.toNat + 1) % 2 ^ 17) }

/-- A parity error in a register that the word reads (R683). -/
def State.badReg (s : State) (t : Nat) (full : Bool) (w : Nat) : Option Nat :=
  (wordKeys full (s.thread t) w).find? fun r => decide (r < 256) && s.storeFault 9 (128 * t + r)

/-- The word's condition holds; operations of a pair have conditions of their own. -/
def Thread.executes (x : Thread) (w : Nat) : Bool := isPair w || x.condHolds (wCond w)

/-- What the word of slot `k` comes to (R476): legality, then privilege, then its condition, then its effect. -/
def State.runWord (s : State) (k : Issue) : Res :=
  if !legalWord (s.wordCtx k.t) k.w then .fault s TC.illegal 0
  else if privWord k.w && !(s.thread k.t).srb SR.priv then .fault s TC.priv 0
  else if !(s.thread k.t).executes k.w then .go s
  else match s.badReg k.t k.full k.w with
    | some r =>
      .fault ({ s with storeFaults := s.storeFaults.filter fun e => e.unit != 9 || e.index != 128 * k.t + r }.logUe 9 (128 * k.t + r))
        TC.poison 0
    | none => wordEff k.w k s

/-- The cost of the word at hand; one that does not decode costs its slot. -/
def State.costAt (s : State) (t w : Nat) : Nat :=
  if legalWord (s.wordCtx t) w && !(privWord w && !(s.thread t).srb SR.priv) then wordCost (s.tflag t TF.full) (s.thread t) w else 1

/-! ## The end of a word -/

/-- The thread after a taken branch to `tgt`: no loop end is evaluated (R504). -/
def Thread.jumpTo (x : Thread) (tgt : Nat) : Thread :=
  { x.ageSr with pc := BitVec.ofNat 17 tgt, st := TST.ready, wait := .none, ans := [], skipMatch := false }

/-- An alert or fault of thread `t`: of a scheduled thread, the six entry slots from the next free own slot on (R443). -/
def State.trapEntry (s : State) (t : Nat) (fault : Bool) (e : Trap) : State :=
  let s1 := if s.isSched t then s.entrySlots t (max (s.thread t).own ((s.thread t).slotAt (s.cfg.active.schedSlots t) s.cyc)) else s
  s1.enter t fault e

/-- A word that came to `r` ends; `s` is the state before it. -/
def State.conclude (s : State) (t : Nat) (r : Res) : State :=
  match r with
  | .go s1 => s1.finishInstr t
  | .to s1 next => (s1.leaveWait t).modThread t fun x => x.ageSr.finish (s.tflag t TF.full) next
  | .jump s1 tgt => (s1.leaveWait t).modThread t fun x => x.jumpTo tgt
  | .trap s1 fault e => s1.trapEntry t fault e
  | .wait s1 w st => s1.beginWait t w st
  | .overlap => s
  | .watch s1 j => s1.hitHalt t j true
  | .after s1 f => f (s1.finishInstr t)

/-- The word issued in slot `k` and occupies `cost` own slots (R420, R484): its counts and trace record. -/
def State.issued (s : State) (k : Issue) (pc cost : Nat) (ex : Bool) : State :=
  let p := pipeOf k.t
  let s1 := (((s.count (Cnt.thread k.t 0) 1).count (Cnt.btp p) cost).trace 1 ex p k.t pc k.c)
  s1.modThread k.t fun x =>
    { x with own := k.i + cost, used := x.used + 1, earliest := if gapWord k.w then k.c + 3 else x.earliest }

/-- A wait whose instruction has issued (R422): channel and event waits issue again when they can. -/
def Wait.issues : Wait → Bool
  | .lamp _ => true
  | .host => true
  | .fence => true
  | _ => false

/-- The word's outcome with its issue marked. -/
def Res.mark (f : State → State) : Res → Res
  | .go s => .go (f s)
  | .to s n => .to (f s) n
  | .jump s t => .jump (f s) t
  | .trap s b e => .trap (f s) b e
  | .wait s w st => .wait (if w.issues then f s else s) w st
  | .overlap => .overlap
  | .watch s j => .watch s j
  | .after s g => .after (f s) g

/-- An enabled breakpoint matches the word at thread `t`'s PC (R688). -/
def State.breakHit (s : State) (t : Nat) : Option Nat :=
  let x := s.thread t
  if !s.attached || x.skipMatch then none else
  (List.range 8).find? fun i => s.flag (F.DBG_BPi_EN i) && s.f (F.DBG_BPi_PC i) == x.pc.toNat &&
    (s.flag (F.DBG_BPi_ANY i) || s.f (F.DBG_BPi_THREAD i) == t)

/-- The slot `i` in cycle `c` for the word of thread `t`. -/
def State.slotOf (s : State) (t i c : Nat) : Issue :=
  let w := s.wordAt t
  let cost := s.costAt t w
  let last := if s.isSched t then (s.thread t).slotCyc (s.cfg.active.schedSlots t) (i + cost - 1) else c + cost - 1
  { t := t, i := i, c := c, last := last, w := w, full := s.tflag t TF.full }

/-- The word that came to `r` in slot `k` issues and ends. -/
def State.issueEnd (s : State) (k : Issue) (r : Res) : State :=
  let x := s.thread k.t
  s.conclude k.t (r.mark fun a => a.issued k x.pc.toNat (s.costAt k.t k.w) (x.executes k.w))

/-- Thread `t` issues in own slot `i`, CK_THR cycle `c`: products that are due land first (R485). A load that overlaps a buffered
store waits: a scheduled thread's for exactly four own slots (R430). -/
def State.issueIn (s : State) (t i c : Nat) : State :=
  let s1 := s.modThread t fun x => x.landTo i
  match s1.breakHit t with
  | some j => s1.hitHalt t j false
  | none =>
    let k := s1.slotOf t i c
    match s1.runWord k with
    | .overlap =>
      let s2 := s1.drainAll t c
      if !s2.isSched t then s2.count (Cnt.thread t 1) 1 else
      let c4 := (s2.thread t).slotCyc (s2.cfg.active.schedSlots t) (i + 4)
      let s3 := ((s2.passFt (2 * c4)).count (Cnt.thread t 1) 4).modThread t fun x => x.landTo (i + 4)
      let k4 := s3.slotOf t (i + 4) c4
      s3.issueEnd k4 (s3.runWord k4)
    | r => s1.issueEnd k r

/-- Thread `t` may issue the word at its PC. -/
def State.canIssue (s : State) (t : Nat) : Bool := s.threadsRun t && (s.thread t).st == TST.ready && !s.alertDue t

/-- The next word of thread `t` issues (R420, R422, R430): of a scheduled thread in its next own slot in which its registers are
usable, the slots before it being stalls; of a pool thread in the slot granted to it. -/
def State.issueNext (s : State) (t : Nat) : State :=
  if s.storeFaults.any fun e => e.unit == 2 then s.planError 2 else
  let x := s.thread t
  match x.storeErr with
  | some (cause, a) =>
    (s.modThread t fun x => { x with storeErr := none }).trapEntry t true { cause := cause, flags := 0, event := 0, addr := a }
  | none =>
  let need := x.needs (s.tflag t TF.full) (s.wordAt t)
  if s.isSched t then
    match (s.modThread t fun x => { x with earliest := max x.earliest need }).nextOwn t with
    | none => s
    | some (i, c) => ((s.passFt (2 * c)).count (Cnt.thread t 1) (i - x.own)).issueIn t i c
  else
    let p := pipeOf t
    if kget 0 s.btp.granted p ≠ t + 1 then s else
    let c := kget 0 s.btp.nextCyc p - 1
    let s1 := s.modBtp fun b => { b with granted := kset 0 b.granted p 0 }
    if need > c then s1.count (Cnt.thread t 1) 1 else s1.issueIn t (x.base - 1) c

/-- The command of an instruction row: thread `t` issues the word at its PC where it is the row's, or is reserved, which raises
ILLEGAL whatever the row. -/
def State.issue (s : State) (t : Nat) (key : Nat × Nat) : State :=
  let ops := wordOps (s.wordAt t)
  if s.canIssue t && (ops.isEmpty || ops.contains key) then s.issueNext t else s

/-! ## Waits that end -/

/-- A thread whose channel or event wait can end is ready again (R453); a scheduled thread issues in its next own slot, a pool
thread in the next slot granted to it. -/
def State.waitResume (s : State) (t : Nat) : State :=
  if !(s.threadsRun t && (s.thread t).st == TST.blocked && s.waitOver t) then s else
  let s1 := s.modThread t fun x => { x with st := TST.ready }
  if s1.isSched t && !s1.alertDue t then s1.issueNext t else s1

/-- The host has answered an access of thread `t`: the instruction goes on. A halted thread issues it again when it runs. -/
def State.hostResume (s : State) (t : Nat) : State :=
  let x := s.thread t
  if x.st = TST.halted then s.modThread t fun x => { x with prev := TST.ready } else
  if x.st ≠ TST.hmpWait then s else
  s.conclude t (s.runWord { s.slotOf t (x.own - 1) s.cyc with last := s.cyc })

end Sys2Proof.Machine
end

