-- ==== Sys2Proof/Machine/HmpRows.lean ====
section
/-! DEFINITION. The host memory ports (R607 to R619, R696): transfers of requests, read data, responses, timeouts, and what the
requester of each transaction does with its end. -/

namespace Sys2Proof.Machine

/-- How a transaction ended: without an error response, with poisoned data, and the bytes read or returned. -/
structure HmpEnd where
  ok : Bool
  poison : Bool
  bytes : List Byte

/-- A thread's access ended: the thread goes on with its instruction; an access of before a THREAD reset is discarded (R427). -/
def State.threadAnswer (s : State) (t gen : Nat) (e : HmpEnd) : State :=
  let x := s.thread t
  if x.gen ≠ gen ∨ x.wait ≠ .host then s else
  (s.modThread t fun x => { x with ans := x.ans ++ [{ bytes := e.bytes, err := !e.ok, poison := e.poison }] }).hostResume t

/-- A thread's buffered host store ended: its second half follows, or an error is due at the next instruction boundary (R431,
R440), and a FENCE may end (R515). -/
def State.storeAnswer (s : State) (t gen a n : Nat) (rest : List Byte) (second ok : Bool) : State :=
  if (s.thread t).gen ≠ gen then s else
  let s1 := s.modThread t fun x => { x with pendingWr := x.pendingWr - 1 }
  let s2 :=
    if !ok then s1.modThread t fun x =>
      { x with storeErr := x.storeErr.or (some (if second then TC.partialStore else TC.bus, a)) }
    else if rest.isEmpty then s1 else s1.hostStore t (a + n) rest [] true
  if (s2.thread t).wait = .fence then s2.hostResume t else s2

/-- The requester takes the end of its transaction. -/
def State.hmpEnd (s : State) (r : HmpReq) (e : HmpEnd) : State :=
  let status := if !e.ok then QS.hmperr else if e.poison then QS.poison else QS.ok
  match r.who with
  | .loader off gen => s.loaderData off gen (if e.ok && !e.poison then some e.bytes else none)
  | .report seq header => s.reportResponse seq header e.ok
  | .thread t gen => s.threadAnswer t gen e
  | .threadStore t gen a rest second => s.storeAnswer t gen a r.len rest second e.ok
  | .descFetch q slot gen => s.descData q slot gen status e.bytes
  | .recvFetch q slot gen => s.recvData q slot gen status e.bytes
  | .cplBody q _ => s.cplResponse q false e.ok
  | .cplHead q _ => s.cplResponse q true e.ok
  | .execAtomic src id => s.atomicResponse src id status (leNat e.bytes)
  | .redRead id off => s.redHost id off false status e.bytes
  | .redWrite id => s.redHost id 0 true (if e.ok then QS.ok else QS.hmperr) []
  | .drift _ => s
  | .msi _ _ => if e.ok then s else s.hit F.EVT_STAT_MSI_ERR

/-- A transaction ends for its requester: an error response counts in ERR_RESP (R696). -/
def State.hmpFinish (s : State) (p : Nat) (r : HmpReq) (e : HmpEnd) : State :=
  (if e.ok then s else s.count (Cnt.hmp p 4) 1).hmpEnd r e

/-- HMP_REQUEST_TRANSFER (R607, R609, R611): the request in front transfers with the lowest free ID, its write data behind it.
None transfers while HMP_FLUSH is 1 (R619). -/
def execHmpRequestTransfer (p : Fin 8) (s : State) : Host.Outcome State Fault Refusal :=
  let x := s.hmpPort p
  match x.reqs with
  | [] => done s
  | r :: rs =>
    let rd := decide (r.opc = 0)
    match freeTid (if rd then x.reads else x.writes) with
    | none => done s
    | some tid =>
      if s.flag F.CRP_PWR_STAT_HMP_FLUSH || !s.crp.mainUp then done s else
      let s1 := (s.count (Cnt.hmp p 7) (s.now - x.validAt)).hmpIssue p r.opc.toNat r.arg.toNat r.addr.toNat r.len tid r.src.toNat r.intr
      let s2 := if rd then s1 else s1.emit (.hmpWriteData p r.data r.poison)
      let t : HmpTxn :=
        { tid := BitVec.ofNat 10 tid, req := r, at_ := s.now, got := [], beats := 0, bad := false, poison := false, heldOver := false }
      done ((s2.setHmp p { x with
        reqs := rs
        validAt := if rs.isEmpty then 0 else s.now + 1
        reads := if rd then x.reads ++ [t] else x.reads
        writes := if rd then x.writes else x.writes ++ [t] }).pass 1)

/-- The ID `tid` of port `p` is released. -/
def HmpPort.release (x : HmpPort) (wr : Bool) (tid : BitVec 10) : HmpPort :=
  if wr then { x with writes := x.writes.filter fun t => t.tid != tid } else { x with reads := x.reads.filter fun t => t.tid != tid }

/-- The transaction that holds `tid`. -/
def HmpPort.find (x : HmpPort) (wr : Bool) (tid : BitVec 10) : Option HmpTxn :=
  (if wr then x.writes else x.reads).find? fun t => t.tid == tid

/-- The transaction after one more beat (R610, R613). -/
def HmpTxn.beat (t : HmpTxn) (b : HmpBeat) : HmpTxn :=
  let skip := if t.beats = 0 then t.req.addr.toNat % 128 else 0
  { t with
    got := t.got ++ ((natLe 128 b.bytes.toNat).drop skip).take (t.req.len - t.got.length)
    beats := t.beats + 1
    bad := t.bad || b.status != 0
    poison := t.poison || b.poison }

/-- HMP_READ_DATA (R613, R617): with the last beat the read ends; a beat for an ID that no read holds is discarded. -/
def execHmpReadData (p : Fin 8) (tid : BitVec 10) (beat : HmpBeat) (s : State) : Host.Outcome State Fault Refusal :=
  let x := s.hmpPort p
  match x.find false tid with
  | none => done s
  | some t =>
    if !beat.last then
      done (s.setHmp p { x with reads := updFirst (fun u => u.tid == tid) (fun u => u.beat beat) x.reads })
    else
      let u := t.beat beat
      let s1 := s.setHmp p (x.release false tid)
      if t.heldOver then done (s1.hit (F.GLB_HMPp_STAT_LATE p)) else
      let s2 := s1.countMax (Cnt.hmp p 5) (s.now - t.at_)
      let s2 := if u.bad then s2.hit (F.GLB_HMPp_STAT_ERR p) else s2
      done (s2.hmpFinish p t.req { ok := !u.bad, poison := u.poison, bytes := if u.bad then [] else u.got })

/-- HMP_WRITE_RESPONSE (R614, R617). -/
def execHmpWriteResponse (p : Fin 8) (tid : BitVec 10) (status : BitVec 2) (data : BitVec 64) (s : State) :
    Host.Outcome State Fault Refusal :=
  let x := s.hmpPort p
  match x.find true tid with
  | none => done s
  | some t =>
    let s1 := s.setHmp p (x.release true tid)
    if t.heldOver then done (s1.hit (F.GLB_HMPp_STAT_LATE p)) else
    let bad := decide (status ≠ 0)
    let s2 := if bad then s1.hit (F.GLB_HMPp_STAT_ERR p) else s1
    done (s2.hmpFinish p t.req { ok := !bad, poison := false, bytes := natLe 8 data.toNat })

/-- HMP_TIMEOUT (R617): once TMO × 1,024 cycles have passed since the request transferred, the transaction ends as an error response
and its ID is held. -/
def execHmpTimeout (p : Fin 8) (wr : Bool) (tid : BitVec 10) (s0 : State) : Host.Outcome State Fault Refusal :=
  let tmo := s0.f F.GLB_HMP_CFG_TMO
  match (s0.hmpPort p).find wr tid with
  | none => done s0
  | some t =>
    if tmo = 0 ∨ t.heldOver then done s0 else
    let s := s0.passTo (t.at_ + 1024 * tmo)
    let x := s.hmpPort p
    let hold := updFirst (fun (u : HmpTxn) => u.tid == tid) (fun u => { u with heldOver := true })
    let s1 := s.setHmp p (if wr then { x with writes := hold x.writes } else { x with reads := hold x.reads })
    let s2 := (s1.hit (F.GLB_HMPp_STAT_TMO p)).raise EV.hmpTmo
    done (s2.hmpFinish p t.req { ok := false, poison := false, bytes := [] })

end Sys2Proof.Machine
end

