-- ==== Sys2Proof/Machine/LinkRows.lean ====
section
/-! DEFINITION. The commands of the lanes and the link groups (R151 to R214). -/

namespace Sys2Proof.Machine

/-- RX valid of a lane changes (R168, R206, R600): its drop fails the lane. -/
def State.laneValid (s : State) (l : Nat) (v : Bool) : State :=
  let was := s.flag (F.LNK_Ln_STAT_SIG l)
  let s1 := s.setB (F.LNK_Ln_STAT_SIG l) v
  if v then
    (List.range 8).foldl (fun a g =>
      if ((a.cfgLanes g).map fun k => a.rxPhys g k).contains l && a.flag (F.LNK_LGn_CFG_ACTIVE g) then a.pollSignal g else a) s1
  else
    let s2 := s1.setB (F.LNK_Ln_STAT_ALIGNED l) false
    if was then s2.laneFail l else s2

/-- LANE_RX_VALID_CHANGE. -/
def execLaneRxValidChange (lane : Fin 18) (v : Bool) (s : State) : Host.Outcome State Fault Refusal :=
  done (s.laneValid lane.val v)

/-! ## Codewords -/

/-- The lane sets of the group at its configured width. -/
def State.setIds (s : State) (g : Nat) : List Nat := List.range (s.cfgWidth g / s.setLanes g)

/-- The logical lane set that physical set `i` of the group stands for (R166): a spare's is that of the lane it serves. -/
def State.setPos (s : State) (g i : Nat) : Nat :=
  if i ≥ 16 then (s.f (spareRx i) - s.f (F.LNK_LGn_CFG_BASE g)) / s.setLanes g else (s.lg g).rxPos.getD i i

/-- The set that a codeword on physical set `i` trains: its own, unless a spare serves it, and a spare in service trains the set
that it serves. -/
def State.trainedSet (s : State) (g i : Nat) : Option Nat :=
  let pos := s.setPos g i
  if i ≥ 16 then
    if s.f (spareRx i) = noLane || s.f (spareRxLg i) != g then none else (s.setIds g).find? fun j => s.setPos g j == pos
  else if s.setLanes g = 1 && s.rxPhys g (s.f (F.LNK_LGn_CFG_BASE g) + pos) ≥ 16 then none
  else some i

/-- DESKEW's result (R166, R171): each set at the place of its LANE, and the alignment point 16 cycles after the latest lane. -/
def State.endDeskew (s : State) (g : Nat) : State :=
  let latest := (s.cfgLanes g).foldl (fun a l => max a (s.f (F.LNK_Ln_STAT_SKEW (s.rxPhys g l)))) 0
  (s.setF (F.LNK_LGn_STAT_TSTATE g) TS.param).modLg g fun x => { x with
    rxPos := (s.setIds g).map fun j => kget 0 x.goodCw j - 1, alignAt := latest + 16, entered := s.now, rxCws := [], rxCarry := [], rxq := [] }

/-- ALIGN and DESKEW take a codeword of physical set `i` whose LANE value is `lane` (R168, R170, R171): DESKEW ends when every set has
given a place of its own and all lanes, and the spares aligned for the group, arrive within 256 cycles of one another. A codeword with
corrected symbols counts as one that decodes without error (DEDUCED, log entry 96). -/
def State.alignStep (s : State) (g i lane : Nat) (good : Bool) : State :=
  match s.trainedSet g i with
  | none => s
  | some i =>
  if s.tstate g = TS.align then
    let s1 := s.modLg g fun x => { x with goodCw := kset 0 x.goodCw i (if good then kget 0 x.goodCw i + 1 else 0) }
    if (s1.setIds g).all fun j => decide (kget 0 (s1.lg g).goodCw j ≥ 3) then
      (s1.setF (F.LNK_LGn_STAT_TSTATE g) TS.deskew).modLg g fun x => { x with goodCw := [], entered := s.now }
    else s1
  else if s.tstate g = TS.deskew && good then
    let pos := (lane % s.cfgWidth g) / s.setLanes g
    let s1 := s.modLg g fun x => { x with goodCw := kset 0 x.goodCw i (1 + pos) }
    let places := (s1.setIds g).map fun j => kget 0 (s1.lg g).goodCw j
    let spares := [16, 17].filter fun p => Nat.testBit (s1.f (F.LNK_LGn_CFG_SPARE_OK g)) (p - 16) && s1.flag (F.LNK_Ln_STAT_ALIGNED p)
    let skews := (((s1.cfgLanes g).map fun l => s1.rxPhys g l) ++ spares).map fun l => s1.f (F.LNK_Ln_STAT_SKEW l)
    if (s1.setIds g).all (fun j => places.contains (j + 1)) && skews.all (fun k => decide (k ≤ 256)) then s1.endDeskew g else s1
  else s

/-! ### From codewords to flits (R163) -/

/-- The stripes of period `cwn` in order, once every set in use has given its codeword or lost it; a lost set's are `none`. -/
def periodStripes (n : Nat) (cws : List RxCw) : Option (List (Option (BitVec 256))) :=
  if (List.range n).all fun i => cws.any fun c => c.set == i then
    some ((List.range (20 * n)).map fun q =>
      ((cws.find? fun c => c.set == q % n).bind fun c => c.data).map fun d => d.extractLsb' (256 * (q / n)) 256)
  else none

/-- A flit from its eight stripes, if none is lost. -/
def flitOf (st : List (Option (BitVec 256))) : Option Flit :=
  if st.all Option.isSome then
    let v := st.foldr (fun x a => a * 2 ^ 256 + (x.getD 0).toNat) 0
    some { hdr := BitVec.ofNat 128 v, pay := BitVec.ofNat 1920 (v / 2 ^ 128) }
  else none

/-- The flits of a run of stripes of which the first has number `at_` in the epoch and opens a flit, and the stripes left over. -/
def flitsOf : Nat → Nat → List (Option (BitVec 256)) → List (Nat × Option Flit) × List (Option (BitVec 256))
  | 0, _, st => ([], st)
  | fuel + 1, at_, st =>
    if st.length < 8 then ([], st) else
    let r := flitsOf fuel (at_ + 8) (st.drop 8)
    ((at_ / 8, flitOf (st.take 8)) :: r.1, r.2)

/-- A codeword of set `i`, in logical order, of period `cwn`, or its loss: when the period is complete its stripes go on the stream
of the epoch, where each eight from a flit's first are a flit (R163). Codewords of a period that a later one of the same set
overtakes are dropped. -/
def State.takeStripes (s : State) (g i cwn : Nat) (data : Option (BitVec 5120)) : State :=
  let n := s.nowWidth g / s.setLanes g
  if i ≥ n then s else
  let x := s.lg g
  let cws := (x.rxCws.filter fun c => c.set != i || c.cwn != cwn) ++ [{ cwn := cwn, set := i, data := data }]
  match periodStripes n (cws.filter fun c => c.cwn == cwn) with
  | none => s.setLg g { x with rxCws := cws.drop (cws.length - 16 * n) }
  | some st =>
    let at_ := 20 * n * cwn
    let joins := decide (x.rxCarryAt = at_)
    let skip := if joins then 0 else (8 - at_ % 8) % 8
    let run := (if joins then x.rxCarry else []) ++ st.drop skip
    let r := flitsOf (20 * n) (at_ + skip - if joins then x.rxCarry.length else 0) run
    s.setLg g { x with
      rxCws := cws.filter fun c => c.cwn != cwn, rxq := x.rxq ++ r.1, rxCarry := r.2, rxCarryAt := (at_ + 20 * n) % (3200 * n) }

/-- The failure counts of lane `l` after a codeword with `n` of its symbols corrected (R206): four bad codewords, or more
corrected symbols within 2^20 codewords than LNK_REMAP_THR.THR, make its group resolve it. -/
def State.laneQuality (s : State) (l : Nat) (good : Bool) (n : Nat) : State :=
  let x := s.lane l
  let wrap := decide (x.cws + 1 ≥ 2 ^ 20)
  let corr := x.corrected + n
  let exceeds := decide (corr > s.f F.LNK_REMAP_THR_THR) && decide (x.corrected ≤ s.f F.LNK_REMAP_THR_THR)
  let y : LaneState := { x with bad := if good then 0 else x.bad + 1, cws := if wrap then 0 else x.cws + 1, corrected := corr }
  let s1 := s.setLane l y
  let s2 := if y.bad = 4 then s1.laneFail l else if exceeds then s1.resolvePhys l else s1
  if wrap then s2.setLane l { s2.lane l with corrected := 0 } else s2

/-- The orders in which the `n` lanes of a set may stand (R170). -/
def laneOrders (n : Nat) : List (List Nat) :=
  (List.range n).foldl (fun ls _ => (ls.map fun p => ((List.range n).filter fun i => !p.contains i).map fun i => p ++ [i]).flatten) [[]]

/-- The codeword of `n` lanes read in the order `ord`, and whether it is good: it can be decoded and its framing unit is valid, with
values that are not reserved (R159, R161). -/
def openOrder (detect : Bool) (n : Nat) (rx : List Nat) (ord : List Nat) : Option (Nat × Nat × List Nat) :=
  codewordOpen detect (setSymbols n (ord.map fun j => rx.getD j 0))
def fuGood (fu : Nat) : Bool := fuValid fu && decide (fuCwn fu < 160) && decide (fuLane fu < 16 ∨ fuLane fu ≥ 0x1E)

/-- The order of the lanes of set `i`: in ALIGN the first that gives a good codeword, else the one that ALIGN found (R170). -/
def State.orderOf (s : State) (g i n : Nat) (detect : Bool) (rx : List Nat) : List Nat :=
  let known := (List.range n).map fun j => (kget [] (s.lg g).rxOrd i).getD j j
  if s.tstate g = TS.align && n > 1 then
    ((laneOrders n).find? fun o => match openOrder detect n rx o with
      | some (fu, _, _) => fuGood fu
      | none => false).getD known
  else known

/-- A codeword on physical lane set `i` of group `g`, as its lanes bring it (R159 to R163, R170, R184, R206). Alignment to the bit is
that of the command: each lane's bits begin with its first symbol (DESIGN CHOICE, log entry 93). -/
def State.codeword (s : State) (g i : Nat) (cw : List (BitVec 5440)) (skew : List (BitVec 9)) : State :=
  if s.tstate g < TS.align then s else
  let lanes := s.setPhys g i
  let nl := lanes.length
  let detect := s.f (F.LNK_LGn_PARM_FEC_MODE g) == 1
  let bs := (List.range nl).map fun j => (cw.map BitVec.toNat).getD j 0
  let ord := s.orderOf g i nl detect bs
  let s1 := (lanes.zip ((List.range nl).map fun j => (skew.map BitVec.toNat).getD j 0)).foldl (fun a (l, k) =>
    (a.count (Cnt.lane l 0) 1).setF (F.LNK_Ln_STAT_SKEW l) k) s
  let pos := s.setPos g i
  let dropped := decide (i < 16) && (s.droppedSets g).contains (s.f (F.LNK_LGn_CFG_BASE g) + pos * nl)
  let live := s.lgUp g && (decide (i < 16) || s.f (spareRx i) != noLane)
  let place := pos - s.f (F.LNK_LGn_STAT_SEL g) * (s.nowWidth g / s.setLanes g)
  let inUse := live && decide (s.f (F.LNK_LGn_STAT_SEL g) * (s.nowWidth g / s.setLanes g) ≤ pos)
  let next := ((s.lane (lanes.headD 0)).lastCwn + 1) % 160
  match openOrder detect nl bs ord with
  | none =>
    let s2 := lanes.foldl (fun a l => ((a.count (Cnt.lane l 2) 1).setB (F.LNK_Ln_STAT_ALIGNED l) false).laneQuality l false 0) s1
    let s3 := lanes.foldl (fun a l => a.setLane l { a.lane l with lastCwn := next }) s2
    let s4 := s3.modLg g fun x => { x with dropBad := x.dropBad || dropped }
    let s5 := if inUse && s4.lgUp g then s4.takeStripes g place next none else s4
    s5.alignStep g i 0 false
  | some (fu, data, fixed) =>
    let good := fuGood fu
    let cwn := if good then fuCwn fu else next
    let s2 := (List.range nl).foldl (fun a j =>
      let l := lanes.getD (ord.getD j j) 0
      let n := (fixed.filter fun p => p % nl == j).length
      (((a.count (Cnt.lane l 1) n).setB (F.LNK_Ln_STAT_ALIGNED l) good).setF (F.LNK_Ln_STAT_RX_LANE l) (fuLane fu)).laneQuality l good n) s1
    let s3 := lanes.foldl (fun a l => a.setLane l { a.lane l with lastCwn := cwn }) s2
    let s4 := s3.modLg g fun x =>
      { x with
        rxOrd := if s.tstate g = TS.align && decide (i < 16) && good then kset [] x.rxOrd i (if nl = 1 then [] else ord) else x.rxOrd
        dropSeen := if dropped && good then insertNat (s.f (F.LNK_LGn_CFG_BASE g) + pos * nl) x.dropSeen else x.dropSeen
        dropBad := x.dropBad || (dropped && !good)
        remap := x.remap.map fun r =>
          if r.receiver && r.spare == i && good && fuLane fu == r.lane then { r with valid := r.valid + 1 } else r }
    let s5 := if inUse && s4.lgUp g then s4.takeStripes g place cwn (if good then some (BitVec.ofNat 5120 data) else none) else s4
    s5.alignStep g i (fuLane fu) good

/-- CODEWORD_RECEIVE. -/
def execCodewordReceive (g : Fin 8) (set : Fin 18) (cw : List (BitVec 5440)) (skew : List (BitVec 9)) (s : State) :
    Host.Outcome State Fault Refusal :=
  done (s.codeword g.val set.val cw skew)

/-! ## Training -/

/-- The timeout of a training state in CK_CORE cycles (R168). -/
def trainTmo (t : Nat) : Option Nat :=
  if t = TS.align ∨ t = TS.param ∨ t = TS.delay then some (1000 * usCycles)
  else if t = TS.deskew then some (100 * usCycles) else none

/-- TRAIN_TIMEOUT (R169). -/
def execTrainTimeout (g : Fin 8) (s : State) : Host.Outcome State Fault Refusal :=
  match trainTmo (s.tstate g.val) with
  | some n =>
    let s1 := s.passTo ((s.lg g.val).entered + n)
    done (((s1.hit (F.LNK_LGn_STAT_TRAIN_FAIL g.val)).raise (EV.lnkTrain g.val)).toSignal g.val (s.lg g.val).seqKeep)
  | none => done s

/-- A TRAIN flit with message `cmd` in a group that is at least in PARAM; a CRC failure is counted. -/
def State.trainRow (s : State) (g : Nat) (f : Flit) (arr cmd : Nat) : State :=
  if s.tstate g < TS.param || f.typ ≠ FT.train || f.cmd ≠ cmd then s
  else if f.crc ≠ f.crcOf || f.reserved then s.count (Cnt.lg g 6) 1
  else (if f.mk? then s else s.takeControlWord g f.ext).trainMsg g f arr

/-- PARAM. -/
def execParam (g : Fin 8) (f : Flit) (s : State) : Host.Outcome State Fault Refusal :=
  done (s.trainRow g.val f 0 CMD.param)
/-- PARAM_ACK. -/
def execParamAck (g : Fin 8) (f : Flit) (s : State) : Host.Outcome State Fault Refusal :=
  done (s.trainRow g.val f 0 CMD.paramAck)
/-- DELAY_REQ. The second answer completes the measurement of this end's own side (R174). -/
def execDelayReq (g : Fin 8) (f : Flit) (arr : BitVec 64) (s : State) : Host.Outcome State Fault Refusal :=
  done (s.trainRow g.val f arr.toNat CMD.delayReq)
/-- DELAY_RSP. -/
def execDelayRsp (g : Fin 8) (f : Flit) (arr : BitVec 64) (s : State) : Host.Outcome State Fault Refusal :=
  done (s.trainRow g.val f arr.toNat CMD.delayRsp)

/-! ## Flit slots -/

/-- FLIT_RECEIVE (R190). -/
def execFlitReceive (g : Fin 8) (f : FlitRx) (s : State) : Host.Outcome State Fault Refusal :=
  done (s.ingress g.val f.flit f.arr.toNat)

/-- EGRESS_SLOT: the next flit slot of a group that sends (R168, R188, R189). The queue engine may then hand over a further segment. -/
def execEgressSlot (g : Fin 8) (s : State) : Host.Outcome State Fault Refusal :=
  if s.tstate g.val = TS.off then done s else
  let a := s.nextSlot g.val
  done (((s.passFt (slotCycle (s.spe g.val) a)).egressAt g.val a).handOver)

/-- CREDIT_RETURN_TIMER (R195). -/
def execCreditReturnTimer (g : Fin 8) (s : State) : Host.Outcome State Fault Refusal :=
  let x := s.lg g.val
  if x.freed.isEmpty then done s else
  done ((s.passTo (x.freedAt + s.f (F.LNK_LGn_PARM_CRET_INT g.val))).modLg g.val fun x => { x with creditDue := true })

/-- ACK_TIMER (R201). -/
def execAckTimer (g : Fin 8) (s : State) : Host.Outcome State Fault Refusal :=
  let x := s.lg g.val
  if x.accepted = 0 || !s.lgUp g.val then done s else
  done ((s.passTo (x.ackSentAt + 4 * s.f (F.LNK_LGn_PARM_ACK_INT g.val))).modLg g.val fun x => { x with ackOwed := true })

/-- REPLAY_TIMEOUT (R203). -/
def execReplayTimeout (g : Fin 8) (s : State) : Host.Outcome State Fault Refusal :=
  let x := s.lg g.val
  if !s.lgUp g.val || x.replay.isEmpty || x.remap.isSome || x.width.isSome then done s else
  let s1 := s.passTo (x.ackAt + 64 * s.f (F.LNK_LGn_PARM_REPLAY_TMO g.val))
  if x.timeouts + 1 ≥ s.f (F.LNK_LGn_PARM_REPLAY_LIMIT g.val) then
    done ((s1.modLg g.val fun x => { x with timeouts := 0 }).lgFail g.val (F.LNK_LGn_STAT_REPLAY_FAIL g.val))
  else done ((s1.modLg g.val fun x => { x with timeouts := x.timeouts + 1, ackAt := s1.now }).replayAll g.val)

/-- CTRL_REPEAT (R183). -/
def execCtrlRepeat (g : Fin 8) (txn : BitVec 8) (s : State) : Host.Outcome State Fault Refusal :=
  match (s.lg g.val).ctrlOut.find? fun r => r.txn == txn with
  | some r =>
    let s1 := (s.passTo (r.sent + 1024)).queueCtrl g.val FT.ctrl r.pay
    done (s1.modLg g.val fun x =>
      { x with ctrlOut := updFirst (fun r => r.txn == txn) (fun r => { r with sent := s1.now }) x.ctrlOut })
  | none => done s

/-- A CTRL flit with message `cmd`, already opened where it was sealed, in an UP group (R182); a CRC failure is
counted. -/
def State.ctrlRow (s : State) (g : Nat) (f : Flit) (cmd : Nat) : State :=
  if !s.lgUp g || f.typ ≠ FT.ctrl || f.cmd ≠ cmd then s
  else if f.crc ≠ f.crcOf || f.reserved then s.count (Cnt.lg g 6) 1
  else (if f.mk? then s else s.takeControlWord g f.ext).ctrlMsg g f

/-- REMAP_REQ. -/
def execRemapReq (g : Fin 8) (f : Flit) (s : State) : Host.Outcome State Fault Refusal := done (s.ctrlRow g.val f CMD.remapReq)
/-- REMAP_GO. -/
def execRemapGo (g : Fin 8) (f : Flit) (s : State) : Host.Outcome State Fault Refusal := done (s.ctrlRow g.val f CMD.remapGo)
/-- REMAP_DONE. -/
def execRemapDone (g : Fin 8) (f : Flit) (s : State) : Host.Outcome State Fault Refusal := done (s.ctrlRow g.val f CMD.remapDone)
/-- WIDTH_REQ. -/
def execWidthReq (g : Fin 8) (f : Flit) (s : State) : Host.Outcome State Fault Refusal := done (s.ctrlRow g.val f CMD.widthReq)
/-- WIDTH_ACK. -/
def execWidthAck (g : Fin 8) (f : Flit) (s : State) : Host.Outcome State Fault Refusal := done (s.ctrlRow g.val f CMD.widthAck)
/-- RESTORE_REQ. -/
def execRestoreReq (g : Fin 8) (f : Flit) (s : State) : Host.Outcome State Fault Refusal := done (s.ctrlRow g.val f CMD.restoreReq)
/-- RESTORE_ACK. -/
def execRestoreAck (g : Fin 8) (f : Flit) (s : State) : Host.Outcome State Fault Refusal := done (s.ctrlRow g.val f CMD.restoreAck)
/-- REFUSE. -/
def execRefuse (g : Fin 8) (f : Flit) (s : State) : Host.Outcome State Fault Refusal := done (s.ctrlRow g.val f CMD.refuse)

end Sys2Proof.Machine
end

