-- ==== Sys2Proof/Machine/Tap.lean ====
section
/-! DEFINITION. The test access port (R632): its instruction register, and what its data registers capture. -/

namespace Sys2Proof.Machine

/-- The instructions of the TAP (R632). -/
inductive TapInstr where
  | idcode
  | dbgacc
  | dbgstat
  | bypass
  deriving DecidableEq, Repr

/-- The instruction that code `c` of the instruction register stands for: every code outside the table acts as BYPASS (R632). -/
def tapInstr (c : BitVec 5) : TapInstr :=
  if c = 0b00001 then .idcode else if c = 0b01000 then .dbgacc else if c = 0b01001 then .dbgstat else .bypass

/-- The code of an instruction (R632). -/
def TapInstr.code : TapInstr → BitVec 5
  | .idcode => 0b00001
  | .dbgacc => 0b01000
  | .dbgstat => 0b01001
  | .bypass => 0b11111

/-- The length of its data register (R632, R684). -/
def TapInstr.len : TapInstr → Nat
  | .idcode => 32
  | .dbgacc => 58
  | .dbgstat => 32
  | .bypass => 1

/-- DBG_STAT as it reads (R686). -/
def State.dbgStat (s : State) : Word :=
  wput (s.viewDbg R.DBG_STAT (s.reg R.DBG_STAT)) F.DBG_STAT_ACC_BUSY (b2n (s.cfg.late.any fun a => a.src == .debug))

/-- What the data register of `i` captures (R632, R684): the identity code with bit 0 set, the read data of the last completed access
with ERR in bit 57, DBG_STAT; BYPASS captures 0. -/
def State.tapCapture (s : State) (i : TapInstr) : BitVec 58 :=
  match i with
  | .idcode => BitVec.ofNat 58 (2 * Config.jtagId.toNat + 1)
  | .dbgacc => BitVec.ofNat 58 (s.dbg.rdata.toNat + 2 ^ 57 * b2n s.dbg.accErr)
  | .dbgstat => s.dbgStat.setWidth 58
  | .bypass => 0

/-- Update-IR with the code of `i`. -/
def State.tapLoad (s : State) (i : TapInstr) : State := { s with dbg := { s.dbg with ir := i.code } }

/-- Capture-DR and Shift-DR of the present instruction. -/
def State.tapScan (s : State) : State := s.emit (.tapScan (tapInstr s.dbg.ir).len (s.tapCapture (tapInstr s.dbg.ir)))

end Sys2Proof.Machine
end

