-- ==== Sys2Proof/Machine/RegRows.lean ====
section
/-! DEFINITION. The commands that are register accesses. The rows of one register share its operation, which follows all bits of
the word written. -/

namespace Sys2Proof.Machine

/-- REGISTER_WRITE (R14). -/
def execRegisterWrite (src : RegSrc) (off : BitVec 24) (size : BitVec 2) (data : BitVec 32) (s : State) : Host.Outcome State Fault Refusal :=
  done (s.csrWrite src off.toNat size.toNat data)

/-- RC_FIELD_READ (R16), a read of a register. -/
def execRcFieldRead (src : RegSrc) (off : BitVec 24) (size : BitVec 2) (s : State) : Host.Outcome State Fault Refusal :=
  done (s.csrRead src off.toNat size.toNat)

/-- PE_CATCH_READ (R569). -/
def execPeCatchRead (src : RegSrc) (n : Fin 8) (s : State) : Host.Outcome State Fault Refusal :=
  done (s.csrRead src (R.PEn_CATCH n) 2)

/-- TIMER_CAP_READ (R580). -/
def execTimerCapRead (src : RegSrc) (m : Fin 16) (s : State) : Host.Outcome State Fault Refusal :=
  done (s.csrRead src (R.TMm_CAP m) 2)

/-- The access that a value of the DBGACC register asks for at Update-DR (R684): without REQ none, and none while one is under way,
which sets OVERRUN. -/
def State.dbgUpdate (s : State) (dr : BitVec 58) : State :=
  let off := bits dr.toNat 32 24
  if !Nat.testBit dr.toNat 57 then s
  else if s.cfg.late.any fun a => a.src == .debug then s.hit F.DBG_STAT_OVERRUN
  else if Nat.testBit dr.toNat 56 then s.csrWrite .debug off 2 (BitVec.ofNat 32 dr.toNat)
  else s.csrRead .debug off 2

/-- DBGACC (R684): the instruction register takes its code, the scan shifts out what DBGACC captures, and Update-DR takes `dr`. The
test access port is in MAIN (R593). -/
def execDbgacc (dr : BitVec 58) (s : State) : Host.Outcome State Fault Refusal :=
  if !s.crp.mainUp then done s else
  let s1 := s.tapLoad TapInstr.dbgacc
  done (s1.tapScan.dbgUpdate dr)

/-- WAKE_REQUEST (R660). -/
def execWakeRequest (by_ : WakeSource) (s : State) : Host.Outcome State Fault Refusal :=
  match by_ with
  | .csp data => done (s.csrWrite .csp R.CRP_MODE_CTRL 2 data)
  | .tm14 => if s.crp.headOn && s.crp.wake14 then done (s.wake 2) else done s
  | .tm15 => if s.crp.headOn && s.crp.wake15 then done (s.wake 3) else done s
  | .attention => if s.crp.headOn && s.flag F.CRP_WAKE_ATTN_EN then done (s.wake 4) else done s

/-- VWK_CLAIM_START (R551). -/
def execVwkClaimStart (by_ : ClaimTrigger) (s : State) : Host.Outcome State Fault Refusal :=
  match by_ with
  | .write src data => done (s.csrWrite src R.VWK_CTRL 2 data)
  | .headUp =>
    if s.crp.headOn && s.flag F.VWK_CFG_AUTO_CLAIM && s.vwkState == VT.unassigned then done (s.startClaim (s.f F.VWK_CFG_PREF))
    else done s

/-- RELOCK (R95). -/
def execRelock (src : RegSrc) (data : BitVec 32) (s : State) : Host.Outcome State Fault Refusal :=
  done (s.csrWrite src R.SCH_TL_CTRL 2 data)

/-- LOAD_START (R118). -/
def execLoadStart (src : RegSrc) (data : BitVec 32) (s : State) : Host.Outcome State Fault Refusal :=
  done (s.csrWrite src R.CFG_CTRL 2 data)

/-- LOAD_ABORT (R128). -/
def execLoadAbort (src : RegSrc) (data : BitVec 32) (s : State) : Host.Outcome State Fault Refusal :=
  done (s.csrWrite src R.CFG_CTRL 2 data)

/-- DISARM (R134). -/
def execDisarm (src : RegSrc) (data : BitVec 32) (s : State) : Host.Outcome State Fault Refusal :=
  done (s.csrWrite src R.CFG_CTRL 2 data)

/-- ARM (R132). -/
def execArm (src : RegSrc) (data : BitVec 32) (s : State) : Host.Outcome State Fault Refusal :=
  done (s.csrWrite src R.CFG_ARM_LO 2 data)

/-- ACTIVATE (R130). -/
def execActivate (src : RegSrc) (data : BitVec 32) (s : State) : Host.Outcome State Fault Refusal :=
  done (s.csrWrite src R.CFG_CTRL 2 data)

/-- EXPERT_UNLOCK (R138). -/
def execExpertUnlock (src : RegSrc) (data : BitVec 32) (s : State) : Host.Outcome State Fault Refusal :=
  done (s.csrWrite src R.GLB_CTRL 2 data)

/-- EXPERT_LOCK (R139). -/
def execExpertLock (src : RegSrc) (data : BitVec 32) (s : State) : Host.Outcome State Fault Refusal :=
  done (s.csrWrite src R.GLB_CTRL 2 data)

/-- LINK_GROUP_ENABLE (R168). -/
def execLinkGroupEnable (src : RegSrc) (g : Fin 8) (data : BitVec 32) (s : State) : Host.Outcome State Fault Refusal :=
  done (s.csrWrite src (R.LNK_LGn_CTRL g) 2 data)

/-- RETRAIN (R227). -/
def execRetrain (src : RegSrc) (g : Fin 8) (data : BitVec 32) (s : State) : Host.Outcome State Fault Refusal :=
  done (s.csrWrite src (R.LNK_LGn_CTRL g) 2 data)

/-- KEY_LOAD (R217). -/
def execKeyLoad (src : RegSrc) (g : Fin 8) (data : BitVec 32) (s : State) : Host.Outcome State Fault Refusal :=
  done (s.csrWrite src (R.LNK_LGn_KEY_CMD g) 2 data)

/-- KEY_ERASE (R232). -/
def execKeyErase (src : RegSrc) (g : Fin 8) (data : BitVec 32) (s : State) : Host.Outcome State Fault Refusal :=
  done (s.csrWrite src (R.LNK_LGn_KEY_CMD g) 2 data)

/-- GCM_ARM (R218). -/
def execGcmArm (src : RegSrc) (g : Fin 8) (data : BitVec 32) (s : State) : Host.Outcome State Fault Refusal :=
  done (s.csrWrite src (R.LNK_LGn_GCM_ARM_LO g) 2 data)

/-- LINK_RESET (R658). -/
def execLinkReset (src : RegSrc) (data : BitVec 32) (s : State) : Host.Outcome State Fault Refusal :=
  done (s.csrWrite src R.CRP_LINK_RST 2 data)

/-- DOORBELL_SQ (R240). -/
def execDoorbellSq (src : RegSrc) (q : BitVec 16) (data : BitVec 32) (s : State) : Host.Outcome State Fault Refusal :=
  done (s.csrWrite src (0xC00000 + 64 * q.toNat) 2 data)

/-- DOORBELL_RQ (R240). -/
def execDoorbellRq (src : RegSrc) (q : BitVec 16) (data : BitVec 32) (s : State) : Host.Outcome State Fault Refusal :=
  done (s.csrWrite src (0xC00004 + 64 * q.toNat) 2 data)

/-- DOORBELL_CQ (R240). -/
def execDoorbellCq (src : RegSrc) (q : BitVec 16) (data : BitVec 32) (s : State) : Host.Outcome State Fault Refusal :=
  done (s.csrWrite src (0xC00008 + 64 * q.toNat) 2 data)

/-- QUEUE_CONTEXT_READ (R286). -/
def execQueueContextRead (src : RegSrc) (data : BitVec 32) (s : State) : Host.Outcome State Fault Refusal :=
  done (s.csrWrite src R.QUE_CTX_CMD 2 data)

/-- QUEUE_CONTEXT_WRITE (R236). -/
def execQueueContextWrite (src : RegSrc) (data : BitVec 32) (s : State) : Host.Outcome State Fault Refusal :=
  done (s.csrWrite src R.QUE_CTX_CMD 2 data)

/-- QUEUE_FLUSH (R237). -/
def execQueueFlush (src : RegSrc) (data : BitVec 32) (s : State) : Host.Outcome State Fault Refusal :=
  done (s.csrWrite src R.QUE_CTX_CMD 2 data)

/-- BARRIER_RELEASE (R255). -/
def execBarrierRelease (src : RegSrc) (data : BitVec 32) (s : State) : Host.Outcome State Fault Refusal :=
  done (s.csrWrite src R.QUE_BAR_CMD 2 data)

/-- BARRIER_RESET (R255). -/
def execBarrierReset (src : RegSrc) (data : BitVec 32) (s : State) : Host.Outcome State Fault Refusal :=
  done (s.csrWrite src R.QUE_BAR_CMD 2 data)

/-- PEER_READ (R287). -/
def execPeerRead (src : RegSrc) (data : BitVec 32) (s : State) : Host.Outcome State Fault Refusal :=
  done (s.csrWrite src R.QUE_PEER_CMD 2 data)

/-- PEER_ADD (R261). -/
def execPeerAdd (src : RegSrc) (data : BitVec 32) (s : State) : Host.Outcome State Fault Refusal :=
  done (s.csrWrite src R.QUE_PEER_CMD 2 data)

/-- PEER_REMOVE (R261). -/
def execPeerRemove (src : RegSrc) (data : BitVec 32) (s : State) : Host.Outcome State Fault Refusal :=
  done (s.csrWrite src R.QUE_PEER_CMD 2 data)

/-- STREAM_COMMAND_GO (R302). -/
def execStreamCommandGo (src : RegSrc) (data : BitVec 32) (s : State) : Host.Outcome State Fault Refusal :=
  done (s.csrWrite src R.STR_CMD_GO 2 data)

/-- DRIFT_ABORT (R336). -/
def execDriftAbort (src : RegSrc) (d : Fin 16) (data : BitVec 32) (s : State) : Host.Outcome State Fault Refusal :=
  done (s.csrWrite src (R.STR_Dd_CTRL d) 2 data)

/-- DRIFT_FLUSH (R336). -/
def execDriftFlush (src : RegSrc) (d : Fin 16) (data : BitVec 32) (s : State) : Host.Outcome State Fault Refusal :=
  done (s.csrWrite src (R.STR_Dd_CTRL d) 2 data)

/-- REDUCE_ENTRY_RESET (R386). -/
def execReduceEntryReset (src : RegSrc) (data : BitVec 32) (s : State) : Host.Outcome State Fault Refusal :=
  done (s.csrWrite src R.STR_RED_CMD 2 data)

/-- TANDEM_ENABLE (R401). -/
def execTandemEnable (src : RegSrc) (data : BitVec 32) (s : State) : Host.Outcome State Fault Refusal :=
  done (s.csrWrite src R.GLB_TND_CTRL 2 data)

/-- TAKEOVER (R411). -/
def execTakeover (src : RegSrc) (data : BitVec 32) (s : State) : Host.Outcome State Fault Refusal :=
  done (s.csrWrite src R.GLB_TND_CTRL 2 data)

/-- THREAD_STOP (R438). -/
def execThreadStop (src : RegSrc) (data : BitVec 32) (s : State) : Host.Outcome State Fault Refusal :=
  done (s.csrWrite src R.BTP_TH_CMD 2 data)

/-- THREAD_START (R438). -/
def execThreadStart (src : RegSrc) (data : BitVec 32) (s : State) : Host.Outcome State Fault Refusal :=
  done (s.csrWrite src R.BTP_TH_CMD 2 data)

/-- THREAD_RESUME (R438). -/
def execThreadResume (src : RegSrc) (data : BitVec 32) (s : State) : Host.Outcome State Fault Refusal :=
  done (s.csrWrite src R.BTP_TH_CMD 2 data)

/-- RESUME_ALERT (R438). -/
def execResumeAlert (src : RegSrc) (data : BitVec 32) (s : State) : Host.Outcome State Fault Refusal :=
  done (s.csrWrite src R.BTP_TH_CMD 2 data)

/-- THREAD_RESET (R438). -/
def execThreadReset (src : RegSrc) (data : BitVec 32) (s : State) : Host.Outcome State Fault Refusal :=
  done (s.csrWrite src R.BTP_TH_CMD 2 data)

/-- THREAD_HALT (R463). -/
def execThreadHalt (src : RegSrc) (data : BitVec 32) (s : State) : Host.Outcome State Fault Refusal :=
  done (s.csrWrite src R.BTP_TH_CMD 2 data)

/-- THREAD_RUN (R465). -/
def execThreadRun (src : RegSrc) (data : BitVec 32) (s : State) : Host.Outcome State Fault Refusal :=
  done (s.csrWrite src R.BTP_TH_CMD 2 data)

/-- FAULT_LOG_POP (R469). -/
def execFaultLogPop (src : RegSrc) (data : BitVec 32) (s : State) : Host.Outcome State Fault Refusal :=
  done (s.csrWrite src R.BTP_FLOG_POP 2 data)

/-- FORCE_RETURN (R459). -/
def execForceReturn (src : RegSrc) (data : BitVec 32) (s : State) : Host.Outcome State Fault Refusal :=
  done (s.csrWrite src R.BTP_LAMP_CMD 2 data)

/-- LAMP_SCAN (R470). -/
def execLampScan (src : RegSrc) (data : BitVec 32) (s : State) : Host.Outcome State Fault Refusal :=
  done (s.csrWrite src R.BTP_LAMP_CMD 2 data)

/-- VWK_SEND (R557). -/
def execVwkSend (src : RegSrc) (data : BitVec 32) (s : State) : Host.Outcome State Fault Refusal :=
  done (s.csrWrite src R.VWK_CTRL 2 data)

/-- VWK_DETACH (R555). -/
def execVwkDetach (src : RegSrc) (data : BitVec 32) (s : State) : Host.Outcome State Fault Refusal :=
  done (s.csrWrite src R.VWK_CTRL 2 data)

/-- VWK_ATTN (R556). -/
def execVwkAttn (src : RegSrc) (data : BitVec 32) (s : State) : Host.Outcome State Fault Refusal :=
  done (s.csrWrite src R.VWK_CTRL 2 data)

/-- VWK_RX_POP (R559). -/
def execVwkRxPop (src : RegSrc) (data : BitVec 32) (s : State) : Host.Outcome State Fault Refusal :=
  done (s.csrWrite src R.VWK_RX_POP 2 data)

/-- PE_ENABLE (R567). -/
def execPeEnable (src : RegSrc) (n : Fin 8) (data : BitVec 32) (s : State) : Host.Outcome State Fault Refusal :=
  done (s.csrWrite src (R.PEn_CTRL n) 2 data)

/-- PE_DISABLE (R567). -/
def execPeDisable (src : RegSrc) (n : Fin 8) (data : BitVec 32) (s : State) : Host.Outcome State Fault Refusal :=
  done (s.csrWrite src (R.PEn_CTRL n) 2 data)

/-- PE_FLUSH (R567). -/
def execPeFlush (src : RegSrc) (n : Fin 8) (data : BitVec 32) (s : State) : Host.Outcome State Fault Refusal :=
  done (s.csrWrite src (R.PEn_CTRL n) 2 data)

/-- PE_DISCARD (R573). -/
def execPeDiscard (src : RegSrc) (n : Fin 8) (data : BitVec 32) (s : State) : Host.Outcome State Fault Refusal :=
  done (s.csrWrite src (R.PEn_CTRL n) 2 data)

/-- PE_FEED_WRITE (R569). -/
def execPeFeedWrite (src : RegSrc) (n : Fin 8) (data : BitVec 32) (s : State) : Host.Outcome State Fault Refusal :=
  done (s.csrWrite src (R.PEn_FEED n) 2 data)

/-- PE_PROG_WRITE (R572). -/
def execPeProgWrite (src : RegSrc) (n : Fin 8) (word : Fin 512) (data : BitVec 32) (s : State) : Host.Outcome State Fault Refusal :=
  done (s.csrWrite src (R.PEn_PROG n word) 2 data)

/-- PE_BASE_WRITE (R572). -/
def execPeBaseWrite (src : RegSrc) (n : Fin 8) (data : BitVec 32) (s : State) : Host.Outcome State Fault Refusal :=
  done (s.csrWrite src (R.PEn_BASE n) 2 data)

/-- PE_PINMAP_WRITE (R572). -/
def execPePinmapWrite (src : RegSrc) (n : Fin 8) (hi : Bool) (data : BitVec 32) (s : State) : Host.Outcome State Fault Refusal :=
  done (s.csrWrite src (if hi then R.PEn_PINMAP_HI n else R.PEn_PINMAP_LO n) 2 data)

/-- PE_DEPTH_WRITE (R571). -/
def execPeDepthWrite (src : RegSrc) (n : Fin 8) (data : BitVec 32) (s : State) : Host.Outcome State Fault Refusal :=
  done (s.csrWrite src (R.PEn_DEPTH n) 2 data)

/-- SB_OWNER_CHANGE (R542). -/
def execSbOwnerChange (src : RegSrc) (i : Fin 8) (data : BitVec 32) (s : State) : Host.Outcome State Fault Refusal :=
  done (s.csrWrite src (R.SBD_PINSELi i) 2 data)

/-- TIMER_ENABLE (R579). -/
def execTimerEnable (src : RegSrc) (m : Fin 16) (data : BitVec 32) (s : State) : Host.Outcome State Fault Refusal :=
  done (s.csrWrite src (R.TMm_CTRL m) 2 data)

/-- TIMER_DISABLE (R579). -/
def execTimerDisable (src : RegSrc) (m : Fin 16) (data : BitVec 32) (s : State) : Host.Outcome State Fault Refusal :=
  done (s.csrWrite src (R.TMm_CTRL m) 2 data)

/-- RELOAD_NOW (R578). -/
def execReloadNow (src : RegSrc) (m : Fin 16) (data : BitVec 32) (s : State) : Host.Outcome State Fault Refusal :=
  done (s.csrWrite src (R.TMm_CTRL m) 2 data)

/-- HARD_RESET (R654). -/
def execHardReset (src : RegSrc) (data : BitVec 32) (s : State) : Host.Outcome State Fault Refusal :=
  done (s.csrWrite src R.CRP_RST_CTRL 2 data)

/-- SOFT_RESET (R654). -/
def execSoftReset (src : RegSrc) (data : BitVec 32) (s : State) : Host.Outcome State Fault Refusal :=
  done (s.csrWrite src R.CRP_RST_CTRL 2 data)

/-- MODE_REQ_STANDBY (R649). -/
def execModeReqStandby (src : RegSrc) (data : BitVec 32) (s : State) : Host.Outcome State Fault Refusal :=
  done (s.csrWrite src R.CRP_MODE_CTRL 2 data)

/-- MODE_REQ_TRAIN (R649). -/
def execModeReqTrain (src : RegSrc) (data : BitVec 32) (s : State) : Host.Outcome State Fault Refusal :=
  done (s.csrWrite src R.CRP_MODE_CTRL 2 data)

/-- MODE_REQ_LOCK (R649). -/
def execModeReqLock (src : RegSrc) (data : BitVec 32) (s : State) : Host.Outcome State Fault Refusal :=
  done (s.csrWrite src R.CRP_MODE_CTRL 2 data)

/-- MODE_REQ_RUN (R649). -/
def execModeReqRun (src : RegSrc) (data : BitVec 32) (s : State) : Host.Outcome State Fault Refusal :=
  done (s.csrWrite src R.CRP_MODE_CTRL 2 data)

/-- MODE_REQ_DRAIN (R649). -/
def execModeReqDrain (src : RegSrc) (data : BitVec 32) (s : State) : Host.Outcome State Fault Refusal :=
  done (s.csrWrite src R.CRP_MODE_CTRL 2 data)

/-- MODE_REQ_RETAIN (R659). -/
def execModeReqRetain (src : RegSrc) (data : BitVec 32) (s : State) : Host.Outcome State Fault Refusal :=
  done (s.csrWrite src R.CRP_MODE_CTRL 2 data)

/-- MODE_REQ_SAFE (R649). -/
def execModeReqSafe (src : RegSrc) (data : BitVec 32) (s : State) : Host.Outcome State Fault Refusal :=
  done (s.csrWrite src R.CRP_MODE_CTRL 2 data)

/-- EVT_RAISE (R675). -/
def execEvtRaise (src : RegSrc) (data : BitVec 32) (s : State) : Host.Outcome State Fault Refusal :=
  done (s.csrWrite src R.EVT_RAISE 2 data)

/-- EVENT_PENDING_CLEAR (R677). -/
def execEventPendingClear (src : RegSrc) (k : Fin 128) (data : BitVec 32) (s : State) : Host.Outcome State Fault Refusal :=
  done (s.csrWrite src (R.EVT_PENDk k) 2 data)

/-- DEBUG_HALT (R687). -/
def execDebugHalt (src : RegSrc) (data : BitVec 32) (s : State) : Host.Outcome State Fault Refusal :=
  done (s.csrWrite src R.DBG_CTRL 2 data)

/-- DEBUG_RESUME (R687). -/
def execDebugResume (src : RegSrc) (data : BitVec 32) (s : State) : Host.Outcome State Fault Refusal :=
  done (s.csrWrite src R.DBG_CTRL 2 data)

/-- DEBUG_RESET (R654). -/
def execDebugReset (src : RegSrc) (data : BitVec 32) (s : State) : Host.Outcome State Fault Refusal :=
  done (s.csrWrite src R.DBG_CTRL 2 data)

end Sys2Proof.Machine
end

