-- ==== Sys2Proof/Machine/ThreadRows.lean ====
section
/-! DEFINITION. The thread instruction rows: each issues the word at the thread's PC where it is the row's operation, by its key in
the opcode map (R486, R518; log entry 30). -/

namespace Sys2Proof.Machine

/-- CHANNEL_WAIT_RESUME (R453, R454). -/
def execChannelWaitResume (who : ChanWaiter) (s : State) : Host.Outcome State Fault Refusal :=
  match who with
  | .thread t => match (s.thread t).wait with
    | .chanRead _ _ => done (s.waitResume t)
    | .chanWrite _ _ _ => done (s.waitResume t)
    | _ => done s
  | .drift d => done (s.driftChannel d)
  | .queueEngine => done s.queChannels

/-- EVENT_WAIT_RESUME (R441, R514). -/
def execEventWaitResume (t : Fin 128) (s : State) : Host.Outcome State Fault Refusal :=
  match (s.thread t).wait with
  | .event _ _ => done (s.waitResume t)
  | _ => done s

/-- ALU_ADD (R487). -/
def execAluAdd (t : Fin 128) (s : State) : Host.Outcome State Fault Refusal := done (s.issue t (0x01, 0))
/-- ALU_SUB (R487). -/
def execAluSub (t : Fin 128) (s : State) : Host.Outcome State Fault Refusal := done (s.issue t (0x01, 0x01))
/-- ADC (R487). -/
def execAdc (t : Fin 128) (s : State) : Host.Outcome State Fault Refusal := done (s.issue t (0x01, 0x02))
/-- SBC (R487). -/
def execSbc (t : Fin 128) (s : State) : Host.Outcome State Fault Refusal := done (s.issue t (0x01, 0x03))
/-- ALU_AND (R487). -/
def execAluAnd (t : Fin 128) (s : State) : Host.Outcome State Fault Refusal := done (s.issue t (0x01, 0x04))
/-- ALU_OR (R487). -/
def execAluOr (t : Fin 128) (s : State) : Host.Outcome State Fault Refusal := done (s.issue t (0x01, 0x05))
/-- ALU_XOR (R487). -/
def execAluXor (t : Fin 128) (s : State) : Host.Outcome State Fault Refusal := done (s.issue t (0x01, 0x06))
/-- ANDN (R487). -/
def execAndn (t : Fin 128) (s : State) : Host.Outcome State Fault Refusal := done (s.issue t (0x01, 0x07))
/-- ALU_SHL (R487). -/
def execAluShl (t : Fin 128) (s : State) : Host.Outcome State Fault Refusal := done (s.issue t (0x01, 0x08))
/-- ALU_SHR (R487). -/
def execAluShr (t : Fin 128) (s : State) : Host.Outcome State Fault Refusal := done (s.issue t (0x01, 0x09))
/-- ALU_SAR (R487). -/
def execAluSar (t : Fin 128) (s : State) : Host.Outcome State Fault Refusal := done (s.issue t (0x01, 0x0A))
/-- ALU_ROR (R487). -/
def execAluRor (t : Fin 128) (s : State) : Host.Outcome State Fault Refusal := done (s.issue t (0x01, 0x0B))
/-- ALU_CMP (R487). -/
def execAluCmp (t : Fin 128) (s : State) : Host.Outcome State Fault Refusal := done (s.issue t (0x01, 0x0C))
/-- TST (R487). -/
def execTst (t : Fin 128) (s : State) : Host.Outcome State Fault Refusal := done (s.issue t (0x01, 0x0D))
/-- ALU_MOV (R487). -/
def execAluMov (t : Fin 128) (s : State) : Host.Outcome State Fault Refusal := done (s.issue t (0x01, 0x0E))
/-- ALU_NOT (R487). -/
def execAluNot (t : Fin 128) (s : State) : Host.Outcome State Fault Refusal := done (s.issue t (0x01, 0x0F))
/-- ALU_NEG (R487). -/
def execAluNeg (t : Fin 128) (s : State) : Host.Outcome State Fault Refusal := done (s.issue t (0x01, 0x10))
/-- ALU_MIN (R487). -/
def execAluMin (t : Fin 128) (s : State) : Host.Outcome State Fault Refusal := done (s.issue t (0x01, 0x11))
/-- ALU_MAX (R487). -/
def execAluMax (t : Fin 128) (s : State) : Host.Outcome State Fault Refusal := done (s.issue t (0x01, 0x12))
/-- MINU (R487). -/
def execMinu (t : Fin 128) (s : State) : Host.Outcome State Fault Refusal := done (s.issue t (0x01, 0x13))
/-- MAXU (R487). -/
def execMaxu (t : Fin 128) (s : State) : Host.Outcome State Fault Refusal := done (s.issue t (0x01, 0x14))
/-- ALU_CLZ (R487). -/
def execAluClz (t : Fin 128) (s : State) : Host.Outcome State Fault Refusal := done (s.issue t (0x01, 0x15))
/-- CTZ (R487). -/
def execCtz (t : Fin 128) (s : State) : Host.Outcome State Fault Refusal := done (s.issue t (0x01, 0x16))
/-- ALU_POPC (R487). -/
def execAluPopc (t : Fin 128) (s : State) : Host.Outcome State Fault Refusal := done (s.issue t (0x01, 0x17))
/-- BREV (R487). -/
def execBrev (t : Fin 128) (s : State) : Host.Outcome State Fault Refusal := done (s.issue t (0x01, 0x18))
/-- BSWAP (R487). -/
def execBswap (t : Fin 128) (s : State) : Host.Outcome State Fault Refusal := done (s.issue t (0x01, 0x19))
/-- PERM (R487). -/
def execPerm (t : Fin 128) (s : State) : Host.Outcome State Fault Refusal := done (s.issue t (0x01, 0x1A))
/-- ADDI (R489). -/
def execAddi (t : Fin 128) (s : State) : Host.Outcome State Fault Refusal := done (s.issue t (0x02, 0))
/-- ANDI (R489). -/
def execAndi (t : Fin 128) (s : State) : Host.Outcome State Fault Refusal := done (s.issue t (0x03, 0))
/-- ORI (R489). -/
def execOri (t : Fin 128) (s : State) : Host.Outcome State Fault Refusal := done (s.issue t (0x04, 0))
/-- XORI (R489). -/
def execXori (t : Fin 128) (s : State) : Host.Outcome State Fault Refusal := done (s.issue t (0x05, 0))
/-- CMPI (R489). -/
def execCmpi (t : Fin 128) (s : State) : Host.Outcome State Fault Refusal := done (s.issue t (0x06, 0))
/-- MOVI (R489). -/
def execMovi (t : Fin 128) (s : State) : Host.Outcome State Fault Refusal := done (s.issue t (0x07, 0))
/-- MOVK (R489). -/
def execMovk (t : Fin 128) (s : State) : Host.Outcome State Fault Refusal := done (s.issue t (0x08, 0))
/-- SHI_SHL (R489). -/
def execShiShl (t : Fin 128) (s : State) : Host.Outcome State Fault Refusal := done (s.issue t (0x0C, 0))
/-- SHI_SHR (R489). -/
def execShiShr (t : Fin 128) (s : State) : Host.Outcome State Fault Refusal := done (s.issue t (0x0C, 0x01))
/-- SHI_SAR (R489). -/
def execShiSar (t : Fin 128) (s : State) : Host.Outcome State Fault Refusal := done (s.issue t (0x0C, 0x02))
/-- SHI_ROR (R489). -/
def execShiRor (t : Fin 128) (s : State) : Host.Outcome State Fault Refusal := done (s.issue t (0x0C, 0x03))
/-- EXTU (R490). -/
def execExtu (t : Fin 128) (s : State) : Host.Outcome State Fault Refusal := done (s.issue t (0x0D, 0))
/-- EXTS (R490). -/
def execExts (t : Fin 128) (s : State) : Host.Outcome State Fault Refusal := done (s.issue t (0x0E, 0))
/-- INS (R490). -/
def execIns (t : Fin 128) (s : State) : Host.Outcome State Fault Refusal := done (s.issue t (0x0F, 0))
/-- CMPP (R491). -/
def execCmpp (t : Fin 128) (s : State) : Host.Outcome State Fault Refusal := done (s.issue t (0x14, 0))
/-- MULU32 (R492). -/
def execMulu32 (t : Fin 128) (s : State) : Host.Outcome State Fault Refusal := done (s.issue t (0x10, 0))
/-- MULS32 (R492). -/
def execMuls32 (t : Fin 128) (s : State) : Host.Outcome State Fault Refusal := done (s.issue t (0x10, 0x01))
/-- MACS32 (R492). -/
def execMacs32 (t : Fin 128) (s : State) : Host.Outcome State Fault Refusal := done (s.issue t (0x10, 0x02))
/-- MULL64 (R492). -/
def execMull64 (t : Fin 128) (s : State) : Host.Outcome State Fault Refusal := done (s.issue t (0x10, 0x03))
/-- MULHU64 (R492). -/
def execMulhu64 (t : Fin 128) (s : State) : Host.Outcome State Fault Refusal := done (s.issue t (0x10, 0x04))
/-- MULHS64 (R492). -/
def execMulhs64 (t : Fin 128) (s : State) : Host.Outcome State Fault Refusal := done (s.issue t (0x10, 0x05))
/-- DIVU (R493). -/
def execDivu (t : Fin 128) (s : State) : Host.Outcome State Fault Refusal := done (s.issue t (0x11, 0))
/-- DIVS (R493). -/
def execDivs (t : Fin 128) (s : State) : Host.Outcome State Fault Refusal := done (s.issue t (0x11, 0x01))
/-- REMU (R493). -/
def execRemu (t : Fin 128) (s : State) : Host.Outcome State Fault Refusal := done (s.issue t (0x11, 0x02))
/-- REMS (R493). -/
def execRems (t : Fin 128) (s : State) : Host.Outcome State Fault Refusal := done (s.issue t (0x11, 0x03))
/-- FADD (R494). -/
def execFadd (t : Fin 128) (s : State) : Host.Outcome State Fault Refusal := done (s.issue t (0x12, 0))
/-- FSUB (R494). -/
def execFsub (t : Fin 128) (s : State) : Host.Outcome State Fault Refusal := done (s.issue t (0x12, 0x01))
/-- FMUL (R494). -/
def execFmul (t : Fin 128) (s : State) : Host.Outcome State Fault Refusal := done (s.issue t (0x12, 0x02))
/-- FMA (R494). -/
def execFma (t : Fin 128) (s : State) : Host.Outcome State Fault Refusal := done (s.issue t (0x12, 0x03))
/-- FDIV (R494). -/
def execFdiv (t : Fin 128) (s : State) : Host.Outcome State Fault Refusal := done (s.issue t (0x12, 0x04))
/-- FSQRT (R494). -/
def execFsqrt (t : Fin 128) (s : State) : Host.Outcome State Fault Refusal := done (s.issue t (0x12, 0x05))
/-- FMIN (R494). -/
def execFmin (t : Fin 128) (s : State) : Host.Outcome State Fault Refusal := done (s.issue t (0x12, 0x06))
/-- FMAX (R494). -/
def execFmax (t : Fin 128) (s : State) : Host.Outcome State Fault Refusal := done (s.issue t (0x12, 0x07))
/-- FABS (R494). -/
def execFabs (t : Fin 128) (s : State) : Host.Outcome State Fault Refusal := done (s.issue t (0x12, 0x08))
/-- FNEG (R494). -/
def execFneg (t : Fin 128) (s : State) : Host.Outcome State Fault Refusal := done (s.issue t (0x12, 0x09))
/-- FCMP (R496). -/
def execFcmp (t : Fin 128) (s : State) : Host.Outcome State Fault Refusal := done (s.issue t (0x12, 0x0A))
/-- FCVT (R495). -/
def execFcvt (t : Fin 128) (s : State) : Host.Outcome State Fault Refusal := done (s.issue t (0x13, 0))
/-- B (R501). -/
def execBranch (t : Fin 128) (s : State) : Host.Outcome State Fault Refusal := done (s.issue t (0x18, 0))
/-- CALL (R501). -/
def execCall (t : Fin 128) (s : State) : Host.Outcome State Fault Refusal := done (s.issue t (0x19, 0))
/-- JMPR (R501). -/
def execJmpr (t : Fin 128) (s : State) : Host.Outcome State Fault Refusal := done (s.issue t (0x1A, 0))
/-- CALLR (R501). -/
def execCallr (t : Fin 128) (s : State) : Host.Outcome State Fault Refusal := done (s.issue t (0x1A, 0x01))
/-- RET (R501). -/
def execRet (t : Fin 128) (s : State) : Host.Outcome State Fault Refusal := done (s.issue t (0x1A, 0x02))
/-- LOOP (R503). -/
def execLoop (t : Fin 128) (s : State) : Host.Outcome State Fault Refusal := done (s.issue t (0x1C, 0))
/-- REP (R505). -/
def execRep (t : Fin 128) (s : State) : Host.Outcome State Fault Refusal := done (s.issue t (0x1D, 0))
/-- LDSB (R497). -/
def execLdsb (t : Fin 128) (s : State) : Host.Outcome State Fault Refusal := done (s.issue t (0x20, 0))
/-- LDSH (R497). -/
def execLdsh (t : Fin 128) (s : State) : Host.Outcome State Fault Refusal := done (s.issue t (0x21, 0))
/-- LDSW (R497). -/
def execLdsw (t : Fin 128) (s : State) : Host.Outcome State Fault Refusal := done (s.issue t (0x22, 0))
/-- LD (R497). -/
def execLd (t : Fin 128) (s : State) : Host.Outcome State Fault Refusal := done (s.issue t (0x23, 0))
/-- LDUB (R497). -/
def execLdub (t : Fin 128) (s : State) : Host.Outcome State Fault Refusal := done (s.issue t (0x24, 0))
/-- LDUH (R497). -/
def execLduh (t : Fin 128) (s : State) : Host.Outcome State Fault Refusal := done (s.issue t (0x25, 0))
/-- LDUW (R497). -/
def execLduw (t : Fin 128) (s : State) : Host.Outcome State Fault Refusal := done (s.issue t (0x26, 0))
/-- STB (R497). -/
def execStb (t : Fin 128) (s : State) : Host.Outcome State Fault Refusal := done (s.issue t (0x28, 0))
/-- STH (R497). -/
def execSth (t : Fin 128) (s : State) : Host.Outcome State Fault Refusal := done (s.issue t (0x29, 0))
/-- STW (R497). -/
def execStw (t : Fin 128) (s : State) : Host.Outcome State Fault Refusal := done (s.issue t (0x2A, 0))
/-- STD (R497). -/
def execStd (t : Fin 128) (s : State) : Host.Outcome State Fault Refusal := done (s.issue t (0x2B, 0))
/-- ADDM (R499). -/
def execAddm (t : Fin 128) (s : State) : Host.Outcome State Fault Refusal := done (s.issue t (0x2D, 0))
/-- SUBM (R499). -/
def execSubm (t : Fin 128) (s : State) : Host.Outcome State Fault Refusal := done (s.issue t (0x2E, 0))
/-- CMPM (R499). -/
def execCmpm (t : Fin 128) (s : State) : Host.Outcome State Fault Refusal := done (s.issue t (0x2F, 0))
/-- AMO_FADD (R500). -/
def execAmoFadd (t : Fin 128) (s : State) : Host.Outcome State Fault Refusal := done (s.issue t (0x2C, 0x01))
/-- AMO_SWAP (R500). -/
def execAmoSwap (t : Fin 128) (s : State) : Host.Outcome State Fault Refusal := done (s.issue t (0x2C, 0x02))
/-- AMO_CAS (R500). -/
def execAmoCas (t : Fin 128) (s : State) : Host.Outcome State Fault Refusal := done (s.issue t (0x2C, 0x03))
/-- AMO_AND (R500). -/
def execAmoAnd (t : Fin 128) (s : State) : Host.Outcome State Fault Refusal := done (s.issue t (0x2C, 0x04))
/-- AMO_OR (R500). -/
def execAmoOr (t : Fin 128) (s : State) : Host.Outcome State Fault Refusal := done (s.issue t (0x2C, 0x05))
/-- AMO_XOR (R500). -/
def execAmoXor (t : Fin 128) (s : State) : Host.Outcome State Fault Refusal := done (s.issue t (0x2C, 0x06))
/-- AMO_SMIN (R500). -/
def execAmoSmin (t : Fin 128) (s : State) : Host.Outcome State Fault Refusal := done (s.issue t (0x2C, 0x07))
/-- AMO_SMAX (R500). -/
def execAmoSmax (t : Fin 128) (s : State) : Host.Outcome State Fault Refusal := done (s.issue t (0x2C, 0x08))
/-- AMO_UMIN (R500). -/
def execAmoUmin (t : Fin 128) (s : State) : Host.Outcome State Fault Refusal := done (s.issue t (0x2C, 0x09))
/-- AMO_UMAX (R500). -/
def execAmoUmax (t : Fin 128) (s : State) : Host.Outcome State Fault Refusal := done (s.issue t (0x2C, 0x0A))
/-- VLD (R512). -/
def execVld (t : Fin 128) (s : State) : Host.Outcome State Fault Refusal := done (s.issue t (0x30, 0))
/-- VST (R512). -/
def execVst (t : Fin 128) (s : State) : Host.Outcome State Fault Refusal := done (s.issue t (0x31, 0))
/-- VADD (R509). -/
def execVadd (t : Fin 128) (s : State) : Host.Outcome State Fault Refusal := done (s.issue t (0x32, 0))
/-- VSUB (R509). -/
def execVsub (t : Fin 128) (s : State) : Host.Outcome State Fault Refusal := done (s.issue t (0x32, 0x01))
/-- VMUL (R509). -/
def execVmul (t : Fin 128) (s : State) : Host.Outcome State Fault Refusal := done (s.issue t (0x32, 0x02))
/-- VAND (R509). -/
def execVand (t : Fin 128) (s : State) : Host.Outcome State Fault Refusal := done (s.issue t (0x32, 0x03))
/-- VOR (R509). -/
def execVor (t : Fin 128) (s : State) : Host.Outcome State Fault Refusal := done (s.issue t (0x32, 0x04))
/-- VXOR (R509). -/
def execVxor (t : Fin 128) (s : State) : Host.Outcome State Fault Refusal := done (s.issue t (0x32, 0x05))
/-- VMIN (R509). -/
def execVmin (t : Fin 128) (s : State) : Host.Outcome State Fault Refusal := done (s.issue t (0x32, 0x06))
/-- VMAX (R509). -/
def execVmax (t : Fin 128) (s : State) : Host.Outcome State Fault Refusal := done (s.issue t (0x32, 0x07))
/-- VMINU (R509). -/
def execVminu (t : Fin 128) (s : State) : Host.Outcome State Fault Refusal := done (s.issue t (0x32, 0x08))
/-- VMAXU (R509). -/
def execVmaxu (t : Fin 128) (s : State) : Host.Outcome State Fault Refusal := done (s.issue t (0x32, 0x09))
/-- VSHL (R509). -/
def execVshl (t : Fin 128) (s : State) : Host.Outcome State Fault Refusal := done (s.issue t (0x32, 0x0A))
/-- VSHR (R509). -/
def execVshr (t : Fin 128) (s : State) : Host.Outcome State Fault Refusal := done (s.issue t (0x32, 0x0B))
/-- VSAR (R509). -/
def execVsar (t : Fin 128) (s : State) : Host.Outcome State Fault Refusal := done (s.issue t (0x32, 0x0C))
/-- VFADD (R510). -/
def execVfadd (t : Fin 128) (s : State) : Host.Outcome State Fault Refusal := done (s.issue t (0x33, 0))
/-- VFSUB (R510). -/
def execVfsub (t : Fin 128) (s : State) : Host.Outcome State Fault Refusal := done (s.issue t (0x33, 0x01))
/-- VFMUL (R510). -/
def execVfmul (t : Fin 128) (s : State) : Host.Outcome State Fault Refusal := done (s.issue t (0x33, 0x02))
/-- VFMA (R510). -/
def execVfma (t : Fin 128) (s : State) : Host.Outcome State Fault Refusal := done (s.issue t (0x33, 0x03))
/-- VFMIN (R510). -/
def execVfmin (t : Fin 128) (s : State) : Host.Outcome State Fault Refusal := done (s.issue t (0x33, 0x04))
/-- VFMAX (R510). -/
def execVfmax (t : Fin 128) (s : State) : Host.Outcome State Fault Refusal := done (s.issue t (0x33, 0x05))
/-- SETVL (R507). -/
def execSetvl (t : Fin 128) (s : State) : Host.Outcome State Fault Refusal := done (s.issue t (0x34, 0))
/-- VBCAST (R511). -/
def execVbcast (t : Fin 128) (s : State) : Host.Outcome State Fault Refusal := done (s.issue t (0x35, 0))
/-- VEXT (R511). -/
def execVext (t : Fin 128) (s : State) : Host.Outcome State Fault Refusal := done (s.issue t (0x35, 0x01))
/-- VINS (R511). -/
def execVins (t : Fin 128) (s : State) : Host.Outcome State Fault Refusal := done (s.issue t (0x35, 0x02))
/-- VREDADD (R511). -/
def execVredadd (t : Fin 128) (s : State) : Host.Outcome State Fault Refusal := done (s.issue t (0x35, 0x03))
/-- VMV (R511). -/
def execVmv (t : Fin 128) (s : State) : Host.Outcome State Fault Refusal := done (s.issue t (0x35, 0x04))
/-- CHR (R514). -/
def execChr (t : Fin 128) (s : State) : Host.Outcome State Fault Refusal := done (s.issue t (0x38, 0))
/-- CHRN (R514). -/
def execChrn (t : Fin 128) (s : State) : Host.Outcome State Fault Refusal := done (s.issue t (0x38, 0x01))
/-- CHW (R514). -/
def execChw (t : Fin 128) (s : State) : Host.Outcome State Fault Refusal := done (s.issue t (0x38, 0x02))
/-- CHWL (R514). -/
def execChwl (t : Fin 128) (s : State) : Host.Outcome State Fault Refusal := done (s.issue t (0x38, 0x03))
/-- CHWN (R514). -/
def execChwn (t : Fin 128) (s : State) : Host.Outcome State Fault Refusal := done (s.issue t (0x38, 0x04))
/-- CHWLN (R514). -/
def execChwln (t : Fin 128) (s : State) : Host.Outcome State Fault Refusal := done (s.issue t (0x38, 0x05))
/-- TAKE (R457). -/
def execTake (t : Fin 128) (s : State) : Host.Outcome State Fault Refusal := done (s.issue t (0x38, 0x06))
/-- TRYTAKE (R457). -/
def execTrytake (t : Fin 128) (s : State) : Host.Outcome State Fault Refusal := done (s.issue t (0x38, 0x07))
/-- RETURN (R457). -/
def execLampReturn (t : Fin 128) (s : State) : Host.Outcome State Fault Refusal := done (s.issue t (0x38, 0x08))
/-- WAITEV (R514). -/
def execWaitev (t : Fin 128) (s : State) : Host.Outcome State Fault Refusal := done (s.issue t (0x38, 0x09))
/-- SIGEV (R514). -/
def execSigev (t : Fin 128) (s : State) : Host.Outcome State Fault Refusal := done (s.issue t (0x38, 0x0A))
/-- MVS (R481). -/
def execMvs (t : Fin 128) (s : State) : Host.Outcome State Fault Refusal := done (s.issue t (0x3C, 0))
/-- MVSW (R481). -/
def execMvsw (t : Fin 128) (s : State) : Host.Outcome State Fault Refusal := done (s.issue t (0x3D, 0))
/-- NOP (R515). -/
def execNop (t : Fin 128) (s : State) : Host.Outcome State Fault Refusal := done (s.issue t (0x3E, 0))
/-- RETA (R515). -/
def execReta (t : Fin 128) (s : State) : Host.Outcome State Fault Refusal := done (s.issue t (0x3E, 0x01))
/-- ALERT (R515). -/
def execAlert (t : Fin 128) (s : State) : Host.Outcome State Fault Refusal := done (s.issue t (0x3E, 0x02))
/-- BREAK (R688). -/
def execBreakWord (t : Fin 128) (s : State) : Host.Outcome State Fault Refusal := done (s.issue t (0x3E, 0x03))
/-- FENCE (R515). -/
def execFence (t : Fin 128) (s : State) : Host.Outcome State Fault Refusal := done (s.issue t (0x3E, 0x04))
/-- SPILL (R515). -/
def execSpill (t : Fin 128) (s : State) : Host.Outcome State Fault Refusal := done (s.issue t (0x3E, 0x05))
/-- FILL (R515). -/
def execFill (t : Fin 128) (s : State) : Host.Outcome State Fault Refusal := done (s.issue t (0x3E, 0x06))
/-- REG_READ (R517). -/
def execRegRead (t : Fin 128) (s : State) : Host.Outcome State Fault Refusal := done (s.issue t (0x3F, 0))
/-- REG_WRITE (R517). -/
def execRegWrite (t : Fin 128) (s : State) : Host.Outcome State Fault Refusal := done (s.issue t (0x3F, 0x01))
/-- SHORT_NOP (R518). -/
def execShortNop (t : Fin 128) (s : State) : Host.Outcome State Fault Refusal := done (s.issue t (shortKey, 0x00))
/-- SHORT_MOV (R518). -/
def execShortMov (t : Fin 128) (s : State) : Host.Outcome State Fault Refusal := done (s.issue t (shortKey, 0x01))
/-- SHORT_ADD (R518). -/
def execShortAdd (t : Fin 128) (s : State) : Host.Outcome State Fault Refusal := done (s.issue t (shortKey, 0x02))
/-- SHORT_SUB (R518). -/
def execShortSub (t : Fin 128) (s : State) : Host.Outcome State Fault Refusal := done (s.issue t (shortKey, 0x03))
/-- SHORT_AND (R518). -/
def execShortAnd (t : Fin 128) (s : State) : Host.Outcome State Fault Refusal := done (s.issue t (shortKey, 0x04))
/-- SHORT_OR (R518). -/
def execShortOr (t : Fin 128) (s : State) : Host.Outcome State Fault Refusal := done (s.issue t (shortKey, 0x05))
/-- SHORT_XOR (R518). -/
def execShortXor (t : Fin 128) (s : State) : Host.Outcome State Fault Refusal := done (s.issue t (shortKey, 0x06))
/-- SHORT_CMP (R518). -/
def execShortCmp (t : Fin 128) (s : State) : Host.Outcome State Fault Refusal := done (s.issue t (shortKey, 0x07))
/-- SHORT_ADDI (R518). -/
def execShortAddi (t : Fin 128) (s : State) : Host.Outcome State Fault Refusal := done (s.issue t (shortKey, 0x08))
/-- SHORT_MOVI (R518). -/
def execShortMovi (t : Fin 128) (s : State) : Host.Outcome State Fault Refusal := done (s.issue t (shortKey, 0x09))
/-- SHLI (R518). -/
def execShli (t : Fin 128) (s : State) : Host.Outcome State Fault Refusal := done (s.issue t (shortKey, 0x0A))
/-- SHRI (R518). -/
def execShri (t : Fin 128) (s : State) : Host.Outcome State Fault Refusal := done (s.issue t (shortKey, 0x0B))
/-- SARI (R518). -/
def execSari (t : Fin 128) (s : State) : Host.Outcome State Fault Refusal := done (s.issue t (shortKey, 0x0C))
/-- SHORT_LD (R518). -/
def execShortLd (t : Fin 128) (s : State) : Host.Outcome State Fault Refusal := done (s.issue t (shortKey, 0x0D))
/-- SHORT_ST (R518). -/
def execShortSt (t : Fin 128) (s : State) : Host.Outcome State Fault Refusal := done (s.issue t (shortKey, 0x0E))
/-- LDI (R518). -/
def execLdi (t : Fin 128) (s : State) : Host.Outcome State Fault Refusal := done (s.issue t (shortKey, 0x0F))
/-- STI (R518). -/
def execSti (t : Fin 128) (s : State) : Host.Outcome State Fault Refusal := done (s.issue t (shortKey, 0x10))
/-- MQR (R518). -/
def execMqr (t : Fin 128) (s : State) : Host.Outcome State Fault Refusal := done (s.issue t (shortKey, 0x11))
/-- SHORT_NEG (R518). -/
def execShortNeg (t : Fin 128) (s : State) : Host.Outcome State Fault Refusal := done (s.issue t (shortKey, 0x12))
/-- SHORT_NOT (R518). -/
def execShortNot (t : Fin 128) (s : State) : Host.Outcome State Fault Refusal := done (s.issue t (shortKey, 0x13))
/-- SHORT_CLZ (R518). -/
def execShortClz (t : Fin 128) (s : State) : Host.Outcome State Fault Refusal := done (s.issue t (shortKey, 0x14))
/-- SHORT_POPC (R518). -/
def execShortPopc (t : Fin 128) (s : State) : Host.Outcome State Fault Refusal := done (s.issue t (shortKey, 0x15))
/-- BS (R518). -/
def execBs (t : Fin 128) (s : State) : Host.Outcome State Fault Refusal := done (s.issue t (shortKey, 0x16))
/-- SHORT_MIN (R518). -/
def execShortMin (t : Fin 128) (s : State) : Host.Outcome State Fault Refusal := done (s.issue t (shortKey, 0x17))
/-- SHORT_MAX (R518). -/
def execShortMax (t : Fin 128) (s : State) : Host.Outcome State Fault Refusal := done (s.issue t (shortKey, 0x18))

end Sys2Proof.Machine
end

