-- ==== Sys2Proof/Machine/Dispatch.lean ====
section
/-! DEFINITION. The meaning of each command, one arm each. -/

namespace Sys2Proof.Machine

def exec (i : Instr) (s : State) : Host.Outcome State Fault Refusal :=
  match i with
  | .registerWrite src off size data => Sys2Proof.Machine.execRegisterWrite src off size data s
  | .rcFieldRead src off size => Sys2Proof.Machine.execRcFieldRead src off size s
  | .stagingWindowAccess src acc => Sys2Proof.Machine.execStagingWindowAccess src acc s
  | .tmemWindowAccess src acc => Sys2Proof.Machine.execTmemWindowAccess src acc s
  | .markEpochStart => Sys2Proof.Machine.execMarkEpochStart s
  | .timeMarkReceive g mark arr => Sys2Proof.Machine.execTimeMarkReceive g mark arr s
  | .markMissing g => Sys2Proof.Machine.execMarkMissing g s
  | .holdoverExpiry => Sys2Proof.Machine.execHoldoverExpiry s
  | .acquireTimeout => Sys2Proof.Machine.execAcquireTimeout s
  | .winderTakeover => Sys2Proof.Machine.execWinderTakeover s
  | .relock src data => Sys2Proof.Machine.execRelock src data s
  | .swapDecisionPoint => Sys2Proof.Machine.execSwapDecisionPoint s
  | .swapCancel => Sys2Proof.Machine.execSwapCancel s
  | .shiftBoundary => Sys2Proof.Machine.execShiftBoundary s
  | .reportPublish => Sys2Proof.Machine.execReportPublish s
  | .loadStart src data => Sys2Proof.Machine.execLoadStart src data s
  | .cfgWord w => Sys2Proof.Machine.execCfgWord w s
  | .cfgTimeout => Sys2Proof.Machine.execCfgTimeout s
  | .crossPhaseDone ecc => Sys2Proof.Machine.execCrossPhaseDone ecc s
  | .signaturePhaseDone => Sys2Proof.Machine.execSignaturePhaseDone s
  | .loadAbort src data => Sys2Proof.Machine.execLoadAbort src data s
  | .disarm src data => Sys2Proof.Machine.execDisarm src data s
  | .arm src data => Sys2Proof.Machine.execArm src data s
  | .activate src data => Sys2Proof.Machine.execActivate src data s
  | .expertUnlock src data => Sys2Proof.Machine.execExpertUnlock src data s
  | .expertLock src data => Sys2Proof.Machine.execExpertLock src data s
  | .laneRxValidChange lane v => Sys2Proof.Machine.execLaneRxValidChange lane v s
  | .linkGroupEnable src g data => Sys2Proof.Machine.execLinkGroupEnable src g data s
  | .codewordReceive g set cw skew => Sys2Proof.Machine.execCodewordReceive g set cw skew s
  | .trainTimeout g => Sys2Proof.Machine.execTrainTimeout g s
  | .param g f => Sys2Proof.Machine.execParam g f s
  | .paramAck g f => Sys2Proof.Machine.execParamAck g f s
  | .delayReq g f arr => Sys2Proof.Machine.execDelayReq g f arr s
  | .delayRsp g f arr => Sys2Proof.Machine.execDelayRsp g f arr s
  | .retrain src g data => Sys2Proof.Machine.execRetrain src g data s
  | .flitReceive g f => Sys2Proof.Machine.execFlitReceive g f s
  | .egressSlot g => Sys2Proof.Machine.execEgressSlot g s
  | .creditReturnTimer g => Sys2Proof.Machine.execCreditReturnTimer g s
  | .ackTimer g => Sys2Proof.Machine.execAckTimer g s
  | .replayTimeout g => Sys2Proof.Machine.execReplayTimeout g s
  | .ctrlRepeat g txn => Sys2Proof.Machine.execCtrlRepeat g txn s
  | .remapReq g f => Sys2Proof.Machine.execRemapReq g f s
  | .remapGo g f => Sys2Proof.Machine.execRemapGo g f s
  | .remapDone g f => Sys2Proof.Machine.execRemapDone g f s
  | .widthReq g f => Sys2Proof.Machine.execWidthReq g f s
  | .widthAck g f => Sys2Proof.Machine.execWidthAck g f s
  | .restoreReq g f => Sys2Proof.Machine.execRestoreReq g f s
  | .restoreAck g f => Sys2Proof.Machine.execRestoreAck g f s
  | .refuse g f => Sys2Proof.Machine.execRefuse g f s
  | .keyLoad src g data => Sys2Proof.Machine.execKeyLoad src g data s
  | .keyErase src g data => Sys2Proof.Machine.execKeyErase src g data s
  | .gcmArm src g data => Sys2Proof.Machine.execGcmArm src g data s
  | .linkReset src data => Sys2Proof.Machine.execLinkReset src data s
  | .doorbellSq src q data => Sys2Proof.Machine.execDoorbellSq src q data s
  | .doorbellRq src q data => Sys2Proof.Machine.execDoorbellRq src q data s
  | .doorbellCq src q data => Sys2Proof.Machine.execDoorbellCq src q data s
  | .queueContextRead src data => Sys2Proof.Machine.execQueueContextRead src data s
  | .queueContextWrite src data => Sys2Proof.Machine.execQueueContextWrite src data s
  | .queueFlush src data => Sys2Proof.Machine.execQueueFlush src data s
  | .messageStart q => Sys2Proof.Machine.execMessageStart q s
  | .bFlitLanding g => Sys2Proof.Machine.execBFlitLanding g s
  | .send => Sys2Proof.Machine.execSend s
  | .write => Sys2Proof.Machine.execWrite s
  | .read => Sys2Proof.Machine.execRead s
  | .atomic => Sys2Proof.Machine.execAtomic s
  | .reduce => Sys2Proof.Machine.execReduce s
  | .barrier => Sys2Proof.Machine.execBarrier s
  | .ackonly => Sys2Proof.Machine.execAckonly s
  | .laterSegmentReceive => Sys2Proof.Machine.execLaterSegmentReceive s
  | .responseSegmentReceive => Sys2Proof.Machine.execResponseSegmentReceive s
  | .retxTimeout dst reqId => Sys2Proof.Machine.execRetxTimeout dst reqId s
  | .reassemblyTimeout peer reqId => Sys2Proof.Machine.execReassemblyTimeout peer reqId s
  | .ackonlySend slot => Sys2Proof.Machine.execAckonlySend slot s
  | .barrierTimeout bar => Sys2Proof.Machine.execBarrierTimeout bar s
  | .barrierRelease src data => Sys2Proof.Machine.execBarrierRelease src data s
  | .barrierReset src data => Sys2Proof.Machine.execBarrierReset src data s
  | .peerRead src data => Sys2Proof.Machine.execPeerRead src data s
  | .peerAdd src data => Sys2Proof.Machine.execPeerAdd src data s
  | .peerRemove src data => Sys2Proof.Machine.execPeerRemove src data s
  | .streamCommandCommit d => Sys2Proof.Machine.execStreamCommandCommit d s
  | .streamCommandGo src data => Sys2Proof.Machine.execStreamCommandGo src data s
  | .streamCopy d io => Sys2Proof.Machine.execStreamCopy d io s
  | .streamAdd d io => Sys2Proof.Machine.execStreamAdd d io s
  | .streamSub d io => Sys2Proof.Machine.execStreamSub d io s
  | .streamMul d io => Sys2Proof.Machine.execStreamMul d io s
  | .streamFma d io => Sys2Proof.Machine.execStreamFma d io s
  | .streamAxpy d io => Sys2Proof.Machine.execStreamAxpy d io s
  | .streamScale d io => Sys2Proof.Machine.execStreamScale d io s
  | .streamMin d io => Sys2Proof.Machine.execStreamMin d io s
  | .streamMax d io => Sys2Proof.Machine.execStreamMax d io s
  | .streamAbs d io => Sys2Proof.Machine.execStreamAbs d io s
  | .streamNeg d io => Sys2Proof.Machine.execStreamNeg d io s
  | .streamAnd d io => Sys2Proof.Machine.execStreamAnd d io s
  | .streamOr d io => Sys2Proof.Machine.execStreamOr d io s
  | .streamXor d io => Sys2Proof.Machine.execStreamXor d io s
  | .streamCommandEnd d => Sys2Proof.Machine.execStreamCommandEnd d s
  | .chainTimeout d => Sys2Proof.Machine.execChainTimeout d s
  | .driftAbort src d data => Sys2Proof.Machine.execDriftAbort src d data s
  | .driftFlush src d data => Sys2Proof.Machine.execDriftFlush src d data s
  | .classSLanding g => Sys2Proof.Machine.execClassSLanding g s
  | .stagingScrub => Sys2Proof.Machine.execStagingScrub s
  | .reduceEntryReset src data => Sys2Proof.Machine.execReduceEntryReset src data s
  | .tandemEnable src data => Sys2Proof.Machine.execTandemEnable src data s
  | .tandemTrainWord w => Sys2Proof.Machine.execTandemTrainWord w s
  | .tandemControlReceive w => Sys2Proof.Machine.execTandemControlReceive w s
  | .tandemMarkReceive w arr => Sys2Proof.Machine.execTandemMarkReceive w arr s
  | .tandemSegmentReceive w => Sys2Proof.Machine.execTandemSegmentReceive w s
  | .tandemBadWord w => Sys2Proof.Machine.execTandemBadWord w s
  | .tandemLost => Sys2Proof.Machine.execTandemLost s
  | .tandemReadyFlag => Sys2Proof.Machine.execTandemReadyFlag s
  | .tandemLivenessChange v => Sys2Proof.Machine.execTandemLivenessChange v s
  | .takeDelayExpiry => Sys2Proof.Machine.execTakeDelayExpiry s
  | .takeover src data => Sys2Proof.Machine.execTakeover src data s
  | .poolSlotGrant pipe => Sys2Proof.Machine.execPoolSlotGrant pipe s
  | .eventAlertEntry t => Sys2Proof.Machine.execEventAlertEntry t s
  | .channelWaitResume who => Sys2Proof.Machine.execChannelWaitResume who s
  | .eventWaitResume t => Sys2Proof.Machine.execEventWaitResume t s
  | .storeDrain t => Sys2Proof.Machine.execStoreDrain t s
  | .mqLanding t => Sys2Proof.Machine.execMqLanding t s
  | .threadStop src data => Sys2Proof.Machine.execThreadStop src data s
  | .threadStart src data => Sys2Proof.Machine.execThreadStart src data s
  | .threadResume src data => Sys2Proof.Machine.execThreadResume src data s
  | .resumeAlert src data => Sys2Proof.Machine.execResumeAlert src data s
  | .threadReset src data => Sys2Proof.Machine.execThreadReset src data s
  | .threadHalt src data => Sys2Proof.Machine.execThreadHalt src data s
  | .threadRun src data => Sys2Proof.Machine.execThreadRun src data s
  | .faultLogPop src data => Sys2Proof.Machine.execFaultLogPop src data s
  | .forceReturn src data => Sys2Proof.Machine.execForceReturn src data s
  | .lampScan src data => Sys2Proof.Machine.execLampScan src data s
  | .allblockDetect => Sys2Proof.Machine.execAllblockDetect s
  | .aluAdd t => Sys2Proof.Machine.execAluAdd t s
  | .aluSub t => Sys2Proof.Machine.execAluSub t s
  | .adc t => Sys2Proof.Machine.execAdc t s
  | .sbc t => Sys2Proof.Machine.execSbc t s
  | .aluAnd t => Sys2Proof.Machine.execAluAnd t s
  | .aluOr t => Sys2Proof.Machine.execAluOr t s
  | .aluXor t => Sys2Proof.Machine.execAluXor t s
  | .andn t => Sys2Proof.Machine.execAndn t s
  | .aluShl t => Sys2Proof.Machine.execAluShl t s
  | .aluShr t => Sys2Proof.Machine.execAluShr t s
  | .aluSar t => Sys2Proof.Machine.execAluSar t s
  | .aluRor t => Sys2Proof.Machine.execAluRor t s
  | .aluCmp t => Sys2Proof.Machine.execAluCmp t s
  | .tst t => Sys2Proof.Machine.execTst t s
  | .aluMov t => Sys2Proof.Machine.execAluMov t s
  | .aluNot t => Sys2Proof.Machine.execAluNot t s
  | .aluNeg t => Sys2Proof.Machine.execAluNeg t s
  | .aluMin t => Sys2Proof.Machine.execAluMin t s
  | .aluMax t => Sys2Proof.Machine.execAluMax t s
  | .minu t => Sys2Proof.Machine.execMinu t s
  | .maxu t => Sys2Proof.Machine.execMaxu t s
  | .aluClz t => Sys2Proof.Machine.execAluClz t s
  | .ctz t => Sys2Proof.Machine.execCtz t s
  | .aluPopc t => Sys2Proof.Machine.execAluPopc t s
  | .brev t => Sys2Proof.Machine.execBrev t s
  | .bswap t => Sys2Proof.Machine.execBswap t s
  | .perm t => Sys2Proof.Machine.execPerm t s
  | .addi t => Sys2Proof.Machine.execAddi t s
  | .andi t => Sys2Proof.Machine.execAndi t s
  | .ori t => Sys2Proof.Machine.execOri t s
  | .xori t => Sys2Proof.Machine.execXori t s
  | .cmpi t => Sys2Proof.Machine.execCmpi t s
  | .movi t => Sys2Proof.Machine.execMovi t s
  | .movk t => Sys2Proof.Machine.execMovk t s
  | .shiShl t => Sys2Proof.Machine.execShiShl t s
  | .shiShr t => Sys2Proof.Machine.execShiShr t s
  | .shiSar t => Sys2Proof.Machine.execShiSar t s
  | .shiRor t => Sys2Proof.Machine.execShiRor t s
  | .extu t => Sys2Proof.Machine.execExtu t s
  | .exts t => Sys2Proof.Machine.execExts t s
  | .ins t => Sys2Proof.Machine.execIns t s
  | .cmpp t => Sys2Proof.Machine.execCmpp t s
  | .mulu32 t => Sys2Proof.Machine.execMulu32 t s
  | .muls32 t => Sys2Proof.Machine.execMuls32 t s
  | .macs32 t => Sys2Proof.Machine.execMacs32 t s
  | .mull64 t => Sys2Proof.Machine.execMull64 t s
  | .mulhu64 t => Sys2Proof.Machine.execMulhu64 t s
  | .mulhs64 t => Sys2Proof.Machine.execMulhs64 t s
  | .divu t => Sys2Proof.Machine.execDivu t s
  | .divs t => Sys2Proof.Machine.execDivs t s
  | .remu t => Sys2Proof.Machine.execRemu t s
  | .rems t => Sys2Proof.Machine.execRems t s
  | .fadd t => Sys2Proof.Machine.execFadd t s
  | .fsub t => Sys2Proof.Machine.execFsub t s
  | .fmul t => Sys2Proof.Machine.execFmul t s
  | .fma t => Sys2Proof.Machine.execFma t s
  | .fdiv t => Sys2Proof.Machine.execFdiv t s
  | .fsqrt t => Sys2Proof.Machine.execFsqrt t s
  | .fmin t => Sys2Proof.Machine.execFmin t s
  | .fmax t => Sys2Proof.Machine.execFmax t s
  | .fabs t => Sys2Proof.Machine.execFabs t s
  | .fneg t => Sys2Proof.Machine.execFneg t s
  | .fcmp t => Sys2Proof.Machine.execFcmp t s
  | .fcvt t => Sys2Proof.Machine.execFcvt t s
  | .branch t => Sys2Proof.Machine.execBranch t s
  | .call t => Sys2Proof.Machine.execCall t s
  | .jmpr t => Sys2Proof.Machine.execJmpr t s
  | .callr t => Sys2Proof.Machine.execCallr t s
  | .ret t => Sys2Proof.Machine.execRet t s
  | .loop t => Sys2Proof.Machine.execLoop t s
  | .rep t => Sys2Proof.Machine.execRep t s
  | .ldsb t => Sys2Proof.Machine.execLdsb t s
  | .ldsh t => Sys2Proof.Machine.execLdsh t s
  | .ldsw t => Sys2Proof.Machine.execLdsw t s
  | .ld t => Sys2Proof.Machine.execLd t s
  | .ldub t => Sys2Proof.Machine.execLdub t s
  | .lduh t => Sys2Proof.Machine.execLduh t s
  | .lduw t => Sys2Proof.Machine.execLduw t s
  | .stb t => Sys2Proof.Machine.execStb t s
  | .sth t => Sys2Proof.Machine.execSth t s
  | .stw t => Sys2Proof.Machine.execStw t s
  | .std t => Sys2Proof.Machine.execStd t s
  | .addm t => Sys2Proof.Machine.execAddm t s
  | .subm t => Sys2Proof.Machine.execSubm t s
  | .cmpm t => Sys2Proof.Machine.execCmpm t s
  | .amoFadd t => Sys2Proof.Machine.execAmoFadd t s
  | .amoSwap t => Sys2Proof.Machine.execAmoSwap t s
  | .amoCas t => Sys2Proof.Machine.execAmoCas t s
  | .amoAnd t => Sys2Proof.Machine.execAmoAnd t s
  | .amoOr t => Sys2Proof.Machine.execAmoOr t s
  | .amoXor t => Sys2Proof.Machine.execAmoXor t s
  | .amoSmin t => Sys2Proof.Machine.execAmoSmin t s
  | .amoSmax t => Sys2Proof.Machine.execAmoSmax t s
  | .amoUmin t => Sys2Proof.Machine.execAmoUmin t s
  | .amoUmax t => Sys2Proof.Machine.execAmoUmax t s
  | .vld t => Sys2Proof.Machine.execVld t s
  | .vst t => Sys2Proof.Machine.execVst t s
  | .vadd t => Sys2Proof.Machine.execVadd t s
  | .vsub t => Sys2Proof.Machine.execVsub t s
  | .vmul t => Sys2Proof.Machine.execVmul t s
  | .vand t => Sys2Proof.Machine.execVand t s
  | .vor t => Sys2Proof.Machine.execVor t s
  | .vxor t => Sys2Proof.Machine.execVxor t s
  | .vmin t => Sys2Proof.Machine.execVmin t s
  | .vmax t => Sys2Proof.Machine.execVmax t s
  | .vminu t => Sys2Proof.Machine.execVminu t s
  | .vmaxu t => Sys2Proof.Machine.execVmaxu t s
  | .vshl t => Sys2Proof.Machine.execVshl t s
  | .vshr t => Sys2Proof.Machine.execVshr t s
  | .vsar t => Sys2Proof.Machine.execVsar t s
  | .vfadd t => Sys2Proof.Machine.execVfadd t s
  | .vfsub t => Sys2Proof.Machine.execVfsub t s
  | .vfmul t => Sys2Proof.Machine.execVfmul t s
  | .vfma t => Sys2Proof.Machine.execVfma t s
  | .vfmin t => Sys2Proof.Machine.execVfmin t s
  | .vfmax t => Sys2Proof.Machine.execVfmax t s
  | .setvl t => Sys2Proof.Machine.execSetvl t s
  | .vbcast t => Sys2Proof.Machine.execVbcast t s
  | .vext t => Sys2Proof.Machine.execVext t s
  | .vins t => Sys2Proof.Machine.execVins t s
  | .vredadd t => Sys2Proof.Machine.execVredadd t s
  | .vmv t => Sys2Proof.Machine.execVmv t s
  | .chr t => Sys2Proof.Machine.execChr t s
  | .chrn t => Sys2Proof.Machine.execChrn t s
  | .chw t => Sys2Proof.Machine.execChw t s
  | .chwl t => Sys2Proof.Machine.execChwl t s
  | .chwn t => Sys2Proof.Machine.execChwn t s
  | .chwln t => Sys2Proof.Machine.execChwln t s
  | .take t => Sys2Proof.Machine.execTake t s
  | .trytake t => Sys2Proof.Machine.execTrytake t s
  | .lampReturn t => Sys2Proof.Machine.execLampReturn t s
  | .waitev t => Sys2Proof.Machine.execWaitev t s
  | .sigev t => Sys2Proof.Machine.execSigev t s
  | .mvs t => Sys2Proof.Machine.execMvs t s
  | .mvsw t => Sys2Proof.Machine.execMvsw t s
  | .nop t => Sys2Proof.Machine.execNop t s
  | .reta t => Sys2Proof.Machine.execReta t s
  | .alert t => Sys2Proof.Machine.execAlert t s
  | .breakWord t => Sys2Proof.Machine.execBreakWord t s
  | .fence t => Sys2Proof.Machine.execFence t s
  | .spill t => Sys2Proof.Machine.execSpill t s
  | .fill t => Sys2Proof.Machine.execFill t s
  | .regRead t => Sys2Proof.Machine.execRegRead t s
  | .regWrite t => Sys2Proof.Machine.execRegWrite t s
  | .shortNop t => Sys2Proof.Machine.execShortNop t s
  | .shortMov t => Sys2Proof.Machine.execShortMov t s
  | .shortAdd t => Sys2Proof.Machine.execShortAdd t s
  | .shortSub t => Sys2Proof.Machine.execShortSub t s
  | .shortAnd t => Sys2Proof.Machine.execShortAnd t s
  | .shortOr t => Sys2Proof.Machine.execShortOr t s
  | .shortXor t => Sys2Proof.Machine.execShortXor t s
  | .shortCmp t => Sys2Proof.Machine.execShortCmp t s
  | .shortAddi t => Sys2Proof.Machine.execShortAddi t s
  | .shortMovi t => Sys2Proof.Machine.execShortMovi t s
  | .shli t => Sys2Proof.Machine.execShli t s
  | .shri t => Sys2Proof.Machine.execShri t s
  | .sari t => Sys2Proof.Machine.execSari t s
  | .shortLd t => Sys2Proof.Machine.execShortLd t s
  | .shortSt t => Sys2Proof.Machine.execShortSt t s
  | .ldi t => Sys2Proof.Machine.execLdi t s
  | .sti t => Sys2Proof.Machine.execSti t s
  | .mqr t => Sys2Proof.Machine.execMqr t s
  | .shortNeg t => Sys2Proof.Machine.execShortNeg t s
  | .shortNot t => Sys2Proof.Machine.execShortNot t s
  | .shortClz t => Sys2Proof.Machine.execShortClz t s
  | .shortPopc t => Sys2Proof.Machine.execShortPopc t s
  | .bs t => Sys2Proof.Machine.execBs t s
  | .shortMin t => Sys2Proof.Machine.execShortMin t s
  | .shortMax t => Sys2Proof.Machine.execShortMax t s
  | .tmemScrub => Sys2Proof.Machine.execTmemScrub s
  | .tamperAssert => Sys2Proof.Machine.execTamperAssert s
  | .tamperRelease => Sys2Proof.Machine.execTamperRelease s
  | .lifecycleTransition st => Sys2Proof.Machine.execLifecycleTransition st s
  | .secureWipeEnd => Sys2Proof.Machine.execSecureWipeEnd s
  | .memoryWake => Sys2Proof.Machine.execMemoryWake s
  | .vwkPing f => Sys2Proof.Machine.execVwkPing f s
  | .vwkIdentReq f => Sys2Proof.Machine.execVwkIdentReq f s
  | .vwkIdent f => Sys2Proof.Machine.execVwkIdent f s
  | .vwkClaim f => Sys2Proof.Machine.execVwkClaim f s
  | .vwkRelease f => Sys2Proof.Machine.execVwkRelease f s
  | .vwkChain f => Sys2Proof.Machine.execVwkChain f s
  | .vwkUser f => Sys2Proof.Machine.execVwkUser f s
  | .vwkBadFrame f => Sys2Proof.Machine.execVwkBadFrame f s
  | .vwkSend src data => Sys2Proof.Machine.execVwkSend src data s
  | .vwkFrameSent r => Sys2Proof.Machine.execVwkFrameSent r s
  | .vwkTxTimeout => Sys2Proof.Machine.execVwkTxTimeout s
  | .vwkClaimStart by_ => Sys2Proof.Machine.execVwkClaimStart by_ s
  | .vwkClaimResult r => Sys2Proof.Machine.execVwkClaimResult r s
  | .vwkDetach src data => Sys2Proof.Machine.execVwkDetach src data s
  | .vwkAttn src data => Sys2Proof.Machine.execVwkAttn src data s
  | .vwaLowEnd bits => Sys2Proof.Machine.execVwaLowEnd bits s
  | .vwkAttention => Sys2Proof.Machine.execVwkAttention s
  | .vwkStuck => Sys2Proof.Machine.execVwkStuck s
  | .vwkRxPop src data => Sys2Proof.Machine.execVwkRxPop src data s
  | .peEntry n => Sys2Proof.Machine.execPeEntry n s
  | .peEnable src n data => Sys2Proof.Machine.execPeEnable src n data s
  | .peDisable src n data => Sys2Proof.Machine.execPeDisable src n data s
  | .peFlush src n data => Sys2Proof.Machine.execPeFlush src n data s
  | .peDiscard src n data => Sys2Proof.Machine.execPeDiscard src n data s
  | .peFeedWrite src n data => Sys2Proof.Machine.execPeFeedWrite src n data s
  | .peCatchRead src n => Sys2Proof.Machine.execPeCatchRead src n s
  | .peProgWrite src n word data => Sys2Proof.Machine.execPeProgWrite src n word data s
  | .peBaseWrite src n data => Sys2Proof.Machine.execPeBaseWrite src n data s
  | .pePinmapWrite src n hi data => Sys2Proof.Machine.execPePinmapWrite src n hi data s
  | .peDepthWrite src n data => Sys2Proof.Machine.execPeDepthWrite src n data s
  | .sbOwnerChange src sel data => Sys2Proof.Machine.execSbOwnerChange src sel data s
  | .timerStep m => Sys2Proof.Machine.execTimerStep m s
  | .timerLapEnd m => Sys2Proof.Machine.execTimerLapEnd m s
  | .timerExpiry m => Sys2Proof.Machine.execTimerExpiry m s
  | .timerEnable src m data => Sys2Proof.Machine.execTimerEnable src m data s
  | .timerDisable src m data => Sys2Proof.Machine.execTimerDisable src m data s
  | .reloadNow src m data => Sys2Proof.Machine.execReloadNow src m data s
  | .timerCapture m level => Sys2Proof.Machine.execTimerCapture m level s
  | .timerCapRead src m => Sys2Proof.Machine.execTimerCapRead src m s
  | .hmpRequestTransfer p => Sys2Proof.Machine.execHmpRequestTransfer p s
  | .hmpReadData p tid beat => Sys2Proof.Machine.execHmpReadData p tid beat s
  | .hmpWriteResponse p tid status data => Sys2Proof.Machine.execHmpWriteResponse p tid status data s
  | .hmpTimeout p wr tid => Sys2Proof.Machine.execHmpTimeout p wr tid s
  | .lcBusWord w => Sys2Proof.Machine.execLcBusWord w s
  | .lcBusTimeout => Sys2Proof.Machine.execLcBusTimeout s
  | .scanModeRise => Sys2Proof.Machine.execScanModeRise s
  | .mbistEnd fail => Sys2Proof.Machine.execMbistEnd fail s
  | .pllLockFall => Sys2Proof.Machine.execPllLockFall s
  | .powerAckChange rail level => Sys2Proof.Machine.execPowerAckChange rail level s
  | .por cause => Sys2Proof.Machine.execPor cause s
  | .porMemoryClearDone => Sys2Proof.Machine.execPorMemoryClearDone s
  | .mainResetRelease => Sys2Proof.Machine.execMainResetRelease s
  | .imageReapplyDone => Sys2Proof.Machine.execImageReapplyDone s
  | .hardReset src data => Sys2Proof.Machine.execHardReset src data s
  | .softReset src data => Sys2Proof.Machine.execSoftReset src data s
  | .modeReqStandby src data => Sys2Proof.Machine.execModeReqStandby src data s
  | .modeReqTrain src data => Sys2Proof.Machine.execModeReqTrain src data s
  | .modeReqLock src data => Sys2Proof.Machine.execModeReqLock src data s
  | .modeReqRun src data => Sys2Proof.Machine.execModeReqRun src data s
  | .modeReqDrain src data => Sys2Proof.Machine.execModeReqDrain src data s
  | .modeReqRetain src data => Sys2Proof.Machine.execModeReqRetain src data s
  | .modeReqSafe src data => Sys2Proof.Machine.execModeReqSafe src data s
  | .drainComplete => Sys2Proof.Machine.execDrainComplete s
  | .drainTimeout => Sys2Proof.Machine.execDrainTimeout s
  | .wakeRequest by_ => Sys2Proof.Machine.execWakeRequest by_ s
  | .droopWarnCross => Sys2Proof.Machine.execDroopWarnCross s
  | .droopHoldEnd => Sys2Proof.Machine.execDroopHoldEnd s
  | .droopAllowanceOverrun => Sys2Proof.Machine.execDroopAllowanceOverrun s
  | .bor => Sys2Proof.Machine.execBor s
  | .tempUpdate t => Sys2Proof.Machine.execTempUpdate t s
  | .headPowerLoss => Sys2Proof.Machine.execHeadPowerLoss s
  | .evtRaise src data => Sys2Proof.Machine.execEvtRaise src data s
  | .eventPendingClear src k data => Sys2Proof.Machine.execEventPendingClear src k data s
  | .dbgacc dr => Sys2Proof.Machine.execDbgacc dr s
  | .debugHalt src data => Sys2Proof.Machine.execDebugHalt src data s
  | .debugResume src data => Sys2Proof.Machine.execDebugResume src data s
  | .debugReset src data => Sys2Proof.Machine.execDebugReset src data s
  | .pllLockRise => Sys2Proof.Machine.execPllLockRise s
  | .porNHigh => Sys2Proof.Machine.execPorNHigh s
  | .memoryTestStart => Sys2Proof.Machine.execMemoryTestStart s

end Sys2Proof.Machine
end

