-- ==== Sys2Proof/Machine/Tick.lean ====
section
/-! DEFINITION. What passes when no command waits. -/

namespace Sys2Proof.Machine

/-- One CK_CORE cycle passes: the time base advances, and fabric time with it while MAIN is up (R37). Drifts that execute commands go
on. -/
def tick (s : State) : State := if s.str.runs.isEmpty then s.wait 1 else (s.pass 1).settle

end Sys2Proof.Machine
end

