-- ==== Sys2Proof/Safety.lean ====
section
/-! DEFINITION. The terms in which claims about the machine are stated: when a thread issues a word, the slot and the state in which
its effect takes place, what a completed word leaves alone, accesses that reach their register, and the conditions that hold after
every command. -/

namespace Sys2Proof.Machine

/-! ## Registers -/

/-- Registers that neither an event, nor a void cause, nor the end of a command writes: all but CRP_MODE, the servo's status, the
void causes and peers, the IRQ levels and the pending bits. -/
def calmReg (off : Nat) : Bool :=
  off != 0x10000 && !(decide (0x40030 ≤ off) && decide (off < 0x40180)) && !(decide (0x3E0018 ≤ off) && decide (off < 0x3E0020)) &&
    !(decide (0x3E0100 ≤ off) && decide (off < 0x3E0300))

/-- Registers that the drifts write while they execute commands: STR_STAT, STR_ECC_ADDR and STR_Dd_DONE (R341, R346). -/
def driftReg (off : Nat) : Bool :=
  off == R.STR_STAT || off == R.STR_ECC_ADDR || (List.range 16).any fun d => off == R.STR_Dd_DONE d

/-! ## Words that issue -/

/-- The slot in which thread `t` issues the word at its PC, with what it reads usable: of a scheduled thread its next own slot (R420,
R430), of a pool thread the slot granted to it (R421). -/
def State.nextIssue (s : State) (t : Nat) : Option Issue :=
  let x := s.thread t
  let need := x.needs (s.tflag t TF.full) (s.wordAt t)
  if s.isSched t then
    ((s.modThread t fun x => { x with earliest := max x.earliest need }).nextOwn t).map fun p => s.slotOf t p.1 p.2
  else
    let c := kget 0 s.btp.nextCyc (pipeOf t) - 1
    if kget 0 s.btp.granted (pipeOf t) = t + 1 ∧ need ≤ c then some (s.slotOf t (x.base - 1) c) else none

/-- The state in which the effect of slot `k` takes place: the slot has come, a scheduled thread's slots before it were stalls, a
grant is used, and products that are due have landed (R485). -/
def State.atSlot (s : State) (k : Issue) : State :=
  let s1 := if s.isSched k.t then (s.passFt (2 * k.c)).count (Cnt.thread k.t 1) (k.i - (s.thread k.t).own)
    else s.modBtp fun b => { b with granted := kset 0 b.granted (pipeOf k.t) 0 }
  s1.modThread k.t fun x => x.landTo k.i

/-- Thread `t` issues the word of slot `k` next: it is ready and runs in the present mode (R437, R647), no alert is due (R441), and
neither an error nor a breakpoint stands before the word (R683, R431, R688). -/
structure Issues (s : State) (t : Nat) (k : Issue) : Prop where
  can : s.canIssue t = true
  slot : s.nextIssue t = some k
  sound : s.storeFaults = []
  noErr : (s.thread t).storeErr = none
  noBreak : s.breakHit t = none

/-- The word of slot `k` is legal for thread `t` and needs no privilege that the thread lacks (R476, R519). -/
structure Lawful (s : State) (t : Nat) (k : Issue) : Prop extends Issues s t k where
  legal : legalWord (s.wordCtx t) k.w = true
  priv : privWord k.w = true → (s.thread t).srb SR.priv = true

/-- The word has its effect: it is lawful, its condition holds (R474, R476), and the thread waits for nothing. -/
structure Runs (s : State) (t : Nat) (k : Issue) : Prop extends Lawful s t k where
  cond : (s.thread t).executes k.w = true
  idle : (s.thread t).wait = .none

/-- The own slots that the word of slot `k` costs (R483). -/
def Issue.cost (k : Issue) (x : Thread) : Nat := wordCost k.full x k.w

/-- The thread with the own slots of a word that issued in slot `k` used up, and the gap after it (R420, R484). -/
def Issue.charge (k : Issue) (cost : Nat) (x : Thread) : Thread :=
  { x with own := k.i + cost, used := x.used + 1, earliest := if gapWord k.w then k.c + 3 else x.earliest }

/-- Thread `y`, whose registers hold the results of the word of slot `k`, as it goes on at `next` or at a loop start (R504), with
the status modes of R436 one instruction nearer. -/
def Issue.goOn (k : Issue) (cost : Nat) (y : Thread) (next : Nat) : Thread := (k.charge cost y).ageSr.finish k.full next

/-- Thread `y` at its next word: PC + 1 or a loop start. -/
def Issue.retire (k : Issue) (cost : Nat) (y : Thread) : Thread := k.goOn cost y (y.pc.toNat + 1)

/-- Thread `y` after a taken branch to `tgt` (R504). -/
def Issue.branchTo (k : Issue) (cost : Nat) (y : Thread) (tgt : Nat) : Thread := (k.charge cost y).jumpTo tgt

/-- What a word of thread `t` that names registers alone leaves as it was: other threads, channels, lamps, the fault log, every
memory but for trace records in staging memory, the image, every other unit, and the registers of the aperture but for those that
follow the block's state and the trace's. Drifts that execute commands go on meanwhile: what they write is left as it was where none
does. -/
structure OnlyThread (s s' : State) (t : Nat) : Prop where
  idle : s.str.runs = [] → s'.str.runs = []
  others : ∀ u, u ≠ t → s'.thread u = s.thread u
  chans : s'.btp.chans = s.btp.chans
  lamps : s'.btp.lamps = s.btp.lamps
  flog : s'.btp.flog = s.btp.flog
  mem : s'.mem = s.mem
  cfg : s'.cfg = s.cfg
  lnk : s.str.runs = [] → s'.lnk = s.lnk
  vwk : s'.vwk = s.vwk
  sbd : s'.sbd = s.sbd
  crp : s'.crp = s.crp
  dbg : s.flag F.DBG_TR_CFG_EN = false → s'.dbg = s.dbg
  que : s'.que = { s.que with clock := s'.que.clock, msgClock := s'.que.msgClock }
  staging : s.flag F.DBG_TR_CFG_EN = false → s.str.runs = [] → s'.str = s.str
  regs : s.flag F.DBG_TR_CFG_EN = false → ∀ off, calmReg off = true → (driftReg off = true → s.str.runs = []) → s'.reg off = s.reg off

/-- The row's word completes: thread `t`, with the registers of `y` as the word leaves them, goes on at its next word, and everything
else is as in `s1`. -/
def Completes (o : Host.Outcome State Fault Refusal) (s s1 : State) (t : Nat) (k : Issue) (y : Thread) : Prop :=
  ∃ s', o = .next s' ∧ s'.thread t = k.retire (k.cost (s.thread t)) y ∧ OnlyThread s1 s' t

/-- The row's word is a taken branch to `tgt`. -/
def Branches (o : Host.Outcome State Fault Refusal) (s s1 : State) (t : Nat) (k : Issue) (y : Thread) (tgt : Nat) : Prop :=
  ∃ s', o = .next s' ∧ s'.thread t = k.branchTo (k.cost (s.thread t)) y tgt ∧ OnlyThread s1 s' t

/-- The row's word goes on at `next`. -/
def GoesOn (o : Host.Outcome State Fault Refusal) (s s1 : State) (t : Nat) (k : Issue) (y : Thread) (next : Nat) : Prop :=
  ∃ s', o = .next s' ∧ s'.thread t = k.goOn (k.cost (s.thread t)) y next ∧ OnlyThread s1 s' t

/-- What entry to an alert or fault leaves as it was: all that `OnlyThread` names but memory. -/
structure OnlyEntry (s s' : State) (t : Nat) : Prop where
  others : ∀ u, u ≠ t → s'.thread u = s.thread u
  chans : s'.btp.chans = s.btp.chans
  lamps : s'.btp.lamps = s.btp.lamps
  cfg : s'.cfg = s.cfg
  crp : s'.crp = s.crp
  staging : s.flag F.DBG_TR_CFG_EN = false → s.str.runs = [] → s'.str = s.str

/-- The registers of a thread that entry changes (R445): sp, AL and AE, the cause, and what is no longer on its way. -/
def Thread.stacked (x : Thread) (cause : Nat) : Thread :=
  ({ x with sp := x.sp - 64, cause := BitVec.ofNat 8 cause, ans := [], srNew := [], skipMatch := false, wait := .none }.setSrb SR.al
    true).setSrb SR.ae false

/-- A thread that handles its alerts, in no alert, with a valid stack and no store on its way (R446, R448). -/
structure HandlerReady (s : State) (t : Nat) (x : Thread) : Prop where
  handler : s.tflag t TF.handler = true
  noAlert : x.srb SR.al = false
  stack : s.badStack t = false
  drained : x.stores = []

/-- Thread `t`, with registers `x`, takes an alert of cause `cause`: its handler goes on at VEC + 8 × cause on a frame at sp − 64
(R445). -/
def Alerts (o : Host.Outcome State Fault Refusal) (s : State) (t : Nat) (k : Issue) (x : Thread) (cause flags : Nat) : Prop :=
  ∃ s' own used early, o = .next s' ∧
    s'.thread t = { x.stacked cause with
      pc := BitVec.ofNat 17 (s.vecBase t + 8 * cause), st := TST.ready, own := own, used := used, earliest := early } ∧
    s'.mem.mem = (s.tmemPut (x.sp.toNat - 64) (frameBytes x (cause + 2 ^ 9 * flags) 0 0 k.w)).mem.mem ∧
    s'.btp.flog = s.btp.flog ∧ OnlyEntry s s' t

/-- A thread that faults to T0: not T0, without FAULT_SELF, in no alert, with a valid stack, no store on its way, and room in the
fault log (R447, R448). -/
structure FaultStops (s : State) (t : Nat) (x : Thread) : Prop where
  notT0 : t ≠ 0
  noSelf : s.tflag t TF.faultSelf = false
  noAlert : x.srb SR.al = false
  stack : s.badStack t = false
  drained : x.stores = []
  room : s.btp.flog.length < 32

/-- Thread `t`, with registers `x`, faults with cause `cause` and data address `addr`: it is FAULTED at its word on a frame at
sp − 64, and the fault log gains its entry (R447). -/
def Stops (o : Host.Outcome State Fault Refusal) (s : State) (t : Nat) (k : Issue) (x : Thread) (cause addr : Nat) : Prop :=
  ∃ s' own used early, o = .next s' ∧
    s'.thread t = { x.stacked cause with st := TST.faulted, own := own, used := used, earliest := early, waitSince := s'.now } ∧
    s'.mem.mem = (s.tmemPut (x.sp.toNat - 64) (frameBytes x (cause + 2 ^ 8) 0 addr k.w)).mem.mem ∧
    s'.btp.flog = s.btp.flog ++ [
      { thread := t, df := false, cause := BitVec.ofNat 8 cause, lamps := min 4095 (s.lampsOf t).length, pc := x.pc,
        addr := BitVec.ofNat 64 addr }] ∧
    OnlyEntry s s' t

/-- A data access of a thread leaves alone what `OnlyThread` names, but for memory and for counts. -/
structure OnlyAccess (s s' : State) (t : Nat) : Prop where
  others : ∀ u, u ≠ t → s'.thread u = s.thread u
  chans : s'.btp.chans = s.btp.chans
  lamps : s'.btp.lamps = s.btp.lamps
  flog : s'.btp.flog = s.btp.flog
  cfg : s'.cfg = s.cfg
  lnk : s.str.runs = [] → s'.lnk = s.lnk
  vwk : s'.vwk = s.vwk
  sbd : s'.sbd = s.sbd
  crp : s'.crp = s.crp

/-- The row leaves thread `t` at `z`; no byte of thread memory changes, and none of staging memory but for the trace, where no drift
executes a command. -/
def ReadsTo (o : Host.Outcome State Fault Refusal) (s : State) (t : Nat) (z : Thread) : Prop :=
  ∃ s', o = .next s' ∧ s'.thread t = z ∧ s'.mem.mem = s.mem.mem ∧
    (s.flag F.DBG_TR_CFG_EN = false → s.str.runs = [] → s'.str.mem = s.str.mem) ∧ OnlyAccess s s' t

/-- The row's word completes with thread `t` at `y`, and memory is as before. -/
def Reads (o : Host.Outcome State Fault Refusal) (s : State) (t : Nat) (k : Issue) (y : Thread) : Prop :=
  ReadsTo o s t (k.retire (k.cost (s.thread t)) y)

/-- The row's word completes with thread `t` at `y`, and of all memory exactly the bytes `bs` at address `a` of thread memory or the
secure partition, or at 2³² + offset of staging memory, change. -/
def Writes (o : Host.Outcome State Fault Refusal) (s : State) (t : Nat) (k : Issue) (y : Thread) (a : Nat) (bs : List Byte) : Prop :=
  ∃ s', o = .next s' ∧ s'.thread t = k.retire (k.cost (s.thread t)) y ∧
    (∀ b, Memory.get s'.mem.mem b =
      if a < 2 ^ 32 ∧ a ≤ b ∧ b < a + bs.length then bs.getD (b - a) 0 else Memory.get s.mem.mem b) ∧
    (s.flag F.DBG_TR_CFG_EN = false → s.str.runs = [] → ∀ b, Memory.get s'.str.mem b =
      if a ≤ b + 2 ^ 32 ∧ b + 2 ^ 32 < a + bs.length then bs.getD (b + 2 ^ 32 - a) 0 else Memory.get s.str.mem b) ∧
    OnlyAccess s s' t

/-- Byte `a` of a thread's data addresses on the block: thread memory and the secure partition, then staging memory at 2³² (R428). -/
def State.dataByte (s : State) (a : Nat) : Byte := if a < 2 ^ 32 then Memory.get s.mem.mem a else Memory.get s.str.mem (a - 2 ^ 32)

/-- The number in the `n` bytes at address `a`, the first the lowest (R13). -/
def State.dataNat (s : State) (a n : Nat) : Nat := leNat ((List.range n).map fun i => s.dataByte (a + i))

/-- An access of slot `k` to `n` bytes at `a` on the block is allowed (R428, R429), meets no watchpoint (R689), no buffered store
(R430), no wipe (R532), no error and poison mark (R288, R526), no access of the other pipe in its cycle (R525), no peer table (R260),
and no drift that executes a command. -/
structure Clear (s : State) (t : Nat) (k : Issue) (a n : Nat) : Prop where
  read : s.permits (k.acc s) false a n = true
  noWatch : s.watched t false a n = none
  noOverlap : (s.thread t).overlaps a n = false
  onBlock : a < 2 ^ 63
  noWipe : s.secHeld = false
  noErrors : s.mem.ecc = [] ∧ s.str.ecc = [] ∧ s.mem.poison = [] ∧ s.str.poison = []
  alone : ∀ e ∈ kget [] s.mem.lastAcc (1 - pipeOf t), e.cyc ≠ k.c
  noTable : s.f F.QUE_PEER_CFG_MAX = 0
  noDrift : s.str.runs = []

/-- The access may write as well. -/
structure ClearWrite (s : State) (t : Nat) (k : Issue) (a n : Nat) : Prop extends Clear s t k a n where
  write : s.permits (k.acc s) true a n = true
  noWatchWr : s.watched t true a n = none

/-- The registers of thread `t` as slot `k` finds them, products that are due landed. -/
def State.regsAt (s : State) (k : Issue) : Thread := (s.thread k.t).landTo k.i

/-! ## Commands that act on a part of the block -/

/-- The parts of the block (R2, R15). -/
inductive Part where
  | image
  | links
  | queues
  | streams
  | tandem
  | threads
  | memory
  | vowick
  | pins
  | ports
  | reset
  | debug
  deriving DecidableEq, Repr

/-- The part holds what it held, but for clocks, the expert lock, and the end of a debug access. -/
def Part.same (s s' : State) : Part → Prop
  | .image => s'.cfg = { s.cfg with expert := s'.cfg.expert, wrAt := s'.cfg.wrAt }
  | .links => s'.lnk = s.lnk
  | .queues => s'.que = { s.que with clock := s'.que.clock, msgClock := s'.que.msgClock }
  | .streams => s'.str = s.str
  | .tandem => s'.tnd = { s.tnd with live := s'.tnd.live }
  | .threads => s'.btp.threads = s.btp.threads ∧ s'.btp.chans = s.btp.chans ∧ s'.btp.lamps = s.btp.lamps ∧ s'.btp.flog = s.btp.flog
  | .memory => s'.mem = s.mem
  | .vowick => s'.vwk = s.vwk
  | .pins => s'.sbd = s.sbd
  | .ports => s'.hmp = s.hmp
  | .reset => s'.crp = s.crp
  | .debug => s'.dbg = { s.dbg with rdata := s'.dbg.rdata, accErr := s'.dbg.accErr }

/-- What drifts that execute commands write as time passes: their own part and the groups' egress buffers (R319). -/
def Part.drifts (p : Part) : Bool := p == .streams || p == .links

/-- All is as it was but the parts `but`, the registers `regs`, those that follow the block's state, the ports, on which events
are posted, time and the counts of the shift report. Drifts that execute commands go on meanwhile: what they write is as it was where
none does. -/
structure Untouched (s s' : State) (but : List Part) (regs : Nat → Bool) : Prop where
  queue : s'.pending = s.pending
  parts : ∀ p, p ∉ but → p ≠ .ports → (p.drifts = true → s.str.runs = []) → p.same s s'
  regs : ∀ off, calmReg off = true → regs off = false → (driftReg off = true → s.str.runs = []) → s'.reg off = s.reg off

/-- The command answers a next state in which `P` holds, and all but `but` and `regs` is as it was. -/
def Acts (o : Host.Outcome State Fault Refusal) (s : State) (but : List Part) (regs : Nat → Bool) (P : State → Prop) : Prop :=
  ∃ s', o = .next s' ∧ P s' ∧ Untouched s s' but regs

/-- The command answers a next state in which `P` holds. -/
def Answers (o : Host.Outcome State Fault Refusal) (P : State → Prop) : Prop := ∃ s', o = .next s' ∧ P s'

/-- `o` leaves the block between `s` and `s'`. -/
def Emits (s s' : State) (o : Out) : Prop := ∃ l, s'.out = s.out ++ l ∧ o ∈ l

/-- An access of `src` at `off` is served (R646, R686), by itself: the command in front is none that goes first in its CK_CTL cycle,
and no access waits for it (R604). -/
structure Served (s : State) (src : RegSrc) (off : Nat) : Prop where
  head : s.crp.headOn = true
  main : s.crp.mainUp = true ∨ headServed off = true
  notBarred : s.dbgBarred src = false
  first : s.yields src off = false
  alone : s.cfg.late = []

/-- A write of `src` at `off` reaches its register: the debug module alone writes the DBG region (R685). -/
structure Reaches (s : State) (src : RegSrc) (off : Nat) : Prop extends Served s src off where
  own : dbgRegion off = true → src = .debug

/-- Registers whose write has an effect of its own beside its access codes (R14). -/
def actionReg (off : Nat) : Bool :=
  let lnk := R.LNK_LGn_CFG 0
  let r := (off - lnk) % 256
  [R.GLB_CTRL, R.GLB_TND_CTRL, R.CRP_MODE_CTRL, R.CRP_RST_CTRL, R.CRP_LINK_RST, R.CFG_CTRL, R.CFG_ARM_LO, R.CFG_ARM_HI,
    R.SCH_RPT_CTRL, R.QUE_BAR_CMD, R.QUE_CTX_CMD, R.QUE_PEER_CMD, R.STR_CMD_GO, R.STR_RED_CMD, R.VWK_CTRL, R.VWK_RX_POP,
    R.SBD_GPIO_OUT, R.SBD_GPIO_OE, R.BTP_TH_CMD, R.BTP_FLOG_POP, R.BTP_LAMP_CMD, R.EVT_RAISE, R.DBG_CTRL, R.DBG_TR_CFG,
    R.DBG_TR_RING].contains off ||
  (decide (lnk ≤ off) && decide (off < 0x100000) && (r == 0x04 || r == 0x44 || r == 0x4C || (decide (0x50 ≤ r) && decide (r ≤ 0x70)))) ||
  (famOf (R.STR_Dd_CTRL 0) 64 16 off).isSome || (famOf (R.PEn_CTRL 0) 64 8 off).isSome || (famOf (R.PEn_FEED 0) 64 8 off).isSome ||
  (famOf (R.TMm_CTRL 0) 32 16 off).isSome

/-- Expert access is unlocked, by a sequence that ended before this CK_CTL cycle (R138). -/
def State.unlocked (s : State) : Prop := ∃ c, s.cfg.expert = .unlocked c ∧ c ≠ s.ctlCyc

/-- The register and those after it up to `n` bytes, and CONTRACT_STAT, which a guarded register's write may set (R141). -/
def span (base n off : Nat) : Bool := (decide (base ≤ off) && decide (off < base + n)) || off == R.CONTRACT_STAT

/-- The pins show what their owners drive (R541, R542). -/
def State.pinsFollow (s : State) : Prop :=
  ∀ i < 32, s.sbd.outEn.getLsbD i = (s.pinDrive i).2 ∧ s.sbd.outLvl.getLsbD i = ((s.pinDrive i).1 && (s.pinDrive i).2)

/-! ## What holds after every command -/

/-- What the rules say holds at all times, between commands. -/
structure State.Inv (s : State) : Prop where
  /-- SCH_CLS_CAUSE holds every cause that applies now (R99). -/
  sticky : ∀ i < 16, (s.reg R.SCH_CLS_STAT).getLsbD i = true → (s.reg R.SCH_CLS_CAUSE).getLsbD i = true
  /-- The contract's void is the CONTRACT cause (R83). -/
  contract : s.flag F.SCH_CLS_STAT_CONTRACT = s.flag F.CONTRACT_STAT_VOID
  /-- The TANDEM cause applies while a partner cause stands (R83, R409). -/
  partner : s.f F.GLB_TND_STAT_PCAUSE ≠ 0 → s.flag F.SCH_CLS_STAT_TANDEM = true
  /-- LG_VOID and a group's VOIDED are its own causes and its peer's status (R83). -/
  groups : ∀ g < 8, s.flag (F.SCH_LGn_PEER_VOIDED g) = s.groupVoid g ∧ (s.reg R.SCH_CLS_STAT).getLsbD (8 + g) = s.groupVoid g
  /-- Each line is high exactly while it is enabled and a source routed to it is pending (R679). -/
  lines : s.reg64 R.EVT_IRQ_LVL_LO R.EVT_IRQ_LVL_HI = s.irqLevels
  /-- The liveness output is high exactly while MAIN is up with an active image and the mode is neither HALT nor SAFE (R399). -/
  live : s.tnd.live = (s.crp.mainUp && s.cfg.imageActive && s.mode != Mode.halt && s.mode != Mode.safe)
  /-- A winder that has no partner to follow is in WINDER (R51, R53). -/
  winds : s.f F.SCH_TL_CFG_ROLE = Role.winder → s.upstream ≠ 8 → s.servo = TL.winder
  /-- A follower, and a secondary that follows its partner, is not in WINDER (R51, R53). -/
  follows : s.servo = TL.winder → s.f F.SCH_TL_CFG_ROLE ≠ Role.follower ∧ s.upstream ≠ 8
  /-- The servo acquires in TRAIN and LOCK only (R53). -/
  acquires : s.servo = TL.acquire → s.mode = Mode.train ∨ s.mode = Mode.lock
  /-- TRAIN lasts only while some enabled group is not UP, or the pair has yet to form (R403, R648). -/
  trains : s.mode = Mode.train → (s.allGroupsUp && s.tandemTrains) = false
  /-- RUN means that nothing is degraded, DEGRADED that something is (R650). -/
  runs : s.mode = Mode.run → s.degradedCond = false
  degraded : s.mode = Mode.degraded → s.degradedCond = true
  /-- Every requester of staging memory has its place in each bank's round-robin order (R291). -/
  turns : ∀ b < 512, ∀ i < 18, i ∈ s.str.order b

end Sys2Proof.Machine
end

