-- ==== Sys2Proof/Certificates/Slice0/Obligations.lean ====
section
/-! DEFINITION. The statements about the model, from the rules of the spec. A statement about a thread's row is about the word at the
thread's PC (log entry 30), and times are those of log entry 1. -/

open Sys2Proof Sys2Proof.Machine

/-! ## The machine as a whole -/

/-- A step takes the command at the front of the queue and runs it on the state with the rest; an empty queue lets one CK_CORE cycle
pass, in which drifts that execute commands go on, and where none does no register, no memory and no unit changes (log entries 1
and 110). -/
def Obligations.StepRunsTheFront : Prop :=
  (∀ (s : State) (c : Instr) (rest : List Instr), s.pending = c :: rest → step s = exec c { s with pending := rest }) ∧
  (∀ (s : State) (c : Instr), step { s with pending := c :: s.pending } = exec c s) ∧
  ∀ s : State, s.pending = [] → ∃ t, step s = .next t ∧ t.now = s.now + 1 ∧ t.pending = [] ∧ t.mem = s.mem ∧ t.cfg = s.cfg ∧
    t.crp = s.crp ∧ t.sbd = s.sbd ∧ t.vwk = s.vwk ∧ t.btp.threads = s.btp.threads ∧
    (s.str.runs = [] → t.regs = s.regs ∧ t.str = s.str ∧ t.btp = s.btp ∧ t.lnk = s.lnk ∧ t.out = s.out)

/-- The state after a power-on reset: mode RESET, the mode cause of Class S standing, expert access locked, no image, both memories
zero, every group OFF and the servo FREE, every register at the value of its table, with EVT_ALLBLOCK and EVT_BTP_FAULT routed
to T0 and EVT_BTP_T0_DF to a line (R681), nothing pending, and every condition that holds at all times holds. That what no rule
names is empty or zero is the model's choice (log entries 3 and 4). -/
def Obligations.ResetState : Prop :=
  State.reset.Inv ∧ State.reset.mode = 1 ∧ State.reset.f F.SCH_CLS_STAT_MODE = 1 ∧ State.reset.cfg.expert = .locked ∧
  State.reset.cfg.imageActive = false ∧ State.reset.crp.mainUp = false ∧ State.reset.servo = 0 ∧ State.reset.pending = [] ∧
  (∀ g < 8, State.reset.tstate g = 0) ∧ (∀ n < 4096, State.reset.evPending n = false) ∧
  (∀ off d, regAt off = some d → off ∉ [R.EVT_ROUTEn 16, R.EVT_ROUTEn 17, R.EVT_ROUTEn 18] →
    State.reset.reg off = BitVec.ofNat 32 d.reset) ∧
  State.reset.f (F.EVT_ROUTEn_DEST 16) = 1 ∧ State.reset.f (F.EVT_ROUTEn_DEST 17) = 1 ∧ State.reset.f (F.EVT_ROUTEn_DEST 18) = 2 ∧
  ∀ a, Memory.get State.reset.mem.mem a = 0 ∧ Memory.get State.reset.str.mem a = 0

/-- Every step answers a next state, whatever command is in front, and keeps what the rules say holds at all times: the sticky void
causes, the group causes and the contract's (R83, R99), the interrupt lines (R679), the liveness output (R399), the servo states
that the role and the mode fix (R51, R53), TRAIN's end (R403, R648) and RUN and DEGRADED (R650). Choices of the model in it: log
entries 31, 42. -/
def Obligations.InvariantKept : Prop := ∀ s : State, s.Inv → ∃ t, step s = .next t ∧ t.Inv

/-! ## Registers, pins and timers -/

/-- R14 to R17, R138 to R140, R569, R570, R580, R602, R604, R684: a write of a register without an action of its own follows its
access codes, RW bits taking the data and W1C bits written 1 clearing but for those set in the same CK_CTL cycle, and leaves
every other register; a read shows the register and clears its RC bits, what was counted in its cycle kept and not shown; a
write of an expert register while access is locked is refused; the two unlock words in turn unlock expert access and 0 locks it;
PEn_CATCH gives the oldest word, or zero with EMPTY_RD where the FIFO is empty or was until the engine's catch of the same CK_SB
cycle; TMm_CAP clears CAPV, or gives the older value where the capture is of the same CK_CTL cycle; DBGACC does the same as the
debug module. Choices of the model in it: log entries 32, 33, 34, 35. -/
def Obligations.RegisterAccesses : Prop :=
  ∀ (s : State) (src : RegSrc) (off : BitVec 24), Served s src off.toNat → off.toNat % 4 = 0 →
    let o := off.toNat
    let hits := s.hitsAt o
    let merged (d : RegDef) (data : Word) (s' : State) : Prop := ∀ i < 32, (s'.reg o).getLsbD i =
      if d.w1c.testBit i && data.getLsbD i then hits.1.getLsbD i
      else if d.rw.testBit i then data.getLsbD i else (s.reg o).getLsbD i || (d.w1c.testBit i && hits.1.getLsbD i)
    let cleared (d : RegDef) (s' : State) : Prop := ∀ i < 32, (s'.reg o).getLsbD i =
      if d.rc.testBit i then hits.1.getLsbD i else (s.reg o).getLsbD i
    let shown (d : RegDef) : Word := if hits.1 = 0 then s.regView d o
      else (s.regView d o &&& ~~~(BitVec.ofNat 32 d.rc)) ||| (hits.2 &&& BitVec.ofNat 32 d.rc)
    let toReg (x : Nat) : Bool := x == o
    (∀ d, regAt o = some d → ∀ data, d.expert = false → actionReg o = false → calmReg o = true → (dbgRegion o = true → src = .debug) →
      Acts (exec (.registerWrite src off 2 data) s) s [] toReg fun s' => merged d data s' ∧ (src = .csp → Emits s s' (.cspAck 0 false))) ∧
    (∀ d, regAt o = some d → ∀ data, d.expert = true → s.cfg.expert = .locked →
      Acts (exec (.registerWrite src off 2 data) s) s [] (fun x => x == R.CONTRACT_STAT || x == R.GLB_PORT_STAT || x == R.DBG_STAT) fun s' =>
        s'.flag F.CONTRACT_STAT_LOCKED_WR = true ∧ (src = .csp → Emits s s' (.cspAck 0 true))) ∧
    (∀ d, regAt o = some d → famOf (R.PEn_CATCH 0) 64 8 o = none → famOf (R.TMm_CAP 0) 32 16 o = none → calmReg o = true →
      Acts (exec (.rcFieldRead src off 2) s) s [] toReg fun s' => cleared d s' ∧
        (src = .csp → Emits s s' (.cspAck (shown d) false))) ∧
    (∀ data, regAt o = none → o < 0x400000 →
      Acts (exec (.registerWrite src off 2 data) s) s [] (fun x => x == R.GLB_PORT_STAT || x == R.DBG_STAT) fun s' =>
        src = .csp → Emits s s' (.cspAck 0 true) ∧ (s.crp.mainUp = true → s'.flag F.GLB_PORT_STAT_CSP_ERR = true)) ∧
    (src = .debug → s.crp.mainUp = true → ∀ d, regAt o = some d → calmReg o = true → ∀ data : Word,
      let dr (wr : Bool) : BitVec 58 := BitVec.ofNat 58 (data.toNat + 2 ^ 32 * o + 2 ^ 56 * b2n wr + 2 ^ 57)
      (d.expert = false → actionReg o = false →
        Acts (exec (.dbgacc (dr true)) s) s [.debug] toReg fun s' => merged d data s' ∧
          s'.dbg = { s.dbg with ir := TapInstr.dbgacc.code, rdata := s'.dbg.rdata, accErr := false } ∧
          Emits s s' (.tapScan 58 (s.tapCapture .dbgacc))) ∧
      (famOf (R.PEn_CATCH 0) 64 8 o = none → famOf (R.TMm_CAP 0) 32 16 o = none →
        Acts (exec (.dbgacc (dr false)) s) s [.debug] toReg fun s' => cleared d s' ∧ s'.dbg.rdata = shown d ∧
          s'.dbg = { s.dbg with ir := TapInstr.dbgacc.code, rdata := s'.dbg.rdata, accErr := false })) ∧
    (∀ n : Fin 8, o = R.PEn_CATCH n →
      (∀ w ws, (s.pe n).catch_ = w :: ws → (s.pe n).caught ≠ some s.sbCyc →
        Acts (exec (.peCatchRead src n) s) s [.pins] (fun _ => false) fun s' =>
          s'.pe n = { (s.pe n).touched s.sbCyc with catch_ := ws } ∧ (src = .csp → Emits s s' (.cspAck w false))) ∧
      ((s.pe n).catch_ = [] ∨ (s.pe n).caught = some s.sbCyc → Acts (exec (.peCatchRead src n) s) s [] (fun x => x == R.PEn_STAT n) fun s' =>
        s'.flag (F.PEn_STAT_EMPTY_RD n) = true ∧ (src = .csp → Emits s s' (.cspAck 0 false)))) ∧
    (∀ m : Fin 16, o = R.TMm_CAP m →
      (((s.tm m).capAt.map fun p => p.1) ≠ some s.ctlCyc →
        Acts (exec (.timerCapRead src m) s) s [] (fun x => x == R.TMm_STAT m) fun s' =>
          s'.flag (F.TMm_STAT_CAPV m) = false ∧ (src = .csp → Emits s s' (.cspAck (s.reg o) false))) ∧
      (∀ p, (s.tm m).capAt = some p → p.1 = s.ctlCyc → Acts (exec (.timerCapRead src m) s) s [.pins] (fun x => x == R.TMm_STAT m) fun s' =>
        s'.flag (F.TMm_STAT_CAPV m) = s.flag (F.TMm_STAT_CAPV m) ∧ s'.flag (F.TMm_STAT_OVR m) = p.2.2 ∧
        (src = .csp → Emits s s' (.cspAck p.2.1 false)))) ∧
    (∀ data : Word, o = R.GLB_CTRL → s.writeClash src = false →
      let v := bits data.toNat 0 16
      (v = 0x3C5A → s.cfg.expert = .locked →
        Acts (exec (.expertUnlock src data) s) s [] (fun _ => false) fun s' => s'.cfg.expert = .first s.ctlCyc) ∧
      (v = 0xA5C3 → ∀ c, s.cfg.expert = .first c → s.ctlCyc ≤ c + 256 →
        Acts (exec (.expertUnlock src data) s) s [] (fun _ => false) fun s' => s'.cfg.expert = .unlocked s.ctlCyc) ∧
      (v = 0 → Acts (exec (.expertLock src data) s) s [] (fun _ => false) fun s' => s'.cfg.expert = .locked))

/-- R604, R684: of two writes of one register in one CK_CTL cycle by two sources, the CSP's takes effect first, then the debug
module's, then a thread's, whichever is commanded first. Choices of the model in it: log entries 32, 97. -/
def Obligations.AccessesOfOneCycle : Prop :=
  ∀ (s : State) (src before : RegSrc) (off : BitVec 24) (data after : Word) (d : RegDef) (rest : List Instr),
    let o := off.toNat
    regAt o = some d → d.expert = false → actionReg o = false → calmReg o = true → dbgRegion o = false → o % 4 = 0 →
    s.pending = .registerWrite before off 2 data :: rest → before.rank < src.rank →
    s.crp.headOn = true → s.crp.mainUp = true → s.dbgBarred src = false → s.dbgBarred before = false → s.cfg.late = [] →
    Answers (exec (.registerWrite src off 2 after) s) fun s1 => s1.pending = s.pending ∧ s1.reg o = s.reg o ∧
      let s2 := { s1 with pending := rest }
      Acts (exec (.registerWrite before off 2 data) s2) s2 [.image] (fun x => x == o) fun s' =>
        s'.cfg = { s.cfg with expert := s'.cfg.expert, wrAt := s'.cfg.wrAt } ∧ ∀ i < 32, (s'.reg o).getLsbD i =
          if d.w1c.testBit i && (data.getLsbD i || after.getLsbD i) then (s.hitsAt o).1.getLsbD i
          else if d.rw.testBit i then after.getLsbD i else (s.reg o).getLsbD i || (d.w1c.testBit i && (s.hitsAt o).1.getLsbD i)

/-- R541 to R543, R562 to R573: an owner field takes its code from the next CK_SB cycle, reserved codes keeping it, and the pins
follow; PEn_CTRL starts an engine at BOTTOM with SR, BC and MF zero, stops it, empties its FIFOs and drops or activates a held
copy; a feed word joins the FIFO or sets FEED_OVF; the program store, BASE, the pin map and the depths take a value, a held
copy, or a rejection. Choices of the model in it: log entries 35, 48. -/
def Obligations.PinEngineRegisters : Prop :=
  ∀ (s : State) (src : RegSrc) (n : Fin 8) (data : Word),
    let x := s.pe n
    let en := s.flag (F.PEn_CTRL_EN n)
    let hot := s.flag (F.PEn_CTRL_HOTSWAP n)
    let own (off : Nat) : Bool := (decide (R.PEn_CTRL n ≤ off) && decide (off < R.PEn_CTRL n + 64)) || off == R.CONTRACT_STAT ||
      off == R.GLB_PORT_STAT || off == R.DBG_STAT
    let rejected (o : Host.Outcome State Fault Refusal) : Prop :=
      Acts o s [] own fun s' => s'.pe n = x ∧ s'.flag (F.PEn_STAT_PROG_ERR n) = true ∧ (src = .csp → Emits s s' (.cspAck 0 true))
    let low (p : KMap (BitVec 64)) (w : Nat) : Word := (kget 0 p w : BitVec 64).setWidth 32
    let high (p : KMap (BitVec 64)) (w : Nat) : Word := ((kget 0 p w : BitVec 64) >>> 32).setWidth 32
    let wordOf (p : KMap (BitVec 64)) (w : Nat) : Word := if w % 2 = 0 then low p (w / 2) else high p (w / 2)
    (Reaches s src (R.SBD_PINSELi n) → s.unlocked →
      Acts (exec (.sbOwnerChange src n data) s) s [.pins] (span (R.SBD_PINSELi n) 4) fun s' =>
        s'.sch.ft.toNat % 64 = 0 ∧ s'.pinsFollow ∧ ∀ j < 4, bits (s'.reg (R.SBD_PINSELi n)).toNat (8 * j) 5 =
          let c := bits data.toNat (8 * j) 5
          if c = 0 ∨ c = 1 ∨ 8 ≤ c then c else bits (s.reg (R.SBD_PINSELi n)).toNat (8 * j) 5) ∧
    (Reaches s src (R.PEn_CTRL n) →
      let y : PinEngine := { x with
        feed := if data.getLsbD 3 then [] else x.feed, catch_ := if data.getLsbD 3 then [] else x.catch_
        sw := if data.getLsbD 3 then none else x.sw, caught := if data.getLsbD 3 then none else x.caught
        held := if data.getLsbD 4 then none else x.held }
      ∀ o ∈ [exec (.peEnable src n data) s, exec (.peDisable src n data) s, exec (.peFlush src n data) s, exec (.peDiscard src n data) s],
        Acts o s [.pins] own fun s' =>
          s'.flag (F.PEn_CTRL_EN n) = data.getLsbD 0 ∧ s'.flag (F.PEn_CTRL_HOTSWAP n) = data.getLsbD 1 ∧
          s'.pe n = (if data.getLsbD 0 && !en then { y with s := BitVec.ofNat 8 (s.f (F.PEn_BASE_BOTTOM n)), sr := 0, bc := 0, mf := false }
            else if en && !data.getLsbD 0 then { y with prog := (y.held.map fun h => h.1).getD y.prog, held := none }
            else y) ∧
          (∀ h, en = true → data.getLsbD 0 = false → y.held = some h → s'.f (F.PEn_BASE_BOTTOM n) = h.2.toNat)) ∧
    (Reaches s src (R.PEn_FEED n) →
      (x.feed.length < s.feedDepth n → Acts (exec (.peFeedWrite src n data) s) s [.pins] (fun _ => false) fun s' =>
        s'.pe n = { x.touched s.sbCyc with feed := x.feed ++ [data] }) ∧
      (s.feedDepth n ≤ x.feed.length → Acts (exec (.peFeedWrite src n data) s) s [] own fun s' =>
        s'.pe n = x ∧ s'.flag (F.PEn_STAT_FEED_OVF n) = true)) ∧
    (∀ word : Fin 512, Reaches s src (R.PEn_PROG n word) → s.unlocked →
      (en = false → Acts (exec (.peProgWrite src n word data) s) s [.pins] own fun s' =>
        ∀ w < 512, wordOf (s'.pe n).prog w = if w = word then data else wordOf x.prog w) ∧
      (en = true → hot = true → Acts (exec (.peProgWrite src n word data) s) s [.pins] own fun s' =>
        (s'.pe n).prog = x.prog ∧ ∃ h, (s'.pe n).held = some h ∧ h.2.toNat = (x.held.map fun p => p.2.toNat).getD (s.f (F.PEn_BASE_BOTTOM n)) ∧
          ∀ w < 512, wordOf h.1 w = if w = word then data else wordOf ((x.held.map fun p => p.1).getD x.prog) w) ∧
      (en = true → hot = false → rejected (exec (.peProgWrite src n word data) s))) ∧
    (Reaches s src (R.PEn_BASE n) → s.unlocked →
      (en = false → Acts (exec (.peBaseWrite src n data) s) s [] own fun s' =>
        s'.pe n = x ∧ s'.f (F.PEn_BASE_BOTTOM n) = bits data.toNat 0 8) ∧
      (en = true → hot = true → Acts (exec (.peBaseWrite src n data) s) s [.pins] own fun s' =>
        s'.pe n = { x with held := some ((x.held.map fun p => p.1).getD x.prog, BitVec.ofNat 8 data.toNat) }) ∧
      (en = true → hot = false → rejected (exec (.peBaseWrite src n data) s))) ∧
    (∀ hi : Bool, let r := if hi then R.PEn_PINMAP_HI n else R.PEn_PINMAP_LO n
      Reaches s src r → s.unlocked →
      (en = false → Acts (exec (.pePinmapWrite src n hi data) s) s [.pins] own fun s' =>
        s'.pe n = x ∧ s'.reg r = data &&& 0x9F9F9F9F ∧ s'.pinsFollow) ∧
      (en = true → rejected (exec (.pePinmapWrite src n hi data) s))) ∧
    (Reaches s src (R.PEn_DEPTH n) → s.unlocked →
      let pick (new old : Nat) : Nat := if 1 ≤ new ∧ new ≤ 12 then new else old
      let fd := pick (bits data.toNat 0 4) (s.feedDepth n)
      let cd := pick (bits data.toNat 8 4) (s.catchDepth n)
      let others := (((List.range 8).filter fun i => i != n.val).map fun i => s.feedDepth i + s.catchDepth i).sum
      (en = true → rejected (exec (.peDepthWrite src n data) s)) ∧
      (en = false →
        (x.feed = [] → x.catch_ = [] → others + fd + cd ≤ 64 → Acts (exec (.peDepthWrite src n data) s) s [] own fun s' =>
          s'.feedDepth n = fd ∧ s'.catchDepth n = cd) ∧
        (64 < others + fd + cd ∨ x.feed ≠ [] ∨ x.catch_ ≠ [] → Acts (exec (.peDepthWrite src n data) s) s [] own fun s' =>
          s'.feedDepth n = s.feedDepth n ∧ s'.catchDepth n = s.catchDepth n ∧ s'.flag (F.PEn_STAT_PROG_ERR n) = true)))

/-- R543, R563 to R570: an enabled engine runs the entry at S in the next CK_SB cycle. A reserved entry stops it with PROG_ERR and
its event; a feed or catch operation that cannot proceed, by what the FIFOs held before the software accesses of that cycle,
stalls it; any other moves words between SR, BC and the FIFOs, shifts in its pin as it was two cycles before, drives its
positions, and goes to NX, to BOTTOM at a wrap, or to the next entry. Choices of the model in it: log entry 48. -/
def Obligations.PinEngineEntries : Prop :=
  ∀ (s : State) (n : Fin 8), s.crp.mainUp = true → s.flag (F.PEn_CTRL_EN n) = true →
    let x := s.pe n
    let e := (kget 0 x.prog x.s.toNat : BitVec 64).toNat
    let fop := bits e 35 3
    let shift := bits e 33 2
    let test := bits e 40 4
    let u := s.passFt (s.nextEdge 64 x.last)
    let dry := x.feedSeen u.sbCyc == 0
    let full := decide (s.catchDepth n ≤ x.catchSeen u.sbCyc)
    let stall := ((fop = 1 ∨ fop = 5) ∧ dry = true) ∨ ((fop = 3 ∨ fop = 6) ∧ full = true)
    let pin := match s.pePin n (bits e 30 3) with
      | some i => u.pinSeen peLag i
      | none => false
    let go := test == 1 || (test == 2 && pin) || (test == 3 && !pin) || (test == 4 && x.bc != 0) || (test == 5 && x.mf) ||
      (test == 6 && dry) || (test == 7 && full) || (test == 8 && x.sr == 0)
    let own (off : Nat) : Bool := decide (R.PEn_CTRL n ≤ off) && decide (off < R.PEn_CTRL n + 64)
    let run (P : State → Prop) : Prop := Acts (exec (.peEntry n) s) s [.pins] own fun s' => s'.sch.ft.toNat % 64 = 0 ∧ P s'
    (peBad e = true → run fun s' => s'.flag (F.PEn_CTRL_EN n) = false ∧ s'.flag (F.PEn_STAT_PROG_ERR n) = true ∧
      s'.evPending (EV.pe n) = true) ∧
    (peBad e = false → stall → run fun s' => s'.flag (F.PEn_STAT_STALLED n) = true ∧ s'.pe n = { x with last := some s'.sch.ft }) ∧
    (peBad e = false → ¬stall → run fun s' =>
      let y := s'.pe n
      let base := if !go && Nat.testBit e 39 then (x.held.map fun h => h.2.toNat).getD (s.f (F.PEn_BASE_BOTTOM n)) else s.f (F.PEn_BASE_BOTTOM n)
      y.s.toNat = (if go then bits e 44 8 else if Nat.testBit e 39 then base else (x.s.toNat + 1) % 256) ∧
      y.sr = (if (fop = 1 ∨ fop = 2) ∧ dry = false then x.feed.headD 0
        else if shift = 1 then (x.sr <<< 1) ||| BitVec.ofNat 32 (b2n pin)
        else if shift = 2 then (x.sr >>> 1) ||| (BitVec.ofNat 32 (b2n pin) <<< 31)
        else x.sr) ∧
      y.bc = (if Nat.testBit e 38 then BitVec.ofNat 11 (bits e 52 11) else if fop = 5 then (x.feed.headD 0).setWidth 11
        else if shift ≠ 0 then (if x.bc = 0 then 0 else x.bc - 1) else x.bc) ∧
      y.mf = (if fop = 2 then dry else x.mf) ∧
      y.feed = (if (fop = 1 ∨ fop = 2 ∨ fop = 5) ∧ dry = false then x.feed.tail else x.feed) ∧
      y.catch_ = (if fop = 3 ∨ (fop = 4 ∧ full = false) then x.catch_ ++ [x.sr]
        else if fop = 6 then x.catch_ ++ [x.bc.setWidth 32] else x.catch_) ∧
      y.caught = (if x.catch_ = [] ∧ y.catch_ ≠ [] then some u.sbCyc else x.caught) ∧ y.sw = x.sw ∧
      (∀ i < 8, y.out.getLsbD i =
        if Nat.testBit e 26 && bits e 27 3 == i then (if shift = 1 then x.sr.getLsbD 31 else x.sr.getLsbD 0)
        else if bits e 24 2 = 1 && Nat.testBit e i then Nat.testBit e (8 + i)
        else (bits e 24 2 == 2 && Nat.testBit e i) != x.out.getLsbD i) ∧
      (∀ i < 8, y.oe.getLsbD i = if bits e 24 2 = 1 && Nat.testBit e i then Nat.testBit e (16 + i) else x.oe.getLsbD i) ∧
      (fop = 2 → dry = true → s'.flag (F.PEn_STAT_MISS_E n) = true) ∧
      (fop = 4 → full = true → s'.flag (F.PEn_STAT_CATCH_OVF n) = true) ∧
      (Nat.testBit e 63 = true → s'.evPending (EV.pe n) = true) ∧ s'.pinsFollow)

/-- R574 to R582: a step counts down, matching the compare value on the way; at 0 the lap ends, COUNT and the compare value reload
and OUT clears; after LAPS + 1 laps the timer expires, and the next one takes a step where its clock is LINK; EN and RELOAD_NOW
apply both buffers; a selected edge captures COUNT. Choices of the model in it: log entry 49. -/
def Obligations.Timers : Prop :=
  ∀ (s : State) (src : RegSrc) (m : Fin 16) (data : Word) (level : Bool),
    let count (a : State) : Nat := (a.reg (R.TMm_COUNT m)).toNat
    let load := (s.reg (R.TMm_LOAD m)).toNat
    let clk := s.f (F.TMm_CTRL_CLKSEL m)
    let lap := s.f (F.TMm_STAT_LAP m)
    let laps := s.f (F.TMm_CTRL_LAPS m)
    let chain (j : Nat) : Bool := decide (m.val ≤ j) && (List.range j).all fun i => decide (i < m.val) || s.f (F.TMm_CTRL_CLKSEL (i + 1)) == 2
    let own (off : Nat) : Bool := (List.range 16).any fun j => chain j && decide (R.TMm_CTRL j ≤ off) && decide (off < R.TMm_CTRL j + 32)
    let act (o : Host.Outcome State Fault Refusal) (P : State → Prop) : Prop := Acts o s [.pins, .reset] own P
    let ended (a : State) : Prop :=
      count a = load ∧ (a.tm m).cmp = s.reg (R.TMm_CMP m) ∧
      (s.reg (R.TMm_LOAD m) ≠ s.reg (R.TMm_CMP m) → a.flag (F.TMm_STAT_OUT m) = false) ∧
      (lap = laps → a.f (F.TMm_STAT_LAP m) = 0 ∧ a.flag (F.TMm_STAT_EXP m) = true ∧
        (s.crp.mainUp = true → a.evPending (EV.tmExp m) = true) ∧
        (s.flag (F.TMm_CTRL_ONESHOT m) = true → a.flag (F.TMm_CTRL_EN m) = false)) ∧
      (lap ≠ laps → a.f (F.TMm_STAT_LAP m) = (lap + 1) % 256)
    let w := s.tmWait m 1
    let n := m.val + 1
    let countN (a : State) : Nat := (a.reg (R.TMm_COUNT n)).toNat
    let linked (a : State) : Prop := lap = laps → n < 16 → s.f (F.TMm_CTRL_CLKSEL n) = 2 → s.tmRuns n = true → w.tmGate n = true →
      (countN s = 0 → countN a = (s.reg (R.TMm_LOAD n)).toNat) ∧
      (countN s ≠ 0 → countN a = countN s - 1 ∧ (countN s - 1 = (s.tm n).cmp.toNat → a.flag (F.TMm_STAT_CMPF n) = true))
    (s.tmRuns m = true → w.tmGate m = true → clk ≠ 2 →
      (count s = 0 → act (exec (.timerStep m) s) fun s' => ended s' ∧ linked s') ∧
      (count s ≠ 0 → act (exec (.timerStep m) s) fun s' => count s' = count s - 1 ∧
        (count s - 1 = (s.tm m).cmp.toNat → s'.flag (F.TMm_STAT_OUT m) = true ∧ s'.flag (F.TMm_STAT_CMPF m) = true ∧
          (s.crp.mainUp = true → s'.evPending (EV.tmCmp m) = true)))) ∧
    (s.tmRuns m = true → s.tmGate m = true → clk ≠ 2 → act (exec (.timerLapEnd m) s) ended) ∧
    (s.tmRuns m = true → s.tmGate m = true → clk ≠ 2 → act (exec (.timerExpiry m) s) fun s' =>
      count s' = load ∧ s'.f (F.TMm_STAT_LAP m) = 0 ∧ s'.flag (F.TMm_STAT_EXP m) = true ∧
      (s.crp.mainUp = true → s'.evPending (EV.tmExp m) = true)) ∧
    (Reaches s src (R.TMm_CTRL m) →
      ∀ o ∈ [exec (.timerEnable src m data) s, exec (.timerDisable src m data) s, exec (.reloadNow src m data) s], act o fun s' =>
        s'.flag (F.TMm_CTRL_EN m) = data.getLsbD 0 ∧
        (let starts := data.getLsbD 0 && !s.flag (F.TMm_CTRL_EN m)
        let applies := starts || data.getLsbD 4
        count s' = (if applies then load else count s) ∧
        (s'.tm m).cmp = (if applies then s.reg (R.TMm_CMP m) else (s.tm m).cmp) ∧
        s'.f (F.TMm_STAT_LAP m) = (if starts then 0 else lap) ∧
        s'.flag (F.TMm_STAT_OUT m) = (!applies && s.flag (F.TMm_STAT_OUT m)) ∧ s'.pinsFollow)) ∧
    (s.crp.mainUp = true →
      let was := (s.tm m).pin
      let edge := s.f (F.TMm_CTRL_CAP_EDGE m)
      (!was && level && Nat.testBit edge 0) || (was && !level && Nat.testBit edge 1) →
      act (exec (.timerCapture m level) s) fun s' =>
        (s'.reg (R.TMm_CAP m)).toNat = count s ∧ s'.flag (F.TMm_STAT_CAPV m) = true ∧ (s'.tm m).pin = level ∧
        (s'.tm m).capAt = some (s.ctlCyc, s.reg (R.TMm_CAP m), s.flag (F.TMm_STAT_OVR m)) ∧ (s.flag (F.TMm_STAT_CAPV m) = true → s'.flag (F.TMm_STAT_OVR m) = true) ∧ s'.evPending (EV.tmCap m) = true)

/-! ## Vowick -/

/-- R548, R550, R553 to R555, R558, R560: a valid frame in the HELD state: PING, IDENT_REQ and a CLAIM of the held tally are
acknowledged, IDENT_REQ answered; IDENT, RELEASE and USER frames to the tally, or broadcast with RX_BCAST, enter the FIFO or set
RX_OVF; a CHAIN with the key makes a CHAIN reset; a frame whose SRC is the block's own tally is a conflict, and a new claim
starts; a frame that fails the checks enters nowhere. Choices of the model in it: log entries 48, 50. -/
def Obligations.VowickFrames : Prop :=
  ∀ (s : State) (f : VwkFrame), s.crp.mainUp = true → s.vwkOff = false → s.vwkState = 2 →
    let x := s.vwk
    let c := f.cmd.toNat
    let sound := f.stop = true ∧ f.len.toNat ≤ 8 ∧ f.crc.toNat = vwkCrc f ∧ (f.srcT ≠ 0 ∨ c = 3) ∧ f.srcT.toNat ≠ s.tally
    let mine := f.dst ≠ 0 ∧ f.dst.toNat = s.tally
    let kept (o : Host.Outcome State Fault Refusal) (P : State → Prop) : Prop := Acts o s [] (fun _ => false) P
    let row (o : Host.Outcome State Fault Refusal) (cmds : List Nat) : Prop := c ∈ cmds → sound →
      mine ∨ (f.dst = 0 ∧ s.flag F.VWK_CFG_RX_BCAST = true) →
      (x.rxq.length < 8 → Acts o s [.vowick] (fun _ => false) fun s' => s'.vwk = { x with rxq := x.rxq ++ [f] } ∧
        s'.evPending EV.vwkRx = true ∧ (mine → Emits s s' (.vwkAck false)) ∧ (c = 5 → s'.evPending EV.vwkDetach = true)) ∧
      (8 ≤ x.rxq.length → Acts o s [] (fun off => off == R.VWK_STAT) fun s' =>
        s'.flag F.VWK_STAT_RX_OVF = true ∧ (mine → Emits s s' (.vwkAck true)) ∧ (c = 5 → s'.evPending EV.vwkDetach = true))
    let id := (s.reg R.GLB_ID).toNat
    let rel := (s.reg R.GLB_REL).toNat
    let byte (v i : Nat) : Nat := v / 2 ^ (8 * i) % 256
    (c = 0 → sound → mine → kept (exec (.vwkPing f) s) fun s' => Emits s s' (.vwkAck false)) ∧
    (c = 1 → sound → mine → x.tx = none → x.txq = [] →
      Acts (exec (.vwkIdentReq f) s) s [.vowick] (fun _ => false) fun s' => Emits s s' (.vwkAck false) ∧
        ∃ a, s'.vwk.tx = some (a, .ident) ∧ s'.vwk = { x with tx := s'.vwk.tx, txAt := s.now } ∧ Emits s s' (.vwkFrame a) ∧
          a.dst = f.srcT ∧ a.srcT.toNat = s.tally ∧ a.cmd = 2 ∧ a.len = 8 ∧ a.stop = true ∧ a.crc.toNat = vwkCrc a ∧
          ∀ i < 8, byte a.data.toNat i =
            [byte id 3, byte id 2, byte id 1, byte id 0, byte rel 2, byte rel 1, s.mode, s.f F.MEM_LC_STAT_STATE].getD i 0) ∧
    row (exec (.vwkIdent f) s) [2] ∧ row (exec (.vwkRelease f) s) [5] ∧ row (exec (.vwkUser f) s) [8, 9, 10, 11, 12, 13, 14] ∧
    (c = 3 → sound → f.data.toNat % 2 ^ 12 = s.tally → kept (exec (.vwkClaim f) s) fun s' => Emits s s' (.vwkAck false)) ∧
    (c = 6 → sound → (mine ∨ (f.dst = 0 ∧ s.flag F.VWK_CFG_CHAIN_BCAST = true)) → s.flag F.VWK_CFG_CHAIN_EN = true → f.len = 2 →
      byte f.data.toNat 0 = s.f F.VWK_CHAIN_KEY / 256 → byte f.data.toNat 1 = s.f F.VWK_CHAIN_KEY % 256 → s.crp.seq = none →
      Answers (exec (.vwkChain f) s) fun s' => (mine → Emits s s' (.vwkAck false)) ∧ s'.mode = 1 ∧ s'.crp.mainUp = false ∧
        s'.flag F.CRP_RST_CAUSE_CHAIN = true ∧ s'.f F.CRP_RST_CAUSE_LAST = 4) ∧
    (c = 6 → sound → (mine ∨ f.dst = 0) → byte f.data.toNat 0 ≠ s.f F.VWK_CHAIN_KEY / 256 →
      Acts (exec (.vwkChain f) s) s [] (fun off => off == R.VWK_STAT) fun s' => s'.flag F.VWK_STAT_CHAIN_BAD = true) ∧
    (f.stop = true → f.len.toNat ≤ 8 → f.crc.toNat = vwkCrc f → f.srcT ≠ 0 → f.srcT.toNat = s.tally →
      let conflict (o : Host.Outcome State Fault Refusal) : Prop :=
        Acts o s [.vowick] (fun off => off == R.VWK_STAT) fun s' => s'.flag F.VWK_STAT_CONFLICT = true ∧ s'.evPending EV.vwkErr = true ∧
          s'.vwkState = 1 ∧ s'.tally = 0
      (c = 0 → conflict (exec (.vwkPing f) s)) ∧ (c = 1 → conflict (exec (.vwkIdentReq f) s)) ∧
      (c = 2 → conflict (exec (.vwkIdent f) s)) ∧ (c = 3 → conflict (exec (.vwkClaim f) s)) ∧
      (c = 5 → conflict (exec (.vwkRelease f) s)) ∧ (8 ≤ c → c ≤ 14 → conflict (exec (.vwkUser f) s))) ∧
    ((f.stop = false ∨ 8 < f.len.toNat ∨ f.crc.toNat ≠ vwkCrc f ∨ (f.srcT = 0 ∧ c ≠ 3)) →
      kept (exec (.vwkBadFrame f) s) fun s' => s'.sch.counters ≠ s.sch.counters ∨ s'.sch.saturated = true)

/-- R545, R551, R552, R555 to R559: SEND, CLAIM, DETACH and ATTN as bits of VWK_CTRL; the ends of a frame and of a claim; the
timeout of a frame; the pulses and the attention level of VWA; a stuck bus; and the receive FIFO's pop. Choices of the model in
it: log entries 48, 50. -/
def Obligations.VowickControl : Prop :=
  ∀ (s : State) (src : RegSrc) (data : Word) (r : VwkTxEnd) (n : Nat), s.crp.mainUp = true → s.vwkOff = false →
    let x := s.vwk
    let idle := x.tx = none ∧ x.txq = []
    let hdr := (s.reg R.VWK_TX_HDR).toNat
    let cmd := bits hdr 12 4
    let len := bits hdr 16 4
    let sends := s.vwkState = 2 ∧ s.flag F.VWK_STAT_TX_BUSY = false ∧ cmd ∉ [3, 4, 5, 7, 15] ∧ len ≤ 8
    let stat (off : Nat) : Bool := off == R.VWK_STAT || off == R.VWK_CTRL
    let acts (o : Host.Outcome State Fault Refusal) (P : State → Prop) : Prop := Acts o s [.vowick] stat P
    let only (b : Nat) : Prop := ∀ i < 4, data.getLsbD i = if i = 3 then b == 3 || s.flag F.VWK_CTRL_ATTN else i == b
    let claims (s' : State) : Prop := s'.vwkState = 1 ∧ s'.tally = 0 ∧ s'.vwk.tried = 0 ∧
      (let first := s.f F.VWK_CFG_PREF
      s'.vwk.cand.toNat = (if first = 0 then 1 else first) ∧
      ∃ a, s'.vwk.tx = some (a, .claim) ∧ Emits s s' (.vwkFrame a) ∧ a.dst = 0 ∧ a.srcT = 0 ∧ a.cmd = 3 ∧ a.len = 8 ∧
        a.crc.toNat = vwkCrc a ∧ a.data.toNat % 2 ^ 16 = s'.vwk.cand.toNat ∧ a.data.toNat / 2 ^ 16 % 2 ^ 20 = s.epid)
    let ends (j : VwkJob) : Prop := ∃ a, x.tx = some (a, j)
    (Reaches s src R.VWK_CTRL →
      (only 0 → sends → idle → acts (exec (.vwkSend src data) s) fun s' => s'.flag F.VWK_STAT_TX_BUSY = true ∧
        ∃ a, s'.vwk.tx = some (a, .user) ∧ Emits s s' (.vwkFrame a) ∧ a.dst.toNat = hdr % 2 ^ 12 ∧ a.srcT.toNat = s.tally ∧
          a.cmd.toNat = cmd ∧ a.len.toNat = len ∧ a.crc.toNat = vwkCrc a ∧
          a.data.toNat = s.reg64 R.VWK_TX_D0 R.VWK_TX_D1 % 2 ^ (8 * len)) ∧
      (only 0 → ¬sends → acts (exec (.vwkSend src data) s) fun s' => s'.flag F.VWK_STAT_TX_ERR = true ∧ s'.vwk = x) ∧
      (only 1 → (s.vwkState = 0 ∨ s.vwkState = 3) → idle → acts (exec (.vwkClaimStart (.write src data)) s) claims) ∧
      (only 2 → s.vwkState = 2 → idle → acts (exec (.vwkDetach src data) s) fun s' =>
        ∃ a, s'.vwk.tx = some (a, .release) ∧ Emits s s' (.vwkFrame a) ∧ a.dst = 0 ∧ a.srcT.toNat = s.tally ∧ a.cmd = 5 ∧ a.len = 0) ∧
      (only 3 → acts (exec (.vwkAttn src data) s) fun s' => s'.flag F.VWK_CTRL_ATTN = true ∧ s'.vwk = x ∧
        (s.flag F.VWK_CTRL_ATTN = false → Emits s s' (.vwaLow true)))) ∧
    (s.flag F.VWK_CFG_AUTO_CLAIM = true → s.vwkState = 0 → idle → acts (exec (.vwkClaimStart .headUp) s) claims) ∧
    (ends .user → x.txq = [] → r ≠ .lostArbitration → acts (exec (.vwkFrameSent r) s) fun s' => s'.vwk.tx = none ∧
      s'.flag F.VWK_STAT_TX_BUSY = false ∧ s'.evPending EV.vwkTx = true ∧
      ∀ a, x.tx = some (a, .user) → a.dst ≠ 0 →
        (r = .acked → s'.flag F.VWK_STAT_TX_DONE = true) ∧ (r = .notAcked → s'.flag F.VWK_STAT_TX_NAK = true)) ∧
    (ends .release → x.txq = [] → r ≠ .lostArbitration → acts (exec (.vwkFrameSent r) s) fun s' => s'.vwk.tx = none ∧
      s'.vwkState = 3 ∧ s'.tally = 0 ∧ Emits s s' .vwkRelease) ∧
    (ends .user → x.txq = [] → acts (exec .vwkTxTimeout s) fun s' => s'.vwk.tx = none ∧
      s'.flag F.VWK_STAT_TX_BUSY = false ∧ s'.flag F.VWK_STAT_TX_ERR = true ∧ x.txAt + s.vwkBits 4096 ≤ s'.now) ∧
    (ends .claim → x.txq = [] →
      (r = .notAcked → acts (exec (.vwkClaimResult r) s) fun s' => s'.vwkState = 2 ∧ s'.tally = x.cand.toNat ∧ s'.vwk.tx = none ∧
        s'.evPending EV.vwkTally = true) ∧
      (r = .acked → x.tried < 4094 → acts (exec (.vwkClaimResult r) s) fun s' => s'.vwk.tried = x.tried + 1 ∧
        s'.vwk.cand.toNat = (if x.cand.toNat = 4095 then 1 else x.cand.toNat + 1) ∧
        ∃ a, s'.vwk.tx = some (a, .claim) ∧ Emits s s' (.vwkFrame a) ∧ a.data.toNat % 2 ^ 16 = s'.vwk.cand.toNat) ∧
      (r = .acked → x.tried = 4094 → acts (exec (.vwkClaimResult r) s) fun s' => s'.vwkState = 0 ∧
        s'.flag F.VWK_STAT_FULL = true ∧ s'.evPending EV.vwkErr = true ∧ s'.vwk.tx = none)) ∧
    (4 ≤ n → n ≤ 32 → acts (exec (.vwaLowEnd n) s) fun s' => s'.evPending EV.vwkAttach = true ∧ s'.vwk = { x with attnSeen := false }) ∧
    (x.attnSeen = false → acts (exec .vwkAttention s) fun s' => s'.evPending EV.vwkAttn = true ∧ s'.vwk = { x with attnSeen := true }) ∧
    (x.attnSeen = true → Acts (exec .vwkAttention s) s [] (fun _ => false) fun s' => s'.vwk = x) ∧
    acts (exec .vwkStuck s) (fun s' => s'.flag F.VWK_STAT_STUCK = true ∧ s'.evPending EV.vwkErr = true ∧ Emits s s' .vwkRelease ∧ s'.vwk = x) ∧
    (Reaches s src R.VWK_RX_POP → Acts (exec (.vwkRxPop src data) s) s [.vowick] (fun _ => false) fun s' =>
      s'.vwk = if data.getLsbD 0 then { x with rxq := x.rxq.tail } else x)

/-! ## Resets, power and modes -/

/-- R597 to R599, R625, R626, R643, R653 to R661, R666: a reset request puts the block in RESET with MAIN down, its cause set and
LAST its kind; the power, PLL and lifecycle steps take the sequence on; it ends with MAIN up in LOAD, STANDBY or HALT, with the
image kept by SOFT, DEBUG and wake, and every register at its reset value after a POR but for those that the reset keeps.
Choices of the model in it: log entries 28, 29. -/
def Obligations.ResetSequences : Prop :=
  ∀ (s : State) (src : RegSrc) (data : Word), s.crp.headOn = true →
    let free := s.crp.seq = none
    let at_ (k : SeqKind) (n : Nat) : Prop := s.crp.seq.map (fun q => (q.kind, q.step)) = some (k, n)
    let inStep (s' : State) (k : SeqKind) (n : Nat) : Prop := s'.crp.seq.map (fun q => (q.kind, q.step)) = some (k, n)
    let begun (s' : State) (k : SeqKind) : Prop := s'.mode = 1 ∧ s'.crp.mainUp = false ∧ s'.flag k.cause = true ∧
      s'.f F.CRP_RST_CAUSE_LAST = k.code ∧ s'.crp.seq.map (fun q => q.kind) = some k
    let pll := s.flag F.CRP_PWR_STAT_PLL_LOCK
    let ends (s' : State) (m : Nat) : Prop := s'.crp.seq = none ∧ s'.mode = m ∧ s'.flag F.CRP_PWR_STAT_ISO_EN = false ∧
      s'.flag F.CRP_PWR_STAT_HMP_FLUSH = false
    let atReset (s' : State) : Prop := ∀ off, calmReg off = true → headReg off = false →
      (SeqKind.por.keepsFields.all fun x => x.off != off) = true → s'.reg off = regReset off
    (s.crp.seq.all (fun q => q.kind != .por) = true →
      Answers (exec (.por .porN) s) (fun s' => begun s' .por ∧ inStep s' .por 1 ∧ s'.crp.porN = false ∧ atReset s') ∧
      Answers (exec (.por .headLow) s) fun s' => begun s' .por ∧ inStep s' .por 1 ∧ atReset s') ∧
    (free → Answers (exec .bor s) fun s' => begun s' .bor ∧ s'.flag F.CRP_PWR_STAT_RET_REQ = true) ∧
    (at_ .por 1 → Answers (exec .porNHigh s) fun s' => inStep s' .por 2 ∧ s'.crp.porN = true ∧ s'.crp.lcWords = 0 ∧
      Emits s s' (.lcRequest 0)) ∧
    (at_ .por 2 → s.crp.lcWords < 48 → Answers (exec (.lcBusWord data) s) fun s' => inStep s' .por 2 ∧
      s'.crp.lcWords = s.crp.lcWords + 1 ∧ s'.reg (R.CFG_KEYHn_i (s.crp.lcWords / 12) (s.crp.lcWords % 12)) = data ∧
      Emits s s' (.lcRequest (s.crp.lcWords + 1))) ∧
    (at_ .por 2 → s.crp.lcWords = 48 → s.flag F.CRP_PWR_STAT_RET_ACK = false → Answers (exec (.lcBusWord data) s) fun s' =>
      inStep s' .por 3 ∧ s'.reg R.CFG_KEY_STAT = data &&& 0xFFFF ∧ s'.flag F.CRP_PWR_STAT_RET_REQ = true) ∧
    (at_ .por 2 → s.flag F.CRP_PWR_STAT_RET_ACK = false → Answers (exec .lcBusTimeout s) fun s' => inStep s' .por 3 ∧
      s'.reg R.CFG_KEY_STAT = 0xFFF0 ∧ s'.flag F.GLB_PORT_STAT_LC_TMO = true ∧ s'.flag F.CRP_PWR_STAT_RET_REQ = true ∧
      (∀ i < 48, s'.reg (R.CFG_KEYHn_i (i / 12) (i % 12)) = regReset (R.CFG_KEYHn_i (i / 12) (i % 12))) ∧
      s'.crp.lcEventOwed = true ∧ s.now + 4096 * 64 / 5 ≤ s'.now) ∧
    (∀ k, at_ k 3 → s.flag F.CRP_PWR_STAT_MAIN_ACK = false → Answers (exec (.powerAckChange .ret true) s) fun s' => inStep s' k 4 ∧
      s'.flag F.CRP_PWR_STAT_RET_ACK = true ∧ s'.flag F.CRP_PWR_STAT_MAIN_REQ = true) ∧
    (∀ k, at_ k 4 → Answers (exec (.powerAckChange .main true) s) fun s' => inStep s' k (if pll then 6 else 5) ∧
      s'.flag F.CRP_PWR_STAT_MAIN_ACK = true ∧ s'.flag F.CRP_DROOP_STAT_BOOST = false) ∧
    (s.crp.retaining = true → Answers (exec (.powerAckChange .main false) s) fun s' => s'.mode = 9 ∧ s'.flag F.CRP_MODE_BUSY = false ∧
      s'.crp.retaining = false) ∧
    (∀ k, at_ k 5 → Answers (exec .pllLockRise s) fun s' => inStep s' k 6 ∧ s'.flag F.CRP_PWR_STAT_PLL_LOCK = true) ∧
    (free → pll = true → s.flag F.CRP_PWR_STAT_MAIN_ACK = true → Answers (exec .pllLockFall s) fun s' => begun s' .hard ∧
      inStep s' .hard 5 ∧ s'.flag F.CRP_RST_CAUSE_PLL = true ∧ s'.flag F.CRP_PWR_STAT_PLL_LOCK = false) ∧
    (∀ k, at_ k 6 → pll = true → s.crp.fatalOwed = false → Answers (exec .mainResetRelease s) fun s' => s'.crp.mainUp = true ∧
      ((k = .por ∨ k = .bor) → inStep s' k 7 ∧ s'.sch.ft = 0) ∧ (k = .wake → inStep s' k 10 ∧ s'.sch.ft = 0) ∧
      ((k = .soft ∨ k = .debug) → inStep s' k 9 ∧ s'.sch.ft = 0) ∧ ((k = .hard ∨ k = .chain) → ends s' 2)) ∧
    (at_ .por 7 → pll = true → s.crp.mainUp = true → s.crp.fatalOwed = false → Answers (exec .porMemoryClearDone s) fun s' => ends s' 2 ∧
      s'.str.mem = [] ∧ s'.mem.mem = []) ∧
    (at_ .bor 7 → pll = true → s.crp.mainUp = true → s.crp.fatalOwed = false → Answers (exec .porMemoryClearDone s) fun s' => ends s' 2 ∧
      s'.str.mem = s.str.mem ∧ s'.mem.mem = s.mem.mem) ∧
    ((at_ .soft 9 ∨ at_ .debug 9 ∨ (at_ .wake 10 ∧ s.mem.wakeT = none ∧ s.mem.wakeS = none)) → pll = true → s.crp.mainUp = true →
      s.crp.fatalOwed = false → Answers (exec .imageReapplyDone s) fun s' =>
        let m := if s.cfg.imageActive then 3 else 2
        s'.crp.seq = none ∧ (at_ .debug 9 → s'.mode = 10 ∧ s'.crp.haltMode.toNat = m) ∧ (¬at_ .debug 9 → s'.mode = m) ∧
        (at_ .wake 10 → s'.evPending EV.wake = true)) ∧
    (Reaches s src R.CRP_RST_CTRL → free → wf data F.CRP_RST_CTRL_KEY = 0x7E57 →
      (wb data F.CRP_RST_CTRL_HARD = true → wb data F.CRP_RST_CTRL_SOFT = false →
        Answers (exec (.hardReset src data) s) fun s' => begun s' .hard ∧ s'.cfg.imageActive = false) ∧
      (wb data F.CRP_RST_CTRL_HARD = false → wb data F.CRP_RST_CTRL_SOFT = true →
        Answers (exec (.softReset src data) s) fun s' => begun s' .soft ∧ s'.cfg.imageActive = s.cfg.imageActive ∧
          s'.cfg.active = s.cfg.active ∧ s'.mem.mem = s.mem.mem)) ∧
    (Reaches s .debug R.DBG_CTRL → s.crp.mainUp = true → free → wb data F.DBG_CTRL_DBG_RST = true → wf data F.DBG_CTRL_KEY = 0xDB60 →
      wb data F.DBG_CTRL_HALT = false → wb data F.DBG_CTRL_RESUME = false →
      Answers (exec (.debugReset .debug data) s) fun s' => begun s' .debug ∧ s'.cfg.active = s.cfg.active) ∧
    Answers (exec .headPowerLoss s) fun s' => s'.mode = 0 ∧ s'.crp.headOn = false ∧ s'.crp.mainUp = false ∧ s'.crp.seq = none

/-- R648 to R652, R659, R660, R687: a request enters the mode where R648 lets it, and sets ERR elsewhere; TRAIN leads on to LOCK and
RUN to DEGRADED by the groups' states; DRAIN ends in STANDBY when empty or at its limit; RETAIN begins its power-down; a wake
request leaves it; the debug module halts the block and resumes it. Choices of the model in it: log entries 26, 29, 79. -/
def Obligations.OperatingModes : Prop :=
  ∀ (s : State) (src : RegSrc) (data : Word), s.crp.headOn = true →
    let m := s.mode
    let r := wf data F.CRP_MODE_CTRL_REQ
    let stopped (s' : State) : Prop := ∀ g < 8, s'.tstate g = 0
    let asks (o : Host.Outcome State Fault Refusal) (code : Nat) (P : State → Prop) : Prop := r = code → s.mayRequest code = true →
      Reaches s src R.CRP_MODE_CTRL → s.crp.mainUp = true → s.flag F.CRP_MODE_BUSY = false → Answers o P
    let wakes (s' : State) (n : Nat) : Prop := s'.mode = 1 ∧ s'.crp.seq.map (fun q => q.kind) = some .wake ∧
      s'.f F.CRP_WAKE_SRC = n ∧ s'.f F.CRP_RST_CAUSE_LAST = 6 ∧ s'.flag F.CRP_PWR_STAT_MAIN_REQ = true
    asks (exec (.modeReqStandby src data) s) 3 (fun s' => s'.mode = 3 ∧ s'.f F.CRP_MODE_PREV = m ∧ stopped s') ∧
    asks (exec (.modeReqTrain src data) s) 4 (fun s' => s'.mode = if s'.allGroupsUp && s'.tandemTrains then 5 else 4) ∧
    asks (exec (.modeReqLock src data) s) 5 (fun s' => s'.mode = 5 ∧ s'.f F.CRP_MODE_PREV = m) ∧
    asks (exec (.modeReqRun src data) s) 6 (fun s' => s'.mode = (if s'.degradedCond then 7 else 6) ∧
      (s.cfg.imageActive = true → ∀ t < 128, s.tflag t TF.exists_ = true → (s'.thread t).started = true)) ∧
    asks (exec (.modeReqDrain src data) s) 8 (fun s' => s'.mode = 8 ∧ s'.crp.drainAt = s.now) ∧
    asks (exec (.modeReqRetain src data) s) 9 (fun s' => s'.flag F.CRP_MODE_BUSY = true ∧ s'.crp.mainUp = false ∧ s'.crp.retaining = true ∧
      s'.flag F.CRP_PWR_STAT_MAIN_REQ = false ∧ s'.flag F.CRP_PWR_STAT_ISO_EN = true ∧ s'.flag F.CRP_PWR_STAT_HMP_FLUSH = true) ∧
    asks (exec (.modeReqSafe src data) s) 11 (fun s' => s'.mode = 11) ∧
    (r ≠ 0 → s.mayRequest r = false → (r ≠ 3 ∨ m ≠ 9) → Reaches s src R.CRP_MODE_CTRL → ∀ o ∈ [exec (.modeReqStandby src data) s,
        exec (.modeReqTrain src data) s, exec (.modeReqLock src data) s, exec (.modeReqRun src data) s, exec (.modeReqDrain src data) s,
        exec (.modeReqRetain src data) s, exec (.modeReqSafe src data) s],
      Answers o fun s' => s'.flag F.CRP_MODE_CTRL_ERR = true) ∧
    (m = 9 → s.crp.seq = none → s.flag F.CRP_MODE_BUSY = false →
      (r = 3 → Reaches s src R.CRP_MODE_CTRL → Answers (exec (.modeReqStandby src data) s) fun s' => wakes s' 1) ∧
      (r = 3 → Reaches s .csp R.CRP_MODE_CTRL → Answers (exec (.wakeRequest (.csp data)) s) fun s' => wakes s' 1) ∧
      (s.crp.wake14 = true → Answers (exec (.wakeRequest .tm14) s) fun s' => wakes s' 2) ∧
      (s.crp.wake15 = true → Answers (exec (.wakeRequest .tm15) s) fun s' => wakes s' 3) ∧
      (s.flag F.CRP_WAKE_ATTN_EN = true → Answers (exec (.wakeRequest .attention) s) fun s' => wakes s' 4)) ∧
    (m = 8 → s.drained = true → Answers (exec .drainComplete s) fun s' => s'.mode = 3 ∧ stopped s') ∧
    (m = 8 → s.f F.CRP_DRAIN_TMO ≠ 0 → Answers (exec .drainTimeout s) fun s' => s'.mode = 3 ∧ stopped s' ∧
      s'.flag F.CRP_DRAIN_TMO_HIT = true ∧ s.crp.drainAt + s.f F.CRP_DRAIN_TMO * usCycles ≤ s'.now) ∧
    (Reaches s .debug R.DBG_CTRL → wb data F.DBG_CTRL_DBG_RST = false →
      (wb data F.DBG_CTRL_HALT = true → wb data F.DBG_CTRL_RESUME = false → ((3 ≤ m ∧ m ≤ 8) ∨ m = 11) →
        Answers (exec (.debugHalt .debug data) s) fun s' => s'.mode = 10 ∧ s'.crp.haltMode.toNat = m ∧
          ∀ t < 128, s.thState t = TST.ready → (s'.thread t).st = TST.halted) ∧
      (wb data F.DBG_CTRL_HALT = false → wb data F.DBG_CTRL_RESUME = true → m = 10 → s.crp.haltMode.toNat ∈ [3, 4, 5, 6, 7, 8, 11] →
        Answers (exec (.debugResume .debug data) s) fun s' =>
          (let h := s.crp.haltMode.toNat
          s'.mode = if h = 4 ∧ (s'.allGroupsUp && s'.tandemTrains) = true then 5 else if h = 6 ∨ h = 7 then (if s'.degradedCond then 7 else 6) else h) ∧
          ∀ t < 128, (s.thread t).modeHalt = true → (s.thread t).st = TST.halted → (s'.thread t).st = (s.thread t).prev))

/-- R662 to R667: eight low samples begin a droop hold with PWR_BOOST and EV_DROOP, or extend the one in progress; it ends at its
time; hold time past DROOP_ALLOW begins the DROOP cause; the temperature follows its sensor, and reaching TRIP sets OVER and
raises EV_TEMP. Choices of the model in it: log entries 46, 47. -/
def Obligations.DroopAndTemperature : Prop :=
  ∀ (s : State) (v : BitVec 9), s.crp.headOn = true → s.crp.mainUp = true →
    let us := s.f F.CRP_DROOP_CFG_WARN_HOLD + 1
    let hold := s.flag F.CRP_DROOP_STAT_HOLD
    (hold = false → Answers (exec .droopWarnCross s) fun s' => s'.flag F.CRP_DROOP_STAT_HOLD = true ∧ s'.flag F.CRP_DROOP_STAT_BOOST = true ∧
      s'.crp.holdEnd = some (s.now + us * usCycles) ∧ s'.crp.holdStart = some (s.now + 1) ∧ s'.now = s.now + 1 ∧
      s'.sch.droopEvents = s.sch.droopEvents + 1 ∧ s'.evPending EV.droop = true) ∧
    (hold = true → Acts (exec .droopWarnCross s) s [.reset] (fun _ => false) fun s' =>
      s'.crp = { s.crp with holdEnd := some (s.now + s.crp.holdUs * usCycles) }) ∧
    (∀ t, s.crp.holdEnd = some t → Answers (exec .droopHoldEnd s) fun s' => s'.flag F.CRP_DROOP_STAT_HOLD = false ∧
      s'.flag F.CRP_DROOP_STAT_BOOST = false ∧ s'.crp.holdEnd = none ∧ s'.now = max s.now t) ∧
    (∀ t, s.crp.holdEnd = some t → s.flag F.SCH_CLS_STAT_DROOP = false →
      let limit := s.f F.SCH_SHIFT_CFG_DROOP_ALLOW * usCycles + 1
      s.now + (limit - s.droopNow) ≤ t → Acts (exec .droopAllowanceOverrun s) s [] (fun _ => false) fun s' =>
        s'.flag F.SCH_CLS_STAT_DROOP = true ∧ s'.now = s.now + (limit - s.droopNow)) ∧
    Acts (exec (.tempUpdate v) s) s [] (fun off => off == R.CRP_TEMP) fun s' =>
      s'.fi F.CRP_TEMP_T = v.toInt ∧ s'.now % (1000 * usCycles) = 0 ∧
      (s.fi F.CRP_TEMP_T < s.fi F.CRP_TEMP_TRIP → s.fi F.CRP_TEMP_TRIP ≤ v.toInt →
        s'.flag F.CRP_TEMP_OVER = true ∧ s'.evPending EV.temp = true)

/-! ## The schedule and images -/

/-- R41, R46, R50, R52, R53, R58, R95, R101: an epoch start moves fabric time to a multiple of 4,096 and an UP group sends its mark;
a received mark gives the peer's status, the error and the servo's next state; a missing one is counted and can lead to
HOLDOVER; the expiries lead to FREE, a standby winder takes over, and RELOCK restarts the servo. Choices of the model in it: log
entries 37, 42, 43, 45. -/
def Obligations.TimeLock : Prop :=
  ∀ (s : State) (g : Fin 8) (mark : BitVec 64) (arr : BitVec 70) (src : RegSrc) (data : Word),
    s.crp.mainUp = true → s.sch.ft.toNat + 2 ^ 40 < 2 ^ 64 →
    let m := mark.toNat
    let role := s.f F.SCH_TL_CFG_ROLE
    let ft (a : State) : Nat := a.sch.ft.toNat
    let hold := 4096 * s.f F.SCH_TL_CFG_HOLD_EPOCHS
    let e : Int := (arr.toNat : Int) - ((64 * (4096 * s.fullEpoch (m % 2 ^ 28)) : Nat) + (s.f (F.SCH_LGn_DELAY_DELAY g) + s.cfg.active.pmaIn g : Nat) -
      sext (m / 2 ^ 28 % 32) 5)
    Answers (exec .markEpochStart s) (fun s' => ft s' % 4096 = 0 ∧ ft s ≤ ft s' ∧ ft s' ≤ ft s + 4096 ∧ s'.sch.lastEpoch = some s'.sch.ft ∧
      (s.sch.lastEpoch = some s.sch.ft → ft s < ft s')) ∧
    (s.tstate g = 7 → (∀ h < 8, h ≠ g.val → s.tstate h < 4) → (s.lg g).egSlot = 0 → (s.lg g).remap = none → (s.lg g).width = none →
      s.flag (F.LNK_LGn_STAT_DEGRADED g) = false → s.spe g ≠ 0 →
      (s.lg g).resend ≤ (s.lg g).replay.length → Answers (exec .markEpochStart s) fun s' =>
        ∃ w : BitVec 64, Emits s s' (.mark g w) ∧ w.toNat % 2 ^ 28 = ft s' / 4096 % 2 ^ 28 ∧ w.toNat / 2 ^ 38 % 8 = s.servo) ∧
    (4 ≤ s.tstate g → s.foreignWinder g = false → bits m 0 3 ≠ 7 →
      Answers (exec (.timeMarkReceive g mark arr) s) fun s' =>
        s'.f (F.SCH_LGn_PEER_PEER_LOCK g) = m / 2 ^ 38 % 8 ∧ s'.flag (F.SCH_LGn_PEER_PEER_VOID g) = mark.getLsbD 42 ∧
        s'.flag (F.SCH_LGn_PEER_PEER_PSUSP g) = mark.getLsbD 41 ∧ s'.flag (F.SCH_LGn_PEER_PEER_DROOP g) = mark.getLsbD 43 ∧
        s'.flag (F.SCH_LGn_PEER_PEER_SWAP g) = mark.getLsbD 44 ∧ s'.f (F.SCH_LGn_PEER_PEER_HOPS g) = m / 2 ^ 33 % 32 ∧
        s'.flag (F.SCH_LGn_PEER_MARK_MISS g) = false ∧
        (g.val = s.upstream → role = 0 → arr.toNat / 64 + 112 ≤ ft s → (s.servo = 2 ∨ s.servo = 3) →
          s'.f F.SCH_TL_STAT_HOPS = min 31 (m / 2 ^ 33 % 32 + 1) ∧ s'.fi F.SCH_TL_STAT_ERR = max (-127) (min 127 e) ∧
          s'.servo = (if s.servo = 3 then (if e.natAbs > 8 then 2 else 3)
            else if e.natAbs ≤ 6 ∧ 3 ≤ m / 2 ^ 38 % 8 ∧ m / 2 ^ 38 % 8 ≤ 5 ∧ 16 ≤ s.sch.good + 1 then 3 else 2))) ∧
    Answers (exec (.markMissing g) s) (fun s' => s'.flag (F.SCH_LGn_PEER_MARK_MISS g) = true ∧
      (g.val = s.upstream → role = 0 → s.servo = 3 → s'.servo = if 2 ≤ s.sch.missRun + 1 then 4 else 3)) ∧
    (s.servo = 4 → role ≠ 1 → Answers (exec .holdoverExpiry s) fun s' => s'.servo = 0 ∧ ft s' = max (ft s) (s.sch.since.toNat + hold) % 2 ^ 64) ∧
    (s.servo = 1 → role ≠ 1 → Answers (exec .acquireTimeout s) fun s' => s'.servo = 0 ∧ ft s' = max (ft s) (s.sch.since.toNat + hold) % 2 ^ 64) ∧
    (s.servo = 0 → role = 2 → s.sch.standbyExpired = true → s.upstream ≠ 8 → Answers (exec .winderTakeover s) fun s' => s'.servo = 5 ∧
      s'.flag F.SCH_TL_STAT_ACQD = true ∧ s'.f F.SCH_TL_STAT_HOPS = 0 ∧ s'.sch.standbyExpired = false ∧
      ft s' = max (ft s) (s.sch.winderHeard.toNat + hold) % 2 ^ 64) ∧
    (Reaches s src R.SCH_TL_CTRL → s.unlocked → wb data F.SCH_TL_CTRL_RELOCK = true → s.upstream ≠ 8 →
      Answers (exec (.relock src data) s) fun s' => s'.servo = (if role = 1 then 5 else 0) ∧ s'.flag F.SCH_TL_STAT_ACQD = (role == 1) ∧
        s'.flag F.SCH_TL_CTRL_FREEZE = wb data F.SCH_TL_CTRL_FREEZE)

/-- R65, R68 to R70, R72, R77, R134, R135: at the decision point an armed image becomes PENDING or misses; a cancelled swap shows
and drops the half; at the boundary the counters go to the report's shadow and a pending half becomes the active one; 1,024
cycles later the report is published. Choices of the model in it: log entries 27, 46, 51. -/
def Obligations.ShiftsAndSwaps : Prop :=
  ∀ (s : State), s.crp.mainUp = true → s.sch.ft.toNat + s.shiftLen < 2 ^ 64 → s.nextDecision * s.shiftLen < 2 ^ 64 →
    let ft (a : State) : Nat := a.sch.ft.toNat
    let len := s.shiftLen
    let n := s.nextDecision
    let pend := s.flag F.SCH_BSTAT_SWAP_PEND
    let st (a : State) : Nat := a.f F.CFG_STAT_STAGED
    (s.cfg.armedFor = some n → st s = 4 → s.pairReady = true → Answers (exec .swapDecisionPoint s) fun s' =>
      st s' = 5 ∧ s'.flag F.SCH_BSTAT_SWAP_PEND = true ∧ ft s' = max (ft s) (n * len - 16384)) ∧
    (s.cfg.armedFor = some n → (st s ≠ 4 ∨ s.pairReady = false) → Answers (exec .swapDecisionPoint s) fun s' =>
      st s' = (if st s = 4 then 3 else st s) ∧ s'.flag F.SCH_BSTAT_SWAP_MISS = true ∧ s'.cfg.armedFor = none ∧
      s'.flag F.SCH_BSTAT_SWAP_PEND = pend) ∧
    (s.cfg.armedFor ≠ some n → Acts (exec .swapDecisionPoint s) s [] (fun _ => false) fun s' => ft s' = max (ft s) (n * len - 16384)) ∧
    (pend = true → s.tnd? ≠ 3 → Acts (exec .swapCancel s) s [.image] (fun off => off == F.SCH_BSTAT_SWAP_PEND.off) fun s' =>
      s'.flag F.SCH_BSTAT_SWAP_PEND = false ∧ s'.flag F.SCH_BSTAT_SWAP_CANCEL = true ∧ s'.cfg = { s.cfg with staged := Half.empty }) ∧
    Answers (exec .shiftBoundary s) (fun s' => ft s' % len = 0 ∧ ft s ≤ ft s' ∧ ft s' ≤ ft s + len ∧ s'.sch.lastBoundary = some s'.sch.ft ∧
      s'.flag F.SCH_RPT_STAT_FILLING = true ∧
      (s.str.runs = [] → ∀ c < 0x1000, c ≠ Cnt.sch 6 → ¬(Cnt.drift 0 0 ≤ c ∧ c < Cnt.smem 0) → (∀ p < 8, c ≠ Cnt.hmp p 7) →
        kget 0 s'.sch.shadow c = (kget 0 s.sch.counters c : BitVec 64)) ∧
      (s.swapsAt (ft s' / len) = true → s'.cfg.active = s.cfg.staged ∧ s'.cfg.staged = Half.empty ∧ s'.cfg.imageActive = true ∧
        s'.flag F.SCH_BSTAT_SWAP_PEND = false ∧ s'.flag F.SCH_BSTAT_SWAP_DONE = true) ∧
      (s.swapsAt (ft s' / len) = false → s'.cfg.active = s.cfg.active ∧ s'.flag F.SCH_BSTAT_SWAP_DONE = false)) ∧
    (∀ b, s.sch.lastBoundary = some b → s.flag F.SCH_RPT_STAT_FILLING = true → Answers (exec .reportPublish s) fun s' =>
      let bank := 1 - s.f F.SCH_RPT_STAT_BANK
      ft s' = max (ft s) (b.toNat + 1024) % 2 ^ 64 ∧ s'.f F.SCH_RPT_STAT_SEQ = (s.f F.SCH_RPT_STAT_SEQ + 1) % 2 ^ 24 ∧ s'.f F.SCH_RPT_STAT_BANK = bank ∧
      s'.flag F.SCH_RPT_STAT_FILLING = false ∧ s'.flag F.SCH_RPT_STAT_VALID = true ∧ s'.evPending EV.shift = true ∧
      (s.sch.shadowHdr.length = 16 → ∀ i < 1016, kget 0 (s'.bank bank) (16 + 2 * i) = (kget 0 s.sch.shadow (0x40 + 8 * i) : BitVec 64).setWidth 32 ∧
        kget 0 (s'.bank bank) (17 + 2 * i) = ((kget 0 s.sch.shadow (0x40 + 8 * i) : BitVec 64) >>> 32).setWidth 32))

/-- R117 to R122, R126 to R134: START begins a load or is refused; a port word is taken or not; timeout, abort and a failing phase
end the load with their code; the phases lead to VALID; DISARM, ABORT and CFG_ARM move between VALID and ARMED; ACTIVATE makes
the staged half the active one and leaves LOAD for STANDBY. Choices of the model in it: log entries 5, 15, 51, 81. -/
def Obligations.ImageLoading : Prop :=
  ∀ (s : State) (src : RegSrc) (data : Word) (w : BitVec 64) (ecc : Option (Fin 512)), s.crp.mainUp = true →
    let st (a : State) : Nat := a.f F.CFG_STAT_STAGED
    let loading := st s = 1 ∨ st s = 2
    let c := s.cfg
    let cfgRegs (off : Nat) : Bool := decide (R.CFG_CTRL ≤ off) && decide (off ≤ R.CFG_STG_PLAN_HI)
    let only (x : Fld) : Prop := ∀ y ∈ [F.CFG_CTRL_START, F.CFG_CTRL_ABORT, F.CFG_CTRL_DISARM, F.CFG_CTRL_ACTIVATE], wb data y = (x == y)
    let ends (s' : State) (code : Nat) : Prop := st s' = 0 ∧ s'.f F.CFG_STAT_CODE = code ∧ s'.cfg.staged = Half.empty ∧
      s'.cfg.armedFor = none ∧ s'.evPending EV.imgFail = true
    let acts (o : Host.Outcome State Fault Refusal) (P : State → Prop) : Prop := Acts o s [.image] cfgRegs P
    let valid (s' : State) : Prop := st s' = 3 ∧ s'.f F.CFG_STAT_CODE = 0 ∧ s'.evPending EV.imgDone = true
    let armN := data.toNat + 2 ^ 32 * (s.reg R.CFG_ARM_HI).toNat
    (Reaches s src R.CFG_CTRL → only F.CFG_CTRL_START →
      (¬loading → st s ≠ 5 → s.flag F.SCH_BSTAT_SWAP_PEND = false → acts (exec (.loadStart src data) s) fun s' => st s' = 1 ∧
        s'.f F.CFG_PROGRESS_BYTES = 0 ∧ s'.cfg.rx = [] ∧ s'.cfg.dir = [] ∧ s'.cfg.staged = Half.empty ∧
        s'.cfg.fromHost = wb data F.CFG_CTRL_SRC ∧ s'.cfg.gen = c.gen + 1 ∧ s'.cfg.active = c.active) ∧
      ((loading ∨ st s = 5 ∨ s.flag F.SCH_BSTAT_SWAP_PEND = true) → Acts (exec (.loadStart src data) s) s [] cfgRegs fun s' =>
        s'.flag F.CFG_STAT_START_ERR = true ∧ st s' = st s)) ∧
    (st s = 1 → c.fromHost = false → c.received = false →
      Answers (exec (.cfgWord w) s) (fun s' => s'.cfg.rx = w :: c.rx ∧ Emits s s' (.cfgTaken true) ∧
        s'.f F.CFG_PROGRESS_BYTES = (8 * c.rx.length + 8) % 2 ^ F.CFG_PROGRESS_BYTES.w ∧ s'.now = max s.now (c.lastWord + 8)) ∧
      acts (exec .cfgTimeout s) fun s' => ends s' 0x1D ∧ s'.now = max s.now (c.lastWord + 2 ^ 24 * 8)) ∧
    ((st s ≠ 1 ∨ c.fromHost = true ∨ c.received = true) → Acts (exec (.cfgWord w) s) s [] (fun _ => false) fun s' =>
      Emits s s' (.cfgTaken false)) ∧
    (s.crossWaits = true →
      (s.crossResult (ecc.map fun i => i.val) = none → c.sigOk = false → acts (exec (.crossPhaseDone ecc) s) fun s' =>
        s'.cfg.crossOk = true ∧ st s' = st s) ∧
      (s.crossResult (ecc.map fun i => i.val) = none → c.sigOk = true → c.received = true → c.armedFor = none →
        acts (exec (.crossPhaseDone ecc) s) valid) ∧
      (∀ f, s.crossResult (ecc.map fun i => i.val) = some f → s.sigWaits = false →
        acts (exec (.crossPhaseDone ecc) s) fun s' => ends s' (f.1 % 2 ^ F.CFG_STAT_CODE.w))) ∧
    (s.sigWaits = true →
      (s.sigResult = none → c.crossOk = false → acts (exec .signaturePhaseDone s) fun s' => s'.cfg.sigOk = true ∧ st s' = st s) ∧
      (s.sigResult = none → c.crossOk = true → c.armedFor = none → acts (exec .signaturePhaseDone s) valid) ∧
      (∀ f, s.sigResult = some f → s.crossWaits = false →
        acts (exec .signaturePhaseDone s) fun s' => ends s' (f.1 % 2 ^ F.CFG_STAT_CODE.w))) ∧
    (Reaches s src R.CFG_CTRL →
      (only F.CFG_CTRL_ABORT → loading → acts (exec (.loadAbort src data) s) fun s' => ends s' 0x1E) ∧
      (only F.CFG_CTRL_ABORT → st s = 4 → acts (exec (.loadAbort src data) s) fun s' => st s' = 3 ∧ s'.cfg.armedFor = none) ∧
      (only F.CFG_CTRL_DISARM → st s = 4 → acts (exec (.disarm src data) s) fun s' => st s' = 3 ∧ s'.cfg.armedFor = none) ∧
      (only F.CFG_CTRL_ACTIVATE → c.imageActive = false → st s = 3 → s.mode = 2 → Answers (exec (.activate src data) s) fun s' =>
        s'.cfg.imageActive = true ∧ s'.cfg.active = c.staged ∧ s'.cfg.staged = Half.empty ∧ st s' = 0 ∧ s'.mode = 3 ∧
        ∀ t < 128, c.staged.tflag t TF.exists_ = true → (s'.thread t).st = TST.ready)) ∧
    (Reaches s src R.CFG_ARM_LO → c.hdrArms = false →
      (s.decisionPast armN = false → (st s = 1 ∨ st s = 2 ∨ st s = 3 ∨ st s = 4) → acts (exec (.arm src data) s) fun s' =>
        st s' = (if st s = 3 then 4 else st s) ∧ s'.cfg.armedFor = some armN) ∧
      ((s.decisionPast armN = true ∨ st s = 0 ∨ st s = 5) → Acts (exec (.arm src data) s) s [] cfgRegs fun s' =>
        s'.flag F.CFG_STAT_ARM_ERR = true)) ∧
    (Reaches s src R.CFG_ARM_LO → c.hdrArms = true → Acts (exec (.arm src data) s) s [] cfgRegs fun s' => s'.flag F.CFG_STAT_ARM_ERR = true)

/-! ## Link groups -/

/-- R155, R159, R160, R168 to R174, R190, R196, R206, R217, R218, R227, R232, R652, R658: RX valid, the enable, codewords and TRAIN
messages take a group from OFF towards DELAY; a timeout, RETRAIN, a TRAIN flit in UP and LINK reset take it back to SIGNAL, or
to ALIGN where every lane has a signal; a key is loaded, erased and armed, or refused. Choices of the model in it: log entries
8, 38, 41. -/
def Obligations.LinkTraining : Prop :=
  ∀ (s : State) (src : RegSrc) (g : Fin 8) (l set : Fin 18) (data : Word) (f : Flit) (arr : BitVec 64) (cw : List (BitVec 5440))
      (skew : List (BitVec 9)) (v : Bool),
    s.crp.mainUp = true →
    let x := s.lg g
    let ts (a : State) : Nat := a.tstate g
    let lnkReg (off : Nat) : Bool := decide (0x80000 ≤ off) && decide (off < 0x90000)
    let acts (o : Host.Outcome State Fault Refusal) (P : State → Prop) : Prop := Acts o s [.links] lnkReg P
    let lanes := (List.range (2 ^ s.f (F.LNK_LGn_CFG_WIDTH g))).map fun i => s.f (F.LNK_LGn_CFG_BASE g) + i
    let phys := lanes.map fun k => s.rxPhys g k
    let sig (k : Nat) : Bool := s.flag (F.LNK_Ln_STAT_SIG k)
    let trains := 4 ≤ s.mode ∧ s.mode ≤ 7
    let fresh := if (∀ k ∈ phys, sig k = true) ∧ trains then 2 else 1
    let spared := ts s = 7 ∧ s.setLanes g ≠ 1 ∧ s.flag (F.LNK_LGn_CTRL_REMAP_EN g) = true
    let restarts (s' : State) : Prop := (ts s' = 1 ∨ ts s' = 2) ∧ (¬spared → ts s' = fresh)
    let back (s' : State) (keep : Bool) : Prop := restarts s' ∧ (s'.lg g).seqKeep = keep ∧ (s'.lg g).ctrlQ = [] ∧
      (s'.lg g).replay = x.replay ∧ (ts s = 7 → s'.evPending (EV.lnkDown g) = true)
    let idle (a : State) (k : Nat) : Bool := (a.lane k).idle
    let alone := ∀ k ∈ lanes, k < 16 ∧ ∀ h : Fin 8, h ≠ g → s.tstate h = 0 ∨ (s.cfgLanes h).contains k = false
    let en := wb data (F.LNK_LGn_CTRL_EN g)
    let re := wb data (F.LNK_LGn_CTRL_RETRAIN g)
    let isTrain (c : Nat) : Prop := f.typ = 4 ∧ f.crc = f.crcOf ∧ f.reserved = false ∧ (f.mk? = true ∨ f.ext = 0) ∧ f.cmd = c
    let ack (s' : State) : Prop := (s'.lg g).ctrlQ = x.ctrlQ ++ [mkFlit 4 0 false false false 0 0 (ctrlPay 0x11 f.txn (s.paramArgs g))]
    let entersDelay (s' : State) : Prop := ts s' = 5 ∧ (s'.lg g).replay = [] ∧ s'.f (F.LNK_LGn_SEQ_TX_NEXT g) = 0 ∧
      s'.f (F.LNK_LGn_RSEQ_RX_NEXT g) = 0 ∧ ∀ p < 8, s'.f (F.LNK_LGn_CREDv_TX_AVAIL g p) = f.le (16 + 2 * p) 2
    let t14 (t a : Nat) : Nat := (t + 2 ^ 64 - a) % 2 ^ 64
    let rxLat := s.f F.SCH_PMA_LAT_RX_LAT
    let dir := wf data (F.LNK_LGn_KEY_CMD_DIR g)
    let slot := wf data (F.LNK_LGn_KEY_CMD_SLOT g)
    let key := 2 * dir + slot
    let refusedKey (o : Host.Outcome State Fault Refusal) : Prop := acts o fun s' => s'.flag (F.LNK_LGn_GCM_CTRL_KEY_ERR g) = true ∧ s'.lg g = x
    let inUse (d k : Nat) : Prop := if d = 0 then s.flag (F.LNK_LGn_STAT_PROT_ON g) = true ∧ s.f (F.LNK_LGn_GCM_CTRL_TX_KP g) = k
      else x.rxOn = true ∧ b2n x.rxKp = k
    let valid := s.f (F.LNK_LGn_GCM_CTRL_SLOT_VALID g)
    let next (d : Nat) : Nat := if d = 0 then (if s.flag (F.LNK_LGn_STAT_PROT_ON g) then 1 - s.f (F.LNK_LGn_GCM_CTRL_TX_KP g) else 0)
      else if x.rxOn then 1 - b2n x.rxKp else 0
    (acts (exec (.laneRxValidChange l v) s) fun s' => s'.flag (F.LNK_Ln_STAT_SIG l) = v ∧
      (v = false → s'.flag (F.LNK_Ln_STAT_ALIGNED l) = false) ∧
      (v = false → sig l = true → s'.flag (F.LNK_Ln_STAT_FAILED l) = true) ∧
      (v = true → ts s = 1 → trains → s.flag (F.LNK_LGn_CFG_ACTIVE g) = true → l.val ∈ phys → (∀ k ∈ phys, k ≠ l → sig k = true) →
        ts s' = 2)) ∧
    (Reaches s src (R.LNK_LGn_CTRL g) →
      (en = true → re = false → ts s = 0 → s.flag (F.LNK_LGn_CFG_ACTIVE g) = true → trains → s.tandemTrains = true →
        acts (exec (.linkGroupEnable src g data) s) fun s' => ts s' = fresh ∧ s'.flag (F.LNK_LGn_CTRL_EN g) = true ∧
          (alone → ∀ k ∈ lanes, idle s' k = s.flag (F.LNK_Ln_CTRL_TX_IDLE k) ∧ (idle s' k = idle s k ∨ Emits s s' (.laneIdle k (idle s' k))))) ∧
      (en = false → re = false → acts (exec (.linkGroupEnable src g data) s) fun s' => ts s' = 0 ∧ s'.flag (F.LNK_LGn_CTRL_EN g) = false ∧
        (ts s ≠ 0 → alone → ∀ k ∈ lanes, idle s' k = true ∧ (idle s k = true ∨ Emits s s' (.laneIdle k true))) ∧
        (ts s = 7 → s'.evPending (EV.lnkDown g) = true)) ∧
      (en = true → re = true → ts s ≠ 0 → acts (exec (.retrain src g data) s) fun s' => back s' true)) ∧
    (ts s < 2 → Acts (exec (.codewordReceive g set cw skew) s) s [] (fun _ => false) fun s' => s'.lg g = x) ∧
    (let n := s.setLanes g
    let own := s.setPhys g set
    let sets := List.range (2 ^ s.f (F.LNK_LGn_CFG_WIDTH g) / n)
    let detect := s.f (F.LNK_LGn_PARM_FEC_MODE g) == 1
    let got := (List.range own.length).map fun j => (cw.map BitVec.toNat).getD j 0
    let late (j : Nat) : Nat := (skew.map BitVec.toNat).getD j 0
    let opened := openOrder detect own.length got (s.orderOf g set own.length detect got)
    let spares := [16, 17].filter fun p => Nat.testBit (s.f (F.LNK_LGn_CFG_SPARE_OK g)) (p - 16) && s.flag (F.LNK_Ln_STAT_ALIGNED p)
    2 ≤ ts s → (set.val ∈ sets ∧ s.f (F.LNK_LGn_CFG_BASE g) + 2 ^ s.f (F.LNK_LGn_CFG_WIDTH g) ≤ 16) ∨ 16 ≤ set.val → own.Nodup →
      acts (exec (.codewordReceive g set cw skew) s) fun s' =>
        (opened = none → ∀ k ∈ own, s'.flag (F.LNK_Ln_STAT_ALIGNED k) = false ∧ (s.lane k).bad + 1 = (s'.lane k).bad ∧
          ((s.lane k).bad = 3 → s'.flag (F.LNK_Ln_STAT_FAILED k) = true)) ∧
        (∀ fu d pos, opened = some (fu, d, pos) → fuGood fu = true →
          (∀ j < own.length, let k := own.getD j 0
            s'.flag (F.LNK_Ln_STAT_ALIGNED k) = true ∧ s'.f (F.LNK_Ln_STAT_RX_LANE k) = fuLane fu ∧
            s'.f (F.LNK_Ln_STAT_SKEW k) = late j ∧ (s'.lane k).bad = 0) ∧
          (s.trainedSet g set = some set → (∀ k ∈ own, ∀ q, s.logicalOf k = some q → q.1 = g) →
            (ts s = 2 → 2 ≤ kget 0 x.goodCw set → (∀ j ∈ sets, j ≠ set → 3 ≤ kget 0 x.goodCw j) → ts s' = 3) ∧
            (ts s = 3 →
              let place (j : Nat) : Nat := if j = set then fuLane fu % 2 ^ s.f (F.LNK_LGn_CFG_WIDTH g) / n + 1 else kget 0 x.goodCw j
              (∀ i ∈ sets, ∃ j ∈ sets, place j = i + 1) → (∀ j < own.length, late j ≤ 256) →
              (∀ k ∈ phys ++ spares, k ∉ own → s.f (F.LNK_Ln_STAT_SKEW k) ≤ 256) → ts s' = 4 ∧ (s'.lg g).rxPos = sets.map fun j => place j - 1)))) ∧
    (2 ≤ ts s → ts s ≤ 5 → acts (exec (.trainTimeout g) s) fun s' => back s' x.seqKeep ∧ s'.flag (F.LNK_LGn_STAT_TRAIN_FAIL g) = true ∧
      s'.evPending (EV.lnkTrain g) = true ∧ s'.now = max s.now (x.entered + if ts s = 3 then 200000 else 2000000)) ∧
    (ts s = 7 → (isTrain 0x10 → acts (exec (.param g f) s) fun s' => back s' true)) ∧
    (ts s = 4 → s.paramMatch g f = false → (isTrain 0x10 → acts (exec (.param g f) s) fun s' => s'.flag (F.LNK_LGn_STAT_PEER_ERR g) = true ∧ s'.lg g = x) ∧
      (isTrain 0x11 → acts (exec (.paramAck g f) s) fun s' => s'.flag (F.LNK_LGn_STAT_PEER_ERR g) = true ∧ s'.lg g = x)) ∧
    (ts s = 4 → s.paramMatch g f = true → (x.seqKeep = false ∨ (f.byte 11).testBit 0 = false) →
      (isTrain 0x10 → acts (exec (.param g f) s) fun s' => ack s' ∧ (s'.lg g).paramSeen = true ∧
        (x.ackSeen = true → entersDelay s') ∧ (x.ackSeen = false → ts s' = 4)) ∧
      (isTrain 0x11 → acts (exec (.paramAck g f) s) fun s' => (s'.lg g).ackSeen = true ∧ (x.paramSeen = true → entersDelay s') ∧
        (x.paramSeen = false → ts s' = 4))) ∧
    ((ts s = 5 ∨ ts s = 6) → isTrain 0x10 → acts (exec (.param g f) s) fun s' => ack s' ∧ ts s' = ts s) ∧
    (4 ≤ ts s → ts s ≤ 6 → isTrain 0x12 → acts (exec (.delayReq g f arr) s) fun s' => s'.lg g = { x with
      dlyRsp := x.dlyRsp ++ [ctrlPay 0x13 f.txn (2 ^ 32 * f.le 8 8 + 2 ^ 96 * t14 arr.toNat rxLat)] }) ∧
    (ts s = 5 → x.dlyCount < 16 → isTrain 0x13 → acts (exec (.delayRsp g f arr) s) fun s' =>
      let sum := x.dlySum + sext (t14 arr.toNat rxLat + 2 ^ 65 - f.le 8 8 - f.le 24 8 + f.le 16 8) 64
      (s'.lg g).dlyCount = x.dlyCount + 1 ∧ (s'.lg g).dlySum = sum ∧
      (x.dlyCount < 15 → ts s' = 5) ∧ (x.dlyCount = 15 → s'.f (F.SCH_LGn_DELAY_DELAY g) = ((sum + 16) / 32).toNat % 2 ^ 24 ∧
        ts s' = if 16 ≤ x.dlyAnswered then 6 else 5)) ∧
    (Reaches s src (R.LNK_LGn_KEY_CMD g) →
      (wb data (F.LNK_LGn_KEY_CMD_LOAD g) = true → wb data (F.LNK_LGn_KEY_CMD_ERASE g) = false →
        (inUse dir slot → refusedKey (exec (.keyLoad src g data) s)) ∧
        (¬inUse dir slot → acts (exec (.keyLoad src g data) s) fun s' =>
          (kget { key := 0, salt := 0 } (s'.lg g).keys key).salt = s.reg (R.LNK_LGn_SALT g) ∧
          (∀ w < 8, ((kget { key := 0, salt := 0 } (s'.lg g).keys key).key >>> (32 * w)).setWidth 32 = s.reg (R.LNK_LGn_KEYw g w) ∧
            s'.reg (R.LNK_LGn_KEYw g w) = 0) ∧
          s'.reg (R.LNK_LGn_SALT g) = 0 ∧ (s'.f (F.LNK_LGn_GCM_CTRL_SLOT_VALID g)) = valid ||| 2 ^ key)) ∧
      (wb data (F.LNK_LGn_KEY_CMD_LOAD g) = false → wb data (F.LNK_LGn_KEY_CMD_ERASE g) = true →
        (inUse dir slot → refusedKey (exec (.keyErase src g data) s)) ∧
        (¬inUse dir slot → acts (exec (.keyErase src g data) s) fun s' => kget { key := 0, salt := 0 } (s'.lg g).keys key = { key := 0, salt := 0 } ∧
          ∀ k < 4, (s'.f (F.LNK_LGn_GCM_CTRL_SLOT_VALID g)).testBit k = (valid.testBit k && k != key)))) ∧
    (Reaches s src (R.LNK_LGn_GCM_ARM_LO g) →
      let n := data.toNat + 2 ^ 32 * (s.reg (R.LNK_LGn_GCM_ARM_HI g)).toNat
      let late := n * s.shiftLen < s.sch.ft.toNat + 4096
      (¬late → valid.testBit (next 0) = true → valid.testBit (2 + next 1) = true → acts (exec (.gcmArm src g data) s) fun s' =>
        s'.lg g = { x with arm := some n } ∧ s'.flag (F.LNK_LGn_GCM_CTRL_ARMED g) = true) ∧
      ((late ∨ valid.testBit (next 0) = false ∨ valid.testBit (2 + next 1) = false) → refusedKey (exec (.gcmArm src g data) s))) ∧
    (Reaches s src R.CRP_LINK_RST → data.toNat.testBit g = true → Acts (exec (.linkReset src data) s) s [.links]
      (fun off => lnkReg off || off == R.CRP_LINK_RST) fun s' => (if ts s = 0 then ts s' = 0 else restarts s') ∧
        (ts s = 7 → s'.evPending (EV.lnkDown g) = true) ∧ (s'.lg g).replay = [] ∧ (s'.lg g).landQ = [] ∧ (s'.lg g).keys = [] ∧
        (s'.lg g).seqKeep = false ∧ (s'.lg g).arm = none ∧ s'.f (F.LNK_LGn_GCM_CTRL_SLOT_VALID g) = 0 ∧ s'.reg (R.LNK_LGn_SEQ g) = 0 ∧
        s'.reg (R.LNK_LGn_RSEQ g) = 0 ∧ s'.flag (F.LNK_LGn_STAT_PROT_ON g) = false ∧ ∀ p < 8, s'.f (F.LNK_LGn_CREDv_TX_AVAIL g p) = 0)

/-- R42, R84, R177, R181, R182, R188 to R190, R194 to R203, R256, R293: a group sends in its next flit slot what the calendar, CTRL,
replay, credits and IDLE give, in that order, a new flit with its copy in the replay buffer in staging memory; an arriving flit
is placed, lands, acknowledges, returns credits, or is a hole, a NAK, a discard or a slot violation; the timers make a credit
return and an acknowledgement due and replay the buffer or retrain. Choices of the model in it: log entries 7, 13, 92, 104. -/
def Obligations.LinkFlits : Prop :=
  ∀ (s : State) (g : Fin 8) (fo : Option Flit) (arr : BitVec 70), s.crp.mainUp = true →
    let x := s.lg g
    let ts (a : State) : Nat := a.tstate g
    let lnkReg (off : Nat) : Bool := decide (0x80000 ≤ off) && decide (off < 0x90000)
    let acts (o : Host.Outcome State Fault Refusal) (P : State → Prop) : Prop := Acts o s [.links] lnkReg P
    let quiet := s.str.runs = []
    let back (s' : State) : Prop := (ts s' = 1 ∨ ts s' = 2) ∧ (s'.lg g).seqKeep = true ∧ s'.evPending (EV.lnkDown g) = true
    let data := (s.mode = 6 ∨ s.mode = 7 ∨ s.mode = 8) ∧ s.fenced = false
    let transit (tag : Nat) : Bool := match s.cfg.active.tagKind tag with
      | .forward _ => true
      | _ => false
    let q := s.nextSlot g
    let place := s.slotInShift (s.spe g) q
    let sendsBut (but : List Part) (P : Flit → State → Prop) : Prop := Acts (exec (.egressSlot g) s) s (.links :: but)
      (fun off => lnkReg off || (but != [] && driftReg off)) fun s' => ∃ f : Flit, Emits s s' (.flit g q f) ∧ f.crc = f.crcOf ∧
        f.mk? = (q % s.spe g == 0 && decide (4 ≤ ts s)) ∧ P f s' ∧ (s'.lg g).egSlot = q + 1 ∧
        s'.sch.ft.toNat = max s.sch.ft.toNat (slotCycle (s.spe g) q) % 2 ^ 64
    let sends (P : Flit → State → Prop) : Prop := sendsBut [] P
    let out (f : Flit) (typ vc num : Nat) (pay : BitVec 1920) : Prop := f.typ = typ ∧ f.vc = vc ∧ f.num = num ∧ f.pay = pay
    let k := x.rxq.head?.map fun e => e.1
    let got := (x.rxq.head?.map fun e => e.2).getD fo
    let a := (s.passPhase arr.toNat).arrivalSlot g k got arr.toNat
    let ci := calAt (s.liveCalendar g 1) (s.slotInShift (s.spe g) a)
    let t0 := slotPhase (s.spe g) a
    let flight := s.cfg.active.lineDelay g + s.cfg.active.pmaIn g
    let land := (t0 + flight + 96 * 64 + 63) / 64
    let lands (s' : State) (hole csv : Bool) (pay : BitVec 1920) : Prop := (s'.lg g).sLand = x.sLand ++ [
      { tag := BitVec.ofNat 17 ci.2, hole := hole, csv := csv, pay := pay, due := BitVec.ofNat 64 land, k := (s.countTag t0 ci.2).1 }]
    let takes (P : State → Prop) : Prop := acts (exec (.flitReceive g ⟨fo, arr⟩) s) fun s' => (ts s' = 7 → (s'.lg g).rxq = x.rxq.tail) ∧ P s'
    let lost := got.all fun f => f.crc ≠ f.crcOf || (s.openFlit g a f).isNone
    let here := transit ci.2 = false
    let rx := s.f (F.LNK_LGn_RSEQ_RX_NEXT g)
    let waited (s' : State) (t : Nat) : Prop := s'.now = max s.now t
    -- a flit leaves
    (1 ≤ ts s → s.flag (F.LNK_LGn_STAT_PROT_ON g) = false → s.que.inject = [] →
      (ts s ≤ 6 → (∀ f fs, x.ctrlQ = f :: fs → f.mk? = false → sends fun f' s' => f'.typ = f.typ ∧ (s'.lg g).ctrlQ = fs) ∧
        (x.ctrlQ = [] → ts s = 4 → sends fun f _ => out f 4 0 0 (ctrlPay 0x10 0 (s.paramArgs g))) ∧
        (x.ctrlQ = [] → ts s ≠ 4 → sends fun f _ => out f 0 0 0 0)) ∧
      (ts s = 7 → s.mode = 10 → sends fun f _ => out f 0 0 0 0) ∧
      (ts s = 7 → s.mode ≠ 10 → ∀ cls tag, calAt (s.liveCalendar g 0) place = (cls, tag) → tag < 2 ^ 17 →
        (cls = 0 → quiet → transit tag = false →
          (∀ e rest, x.egress = e :: rest → e.tag.toNat = tag → e.due.toNat ≤ slotCycle (s.spe g) q → data → sends fun f s' =>
            out f (if e.hole then 2 else 1) 0 tag e.pay ∧ (s'.lg g).egress = rest) ∧
          ((∀ e ∈ x.egress, e.tag.toNat ≠ tag) → sends fun f _ => out f 2 0 tag (holePay 3 s.epid (slotCycle (s.spe g) q)))) ∧
        (cls = 0 → transit tag = true →
          (∀ e rest, x.fwd = e :: rest → e.tag.toNat = tag → e.due.toNat ≤ slotCycle (s.spe g) q → data → sends fun f s' =>
            out f (if e.hole then 2 else 1) 0 tag e.pay ∧ (s'.lg g).fwd = rest) ∧
          ((∀ e ∈ x.fwd, e.tag.toNat ≠ tag) → sends fun f _ => out f 2 0 tag (holePay 3 s.epid (slotCycle (s.spe g) q)))) ∧
        (cls ≠ 0 → cls < 8 →
          (∀ f fs, x.ctrlQ = f :: fs → f.mk? = false → sends fun f' s' => f'.typ = f.typ ∧ (s'.lg g).ctrlQ = fs) ∧
          (x.ctrlQ = [] → data → 0 < x.resend → quiet → s.str.ecc = [] → s.str.poison = [] → s.f F.QUE_PEER_CFG_MAX = 0 →
            s.storeFault 7 g = false → ∀ b, x.replay[x.replay.length - x.resend]? = some b → sendsBut [.streams] fun f s' =>
              f.typ = 1 ∧ f.vc = b.vc.toNat ∧ f.num = b.num.toNat ∧ f.sh = b.sh ∧
              (∀ i < 240, f.byte i = (Memory.get s.str.mem (s.replayAddr g b.num.toNat + 16 + i)).toNat) ∧ (s'.lg g).resend = x.resend - 1) ∧
          (x.ctrlQ = [] → data → x.resend = 0 → x.replay.length < 8192 → ∀ b rest, kget [] x.bq cls = b :: rest → 0 < s.txAvail g cls →
            b.origin = none → sendsBut [.streams, .queues] fun f s' =>
              out f 1 cls (s.f (F.LNK_LGn_SEQ_TX_NEXT g)) b.pay ∧ kget [] (s'.lg g).bq cls = rest ∧
              s'.f (F.LNK_LGn_CREDv_TX_AVAIL g cls) = s.txAvail g cls - 1 ∧
              s'.f (F.LNK_LGn_SEQ_TX_NEXT g) = (s.f (F.LNK_LGn_SEQ_TX_NEXT g) + 1) % 2 ^ 17 ∧
              (s'.lg g).replay = x.replay ++ [
                { num := BitVec.ofNat 17 (s.f (F.LNK_LGn_SEQ_TX_NEXT g)), vc := BitVec.ofNat 3 cls, sh := false }] ∧
              (∀ i < 240, (Memory.get s'.str.mem (s.replayAddr g (s.f (F.LNK_LGn_SEQ_TX_NEXT g)) + 16 + i)).toNat = f.byte i) ∧
              (∀ y ∈ s'.que.out, b.msg = some (y.dst, y.reqId) → y.timer = some s'.que.msgClock)) ∧
          (x.ctrlQ = [] → x.resend = 0 → (∀ v, kget [] x.bq v = []) → sends fun f _ => out f 0 0 0 0)))) ∧
    (ts s = 7 → s.mode = 10 → ∀ y, s.que.inject = [y] → y.sched = none → s.flag F.CRP_DROOP_STAT_HOLD = false → segDst y.pay ≠ s.epid →
      ∀ h, s.routeGroup (segDst y.pay) = some h → (∀ b ∈ kget [] (s.lg h).bq y.vc, b.origin ≠ none) →
        Acts (exec (.egressSlot g) s) s [.links, .queues] lnkReg fun s' => s'.que.inject = [] ∧
          kget [] (s'.lg h).bq y.vc = kget [] (s.lg h).bq y.vc ++ [{ pay := y.pay, origin := none, msg := y.msg }]) ∧
    -- a flit arrives
    (ts s = 7 → quiet →
      (lost = true → ci.1 = 0 → here → takes fun s' => lands s' true false (holePay 1 s.epid (t0 / 64))) ∧
      (lost = true → ci.1 ≠ 0 → x.nakOut = false → takes fun s' => (s'.lg g).nakOwed = true ∧ (s'.lg g).nakOut = true) ∧
      (∀ f0, got = some f0 → f0.crc = f0.crcOf → ∀ f, s.openFlit g a f0 = some f → f.reserved = false →
        (f.typ = 4 → takes back) ∧
        ((f.mk? = true ∨ f.ext = 0) →
          (f.typ = 1 → f.vc = 0 → ci.1 = 0 → f.num = ci.2 → here → takes fun s' => lands s' false f.csv f.pay) ∧
          (f.typ = 2 → f.vc = 0 → ci.1 = 0 → here → takes fun s' => lands s' true f.csv f.pay) ∧
          (f.typ = 1 → f.vc = 0 → ci.1 = 0 → f.num = ci.2 → ∀ og, s.cfg.active.tagKind ci.2 = .forward og → (s.lg og).fwd.length < 512 →
            s.noWidth og = false → takes fun s' => (s'.lg og).fwd = (s.lg og).fwd ++ [
              { tag := BitVec.ofNat 17 ci.2, hole := false, csv := f.csv || s.csvFor g true false, pay := f.pay, k := 0
                due := BitVec.ofNat 64 ((t0 + flight + 64 * (if s.f (F.LNK_LGn_STAT_WIDTH g) = s.f (F.LNK_LGn_STAT_WIDTH og) ∧
                  s.f (F.LNK_LGn_CFG_RATE g) = s.f (F.LNK_LGn_CFG_RATE og) then 160 else 192) + 63) / 64) }]) ∧
          (((f.typ = 1 ∧ (f.vc ≠ 0 ∨ f.num ≠ ci.2)) ∨ (f.typ = 2 ∧ f.vc ≠ 0) ∨ f.typ = 0 ∨ f.typ = 3) → ci.1 = 0 → here → takes fun s' =>
            lands s' true false (holePay 2 s.epid (t0 / 64)) ∧ s'.flag (F.LNK_LGn_STAT_SLOT_VIOL g) = true ∧ s'.evPending (EV.lnkSlotv g) = true) ∧
          (((f.typ = 1 ∧ f.vc = 0) ∨ f.typ = 2) → ci.1 ≠ 0 → takes fun s' => s'.flag (F.LNK_LGn_STAT_SLOT_VIOL g) = true ∧
            s'.evPending (EV.lnkSlotv g) = true ∧ (s'.lg g).landQ = x.landQ ∧ (s'.lg g).sLand = x.sLand) ∧
          (f.typ = 1 → f.vc ≠ 0 → ci.1 ≠ 0 →
            let pool := if f.sh then 0 else f.vc
            (f.num = rx → x.landQ.length < 128 → 0 < s.rxFree g pool → takes fun s' => (s'.lg g).landQ = x.landQ ++ [f] ∧
              s'.f (F.LNK_LGn_RSEQ_RX_NEXT g) = (rx + 1) % 2 ^ 17 ∧ (s'.lg g).accepted = x.accepted + 1 ∧ s'.rxFree g pool = s.rxFree g pool - 1) ∧
            (f.num = rx → 128 ≤ x.landQ.length → x.nakOut = false → takes fun s' => s'.flag (F.LNK_LGn_STAT_LAND_OVF g) = true ∧
              (s'.lg g).nakOwed = true ∧ (s'.lg g).landQ = x.landQ) ∧
            (f.num = rx → x.landQ.length < 128 → s.rxFree g pool = 0 → takes fun s' => back s' ∧ s'.flag (F.LNK_LGn_STAT_PROTO_ERR g) = true) ∧
            (f.num ≠ rx → (rx + 2 ^ 17 - f.num) % 2 ^ 17 ≤ 2 ^ 16 → takes fun s' => (s'.lg g).landQ = x.landQ ∧ (s'.lg g).nakOwed = x.nakOwed) ∧
            (2 ^ 16 < (rx + 2 ^ 17 - f.num) % 2 ^ 17 → x.nakOut = false → takes fun s' => (s'.lg g).landQ = x.landQ ∧ (s'.lg g).nakOwed = true))) ∧
        (f.typ = 0 → f.mk? = false → ci.1 ≠ 0 →
          let ack := f.ext % 2 ^ 17
          let k := (ack + 1 + 2 ^ 17 - (s.f (F.LNK_LGn_SEQ_TX_NEXT g) + 2 ^ 17 - x.replay.length) % 2 ^ 17) % 2 ^ 17
          let v := f.ext / 2 ^ 19 % 8
          let n := f.ext / 2 ^ 22 % 2 ^ 12
          (f.ext.testBit 17 = true → n = 0 → 0 < k → k ≤ x.replay.length → takes fun s' => (s'.lg g).replay = x.replay.drop k ∧
            (s'.lg g).resend = if f.ext.testBit 18 then x.replay.length - k else min x.resend (x.replay.length - k)) ∧
          (f.ext.testBit 17 = true → n = 0 → x.replay.length < k → k < 2 ^ 16 → takes fun s' => back s' ∧ s'.flag (F.LNK_LGn_STAT_PROTO_ERR g) = true) ∧
          (f.ext.testBit 17 = false → s.txAvail g v + n ≤ kget 0 x.peerPool v → s.txAvail g v + n < 2 ^ 16 → takes fun s' =>
            s'.txAvail g v = s.txAvail g v + n) ∧
          (f.ext.testBit 17 = false → 0 < n → kget 0 x.peerPool v < s.txAvail g v + n → takes fun s' => back s' ∧
            s'.flag (F.LNK_LGn_STAT_PROTO_ERR g) = true)))) ∧
    -- timers
    (x.freed ≠ [] → quiet → acts (exec (.creditReturnTimer g) s) fun s' => s'.lg g = { x with creditDue := true } ∧
      waited s' (x.freedAt + s.f (F.LNK_LGn_PARM_CRET_INT g))) ∧
    (x.accepted ≠ 0 → ts s = 7 → quiet → acts (exec (.ackTimer g) s) fun s' => s'.lg g = { x with ackOwed := true } ∧
      waited s' (x.ackSentAt + 4 * s.f (F.LNK_LGn_PARM_ACK_INT g))) ∧
    (ts s = 7 → x.replay ≠ [] → x.remap = none → x.width = none → quiet → acts (exec (.replayTimeout g) s) fun s' =>
      waited s' (x.ackAt + 64 * s.f (F.LNK_LGn_PARM_REPLAY_TMO g)) ∧
      (x.timeouts + 1 < s.f (F.LNK_LGn_PARM_REPLAY_LIMIT g) → s'.lg g = { x with timeouts := x.timeouts + 1, ackAt := s'.now, resend := x.replay.length }) ∧
      (s.f (F.LNK_LGn_PARM_REPLAY_LIMIT g) ≤ x.timeouts + 1 → back s' ∧ s'.flag (F.LNK_LGn_STAT_REPLAY_FAIL g) = true))

/-- R182, R183, R207 to R210, R214: a CTRL request is answered with GO, ACK or REFUSE, and again with the same answer; an answer
fixes the epoch or the boundary, REFUSE ends its exchange, and a request without its answer is repeated. Choices of the model in
it: log entry 38. -/
def Obligations.LinkControl : Prop :=
  ∀ (s : State) (g : Fin 8) (f : Flit), s.crp.mainUp = true → s.tstate g = 7 → f.typ = 3 → f.crc = f.crcOf →
    f.reserved = false → (f.mk? = true ∨ f.ext = 0) →
    let x := s.lg g
    let lnkReg (off : Nat) : Bool := decide (0x80000 ≤ off) && decide (off < 0x90000)
    let acts (o : Host.Outcome State Fault Refusal) (P : State → Prop) : Prop := Acts o s [.links] lnkReg P
    let ctrl (cmd txn args : Nat) : Flit := mkFlit 3 0 false false false 0 0 (ctrlPay cmd txn args)
    let queued (s' : State) (cmd args : Nat) : Prop := (s'.lg g).ctrlQ = x.ctrlQ ++ [ctrl cmd f.txn args]
    let busyR (s' : State) : Bool := s'.flag (F.LNK_LGn_STAT_REMAP_BUSY g)
    let busyW (s' : State) : Bool := s'.flag (F.LNK_LGn_STAT_WIDTH_BUSY g)
    let l := f.byte 4
    let p := f.byte 5
    let e := s.sch.ft.toNat / 4096
    let first := s.answered g f.txn = none
    let txLane := s.f (if p = 16 then F.LNK_SPARE_STAT_TX16_LANE else F.LNK_SPARE_STAT_TX17_LANE)
    let least := if s.setLanes g = 1 then 0 else if s.setLanes g = 2 then 1 else 2
    let badW := s.flag (F.LNK_LGn_CTRL_DEGRADE_EN g) = false ∨ s.f (F.LNK_LGn_STAT_WIDTH g) ≤ l ∨ l < least ∨ 2 ^ s.f (F.LNK_LGn_CFG_WIDTH g) / 2 ^ l ≤ p
    let n := f.le 8 8
    let past := n * s.shiftLen ≤ s.sch.ft.toNat + 16384
    let left (s' : State) : Prop := ∀ r ∈ (s'.lg g).ctrlOut, r.txn.toNat ≠ f.txn
    (f.cmd = 1 → (∀ r, s.answered g f.txn = some r → acts (exec (.remapReq g f) s) fun s' =>
      (s'.lg g).ctrlQ = x.ctrlQ ++ [mkFlit 3 0 false false false 0 0 r.pay])) ∧
    (f.cmd = 1 → first → (p = 16 ∨ p = 17) →
      (txLane = 0x1F → x.remap = none → (s.f (F.LNK_LGn_CFG_SPARE_OK g)).testBit (p - 16) = true → acts (exec (.remapReq g f) s) fun s' =>
        queued s' 2 (l + 2 ^ 8 * p + 2 ^ 32 * ((e + 2) % 2 ^ 28)) ∧ busyR s' = true ∧
        (s'.lg g).remap = some { lane := l, spare := p, receiver := false, epoch := some (e + 2), valid := 0, done := false }) ∧
      ((txLane ≠ 0x1F ∨ x.remap ≠ none ∨ (s.f (F.LNK_LGn_CFG_SPARE_OK g)).testBit (p - 16) = false) → acts (exec (.remapReq g f) s) fun s' =>
        queued s' 8 (1 + 2 ^ 8) ∧ (s'.lg g).remap = x.remap)) ∧
    (∀ r, x.remap = some r → r.lane = l → r.spare = p →
      (f.cmd = 2 → r.receiver = true → acts (exec (.remapGo g f) s) fun s' => (s'.lg g).remap = some { r with epoch := some (s.fullEpoch (f.le 8 4)) } ∧
        left s') ∧
      (f.cmd = 3 → r.receiver = false → acts (exec (.remapDone g f) s) fun s' =>
        (s'.lg g).remap = some { r with done := true, epoch := some (e + 1) })) ∧
    (f.cmd = 4 → first → (badW → acts (exec (.widthReq g f) s) fun s' => queued s' 8 (4 + 2 ^ 9) ∧ (s'.lg g).width = x.width) ∧
      (¬badW → acts (exec (.widthReq g f) s) fun s' => queued s' 5 (l + 2 ^ 8 * p + 2 ^ 32 * ((e + 3) % 2 ^ 28)) ∧ busyW s' = true ∧
        (s'.lg g).width = some { code := l, block := p, epoch := some (e + 3) })) ∧
    (∀ w, f.cmd = 5 → x.width = some w → w.code = l → w.block = p → acts (exec (.widthAck g f) s) fun s' =>
      (s'.lg g).width = some { w with epoch := some (s.fullEpoch (f.le 8 4)) } ∧ left s') ∧
    (f.cmd = 6 → first → (past → acts (exec (.restoreReq g f) s) fun s' => queued s' 8 (6 + 2 ^ 8 * 3) ∧ (s'.lg g).restore = x.restore) ∧
      (¬past → acts (exec (.restoreReq g f) s) fun s' => queued s' 7 (2 ^ 32 * n) ∧ busyW s' = true ∧ (s'.lg g).restore = some n ∧
        (s'.lg g).restoreAcked = true)) ∧
    (f.cmd = 7 → x.restore = some n → (¬past → acts (exec (.restoreAck g f) s) fun s' => (s'.lg g).restore = some n ∧ (s'.lg g).restoreAcked = true ∧
        left s') ∧
      (past → acts (exec (.restoreAck g f) s) fun s' => let m := (s.sch.ft.toNat + 32768 + s.shiftLen - 1) / s.shiftLen
        (s'.lg g).restore = some m ∧ (s'.lg g).restoreAcked = false ∧ busyW s' = true ∧
        (s'.lg g).ctrlQ = x.ctrlQ ++ [ctrl 8 f.txn (7 + 2 ^ 8 * 3), ctrl 6 x.nextTxn.toNat (2 ^ 32 * m)])) ∧
    (f.cmd = 8 →
      (l = 1 → (∃ r, x.remap = some r ∧ r.receiver = true) → acts (exec (.refuse g f) s) fun s' => (s'.lg g).remap = none ∧ busyR s' = false ∧
        s'.flag (F.LNK_LGn_STAT_REMAP_REFUSED g) = true) ∧
      (l = 4 → x.width ≠ none → acts (exec (.refuse g f) s) fun s' => (s'.tstate g = 1 ∨ s'.tstate g = 2) ∧ (s'.lg g).width = none ∧
        s'.evPending (EV.lnkDown g) = true) ∧
      ((l = 6 ∨ l = 7) → acts (exec (.refuse g f) s) fun s' => (s'.lg g).restore = none ∧ busyW s' = false ∧ left s')) ∧
    (∀ txn r, x.ctrlOut.find? (fun r => r.txn == txn) = some r → acts (exec (.ctrlRepeat g txn) s) fun s' =>
      (s'.lg g).ctrlQ = x.ctrlQ ++ [mkFlit 3 0 false false false 0 0 r.pay] ∧ s'.now = max s.now (r.sent + 1024))

/-! ## Queues -/

/-- R234 to R237, R240 to R242, R255, R261, R286, R287: a doorbell takes the producer or consumer index, or is refused with DB_ERR,
one that overfills the ring with ERR as well; the commands read and write a context, flush a queue, release and reset a barrier,
and read, add and remove a peer, or set their ERR. Choices of the model in it: log entries 25, 39, 81. -/
def Obligations.QueueRegisters : Prop :=
  ∀ (s : State) (src : RegSrc) (q : BitVec 16) (data : Word), s.crp.headOn = true → s.crp.mainUp = true → s.dbgBarred src = false →
    (∀ off, s.yields src off = false) → s.cfg.late = [] → s.storeFaults = [] → s.str.ecc = [] → s.str.runs = [] →
    let n := q.toNat
    let v := data.toNat % 2 ^ 16
    let queReg (off : Nat) : Bool := decide (0x100000 ≤ off) && decide (off < 0x300000)
    let acts (o : Host.Outcome State Fault Refusal) (P : State → Prop) : Prop := Acts o s [.queues, .streams, .threads, .tandem, .links]
      (fun off => queReg off || off == R.EVT_STAT) P
    let keeps (o : Host.Outcome State Fault Refusal) (P : State → Prop) : Prop := Acts o s [] queReg P
    let dbErr (s' : State) : Prop := s'.flag F.QUE_STAT_DB_ERR = true
    let ok := s.qflag n QC.en = true ∧ match src with
      | .csp => s.qf n QC.owner = 1
      | .thread _ => 2 ≤ s.qf n QC.owner
      | .debug => False
    let tooFar (o : Host.Outcome State Fault Refusal) (x : QFld) : Prop := acts o fun s' => dbErr s' ∧ s'.qflag n QC.err = true ∧ s'.qf n x = s.qf n x ∧
      (512 ≤ s.qf n QC.ev → s'.evPending (s.qf n QC.ev) = true)
    let used (prod cons : Nat) : Nat := (prod + 65536 - cons) % 65536
    let only (xs : List Fld) (x : Fld) : Prop := ∀ y ∈ xs, wb data y = (x == y)
    let ctxCmds := [F.QUE_CTX_CMD_READ, F.QUE_CTX_CMD_WRITE, F.QUE_CTX_CMD_FLUSH]
    let peerCmds := [F.QUE_PEER_CMD_READ, F.QUE_PEER_CMD_ADD, F.QUE_PEER_CMD_REMOVE]
    let c := s.f F.QUE_CTX_SEL_Q
    let i := s.f F.QUE_PEER_SEL_SLOT
    let p := s.peer i
    let b := wf data F.QUE_BAR_CMD_BAR_ID
    let bar := s.bar b
    let ended (s' : State) (g : BitVec 16) (status : Nat) : Prop := s'.bar b = { bar with g := g, arrived := 0, held := [], timedOut := false } ∧
      ∀ h, bar.held = [h] → h.1 < 2 ^ 20 → s.que.inject = [] → ∀ y, s.responseSegs h.1 h.2.1 status 6 0 bar.g.toNat [] = [y] →
        (s.flag F.CRP_DROOP_STAT_HOLD = true → s'.que.inject = [{ vc := h.2.2, sched := none, q := none, msg := none, pay := y }]) ∧
        (s.flag F.CRP_DROOP_STAT_HOLD = false → h.1 ≠ s.epid → ∀ lg, s.routeGroup h.1 = some lg →
          (∀ b ∈ kget [] (s.lg lg).bq h.2.2, b.origin ≠ none) → s'.que.inject = [] ∧
          kget [] (s'.lg lg).bq h.2.2 = kget [] (s.lg lg).bq h.2.2 ++ [{ pay := y, origin := none, msg := none }])
    (¬ok → keeps (exec (.doorbellSq src q data) s) dbErr ∧ keeps (exec (.doorbellRq src q data) s) dbErr ∧
      keeps (exec (.doorbellCq src q data) s) dbErr) ∧
    (ok → (2 ^ s.qf n QC.sqLog2 < used v (s.qf n QC.sqCons) → tooFar (exec (.doorbellSq src q data) s) QC.sqProd) ∧
      (used v (s.qf n QC.sqCons) ≤ 2 ^ s.qf n QC.sqLog2 → acts (exec (.doorbellSq src q data) s) fun s' =>
        s'.que.ctx = (s.setQf n QC.sqProd v).que.ctx ∧ s'.qf n QC.sqProd = v) ∧
      (2 ^ s.qf n QC.rqLog2 < used v (s.qf n QC.rqCons) → tooFar (exec (.doorbellRq src q data) s) QC.rqProd) ∧
      (used v (s.qf n QC.rqCons) ≤ 2 ^ s.qf n QC.rqLog2 → acts (exec (.doorbellRq src q data) s) fun s' =>
        s'.que.ctx = (s.setQf n QC.rqProd v).que.ctx ∧ s'.qf n QC.rqProd = v) ∧
      (2 ^ s.qf n QC.cqLog2 < used (s.qf n QC.cqProd) v → tooFar (exec (.doorbellCq src q data) s) QC.cqCons) ∧
      (used (s.qf n QC.cqProd) v ≤ 2 ^ s.qf n QC.cqLog2 → acts (exec (.doorbellCq src q data) s) fun s' => s'.qf n QC.cqCons = v)) ∧
    (only ctxCmds F.QUE_CTX_CMD_READ → keeps (exec (.queueContextRead src data) s) fun s' =>
      ∀ w < 16, s'.reg (R.QUE_CTX_Wi w) = (s.qctx c >>> (32 * w)).setWidth 32) ∧
    (only ctxCmds F.QUE_CTX_CMD_WRITE →
      let en := (s.reg (R.QUE_CTX_Wi 0)).getLsbD 0
      let refused := s.qflag c QC.en = true ∨ (en = true ∧ s.qf c QC.owner = 0)
      (refused → keeps (exec (.queueContextWrite src data) s) fun s' => s'.flag F.QUE_CTX_CMD_ERR = true) ∧
      (¬refused → acts (exec (.queueContextWrite src data) s) fun s' => ∀ k < 512, (s'.qctx c).getLsbD k =
        if (2 ≤ k ∧ k < 7) ∨ (480 ≤ k ∧ k < 496 ∧ en = false) then (s.qctx c).getLsbD k
        else if (13 ≤ k ∧ k < 16) ∨ (28 ≤ k ∧ k < 32) ∨ (470 ≤ k ∧ k < 480) ∨ (en = true ∧ (k = 1 ∨ (480 ≤ k ∧ k < 496))) then false
        else (s.reg (R.QUE_CTX_Wi (k / 32))).getLsbD (k % 32))) ∧
    (only ctxCmds F.QUE_CTX_CMD_FLUSH →
      (s.qflag c QC.en = true → acts (exec (.queueFlush src data) s) fun s' => (∀ m ∈ s'.que.out, m.q = c → m.final = true) ∧
        (∀ e ∈ s'.que.fetched, e.1 ≠ c) ∧
        ((∀ m ∈ s.que.out, m.q ≠ c) → (∀ x ∈ s.que.cpl, x.q ≠ c) → s'.qflag c QC.en = false)) ∧
      (s.qflag c QC.en = false → keeps (exec (.queueFlush src data) s) fun s' => s'.que.out = s.que.out)) ∧
    (wf data F.QUE_BAR_CMD_CMD = 1 → acts (exec (.barrierRelease src data) s) fun s' => ended s' (bar.g + 1) (wf data F.QUE_BAR_CMD_STATUS)) ∧
    (wf data F.QUE_BAR_CMD_CMD = 2 → acts (exec (.barrierReset src data) s) fun s' => ended s' 0 15) ∧
    (only peerCmds F.QUE_PEER_CMD_READ → keeps (exec (.peerRead src data) s) fun s' =>
      s'.reg R.QUE_PEER_D0 = BitVec.ofNat 32 (p.id + 2 ^ 31 * b2n p.valid) ∧ s'.reg R.QUE_PEER_D1 = p.txNext ∧ s'.reg R.QUE_PEER_D2 = p.rxH ∧
      s'.reg R.QUE_PEER_D3 = BitVec.ofNat 32 p.outst) ∧
    (only peerCmds F.QUE_PEER_CMD_ADD →
      let id := s.f F.QUE_PEER_D0_ID
      let tx := s.reg R.QUE_PEER_D1
      let refused := p.valid = true ∨ s.f F.QUE_PEER_CFG_MAX ≤ i ∨ (s.peerSlot id).isSome = true ∨
        (s.tandemImage = true ∧ tx.toNat % 2 ≠ b2n (s.flag F.GLB_TND_STAT_ROLE))
      (refused → keeps (exec (.peerAdd src data) s) fun s' => s'.flag F.QUE_PEER_CMD_ERR = true) ∧
      (¬refused → acts (exec (.peerAdd src data) s) fun s' => s'.peerSlot id = some i ∧ (s'.peer i).txNext = tx ∧ (s'.peer i).ackLow = tx ∧
        (s'.peer i).rxH = s.reg R.QUE_PEER_D2 ∧ (s'.peer i).outst = 0 ∧ (s'.peer i).seen = BitVec.allOnes 4096 ∧ (s'.peer i).done = 0)) ∧
    (only peerCmds F.QUE_PEER_CMD_REMOVE →
      let refused := p.valid = false ∨ p.outst ≠ 0 ∨ ∃ e ∈ s.que.exec, e.src = p.id ∧ e.rctx = true
      (refused → keeps (exec (.peerRemove src data) s) fun s' => s'.flag F.QUE_PEER_CMD_ERR = true) ∧
      (¬refused → acts (exec (.peerRemove src data) s) fun s' => s'.peer i = { p with valid := false }))

/-- R238, R242, R243, R245, R248, R256, R262, R266, R268, R269, R272, R274: the next descriptor starts a message with the peer's
next ID, or ends with a local status; a request without data leaves at once; a response restarts the timer or ends its message;
a timeout sends the request again, and after the last resend ends it with TIMEOUT; an unreported ACK_LOW is sent in an ACKONLY.
Choices of the model in it: log entries 16, 17, 52, 53. -/
def Obligations.QueueRequester : Prop :=
  ∀ (s : State) (q : BitVec 16), s.crp.mainUp = true → s.storeFaults = [] → s.str.ecc = [] → s.str.poison = [] → s.str.runs = [] →
    let n := q.toNat
    let queReg (off : Nat) : Bool := decide (0x100000 ≤ off) && decide (off < 0x300000)
    let acts (o : Host.Outcome State Fault Refusal) (P : State → Prop) : Prop := Acts o s [.queues, .streams, .threads, .tandem, .links]
      (fun off => queReg off || off == R.EVT_STAT) P
    let slot := s.qf n QC.sqCons % 2 ^ s.qf n QC.sqLog2
    let hops := s.f F.QUE_CFG_HOPS_INIT
    let sent (s' : State) (dst vc : Nat) (q : Option Nat) (msg : Option (Nat × Nat)) (ps : List (BitVec 1920)) : Prop :=
      s.que.inject = [] → dst < 2 ^ 20 →
        let waits (xs : List (BitVec 1920)) : List Inject := xs.map fun y => { vc := vc, sched := none, q := q, msg := msg, pay := y }
        (s.flag F.CRP_DROOP_STAT_HOLD = true → s'.que.inject = waits ps) ∧
        (s.flag F.CRP_DROOP_STAT_HOLD = false → dst ≠ s.epid → ∀ lg, s.routeGroup dst = some lg →
          (∀ b ∈ kget [] (s.lg lg).bq vc, b.origin ≠ none) → s'.que.inject = waits ps.tail ∧
          kget [] (s'.lg lg).bq vc = kget [] (s.lg lg).bq vc ++ (ps.take 1).map fun y => { pay := y, origin := none, msg := msg })
    let without (m : OutMsg) : List OutMsg := s.que.out.filter fun y => !(y.dst == m.dst && y.reqId == m.reqId)
    let failed (s' : State) (status : Nat) : Prop := s'.qf n QC.lastErr = status ∧ s'.que.out = s.que.out
    (s.mayStart n = true → ∀ e, s.que.fetched.find? (fun e => e.1 == n && e.2.1 == slot) = some e →
      let st := e.2.2.1
      let d := e.2.2.2
      (dFence d = false ∨ s.qf n QC.outst = 0) →
      let start (P : State → Prop) : Prop := acts (exec (.messageStart q) s) fun s' => s'.qf n QC.sqCons = (s.qf n QC.sqCons + 1) % 65536 ∧ P s'
      let op := dOp d
      (st = 7 → start fun s' => failed s' 0xD) ∧
      (st = 0xB → start fun s' => failed s' 0xB) ∧
      (st = 0 → s.descBad n d = true → start fun s' => failed s' 0xE) ∧
      (st = 0 → s.descBad n d = false → s.peerSlot (dDst d) = none → start fun s' => failed s' 4) ∧
      (st = 0 → s.descBad n d = false → ∀ i, s.peerSlot (dDst d) = some i → (s.peer i).id = dDst d →
        (op = 7 → (∀ m ∈ s.que.out, m.q = n → m.sent = true) → start fun s' => s'.que.out = s.que.out ∧ (s'.peer i).ackSent = BitVec.ofNat 32 (s.sentAckLow (s.peer i)) ∧
          sent s' (dDst d) (s.qf n QC.cls) (some n) none (messageSegs (dDst d) s.epid hops (s.peer i).txNext.toNat false false
            (requestHeader 7 (s.sentAckLow (s.peer i))) 160 [])) ∧
        (op ≠ 7 → (s.peer i).outst < (if s.tandemImage then 1024 else 2048) → start fun s' =>
          let id := s.takeId (s.peer i)
          (∃ m ∈ s'.que.out, m.dst = dDst d ∧ m.reqId = id.toNat ∧ m.q = n ∧ m.slot = slot ∧ m.desc = d ∧ m.resends = 0) ∧
          s'.que.out.length = s.que.out.length + 1 ∧ s'.qf n QC.outst = (s.qf n QC.outst + 1) % 65536 ∧
          (s'.peer i).txNext = id + (if s.tandemImage then 2 else 1) ∧ (s'.peer i).outst = (s.peer i).outst + 1 ∧
          ((op = 3 ∨ op = 4 ∨ op = 6) → s.qf n QC.owner ≠ 3 → (∀ m ∈ s.que.out, m.q = n → m.injected = true) →
            (∀ m ∈ s.que.out, m.dst = dDst d → m.reqId ≠ id.toNat) →
            sent s' (dDst d) (s.qf n QC.cls) (some n) (some (dDst d, id.toNat)) (messageSegs (dDst d) s.epid hops id.toNat false false (requestHeader d (s'.sentAckLow (s'.peer i))) 160 []))))) ∧
    (∀ g rest, s.que.rxq = g :: rest → segRsp g.bytes = true → s.queTakes = true → s.tandemImage = false →
      let status := segLe g.bytes 16 1
      let answers (m : OutMsg) : Prop := (status ≠ 5 ∧ s.findMsg (segSrc g.bytes) (segReqId g.bytes) = some m) ∨
        (status = 5 ∧ m.dst ≠ segSrc g.bytes ∧ (s.que.out.filter fun y => y.reqId == segReqId g.bytes) = [m])
      ∀ m ∈ s.que.out, answers m → m.final = false → m.nextSeg = 0 → segNo g.bytes = 0 →
      let takes (P : State → Prop) : Prop := acts (exec .responseSegmentReceive s) fun s' => s'.que.rxq = rest ∧ P s'
      ((status = 2 ∨ status = 3) → takes fun s' => s'.findMsg m.dst m.reqId = some { m with timer := m.timer.map fun _ => s.que.msgClock }) ∧
      (status ≠ 2 → status ≠ 3 → dOp m.desc ≠ 3 → segLast g.bytes = true → m.pendingWr = 0 → m.wrFail = false → takes fun s' =>
        s'.que.out = without m ∧ s'.qf m.q QC.outst = (if s.qf m.q QC.outst = 0 then 0 else s.qf m.q QC.outst - 1) ∧
        s'.qf m.q QC.lastErr = (if status = 0 then s.qf m.q QC.lastErr else status)) ∧
      (status ≠ 2 → status ≠ 3 → dOp m.desc = 3 → 0 < min (min (segLe g.bytes 20 4) (dLength m.desc)) 192 → takes fun s' =>
        ∃ m', s'.findMsg m.dst m.reqId = some m' ∧ m'.nextSeg = 1 ∧ m'.status = status ∧ m'.final = segLast g.bytes ∧
          m'.pendingWr = m.pendingWr + (hostChunks (dLaddr m.desc) (min (min (segLe g.bytes 20 4) (dLength m.desc)) 192)).length)) ∧
    (∀ (dst : BitVec 20) (id : BitVec 32) m, s.findMsg dst.toNat id.toNat = some m → m.sched = false → m.final = false → s.msgTimersRun = true →
      ∀ since, m.timer = some since →
      let due (s' : State) : Prop := s'.que.msgClock = max s.que.msgClock (since + 2 ^ (s.qf m.q QC.retxTmo + 10))
      (m.resends < s.qf m.q QC.retryLimit → (s.que.out.filter fun y => y.dst == m.dst && y.reqId == m.reqId) = [m] →
        acts (exec (.retxTimeout dst id) s) fun s' => due s' ∧
        ∃ m', s'.findMsg dst.toNat id.toNat = some m' ∧ m'.resends = m.resends + 1 ∧ m'.retx = true ∧ m'.desc = m.desc) ∧
      (s.qf m.q QC.retryLimit ≤ m.resends → acts (exec (.retxTimeout dst id) s) fun s' => due s' ∧ s'.que.out = without m ∧
        s'.qf m.q QC.lastErr = 0xA)) ∧
    (∀ slot : BitVec 12, let p := s.peer slot.toNat
      s.peerSlot p.id = some slot.toNat → p.valid = true → s.sentAckLow p ≠ p.ackSent.toNat → s.queTimersRun = true → s.fenced = false →
      acts (exec (.ackonlySend slot) s) fun s' => s'.peer slot.toNat = { p with ackSent := BitVec.ofNat 32 (s.sentAckLow p) } ∧
        s'.que.clock = max s.que.clock (p.lastFinal + s.f F.QUE_TIMING_ACK_IDLE * 2000) ∧
        sent s' p.id 1 none none (messageSegs p.id s.epid hops p.txNext.toNat false false (requestHeader 7 (s.sentAckLow p)) 160 []))

/-- R195, R246, R249 to R251, R253, R254, R257 to R259, R263 to R267, R272, R382: a landed flit is delivered, forwarded with HOPS
one less, or missed; segment 0 of a request is answered, ignored, or executed by its operation; later segments go on with it;
timeouts end it and report a barrier. Choices of the model in it: log entries 17, 19, 20, 82. -/
def Obligations.QueueResponder : Prop :=
  ∀ (s : State) (lg : Fin 8), s.crp.mainUp = true → s.storeFaults = [] → s.str.ecc = [] → s.str.poison = [] → s.str.runs = [] →
    s.queTakes = true → s.tnd? ≠ 3 →
    let queReg (off : Nat) : Bool := decide (0x100000 ≤ off) && decide (off < 0x300000)
    let acts (o : Host.Outcome State Fault Refusal) (P : State → Prop) : Prop := Acts o s [.queues, .streams, .threads, .tandem, .links]
      (fun off => queReg off || off == R.EVT_STAT) P
    let reply (s' : State) (src id vc status op bytes data : Nat) : Prop := s.que.inject = [] → src < 2 ^ 20 →
      ∀ y, s.responseSegs src id status op bytes data [] = [y] →
        (s.flag F.CRP_DROOP_STAT_HOLD = true → s'.que.inject = [{ vc := vc, sched := none, q := none, msg := none, pay := y }]) ∧
        (s.flag F.CRP_DROOP_STAT_HOLD = false → src ≠ s.epid → ∀ g, s.routeGroup src = some g →
          (∀ b ∈ kget [] (s.lg g).bq vc, b.origin ≠ none) → s'.que.inject = [] ∧
          kget [] (s'.lg g).bq vc = kget [] (s.lg g).bq vc ++ [{ pay := y, origin := none, msg := none }])
    (∀ f rest, (s.lg lg).landQ = f :: rest →
      let dst := segDst f.pay
      let pool := if f.sh then 0 else f.vc
      let op := bits f.pay.toNat 128 4
      let slot := s.openSlot lg pool
      let addr := s.landAddr lg (s.poolBase lg pool + slot)
      let lands (P : State → Prop) : Prop := acts (exec (.bFlitLanding lg) s) fun s' => (s'.lg lg).landQ = rest ∧
        (∀ i < 240, (Memory.get s'.str.mem (addr + 16 + i)).toNat = f.byte i) ∧ P s'
      let holds (s' : State) : Prop := kget [] (s'.lg lg).landHeld pool = kget [] (s.lg lg).landHeld pool ++ [slot]
      (dst = s.epid → s.fenced = false → (segRsp f.pay = true ∨ segNo f.pay ≠ 0 ∨ (op ≠ 0 ∧ op ≤ 7)) → lands fun s' => holds s' ∧ s'.que.rxq = s.que.rxq ++ [
        { bytes := f.pay, g := lg, vc := f.vc, pool := pool, slot := slot, tag := none, fromPartner := false }]) ∧
      (∀ og, dst ≠ s.epid → segHops f.pay ≠ 0 → s.routeGroup dst = some og → lands fun s' => holds s' ∧ kget [] (s'.lg og).bq f.vc = kget [] (s.lg og).bq f.vc ++ [
        { pay := BitVec.ofNat 1920 (putBits f.pay.toNat 40 5 (segHops f.pay - 1)), origin := some (lg, pool, slot), msg := none }]) ∧
      (dst ≠ s.epid → (segHops f.pay = 0 ∨ s.routeGroup dst = none) → lands fun s' => s'.evPending EV.queRoute = true ∧
        kget 0 (s'.lg lg).rxUsed pool = kget 0 (s.lg lg).rxUsed pool - 1 ∧
        (segRsp f.pay = false → segNo f.pay = 0 → reply s' (segSrc f.pay) (segReqId f.pay) f.vc 5 op 0 0))) ∧
    (∀ g rest, s.que.rxq = g :: rest → s.mode ≠ 11 → g.tag = none →
      ∀ c ∈ [(1, Instr.send), (2, .write), (3, .read), (4, .atomic), (5, .reduce), (6, .barrier)], isRequest g c.1 = true →
      let op := c.1
      let e := mkExec g op s.que.msgClock
      (op ≠ 1 ∨ s.dqBad e.dq = true ∨ s.recvDesc e.dq ≠ some none) →
      let t := (s.takeFront g).2.freeCache e.src (segLe g.bytes 52 4)
      let cls := t.classify e.src e.reqId op (!segLast g.bytes) (op == 5 && t.redShort e) (s.mode == 8)
      let takes (P : State → Prop) : Prop := acts (exec c.2 s) fun s' => s'.que.rxq = rest ∧ P s'
      let answers (status bytes data : Nat) : Prop := takes fun s' => reply s' e.src e.reqId g.vc status op bytes data
      let bad := s.dqBad e.dq
      let flushing := s.que.flushing.contains e.dq
      let free := s.findExec e.src e.reqId = none ∧ ∀ r ∈ s.str.red, r.2.cur ≠ some (e.src, e.reqId)
      let exec' (s' : State) (e' : Exec) : Prop := s'.findExec e.src e.reqId = some e'
      (cls = .noPeer → answers 4 0 0) ∧
      (cls = .stale → answers 1 0 0) ∧
      (cls = .busy → answers 3 0 0) ∧
      (∀ k, cls = .cached k → takes fun s' => reply s' e.src e.reqId g.vc k.status k.op k.bytes k.data) ∧
      ((cls = .ignore ∨ cls = .discard) → takes fun s' => s'.que.exec = s.que.exec ∧ s'.que.peers = s.que.peers) ∧
      (cls = .fresh → free →
        (bad = true → op ≠ 6 → answers 0x10 0 0) ∧
        (bad = false → op ≠ 6 → (flushing = true ∨ (op = 1 ∧ s.recvDesc e.dq = none)) → answers 2 0 0) ∧
        (bad = false → flushing = false → Nat.testBit (segLe g.bytes 16 1) 4 = false →
          (op = 2 → s.windowFault e = none → e.length = 0 → segLast g.bytes = true → answers 0 0 0) ∧
          (op = 2 → s.windowFault e = none → 0 < e.length → takes fun s' => ∃ e', exec' s' e' ∧ e'.addr = s.qf e.dq QC.winBase + e.raddr ∧
            e'.host = !s.qflag e.dq QC.winSpace ∧ e'.issued = min 160 e.length ∧
            e'.pendingWr = (hostChunks e'.addr (min 160 e.length)).length ∧
            (s.pickDrift = none → s'.que.jobs = s.que.jobs ++ writeJobs (.execWrite e.src e.reqId) (e.dq % 8) e'.host e'.addr 0 e.buf)) ∧
          (op = 3 → s.windowFault e = none → 0 < e.length → takes fun s' => ∃ e', exec' s' e' ∧ e'.addr = s.qf e.dq QC.winBase + e.raddr ∧
            e'.pendingWr = (hostChunks e'.addr e.length).length ∧
            (s.pickDrift = none → s'.que.jobs = s.que.jobs ++ readJobs (.execRead e.src e.reqId) (e.dq % 8) (!s.qflag e.dq QC.winSpace) e'.addr e.length)) ∧
          ((op = 2 ∨ op = 3 ∨ op = 4) → ∀ st, s.windowFault e = some st → answers st 0 0) ∧
          (op = 4 → s.windowFault e = none → s.qflag e.dq QC.winSpace = false → takes fun s' => ∃ r ∈ (s'.hmpPort (e.dq % 8)).reqs,
            r.opc = 2 ∧ r.arg.toNat = e.arg ∧ r.addr = BitVec.ofNat 64 (s.qf e.dq QC.winBase + e.raddr) ∧ r.len = e.length ∧
            r.who = .execAtomic e.src e.reqId) ∧
          (op = 4 → s.windowFault e = none → s.qflag e.dq QC.winSpace = true → s.str.poison = [] →
            let a := s.qf e.dq QC.winBase + e.raddr
            let old := leNat (Memory.read s.str.mem a e.length)
            a + e.length ≤ 2 ^ 26 → a % e.length = 0 → s.peerTableWord (a / 64) = none → ∀ v, atomicOp e.arg (8 * e.length) old e.opnd0 e.opnd1 = some v →
            takes fun s' => reply s' e.src e.reqId g.vc 0 4 e.length old ∧ (e.signal = false → Memory.read s'.str.mem a e.length = natLe e.length v)) ∧
          (op = 1 → ∀ x, s.recvDesc e.dq = some (some x) → x.2.1 = 0 → (s.qflag e.dq QC.cplHost = false ∨ s.cqFull e.dq = false) →
            let d := x.2.2
            let len := bits d.toNat 64 32
            (0 < min e.length len → takes fun s' => s'.qf e.dq QC.rqCons = (s.qf e.dq QC.rqCons + 1) % 65536 ∧
              ∃ e', exec' s' e' ∧ e'.addr = d.toNat % 2 ^ 64 ∧ e'.room = min e.length len ∧ e'.tag = bits d.toNat 96 32 ∧
                e'.status = (if len < e.length then 6 else 0)) ∧
            (e.length = 0 → segLast g.bytes = true → takes fun s' => s'.qf e.dq QC.rqCons = (s.qf e.dq QC.rqCons + 1) % 65536 ∧
              reply s' e.src e.reqId g.vc 0 1 0 0)) ∧
          (op = 5 → s.windowFault e = none → s.redRefused e = true → answers 0x12 0 0) ∧
          (op = 5 → s.windowFault e = none → s.redRefused e = false → ∀ r, s.cfg.active.redEnt (redId e) = some r →
            let x := s.red (redId e)
            (redPos e ≠ x.next → takes fun s' => s'.red (redId e) = { x with ent := r, held := x.held ++ [(redPos e, e.src, e.reqId)] }) ∧
            (redPos e = 0 → x.next = 0 → 1 < reContribs r → x.held = [] → x.work = [] → s.qflag (reDq r) QC.winSpace = true →
              0 < e.length → e.length ≤ 160 → segLast g.bytes = true → reDq r = e.dq →
              let a := s.qf (reDq r) QC.winBase + reRaddr r
              a + e.length ≤ 2 ^ 26 → takes fun s' => reply s' e.src e.reqId g.vc 0 5 e.length 0 ∧ (s'.red (redId e)).next = 1 ∧
                (e.signal = false → Memory.read s'.str.mem a e.length = segBytes g.bytes 64 e.length)))) ∧
        (op = 6 →
          let b := bits e.opnd0 0 12
          let gen := bits e.opnd0 16 16
          let count := bits e.opnd0 32 20
          let x := s.bar b
          let wrong := gen ≠ x.g.toNat ∨ (x.arrived ≠ 0 ∧ count ≠ x.count.toNat)
          (wrong → answers 0xC 0 0) ∧
          (¬wrong → x.arrived + 1 ≠ count → takes fun s' => (s'.bar b).arrived = x.arrived + 1 ∧ (s'.bar b).g = x.g ∧
            (s'.bar b).held = x.held ++ [(e.src, e.reqId, g.vc)]) ∧
          (¬wrong → x.arrived + 1 = count → takes fun s' => (s'.bar b).arrived = 0 ∧ (s'.bar b).g = x.g + 1 ∧ (s'.bar b).held = [] ∧
            (x.held = [] → reply s' e.src e.reqId g.vc 0 6 0 x.g.toNat))))) ∧
    (∀ g rest, s.que.rxq = g :: rest → isRequest g 7 = true → acts (exec .ackonly s) fun s' => s'.que.rxq = rest ∧
      ((s.peerSlot (segSrc g.bytes)).isSome = true → s'.que.cache = s.que.cache.filter fun c =>
        !(c.src == segSrc g.bytes && c.done && decide (idDiff c.reqId (segLe g.bytes 52 4) < 0)))) ∧
    (∀ g rest, s.que.rxq = g :: rest → segRsp g.bytes = false → segNo g.bytes ≠ 0 → ∀ e, s.findExec (segSrc g.bytes) (segReqId g.bytes) = some e →
      ((e.rctx = false ∨ segNo g.bytes ≠ e.nextSeg) → acts (exec .laterSegmentReceive s) fun s' => s'.que.rxq = rest ∧ s'.que.exec = s.que.exec) ∧
      (e.rctx = true → segNo g.bytes = e.nextSeg → (e.op = 1 ∨ e.op = 2) → (segLast g.bytes = false ∨ e.gated = true) →
        acts (exec .laterSegmentReceive s) fun s' => s'.que.rxq = rest ∧ ∃ e', s'.findExec e.src e.reqId = some e' ∧ e'.nextSeg = e.nextSeg + 1 ∧
          e'.rctx = !segLast g.bytes ∧ e'.lastAt = s.que.msgClock ∧
          e'.applied = e.applied + min 208 (e.length - (160 + 208 * (segNo g.bytes - 1))))) ∧
    (∀ (peer : BitVec 20) (id : BitVec 32) e, s.findExec peer.toNat id.toNat = some e → e.rctx = true → s.msgTimersRun = true →
      (e.op = 1 ∨ e.op = 2) → e.gated = false → e.buf = [] → e.pendingWr = 0 → e.sched = none → e.failAt = none → e.status = 0 →
      acts (exec (.reassemblyTimeout peer id) s) fun s' => reply s' e.src e.reqId e.vc 9 e.op (min (min e.applied e.room) (2 ^ 31)) 0 ∧
        s'.que.msgClock = max s.que.msgClock (e.lastAt + s.f F.QUE_TIMING_RCTX_TMO * 2000)) ∧
    (∀ b : BitVec 12, let x := s.bar b.toNat
      x.arrived ≠ 0 → x.timedOut = false → s.queTimersRun = true → acts (exec (.barrierTimeout b) s) fun s' =>
        s'.bar b.toNat = { x with timedOut := true } ∧ s'.que.clock = max s.que.clock (x.first + s.f F.QUE_BAR_TMO_TMO * 2000))

/-! ## Streams -/

/-- R303, R304, R310, R339, R348: a STREAM_… row starts the next command of its drift where that is its operation and may start: the
command executes from the first cycle that R304 allows, nothing of it stored yet; a command that R310 forbids comes to BAD_CMD
without an element. Choices of the model in it: log entries 12, 21. -/
def Obligations.StreamOperations : Prop :=
  ∀ (s : State) (d : Fin 16) (io : StreamIo) (x : DCmd) (rest : List DCmd),
    (s.drift d).held = x :: rest → x.phase = .waiting → x.qe = none → x.malformed = false → x.cmd.chain = 0xFF →
    (∀ y ∈ rest, y.phase ≠ .recordWait) → s.cfg.imageActive = true → 6 ≤ s.mode → s.mode ≤ 8 → (7 ≤ s.mode ∨ x.cmd.classS = false) →
    (s.flag F.CRP_DROOP_STAT_HOLD = false ∨ x.src = .schedThread) → s.str.runs = [] → s.crp.mainUp = true →
    let c := x.cmd
    let D := s.drift d
    let base := x.commit.toNat + 16
    let t0 := max (max (max (max base s.sch.ft.toNat) D.freeAt) D.unblockedAt) (if c.fence then D.postedAt else 0)
    let same (s' : State) : Prop := s'.str.mem = s.str.mem ∧ s'.str.ecc = s.str.ecc ∧ s'.str.poison = s.str.poison ∧
      s'.reg (R.STR_Dd_DONE d) = 0 ∧ s'.f (F.STR_Dd_STAT_CHAIN d) = 0xFF
    let row (op : Nat) (o : Host.Outcome State Fault Refusal) : Prop := c.op = op →
      (c.bad s.cfg.active d = false → Answers o fun s' => same s' ∧ s'.sch.ft.toNat = t0 % 2 ^ 64 ∧
        (∃ y, (s'.drift d).held = y :: rest ∧ y.words = x.words ∧ y.src = x.src ∧ y.phase = .running ∧ y.run = some s.str.nextRun ∧
          y.deferred = false) ∧
        s'.str.nextRun = s.str.nextRun + 1 ∧ ∃ r, s'.str.runs = [r] ∧ r.id = s.str.nextRun ∧ r.io = io ∧ r.beat = 0 ∧ r.enter = t0 ∧
          r.stop = none ∧ r.closed = false ∧ r.ctx.term = d ∧ r.ctx.beat = c.beat ∧ r.ctx.start = c.start ∧ r.ctx.count = c.n ∧
          r.ctx.feeds = [] ∧ r.ctx.stuck = false ∧ ∃ m, r.ms = [m] ∧ m.d = d ∧ m.cmd = c ∧ m.beat = 0 ∧ m.writes = [] ∧ m.stores = [] ∧
          m.sends = [] ∧ (m.late = true ↔ x.src = .schedThread ∧ base < t0)) ∧
      (c.bad s.cfg.active d = true → Answers o fun s' => same s' ∧ s'.str.runs = [] ∧ ∃ y, (s'.drift d).held = y :: rest ∧
        y.words = x.words ∧ y.phase = .running ∧ y.run = x.run ∧ y.status = 7 ∧ y.resume.toNat = c.start % 2 ^ 32)
    row 0 (exec (.streamCopy d io) s) ∧ row 1 (exec (.streamAdd d io) s) ∧ row 2 (exec (.streamSub d io) s) ∧
    row 3 (exec (.streamMul d io) s) ∧ row 4 (exec (.streamFma d io) s) ∧ row 5 (exec (.streamAxpy d io) s) ∧
    row 6 (exec (.streamScale d io) s) ∧ row 7 (exec (.streamMin d io) s) ∧ row 8 (exec (.streamMax d io) s) ∧
    row 9 (exec (.streamAbs d io) s) ∧ row 10 (exec (.streamNeg d io) s) ∧ row 11 (exec (.streamAnd d io) s) ∧
    row 12 (exec (.streamOr d io) s) ∧ row 13 (exec (.streamXor d io) s)

/-- R309, R311, R316, R331, R339, R340, R346: a command of one element whose operands are linear in staging memory and of one type,
once started, ends OK with RESUME 1 and DONE 1; it has stored its operation's result at the destination and nothing else in
staging memory. Choices of the model in it: log entries 12, 101, 102. -/
def Obligations.StreamResults : Prop :=
  ∀ (s : State) (d : Fin 16) (io : StreamIo) (x : DCmd) (rest : List DCmd),
    (s.drift d).held = x :: rest → x.phase = .waiting → x.qe = none → x.malformed = false → x.cmd.chain = 0xFF →
    (∀ y ∈ rest, y.phase ≠ .recordWait) → s.cfg.imageActive = true → 6 ≤ s.mode → s.mode ≤ 8 →
    (s.flag F.CRP_DROOP_STAT_HOLD = false ∨ x.src = .schedThread) → s.str.runs = [] → s.str.used = [] →
    (∀ b < 512, d.val ∈ s.str.order b) → s.crp.mainUp = true → s.str.ecc = [] → s.str.poison = [] →
    let c := x.cmd
    let typ := c.c.typ
    let n := c.c.size
    let get (a : Nat) : Nat := leNat ((List.range n).map fun i => Memory.get s.str.mem (a + i))
    let a := get c.a.addr
    let b := if c.b.space = 0 then 0 else get c.b.addr
    let k := c.s % 2 ^ (8 * n)
    let ints (f : Int → Int → Int → Int) : Nat := wrapBits (f (intVal typ a) (intVal typ b) (intVal typ k)) (8 * n)
    let rnd := srBits s.srSeed (srCtr 0 c.userTag 0 0)
    let either (f : Int → Int → Int → Int) (g : Fmt → Nat) : Nat := match typeFmt typ with
      | none => ints f
      | some t => g t
    let plain (o : Opnd) : Prop := o.space = 1 ∧ o.mode = 0 ∧ o.typ = typ ∧ o.addr + n ≤ 2 ^ 26 ∧ s.peerTableWord (o.addr / 64) = none ∧
      s.peerTableWord ((o.addr + n - 1) / 64) = none
    let simple := c.bad s.cfg.active d = false ∧ c.n = 1 ∧ c.start = 0 ∧ c.fold = 0 ∧ c.traps = 0 ∧ plain c.a ∧
      (c.b.space = 0 ∨ plain c.b) ∧ c.c.space = 1 ∧ c.c.mode = 0 ∧ c.c.addr + n ≤ 2 ^ 26
    let row (op : Nat) (o : Host.Outcome State Fault Refusal) (v : Nat) : Prop := c.op = op → simple →
      Answers o fun s1 => Answers (exec (.streamCommandEnd d) s1) fun s' => s'.str.runs = [] ∧
        s'.f (F.STR_Dd_STAT_LAST_STATUS d) = 0 ∧ s'.reg (R.STR_Dd_RESUME d) = 1 ∧ s'.reg (R.STR_Dd_DONE d) = 1 ∧
        ∀ p, Memory.get s'.str.mem p = if c.c.addr ≤ p ∧ p < c.c.addr + n then BitVec.ofNat 8 (v / 2 ^ (8 * (p - c.c.addr)))
          else Memory.get s.str.mem p
    row 0 (exec (.streamCopy d io) s) a ∧
    row 1 (exec (.streamAdd d io) s) (either (fun x y _ => x + y) fun t => (t.add c.round rnd false a b).1) ∧
    row 2 (exec (.streamSub d io) s) (either (fun x y _ => x - y) fun t => (t.add c.round rnd true a b).1) ∧
    row 3 (exec (.streamMul d io) s) (either (fun x y _ => x * y) fun t => (t.mul c.round rnd a b).1) ∧
    row 4 (exec (.streamFma d io) s) (either (fun x y z => x * y + z) fun t => (t.fma c.round rnd a b k).1) ∧
    row 5 (exec (.streamAxpy d io) s) (either (fun x y z => x * z + y) fun t => (t.fma c.round rnd a k b).1) ∧
    row 6 (exec (.streamScale d io) s) (either (fun x _ z => x * z) fun t => (t.mul c.round rnd a k).1) ∧
    row 7 (exec (.streamMin d io) s) (either (fun x y _ => min x y) fun t => (t.minMax false a b).1) ∧
    row 8 (exec (.streamMax d io) s) (either (fun x y _ => max x y) fun t => (t.minMax true a b).1) ∧
    row 9 (exec (.streamAbs d io) s) (either (fun x _ _ => if x < 0 then -x else x) fun t => (t.abs a).1) ∧
    row 10 (exec (.streamNeg d io) s) (either (fun x _ _ => -x) fun t => (t.neg a).1) ∧
    row 11 (exec (.streamAnd d io) s) (a &&& b) ∧
    row 12 (exec (.streamOr d io) s) (a ||| b) ∧
    row 13 (exec (.streamXor d io) s) (a ^^^ b)

/-- R290, R301 to R303, R322, R328, R336, R340, R386: a sixteen-word message or GO commits a command; an command that is over leaves
its status and RESUME, frees its place and raises its event; the chain's timeout, ABORT and FLUSH end commands, ABORT an
executing one at the next element; a Class S flit lands as a 256-byte slot at its landing cycle; the scrubber reads on; a
reduction entry is reset. Choices of the model in it: log entries 12, 22, 23, 103. -/
def Obligations.StreamControl : Prop :=
  ∀ (s : State) (src : RegSrc) (d : Fin 16) (g : Fin 8) (data : Word) (x : DCmd) (rest : List DCmd),
    let D := s.drift d
    let quiet := (∀ y ∈ D.held, y.phase ≠ .recordWait) ∧ s.str.runs = []
    let c := x.cmd
    let fresh (s' : State) (W : BitVec 1024 → Prop) (srcs : List CmdSource) : Prop := ∃ y, (s'.drift d).held = D.held ++ [y] ∧ W y.words ∧
      y.src ∈ srcs ∧ y.malformed = false ∧ y.qe = none ∧ y.phase = (if s.mode = 11 then CmdPhase.running else .waiting) ∧
      (s.mode = 11 → y.status = 0xB)
    let ch := s.f (F.STR_Dd_CFG_CMD_CH d)
    let C := s.chan ch
    let words := D.taken ++ C.words.map fun w => w.data
    let spelt (ws : List (BitVec 64)) : BitVec 1024 := BitVec.ofNat 1024 (ws.foldr (fun w a => w.toNat + 2 ^ 64 * a) 0)
    let id := s.f F.STR_RED_SEL_RED_ID
    (quiet → D.held.length < 4 → s.cfg.imageActive = true → C.hw = [] → (C.rhold = none ∨ C.rhold = some .hw) → s.storeFaults = [] →
      C.words ≠ [] → words.length = 16 → (∀ w ∈ C.words, w.brk = false) → (∀ w ∈ C.words.dropLast, w.fin = false) →
      (∀ w ∈ C.words.getLast?, w.fin = true) → (SCmd.ofWords (spelt words)).chain = 0xFF →
      (∀ y ∈ s.str.drifts, ∀ z ∈ y.2.held, z.phase ≠ .waiting ∧ z.phase ≠ .chainWait) →
      Answers (exec (.streamCommandCommit d) s) fun s' => fresh s' (fun w => w = spelt words) [.schedThread, .poolThread] ∧ (s'.chan ch).words = [] ∧
        (s'.chan ch).rhold = none ∧ (s'.drift d).taken = []) ∧
    (Reaches s src R.STR_CMD_GO → wf data F.STR_CMD_GO_DRIFT = d → wb data F.STR_CMD_GO_GO = true → quiet →
      (D.held.length < 4 → s.cfg.imageActive = true → (s.reg (R.STR_CMD_Wi 0)).toNat / 256 % 256 = 0xFF →
        (∀ y ∈ s.str.drifts, ∀ z ∈ y.2.held, z.phase ≠ .waiting ∧ z.phase ≠ .chainWait) →
        Answers (exec (.streamCommandGo src data) s) fun s' => fresh s'
          (fun w => ∀ i < 32, (w.toNat / 2 ^ (32 * i)) % 2 ^ 32 = (s.reg (R.STR_CMD_Wi i)).toNat) [.csp]) ∧
      ((4 ≤ D.held.length ∨ s.cfg.imageActive = false) → Answers (exec (.streamCommandGo src data) s) fun s' =>
        s'.flag F.STR_CMD_GO_ERR = true ∧ (s'.drift d).held = D.held)) ∧
    (D.held = x :: rest → quiet → x.phase = .running → x.run = none → x.qe = none → c.cplEn = false →
      (∀ y ∈ s.str.drifts, ∀ z ∈ y.2.held, z.phase = .running) →
      Answers (exec (.streamCommandEnd d) s) fun s' => (s'.drift d).held = rest ∧ s'.f (F.STR_Dd_STAT_LAST_STATUS d) = x.status.toNat ∧
        s'.reg (R.STR_Dd_RESUME d) = x.resume ∧ s'.sch.ft.toNat = max s.sch.ft.toNat (if s.crp.mainUp then x.since.toNat else 0) ∧
        (c.evEn = true → s.crp.mainUp = true → s'.evPending (EV.strDone d) = true)) ∧
    (D.held = [x] → x.phase = .chainWait → s.str.runs = [] → (∀ y ∈ s.str.drifts, y.1 = d) →
      Answers (exec (.chainTimeout d) s) fun s' => ∃ y, (s'.drift d).held = [y] ∧ y.phase = .running ∧ y.status = 9) ∧
    (Reaches s src (R.STR_Dd_CTRL d) → wb data (F.STR_Dd_CTRL_ABORT d) = true → wb data (F.STR_Dd_CTRL_FLUSH d) = false → D.held = [x] →
      (∀ y ∈ s.str.drifts, y.1 = d) →
      (x.phase = .chainWait → x.run = none → Answers (exec (.driftAbort src d data) s) fun s' => ∃ y, (s'.drift d).held = [y] ∧ y.phase = .running ∧
        y.status = 0xB ∧ y.resume.toNat = c.start % 2 ^ 32) ∧
      (x.phase = .running → ∀ id ∈ x.run, ∀ r ∈ s.run id, r.stop = none →
        (r.closed = true → ∀ m ∈ r.ms, m.cmd.fold = 0) → Answers (exec (.driftAbort src d data) s) fun s' => (s'.drift d).held = [x] ∧
          s'.run id = some { r with
            stop := some (min r.ctx.count (r.ctx.start + r.beat * r.ctx.beat), d, { rank := 7, status := 0xB, fop := 0 }) })) ∧
    (Reaches s src (R.STR_Dd_CTRL d) → wb data (F.STR_Dd_CTRL_ABORT d) = false → wb data (F.STR_Dd_CTRL_FLUSH d) = true →
      (∀ y ∈ s.str.drifts, y.1 = d) → Answers (exec (.driftFlush src d data) s) fun s' =>
        (s'.drift d).held.length = D.held.length ∧ ∀ (i : Nat) (y : DCmd), D.held[i]? = some y → ∃ (z : DCmd), (s'.drift d).held[i]? = some z ∧
          (y.phase = .waiting ∨ y.phase = .chainWait → z.phase = .running ∧ z.status = 0xB ∧
            z.resume.toNat = if y.qe.isSome then 0 else y.cmd.start % 2 ^ 32) ∧
          (y.phase ≠ .waiting → y.phase ≠ .chainWait → z = y)) ∧
    (∀ f fs, (s.lg g).sLand = f :: fs → ∀ base slots, s.cfg.active.tagKind f.tag.toNat = .landing base slots → 0 < slots →
      base + slots ≤ 2 ^ 18 → s.str.ecc = [] → s.str.runs = [] → s.crp.mainUp = true → Answers (exec (.classSLanding g) s) fun s' =>
        (s'.lg g).sLand = fs ∧ s'.sch.ft.toNat = max s.sch.ft.toNat f.due.toNat ∧
        (let at_ := 256 * base + 256 * (f.k % slots)
        (f.hole = false → s.flag (F.LNK_LGn_CFG_PROT g) = false →
          ∀ i < 240, Memory.get s'.str.mem (at_ + i) = BitVec.ofNat 8 (f.pay.toNat / 2 ^ (8 * i))) ∧
        (f.hole = true → ∀ i < 240, Memory.get s'.str.mem (at_ + i) = 0) ∧
        leNat ((List.range 4).map fun i => Memory.get s'.str.mem (at_ + 240 + i)) = f.tag.toNat + 2 ^ 17 * b2n f.hole + 2 ^ 18 * b2n f.csv +
          2 ^ 19 * s.f (F.LNK_LGn_CFG_PROT g) ∧
        leNat ((List.range 8).map fun i => Memory.get s'.str.mem (at_ + 248 + i)) = f.due.toNat ∧
        ∀ p, (p < at_ ∨ at_ + 256 ≤ p) → Memory.get s'.str.mem p = Memory.get s.str.mem p)) ∧
    (s.flag F.STR_CFG_SCRUB_EN = true → s.crp.mainUp = true → s.str.ecc = [] → s.str.runs = [] →
      Acts (exec .stagingScrub s) s [.streams] (fun _ => false) fun s' =>
      s'.str.scrub = (s.str.scrub + 1) % 2 ^ 20 ∧ s'.str.mem = s.str.mem ∧ s'.str.ecc = [] ∧ s'.str.poison = s.str.poison ∧
      s'.str.drifts = s.str.drifts ∧ s'.str.red = s.str.red ∧
      s'.now = s.now + (64 * max 1 (s.f F.STR_CFG_SCRUB_INT) - s.sch.ft.toNat % (64 * max 1 (s.f F.STR_CFG_SCRUB_INT)))) ∧
    (Reaches s src R.STR_RED_CMD → wb data F.STR_RED_CMD_RESET = true →
      ((s.red id).cur = none → (s.cfg.active.redEnt id).isSome = true → (s.red id).held = [] →
        Acts (exec (.reduceEntryReset src data) s) s [.streams] (fun off => off == R.STR_RED_CMD) fun s' =>
          s'.red id = { s.red id with next := 0, flags := 0, broken := false, held := [] } ∧ ∀ i, i ≠ id → s'.red i = s.red i) ∧
      (((s.red id).cur.isSome = true ∨ s.cfg.active.redEnt id = none) →
        Acts (exec (.reduceEntryReset src data) s) s [] (fun off => off == R.STR_RED_CMD) fun s' => s'.flag F.STR_RED_CMD_ERR = true))

/-! ## The tandem port and the control of threads -/

/-- R83, R400 to R411: the port trains, compares and joins, takes its partner's marks, segments and readiness, and is lost, taken
over or turned off. What a TRAIN and a CONTROL word hold is the model's choice (log entry 14). -/
def Obligations.TandemRows : Prop :=
  ∀ (s : State) (src : RegSrc) (data : Word) (w : TndWord) (arr : BitVec 70) (v : Bool), s.crp.mainUp = true →
    let st (a : State) : Nat := a.f F.GLB_TND_STAT_STATE
    let good := w.crc.toNat = tndCrc w.kind.toNat w.data.toNat ∧ w.kind.toNat ≤ 4
    let listens := s.flag F.GLB_TND_STAT_LIVE_IN = true ∧ st s ≠ 0
    let taken (kind : Nat) : Prop := listens ∧ good ∧ w.kind.toNat = kind
    let glb (off : Nat) : Bool := decide (off < 0x10000)
    let wide (off : Nat) : Bool := glb off || (decide (0x80000 ≤ off) && decide (off < 0x90000)) || (decide (0x3C0000 ≤ off) && decide (off < 0x3C0100))
    let acts (o : Host.Outcome State Fault Refusal) (P : State → Prop) : Prop := Acts o s [.tandem] glb P
    let solo (o : Host.Outcome State Fault Refusal) (P : State → Prop) : Prop := Acts o s [.tandem, .links, .vowick] wide fun s' =>
      st s' = 4 ∧ s'.f F.GLB_TND_STAT_PCAUSE = 0 ∧ s'.evPending EV.tndSolo = true ∧ P s'
    let tells (s' : State) (kind d : Nat) : Prop := ∃ o, Emits s s' (.tandem o) ∧ o.kind = BitVec.ofNat 3 kind ∧ o.data = BitVec.ofNat 4096 d ∧
      o.crc = BitVec.ofNat 32 (tndCrc kind d)
    let en := wb data F.GLB_TND_CTRL_EN
    let take := wb data F.GLB_TND_CTRL_TAKEOVER = true ∧ wf data F.GLB_TND_CTRL_KEY = 0x5A17
    let d := w.data.toNat
    let code := d % 256
    let a := d / 2 ^ 64
    let decl := s.f F.GLB_TND_LAT_TX_DECL + s.f F.GLB_TND_LAT_RX_DECL
    let matching := bits a 0 64 = s.planId ∧ bits a 64 8 = s.k ∧ bits a 72 20 = s.epid ∧ bits a 96 8 = s.f F.GLB_TND_LAT_RX_DECL ∧
      bits a 104 8 = s.f F.GLB_TND_LAT_TX_DECL ∧ bits a 112 1 ≠ b2n (s.flag F.GLB_TND_STAT_ROLE)
    let n := (s.sch.ft.toNat + 16448 + s.shiftLen - 1) / s.shiftLen
    (Reaches s src R.GLB_TND_CTRL →
      (en = true → wb data F.GLB_TND_CTRL_TAKEOVER = false → s.tandemImage = true → st s = 0 → acts (exec (.tandemEnable src data) s) fun s' => st s' = 1 ∧
        s'.tnd.sent = some s.now ∧ s'.tnd.measured = false ∧ tells s' 1 1 ∧ s'.flag F.GLB_TND_CTRL_EN = true) ∧
      (en = false → wb data F.GLB_TND_CTRL_TAKEOVER = false → acts (exec (.tandemEnable src data) s) fun s' =>
        st s' = (if st s = 1 ∨ st s = 2 then 0 else st s) ∧ s'.flag F.GLB_TND_CTRL_EN = false) ∧
      (en = true → take → st s = 5 → s.secondary = true → solo (exec (.takeover src data) s) fun s' => s'.flag F.GLB_TND_CTRL_EN = true) ∧
      (en = true → st s ≠ 0 → (¬take ∨ st s ≠ 5 ∨ s.secondary = false) → acts (exec (.takeover src data) s) fun s' => st s' = st s)) ∧
    (listens → ¬good → acts (exec (.tandemBadWord w) s) fun s' => s'.flag F.GLB_TND_STAT_LINK_ERR = true ∧ st s' = st s) ∧
    (taken 1 → st s = 1 →
      (code = 1 → (s.tnd.measured = false ∨ (s.tnd.pMeasured = false ∧ d.testBit 8 = false)) → acts (exec (.tandemTrainWord w) s) fun s' =>
        st s' = 1 ∧ tells s' 1 (2 + 256 * b2n s.tnd.measured) ∧ s'.tnd.pMeasured = (s.tnd.pMeasured || d.testBit 8)) ∧
      (∀ t, code = 2 → s.tnd.sent = some t →
        let rtt := s.now - t - 30
        (rtt ≤ decl + 1 → decl ≤ rtt + 1 → acts (exec (.tandemTrainWord w) s) fun s' => s'.tnd.measured = true ∧ s'.f F.GLB_TND_LAT_RTT = min 255 rtt ∧
          st s' = (if s.tnd.pMeasured || d.testBit 8 then 2 else 1)) ∧
        ((decl + 1 < rtt ∨ rtt + 1 < decl) → acts (exec (.tandemTrainWord w) s) fun s' => s'.flag F.GLB_TND_STAT_LAT_ERR = true ∧
          s'.f F.GLB_TND_LAT_RTT = min 255 rtt ∧ st s' = 1 ∧ s'.tnd.sent = some s.now))) ∧
    (taken 3 →
      (code = 1 → st s = 2 → a.testBit 113 = true → acts (exec (.tandemControlReceive w) s) fun s' => st s' = 6) ∧
      (code = 1 → st s = 2 → a.testBit 113 = false → ¬matching → acts (exec (.tandemControlReceive w) s) fun s' =>
        s'.flag F.GLB_TND_STAT_JOIN_ERR = true ∧ st s' = 2) ∧
      (code = 1 → st s = 2 → a.testBit 113 = false → matching → Acts (exec (.tandemControlReceive w) s) s [.tandem, .links] wide fun s' =>
        s'.tnd.agreed = true ∧ (a.testBit 114 = true → st s' = 3 ∧ s'.evPending EV.tndJoin = true) ∧ (a.testBit 114 = false → st s' = 2)) ∧
      (code = 2 → acts (exec (.tandemControlReceive w) s) fun s' => s'.tnd.pReady = a.testBit 0) ∧
      (code = 3 → st s = 3 → s.flag F.SCH_BSTAT_SWAP_PEND = true → Acts (exec (.tandemControlReceive w) s) s [] (fun off => off == F.SCH_BSTAT_SWAP_PEND.off)
        fun s' => s'.flag F.SCH_BSTAT_SWAP_PEND = false ∧ s'.flag F.SCH_BSTAT_SWAP_CANCEL = true) ∧
      (∀ i, st s = 3 → s.peerSlot (a % 2 ^ 32) = some i →
        (code = 4 → Acts (exec (.tandemControlReceive w) s) s [.queues] (fun _ => false) fun s' =>
          s'.peer i = { s.peer i with pLast := BitVec.ofNat 32 (a / 2 ^ 32), pSeen := true }) ∧
        (code = 5 → Acts (exec (.tandemControlReceive w) s) s [.queues] (fun _ => false) fun s' =>
          s'.peer i = { s.peer i with pAckLow := BitVec.ofNat 32 (a / 2 ^ 32), pAckSeen := true }))) ∧
    (taken 2 → st s = 3 →
      Answers (exec (.tandemMarkReceive w arr) s) (fun s' => s'.f F.GLB_TND_STAT_PCAUSE = bits d 64 6 ∧
        (bits d 64 6 ≠ 0 → s'.flag F.SCH_CLS_STAT_TANDEM = true)) ∧
      (s.secondary = false → acts (exec (.tandemMarkReceive w arr) s) fun s' => s'.sch.ft.toNat = max s.sch.ft.toNat (arr.toNat / 64) % 2 ^ 64)) ∧
    (taken 4 → st s = 3 → (segRsp (BitVec.ofNat 1920 d) = true ∨ segNo (BitVec.ofNat 1920 d) ≠ 0 ∨ (bits d 128 4 ≠ 0 ∧ bits d 128 4 ≤ 7)) →
      Acts (exec (.tandemSegmentReceive w) s) s [.queues] (fun _ => false) fun s' => s'.que.rxq = s.que.rxq ++ [
        { bytes := BitVec.ofNat 1920 d, g := 8, vc := bits d 1920 3, pool := 8, tag := none, fromPartner := true, slot := 0 }]) ∧
    (st s = 3 →
      (s.secondary = false → solo (exec .tandemLost s) fun s' => s'.evPending EV.tndLost = true) ∧
      (s.secondary = true → s.takeDue = none → Acts (exec .tandemLost s) s [.tandem] wide fun s' => st s' = 5 ∧ s'.evPending EV.tndLost = true ∧
        (s.flag F.GLB_TND_STAT_LIVE_IN = true → s'.evPending EV.tndSplit = true))) ∧
    (s.tandemImage = true → (st s = 3 ∨ st s = 4 ∨ st s = 6) → acts (exec .tandemReadyFlag s) fun s' =>
      s'.tnd.ready = (decide (s.cfg.armedFor = some n) && s.f F.CFG_STAT_STAGED == 4) ∧
      s'.sch.ft.toNat = max s.sch.ft.toNat (n * s.shiftLen - 16448) % 2 ^ 64 ∧ tells s' 3 (2 + 2 ^ 64 * (b2n s'.tnd.ready + 2 ^ 128 * s.pairTally))) ∧
    (v ≠ s.flag F.GLB_TND_STAT_LIVE_IN → acts (exec (.tandemLivenessChange v) s) fun s' => s'.flag F.GLB_TND_STAT_LIVE_IN = v ∧
      s'.tnd.fell = if v then none else some s.now) ∧
    (∀ t, st s = 5 → s.takeDue = some t → solo (exec .takeDelayExpiry s) fun s' => max s.now t ≤ s'.now)

/-- R421, R427, R438, R459, R461, R463, R465, R469, R470, R482, R516: a thread command acts on the selected thread where its state
admits it, and sets ERR elsewhere and for a thread other than T0; the fault log gives up its oldest entry; a lamp is returned or
scanned for; the all-blocked condition is reported. Choices of the model in it: log entries 25, 55, 56, 61. -/
def Obligations.ThreadCommands : Prop :=
  ∀ (s : State) (src : RegSrc) (data : Word), s.crp.mainUp = true →
    let regs (off : Nat) : Bool := decide (0x300000 ≤ off) && decide (off < 0x380000)
    let acts (o : Host.Outcome State Fault Refusal) (P : State → Prop) : Prop := Acts o s [.threads, .memory, .streams] regs P
    let keeps (o : Host.Outcome State Fault Refusal) (P : State → Prop) : Prop := Acts o s [] regs P
    let mine := ∀ u, src = .thread u → u.val = 0
    let t := s.f F.BTP_TH_SEL_T
    let x := s.thread t
    let st := if s.tflag t TF.exists_ then x.st.toNat else 0
    let live := st = 1 ∨ st = 2 ∨ st = 3
    let c := data.toNat % 16
    let may := (c = 1 ∧ live) ∨ (c = 2 ∧ (st = 5 ∨ st = 6 ∨ st = 7)) ∨ (c = 3 ∧ st = 5) ∨ (c = 4 ∧ st = 5 ∧ s.tflag t TF.handler = true) ∨
      (c = 5 ∧ st ≠ 0) ∨ (c = 6 ∧ live) ∨ (c = 7 ∧ st = 4)
    let sp := x.sp.toNat % 2 ^ 22
    let frame := Memory.read s.mem.mem sp 64
    let clean := s.mem.ecc = [] ∧ s.mem.poison = [] ∧ sp + 64 ≤ 2 ^ 22
    let l := s.f F.BTP_LAMP_SEL_LAMP
    let lamps := s.lampsOf (s.f F.BTP_LAMP_SEL_SCAN_T)
    (Reaches s src R.BTP_TH_CMD → ∀ i ∈ [(1, Instr.threadStop src data), (2, .threadStart src data), (3, .threadResume src data),
        (4, .resumeAlert src data), (5, .threadReset src data), (6, .threadHalt src data), (7, .threadRun src data)], i.1 = c →
      let y (y : Thread) : Prop := acts (exec i.2 s) fun s' => s'.thread t = y ∧ ∀ u, u ≠ t → s'.thread u = s.thread u
      (¬(mine ∧ may) → keeps (exec i.2 s) fun s' => s'.flag F.BTP_TH_CMD_ERR = true) ∧
      (mine → may →
        (c = 1 → y { x with wait := .none, st := 7, ans := [], pendingWr := 0, gen := x.gen + 1, waitSince := s.now }) ∧
        (c = 2 → y { x.fresh s.cfg.active t 1 with waitSince := s.now }) ∧
        (c = 3 → clean → y { x.unstack frame with st := 1 }) ∧
        (c = 4 → clean → y { (x.setSrb SR.al true).setSrb SR.ae false with
          st := 1, pc := BitVec.ofNat 17 (s.vecBase t + 8 * leNat ((frame.drop 0x10).take 1)) }) ∧
        (c = 5 → y { x.fresh s.cfg.active t 7 with waitSince := s.now }) ∧
        (c = 6 → y { x with prev := x.st, st := 4, waitSince := if x.wait = .none then s.now else x.waitSince }) ∧
        (c = 7 → y { x with st := x.prev, skipMatch := true, modeHalt := false }))) ∧
    (Reaches s src R.BTP_FLOG_POP → acts (exec (.faultLogPop src data) s) fun s' =>
      s'.btp.flog = (if data.getLsbD 0 then s.btp.flog.tail else s.btp.flog) ∧ s'.btp.threads = s.btp.threads) ∧
    (Reaches s src R.BTP_LAMP_CMD → data.toNat % 4 = 1 →
      ((¬mine ∨ (s.lamp l).owner = none) → keeps (exec (.forceReturn src data) s) fun s' => s'.flag F.BTP_LAMP_CMD_ERR = true) ∧
      (mine → ∀ o, (s.lamp l).owner = some o → (s.lamp l).waiters = [] → acts (exec (.forceReturn src data) s) fun s' =>
        s'.lamp l = { owner := none, waiters := [] } ∧ s'.btp.threads = s.btp.threads) ∧
      (mine → ∀ o, (s.lamp l).owner = some o → ∀ u us, (s.lamp l).waiters = u :: us → (s.thread u).wait = .lamp l → (s.thread u).st = 2 →
        acts (exec (.forceReturn src data) s) fun s' => s'.lamp l = { owner := some u, waiters := us.filter fun w => w != u } ∧
          s'.thread u = ({ s.thread u with wait := .none }.ageSr).finish (s.tflag u TF.full) ((s.thread u).pc.toNat + 1))) ∧
    (Reaches s src R.BTP_LAMP_CMD → data.toNat % 4 = 2 → mine → keeps (exec (.lampScan src data) s) fun s' =>
      s'.flag F.BTP_LAMP_CMD_NONE = lamps.isEmpty ∧ ((lamps = [] ∧ s'.f F.BTP_LAMP_SEL_LAMP = l) ∨
        s'.f F.BTP_LAMP_SEL_LAMP = ((lamps.find? fun m => decide (l < m)).or lamps.head?).getD 0 % 2 ^ 12)) ∧
    (∀ t0, s.btp.blockedSince = some t0 → s.btp.allArmed = true → Acts (exec .allblockDetect s) s [] regs fun s' =>
      s'.flag F.BTP_STAT_ALLBLOCK = true ∧ s'.evPending EV.allblock = true ∧ s'.now = max s.now (t0 + 8 * s.f F.BTP_DLK_WINDOW))

/-- R421, R441, R443 to R445, R453, R454: a free slot of a pipe is granted to a pool thread; an event routed to a thread that takes
alerts enters its handler, its number in the frame; a thread whose channel or event wait is over is ready again, and a scheduled
one issues its instruction again in its next own slot, where it completes. Choices of the model in it: log entries 57, 58. -/
def Obligations.ThreadWaits : Prop :=
  ∀ (s : State) (t : Fin 128), s.crp.mainUp = true → s.flag F.DBG_TR_CFG_EN = false →
    let x := s.thread t
    let parts : List Part := [.threads, .memory, .streams]
    let acts (o : Host.Outcome State Fault Refusal) (P : State → Prop) : Prop := Acts o s parts (fun _ => false) P
    (∀ p : Fin 2, s.planLive = true → ((3 ≤ s.mode ∧ s.mode ≤ 8) ∨ s.mode = 11) → ∀ c, s.poolCyc p = some c →
      let slot (P : State → Prop) : Prop := acts (exec (.poolSlotGrant p) s) fun s' =>
        s'.sch.ft.toNat = max s.sch.ft.toNat (2 * c) % 2 ^ 64 ∧ kget 0 s'.btp.nextCyc p = c + 1 ∧ P s'
      (s.poolPick p = none → slot fun s' => kget 0 s'.btp.granted p = 0 ∧ s'.btp.threads = s.btp.threads) ∧
      (s.poolPick p = some t → s.alertDue t = false → slot fun s' => kget (64 * p.val) s'.btp.holder p = t ∧
        s'.thread t = { x with base := x.base + 1, used := if kget (64 * p.val) s.btp.holder p = t then x.used else 0 } ∧
        kget 0 s'.btp.granted p = if x.own ≤ x.base ∧ x.earliest ≤ c then t.val + 1 else 0)) ∧
    (s.threadsRun t = true → s.alertDue t = true → x.st = 1 → x.wait = .none → HandlerReady s t x → ∀ n, s.threadEvent t none = some n → n < 4096 →
      let u := (s.nextOwn t).elim s fun i => s.passFt (2 * i.2)
      acts (exec (.eventAlertEntry t) s) fun s' => (n ≠ 3 → n ≠ 7 → u.raisedAgain n = false → s'.evPending n = false) ∧
        s'.thread t = { x.stacked 1 with
          pc := BitVec.ofNat 17 (s.vecBase t + 8), st := 1, own := (s.nextOwn t).elim x.own fun i => i.1 + 6 } ∧
        s'.mem.mem = (s.tmemPut (x.sp.toNat - 64) (frameBytes x 1 n 0 (s.cfg.active.code x.pc.toNat))).mem.mem) ∧
    (s.threadsRun t = true → x.st = 2 → ∀ ch rd, x.wait = .chanRead ch rd → s.chanReadable ch t = true → s.isSched t = false →
      acts (exec (.channelWaitResume (.thread t)) s) fun s' => s'.thread t = { x with st := 1 } ∧ s'.btp.chans = s.btp.chans) ∧
    (s.threadsRun t = true → x.st = 2 → ∀ ch d e, x.wait = .chanWrite ch d e → s.chanWritable ch t = true → s.isSched t = false →
      acts (exec (.channelWaitResume (.thread t)) s) fun s' => s'.thread t = { x with st := 1 } ∧ s'.btp.chans = s.btp.chans) ∧
    (s.threadsRun t = true → x.st = 2 → ∀ ws rd, x.wait = .event ws rd → (s.threadEvent t (if ws = 0 then none else some ws)).isSome = true →
      s.isSched t = false → acts (exec (.eventWaitResume t) s) fun s' => s'.thread t = { x with st := 1 }) ∧
    (x.st = 2 → ∀ k, Lawful (s.modThread t fun x => { x with st := 1 }) t k → s.isSched t = true → isPair k.w = false → x.executes k.w = true →
      let e := (s.modThread t fun x => { x with st := 1 }).atSlot k
      (∀ ch rd, x.wait = .chanRead ch rd → wOp k.w = 0x38 → bits k.w 0 4 = 0 → bits k.w 4 10 = ch → wRd k.w = rd → s.chanForbidden ch = false →
        t.val ≠ 0 → s.chanReadable ch t = true → e.chanReadable ch t = true → ∀ w ws, (s.chan ch).words = w :: ws → (s.chan ch).hw = [] →
        acts (exec (.channelWaitResume (.thread t)) s) fun s' => (s'.thread t).wait = .none ∧ (s'.thread t).st = 1 ∧
          (s'.chan ch).words = ws ∧ t.val ∉ (s'.chan ch).waiters ∧
          (s'.thread t).gpr = ((s.regsAt k).putLoaded (x.idx k.full rd) w.data k.c).gpr) ∧
      (∀ ws rd, x.wait = .event ws rd → wOp k.w = 0x38 → bits k.w 0 4 = 9 → bits k.w 4 2 = ws → wRd k.w = rd → t.val ≠ 0 →
        ∀ n, s.threadEvent t (if ws = 0 then none else some ws) = some n → n < 4096 → acts (exec (.eventWaitResume t) s) fun s' =>
          (s'.thread t).wait = .none ∧ (s'.thread t).st = 1 ∧ (n ≠ 3 → n ≠ 7 → e.raisedAgain n = false → s'.evPending n = false) ∧
          (s'.thread t).gpr = (k.putRd (s.regsAt k) (BitVec.ofNat 64 n)).gpr))

/-! ## Memories, protection and test -/

/-- R14, R290, R292, R523, R527 to R535, R602, R633, R646: an access in a memory window reads or writes the word it names, or is
refused; the scrubber takes thread memory's next word; a tamper or a lifecycle transition clears the partition, or owes the wipe
where MAIN is off; memories wake, and the scan and memory tests begin and end. Choices of the model in it: log entries 11, 29,
39, 62. -/
def Obligations.MemoriesAndProtection : Prop :=
  ∀ (s : State) (src : RegSrc) (acc : WinAccess) (lc : BitVec 3) (fail : Bool), s.crp.headOn = true →
    let memReg (off : Nat) : Bool := (decide (0x380000 ≤ off) && decide (off < 0x3C0000)) || off == R.GLB_PORT_STAT || off == R.DBG_STAT
    let acts (o : Host.Outcome State Fault Refusal) (ps : List Part) (P : State → Prop) : Prop := Acts o s ps memReg P
    let x := acc.addr.toNat
    let up := s.crp.mainUp = true
    let ack (s' : State) (d : Word) (e : Bool) : Prop := src = .csp → Emits s s' (.cspAck d e)
    let sa := (s.f F.STR_SWIN_BASE * 2 ^ 22 + x) % 2 ^ 26
    let num (bs : List Byte) : Word := BitVec.ofNat 32 (leNat bs)
    let served := s.dbgBarred src = false ∧ acc.size = 2 ∧ x % 4 = 0 ∧ up
    let wiped (s' : State) : Prop := (∀ a, 0x3C0000 ≤ a → Memory.get s'.mem.mem a = 0) ∧
      ∀ a, a < 0x3C0000 → Memory.get s'.mem.mem a = Memory.get s.mem.mem a
    let sec (s' : State) : Bool := s'.flag F.MEM_SEC_STAT_ACTIVE
    let counted (s' : State) : Prop := s'.f F.MEM_SEC_STAT_COUNT = min (2 ^ F.MEM_SEC_STAT_COUNT.w - 1) (s.f F.MEM_SEC_STAT_COUNT + 1)
    let old := s.f F.MEM_LC_STAT_STATE
    let first := ∃ q, s.crp.seq = some q ∧ q.kind = .por ∧ q.step ≤ 2
    let open_ := s.f F.MEM_LC_STAT_STATE ≠ 2 ∧ s.f F.MEM_LC_STAT_STATE ≠ 4
    -- windows
    (served → s.flag F.MEM_STAT_WAKE_S = false → s.str.ecc = [] → s.str.poison = [] →
      (∀ w, acc.wr = some w → acts (exec (.stagingWindowAccess src acc) s) [.streams] fun s' => ack s' 0 false ∧
        ∀ a, Memory.get s'.str.mem a = if sa ≤ a ∧ a < sa + 4 then (natLe 4 w.toNat).getD (a - sa) 0 else Memory.get s.str.mem a) ∧
      (acc.wr = none → s.peerTableWord (sa / 64) = none → acts (exec (.stagingWindowAccess src acc) s) [.streams] fun s' =>
        ack s' (num (Memory.read s.str.mem sa 4)) false ∧ s'.str.mem = s.str.mem ∧ s'.str.ecc = [] ∧ s'.str.poison = [] ∧
        s'.str.red = s.str.red ∧ (s.str.runs = [] → s'.str.drifts = s.str.drifts))) ∧
    (served → s.flag F.MEM_STAT_WAKE_T = false → x < 0x3C0000 → s.mem.ecc = [] → s.mem.poison = [] →
      (∀ w, acc.wr = some w → acts (exec (.tmemWindowAccess src acc) s) [.memory] fun s' => ack s' 0 false ∧
        ∀ a, Memory.get s'.mem.mem a = if x ≤ a ∧ a < x + 4 then (natLe 4 w.toNat).getD (a - x) 0 else Memory.get s.mem.mem a) ∧
      (acc.wr = none → acts (exec (.tmemWindowAccess src acc) s) [] fun s' => ack s' (num (Memory.read s.mem.mem x 4)) false)) ∧
    (s.dbgBarred src = false → up → (acc.size ≠ 2 ∨ x % 4 ≠ 0 ∨ 0x3C0000 ≤ x ∨ s.flag F.MEM_STAT_WAKE_T = true) →
      acts (exec (.tmemWindowAccess src acc) s) [] fun s' => ack s' 0 true ∧ (src = .csp → s'.flag F.GLB_PORT_STAT_CSP_ERR = true)) ∧
    (s.dbgBarred src = false → acc.size = 2 → x % 4 = 0 → ¬up → acts (exec (.stagingWindowAccess src acc) s) [] fun s' => ack s' 0xFFFFFFFF true) ∧
    -- thread memory by itself
    (up → s.flag F.MEM_CFG_SCRUB_EN = true → s.flag F.MEM_STAT_WAKE_T = false → s.mem.ecc = [] →
      let n := 128 * max 1 (s.f F.MEM_CFG_SCRUB_INT)
      acts (exec .tmemScrub s) [.memory] fun s' => s'.mem = { s.mem with scrub := (s.mem.scrub + 1) % 2 ^ 19 } ∧
        s'.now = s.now + (n - s.sch.ft.toNat % n)) ∧
    (∀ t, s.mem.wakeT = some t → acts (exec .memoryWake s) [.memory] fun s' => s'.flag F.MEM_STAT_WAKE_T = false ∧
      s'.mem = { s.mem with wakeT := none } ∧ s'.now = max s.now t) ∧
    (s.mem.wakeT = none → ∀ t, s.mem.wakeS = some t → acts (exec .memoryWake s) [.memory] fun s' => s'.flag F.MEM_STAT_WAKE_S = false ∧
      s'.mem = { s.mem with wakeS := none } ∧ s'.now = max s.now t) ∧
    -- tamper and lifecycle
    (s.flag F.MEM_SEC_STAT_TAMPER_IN = false →
      (up → acts (exec .tamperAssert s) [.memory, .threads] fun s' => s'.flag F.MEM_SEC_STAT_TAMPER_IN = true ∧ s'.flag F.MEM_SEC_STAT_TAMPER = true ∧
        wiped s' ∧ sec s' = true ∧ s'.mem.wipeEnd = none ∧ s'.evPending EV.secTamper = true ∧ counted s') ∧
      (¬up → acts (exec .tamperAssert s) [.memory] fun s' => s'.flag F.MEM_SEC_STAT_TAMPER = true ∧ wiped s' ∧
        s'.flag F.MEM_SEC_STAT_LOST = true ∧ s'.mem.wipeOwed = true ∧ counted s')) ∧
    (s.flag F.MEM_SEC_STAT_TAMPER_IN = true → up → sec s = true → acts (exec .tamperRelease s) [.memory] fun s' =>
      s'.flag F.MEM_SEC_STAT_TAMPER_IN = false ∧ s'.mem = { s.mem with wipeEnd := some (s.now + 128000) }) ∧
    (up → ∀ t, s.mem.wipeEnd = some t → acts (exec .secureWipeEnd s) [.memory] fun s' => sec s' = false ∧ s'.mem = { s.mem with wipeEnd := none } ∧
      s'.evPending EV.secWipe = true ∧ s'.now = max s.now t) ∧
    (lc.toNat ≠ old → first → lc.toNat ≤ 4 → acts (exec (.lifecycleTransition lc) s) [] fun s' => s'.f F.MEM_LC_STAT_STATE = lc.toNat) ∧
    (lc.toNat ≠ old → ¬first → (s.f F.CFG_STAT_STAGED ≠ 1 ∧ s.f F.CFG_STAT_STAGED ≠ 2) →
      (lcForward old lc.toNat = true → up → acts (exec (.lifecycleTransition lc) s) [.memory, .threads] fun s' =>
        s'.f F.MEM_LC_STAT_STATE = lc.toNat ∧ s'.f F.MEM_LC_STAT_PREV = old ∧ s'.evPending EV.lcChange = true ∧
        s'.flag F.MEM_SEC_STAT_LC_WIPE = true ∧ wiped s' ∧ sec s' = true ∧ counted s') ∧
      (lcForward old lc.toNat = false → up → acts (exec (.lifecycleTransition lc) s) [.memory, .threads] fun s' =>
        s'.flag F.MEM_LC_STAT_BAD = true ∧ s'.flag F.MEM_LC_STAT_FORCED_END = true ∧ s'.flag F.MEM_SEC_STAT_TAMPER = true ∧ wiped s' ∧
        sec s' = true)) ∧
    -- scan and memory test
    (up → open_ → s.flag F.MEM_LC_STAT_FORCED_END = false → s.crp.scan = false → acts (exec .scanModeRise s) [.memory, .threads, .reset] fun s' =>
      s'.crp = { s.crp with scan := true } ∧ s'.flag F.GLB_PORT_STAT_SCAN_TAMPER = true ∧ s'.flag F.MEM_SEC_STAT_TAMPER = true ∧ wiped s' ∧
      sec s' = true) ∧
    (up → open_ → s.flag F.MEM_LC_STAT_FORCED_END = false → s.crp.scan = true → s.crp.mbist = false →
      Answers (exec .memoryTestStart s) fun s' => s'.crp.mbist = true ∧ s'.mem.mem = [] ∧ s'.str.mem = [] ∧ s'.que.ctx = []) ∧
    (s.crp.mbist = true → acts (exec (.mbistEnd fail) s) [.reset] fun s' => s'.crp = { s.crp with mbist := false } ∧ Emits s s' (.mbist true fail))

/-! ## Host memory ports and events -/

/-- R607, R609 to R614, R617, R674 to R677, R696: the request in front leaves with the lowest free ID; the last beat and the
response end a transaction and free its ID, an error setting ERR; a timeout ends it and holds the ID; a general source is raised
and pending bits are cleared, but for those raised in the same CK_CTL cycle (R15). Choices of the model in it: log entry 74. -/
def Obligations.HostPortsAndEvents : Prop :=
  ∀ (s : State) (src : RegSrc) (p : Fin 8) (tid : BitVec 10) (beat : HmpBeat) (status : BitVec 2) (w : BitVec 64) (wr : Bool) (k : Fin 128)
    (data : Word), s.crp.mainUp = true →
    let x := s.hmpPort p
    let flush := s.flag F.CRP_PWR_STAT_HMP_FLUSH
    let quiet (r : HmpReq) : Prop := match r.who with
      | .msi _ _ => True
      | _ => False
    let glb (off : Nat) : Bool := decide (0x200 ≤ off) && decide (off < 0x300) || off == R.EVT_STAT
    (∀ r rs, x.reqs = r :: rs → flush = false →
      let mine := if r.opc = 0 then x.reads else x.writes
      ∀ id, freeTid mine = some id → Acts (exec (.hmpRequestTransfer p) s) s [] (fun _ => false) fun s' =>
        let t : HmpTxn := { tid := BitVec.ofNat 10 id, req := r, at_ := s.now, got := [], beats := 0, bad := false, poison := false, heldOver := false }
        rs <+: (s'.hmpPort p).reqs ∧ (s'.hmpPort p).reads = (if r.opc = 0 then x.reads ++ [t] else x.reads) ∧
        (s'.hmpPort p).writes = (if r.opc = 0 then x.writes else x.writes ++ [t]) ∧ s'.now = s.now + 1 ∧
        Emits s s' (.hmpRequest p r.opc.toNat r.arg.toNat r.addr.toNat r.len id r.src.toNat r.intr) ∧
        (r.opc ≠ 0 → Emits s s' (.hmpWriteData p r.data r.poison)) ∧ ∀ j < 8, j ≠ p.val →
          (s'.hmpPort j).reads = (s.hmpPort j).reads ∧ (s'.hmpPort j).writes = (s.hmpPort j).writes) ∧
    (∀ t, x.find false tid = some t →
      (beat.last = false → Acts (exec (.hmpReadData p tid beat) s) s [] (fun _ => false) fun s' => ∃ u, (s'.hmpPort p).find false tid = some u ∧
        u.got = t.got ++ ((natLe 128 beat.bytes.toNat).drop (if t.beats = 0 then t.req.addr.toNat % 128 else 0)).take (t.req.len - t.got.length) ∧
        u.beats = t.beats + 1 ∧ u.bad = (t.bad || beat.status != 0) ∧ u.req = t.req) ∧
      (beat.last = true → t.heldOver = true → Acts (exec (.hmpReadData p tid beat) s) s [] glb fun s' =>
        (s'.hmpPort p).reads = x.reads.filter (fun u => u.tid != tid) ∧ s'.flag (F.GLB_HMPp_STAT_LATE p) = true) ∧
      (beat.last = true → t.heldOver = false → Answers (exec (.hmpReadData p tid beat) s) fun s' =>
        (s'.hmpPort p).reads = x.reads.filter (fun u => u.tid != tid) ∧
        ((t.bad = true ∨ beat.status ≠ 0) → s'.flag (F.GLB_HMPp_STAT_ERR p) = true))) ∧
    (∀ t, x.find true tid = some t →
      (t.heldOver = true → Acts (exec (.hmpWriteResponse p tid status w) s) s [] glb fun s' =>
        (s'.hmpPort p).writes = x.writes.filter (fun u => u.tid != tid) ∧ s'.flag (F.GLB_HMPp_STAT_LATE p) = true) ∧
      (t.heldOver = false → Answers (exec (.hmpWriteResponse p tid status w) s) fun s' =>
        (s'.hmpPort p).writes = x.writes.filter (fun u => u.tid != tid) ∧ (status ≠ 0 → s'.flag (F.GLB_HMPp_STAT_ERR p) = true)) ∧
      (t.heldOver = false → quiet t.req → Acts (exec (.hmpWriteResponse p tid status w) s) s [] glb fun s' =>
        s'.flag F.EVT_STAT_MSI_ERR = (s.flag F.EVT_STAT_MSI_ERR || decide (status ≠ 0)))) ∧
    (∀ t, x.find wr tid = some t → t.heldOver = false → s.f F.GLB_HMP_CFG_TMO ≠ 0 → Answers (exec (.hmpTimeout p wr tid) s) fun s' =>
      (∃ u, (s'.hmpPort p).find wr tid = some u ∧ u.heldOver = true) ∧ s'.flag (F.GLB_HMPp_STAT_TMO p) = true ∧ s'.evPending EV.hmpTmo = true ∧
      max s.now (t.at_ + 1024 * s.f F.GLB_HMP_CFG_TMO) ≤ s'.now) ∧
    (Reaches s src R.EVT_RAISE → (∀ u, src ≠ .thread u) →
      let n := wf data F.EVT_RAISE_EV
      (512 ≤ n → Acts (exec (.evtRaise src data) s) s [] (fun _ => false) fun s' => s'.evPending n = true) ∧
      (n < 512 → Acts (exec (.evtRaise src data) s) s [] glb fun s' => s'.flag F.EVT_STAT_BADSRC = true)) ∧
    (Reaches s src (R.EVT_PENDk k) → Acts (exec (.eventPendingClear src k data) s) s [] (fun _ => false) fun s' =>
      ∀ b < 32, 32 * k.val + b ≠ 3 → 32 * k.val + b ≠ 7 → s'.evPending (32 * k.val + b) =
        (s.evPending (32 * k.val + b) && !data.getLsbD b || (s.hitsAt (R.EVT_PENDk k)).1.getLsbD b))

/-! ## Integer instructions of threads -/

/-- R487, R488: ADD, SUB, ADC, SBC and NEG write their sum or difference and the flags of class A, and CMP the flags of ra − rb: C
the carry out of bit 63, which for a subtraction means no borrow, V signed overflow, Z and N of the result. Nothing else of the
block changes but the thread's place in its code and slots. R487: AND, OR, XOR, ANDN and NOT write their result and the flags of
class L, TST the flags of ra AND rb alone: Z and N of the result, C kept, V cleared. -/
def Obligations.AluSumsAndLogic : Prop :=
  (∀ (s : State) (t : Fin 128) (k : Issue), Runs s t k → isPair k.w = false → wOp k.w = 0x01 →
     let x := s.regsAt k
     let a := k.ra x
     let b := k.rb x
     let c : Nat := if x.srb SR.c then 1 else 0
     let fl (r : BitVec 64) (carry ovf : Bool) : Nat := flagBits (decide (r = 0)) r.msb carry ovf
     (wFn k.w = 0x00 → Completes (exec (.aluAdd t) s) s s t k ((k.putRd x (a + b)).setFlags
       (fl (a + b) (decide (2 ^ 64 ≤ a.toNat + b.toNat)) (decide ((a + b).toInt ≠ a.toInt + b.toInt))))) ∧
     (wFn k.w = 0x01 → Completes (exec (.aluSub t) s) s s t k ((k.putRd x (a - b)).setFlags
       (fl (a - b) (decide (b.toNat ≤ a.toNat)) (decide ((a - b).toInt ≠ a.toInt - b.toInt))))) ∧
     (wFn k.w = 0x02 → let r := a + b + BitVec.ofNat 64 c
       Completes (exec (.adc t) s) s s t k ((k.putRd x r).setFlags
         (fl r (decide (2 ^ 64 ≤ a.toNat + b.toNat + c)) (decide (r.toInt ≠ a.toInt + b.toInt + c))))) ∧
     (wFn k.w = 0x03 → let r := a + ~~~b + BitVec.ofNat 64 c
       Completes (exec (.sbc t) s) s s t k ((k.putRd x r).setFlags
         (fl r (decide (2 ^ 64 ≤ a.toNat + (~~~b).toNat + c)) (decide (r.toInt ≠ a.toInt - b.toInt - 1 + c))))) ∧
     (wFn k.w = 0x0C → Completes (exec (.aluCmp t) s) s s t k (x.setFlags
       (fl (a - b) (decide (b.toNat ≤ a.toNat)) (decide ((a - b).toInt ≠ a.toInt - b.toInt))))) ∧
     (wFn k.w = 0x10 → Completes (exec (.aluNeg t) s) s s t k ((k.putRd x (0 - a)).setFlags
       (fl (0 - a) (decide (a = 0)) (decide ((0 - a).toInt ≠ -a.toInt)))))) ∧
  (∀ (s : State) (t : Fin 128) (k : Issue), Runs s t k → isPair k.w = false → wOp k.w = 0x01 →
     let x := s.regsAt k
     let a := k.ra x
     let b := k.rb x
     let both (r : BitVec 64) : Thread := (k.putRd x r).setFlags (flagBits (decide (r = 0)) r.msb (x.srb SR.c) false)
     (wFn k.w = 0x04 → Completes (exec (.aluAnd t) s) s s t k (both (a &&& b))) ∧
     (wFn k.w = 0x05 → Completes (exec (.aluOr t) s) s s t k (both (a ||| b))) ∧
     (wFn k.w = 0x06 → Completes (exec (.aluXor t) s) s s t k (both (a ^^^ b))) ∧
     (wFn k.w = 0x07 → Completes (exec (.andn t) s) s s t k (both (a &&& ~~~b))) ∧
     (wFn k.w = 0x0F → Completes (exec (.aluNot t) s) s s t k (both (~~~a))) ∧
     (wFn k.w = 0x0D → Completes (exec (.tst t) s) s s t k
       (x.setFlags (flagBits (decide (a &&& b = 0)) (a &&& b).msb (x.srb SR.c) false))))

/-- R487, R489: SHL, SHR, SAR and ROR shift ra by rb[5:0], and the SHI forms by their count field, with the flags of class S: Z and
N of the result, C the last bit shifted out and kept for a count of 0, V kept. -/
def Obligations.ShiftsAndTheirFlags : Prop :=
  ∀ (s : State) (t : Fin 128) (k : Issue), Runs s t k → isPair k.w = false →
    let x := s.regsAt k
    let a := k.ra x
    let n := if wOp k.w = 0x01 then (k.rb x).toNat % 64 else bits k.w 5 6
    let up := if n = 0 then x.srb SR.c else a.getLsbD (64 - n)
    let down := if n = 0 then x.srb SR.c else a.getLsbD (n - 1)
    let both (r : BitVec 64) (c : Bool) : Thread := (k.putRd x r).setFlags (flagBits (decide (r = 0)) r.msb c (x.srb SR.v))
    (wOp k.w = 0x01 →
      (wFn k.w = 0x08 → Completes (exec (.aluShl t) s) s s t k (both (a <<< n) up)) ∧
      (wFn k.w = 0x09 → Completes (exec (.aluShr t) s) s s t k (both (a >>> n) down)) ∧
      (wFn k.w = 0x0A → Completes (exec (.aluSar t) s) s s t k (both (a.sshiftRight n) down)) ∧
      (wFn k.w = 0x0B → Completes (exec (.aluRor t) s) s s t k (both (a >>> n ||| a <<< (64 - n)) down))) ∧
    (wOp k.w = 0x0C →
      (bits k.w 3 2 = 0 → Completes (exec (.shiShl t) s) s s t k (both (a <<< n) up)) ∧
      (bits k.w 3 2 = 1 → Completes (exec (.shiShr t) s) s s t k (both (a >>> n) down)) ∧
      (bits k.w 3 2 = 2 → Completes (exec (.shiSar t) s) s s t k (both (a.sshiftRight n) down)) ∧
      (bits k.w 3 2 = 3 → Completes (exec (.shiRor t) s) s s t k (both (a >>> n ||| a <<< (64 - n)) down)))

/-- R487: MOV, the minima and maxima, CLZ, CTZ, POPC, BREV, BSWAP and PERM write rd and no flag. The counts, reversals and the byte
choice are given bit by bit. -/
def Obligations.AluMovesAndCounts : Prop :=
  ∀ (s : State) (t : Fin 128) (k : Issue), Runs s t k → isPair k.w = false → wOp k.w = 0x01 →
    let x := s.regsAt k
    let a := k.ra x
    let b := k.rb x
    let writes (i : Instr) (ok : BitVec 64 → Prop) : Prop := ∃ r, ok r ∧ Completes (exec i s) s s t k (k.putRd x r)
    (wFn k.w = 0x0E → writes (.aluMov t) fun r => r = a) ∧
    (wFn k.w = 0x11 → writes (.aluMin t) fun r => r.toInt = min a.toInt b.toInt) ∧
    (wFn k.w = 0x12 → writes (.aluMax t) fun r => r.toInt = max a.toInt b.toInt) ∧
    (wFn k.w = 0x13 → writes (.minu t) fun r => r.toNat = min a.toNat b.toNat) ∧
    (wFn k.w = 0x14 → writes (.maxu t) fun r => r.toNat = max a.toNat b.toNat) ∧
    (wFn k.w = 0x15 → writes (.aluClz t) fun r => r.toNat ≤ 64 ∧ (r.toNat = 64 ↔ a = 0) ∧
      (∀ i < 64, 64 ≤ i + r.toNat → a.getLsbD i = false) ∧ (a ≠ 0 → a.getLsbD (63 - r.toNat) = true)) ∧
    (wFn k.w = 0x16 → writes (.ctz t) fun r => r.toNat ≤ 64 ∧ (r.toNat = 64 ↔ a = 0) ∧
      (∀ i < r.toNat, a.getLsbD i = false) ∧ (a ≠ 0 → a.getLsbD r.toNat = true)) ∧
    (wFn k.w = 0x17 → writes (.aluPopc t) fun r => r.toNat = ((List.range 64).filter fun i => a.getLsbD i).length) ∧
    (wFn k.w = 0x18 → writes (.brev t) fun r => ∀ i < 64, r.getLsbD i = a.getLsbD (63 - i)) ∧
    (wFn k.w = 0x19 → writes (.bswap t) fun r => ∀ i < 64, r.getLsbD i = a.getLsbD (8 * (7 - i / 8) + i % 8)) ∧
    (wFn k.w = 0x1A → writes (.perm t) fun r => ∀ i < 64,
      let n := bits b.toNat (4 * (i / 8)) 4
      r.getLsbD i = if n ≥ 8 then false else a.getLsbD (8 * n + i % 8))

/-- R489: ADDI, ANDI, ORI, XORI and CMPI act on ra and the sign-extended imm11, with the flags of their classes; MOVI writes the
sign-extended imm16 and MOVK replaces one quarter of rd, without a flag. R490, R491: EXTU and EXTS write the field of ra at pos,
extended; INS replaces the field of rd; CMPP sets the predicate pd to its condition on the flags of CMP of its operands. None of
them changes a flag; a field past bit 63 and the conditions 0 and 12 to 15 are not legal. -/
def Obligations.ImmediatesFieldsAndPredicates : Prop :=
  (∀ (s : State) (t : Fin 128) (k : Issue), Runs s t k → isPair k.w = false →
     let x := s.regsAt k
     let a := k.ra x
     let b := (BitVec.ofNat 11 k.w).signExtend 64
     let sum (carry ovf : Bool) (r : BitVec 64) : Nat := flagBits (decide (r = 0)) r.msb carry ovf
     let logic (r : BitVec 64) : Thread := (k.putRd x r).setFlags (flagBits (decide (r = 0)) r.msb (x.srb SR.c) false)
     (wOp k.w = 0x02 → Completes (exec (.addi t) s) s s t k ((k.putRd x (a + b)).setFlags
       (sum (decide (2 ^ 64 ≤ a.toNat + b.toNat)) (decide ((a + b).toInt ≠ a.toInt + b.toInt)) (a + b)))) ∧
     (wOp k.w = 0x03 → Completes (exec (.andi t) s) s s t k (logic (a &&& b))) ∧
     (wOp k.w = 0x04 → Completes (exec (.ori t) s) s s t k (logic (a ||| b))) ∧
     (wOp k.w = 0x05 → Completes (exec (.xori t) s) s s t k (logic (a ^^^ b))) ∧
     (wOp k.w = 0x06 → Completes (exec (.cmpi t) s) s s t k (x.setFlags
       (sum (decide (b.toNat ≤ a.toNat)) (decide ((a - b).toInt ≠ a.toInt - b.toInt)) (a - b)))) ∧
     (wOp k.w = 0x07 → Completes (exec (.movi t) s) s s t k (k.putRd x ((BitVec.ofNat 16 k.w).signExtend 64))) ∧
     (0x08 ≤ wOp k.w ∧ wOp k.w ≤ 0x0B → ∃ r, Completes (exec (.movk t) s) s s t k (k.putRd x r) ∧
       ∀ i < 64, r.getLsbD i = if i / 16 = wOp k.w - 8 then Nat.testBit k.w (i % 16) else (k.rd x).getLsbD i)) ∧
  (∀ (s : State) (t : Fin 128) (k : Issue), Runs s t k → isPair k.w = false →
     let x := s.regsAt k
     let a := k.ra x
     let pos := bits k.w 5 6
     let n := bits k.w 0 5 + 1
     (wOp k.w = 0x0D → ∃ r, Completes (exec (.extu t) s) s s t k (k.putRd x r) ∧
       ∀ i < 64, r.getLsbD i = if i < n then a.getLsbD (pos + i) else false) ∧
     (wOp k.w = 0x0E → ∃ r, Completes (exec (.exts t) s) s s t k (k.putRd x r) ∧
       ∀ i < 64, r.getLsbD i = a.getLsbD (pos + min i (n - 1))) ∧
     (wOp k.w = 0x0F → ∃ r, Completes (exec (.ins t) s) s s t k (k.putRd x r) ∧
       ∀ i < 64, r.getLsbD i = if pos ≤ i ∧ i < pos + n then a.getLsbD (i - pos) else (k.rd x).getLsbD i) ∧
     (wOp k.w = 0x14 →
       let u := x.rg k.full (bits k.w 10 5)
       let v := x.rg k.full (bits k.w 5 5)
       let fl := flagBits (decide (u = v)) (u - v).msb (decide (v.toNat ≤ u.toNat)) (decide ((u - v).toInt ≠ u.toInt - v.toInt))
       Completes (exec (.cmpp t) s) s s t k (x.setSrb (SR.p + bits k.w 19 2) (condOf (bits k.w 15 4) fl 0)) ∧
         1 ≤ bits k.w 15 4 ∧ bits k.w 15 4 < 0xC) ∧
     (0x0D ≤ wOp k.w ∧ wOp k.w ≤ 0x0F → pos + n ≤ 64))

/-! ## Products, divisions, floating point -/

/-- R485, R492: a multiply adds one landing to those on their way: its MQ register, the own slot three or four later, its product,
and for MACS32 that it adds. It changes no register and no flag. R485, R492: a landing that is due writes its MQ register, one
of MACS32 adding to what stands there; of two results of one register in one own slot the later instruction's remains; a landing
that is not due writes nothing. MQ_LANDING makes the next landing of a scheduled thread take place, and leaves everything but
that thread alone. -/
def Obligations.MultipliesAndLandings : Prop :=
  (∀ (s : State) (t : Fin 128) (k : Issue), Runs s t k → isPair k.w = false → wOp k.w = 0x10 →
     let x := s.regsAt k
     let a := k.ra x
     let b := k.rb x
     let a32 := a.setWidth 32
     let b32 := b.setWidth 32
     let lands (later : Nat) (acc : Bool) (v : BitVec 64) : Thread :=
       { x with mqLand := x.mqLand ++ [{ mq := bits k.w 16 2, due := k.i + later, value := v, acc := acc }] }
     (wFn k.w = 0 → Completes (exec (.mulu32 t) s) s s t k (lands 3 false (a32.setWidth 64 * b32.setWidth 64))) ∧
     (wFn k.w = 1 → Completes (exec (.muls32 t) s) s s t k (lands 3 false (a32.signExtend 64 * b32.signExtend 64))) ∧
     (wFn k.w = 2 → Completes (exec (.macs32 t) s) s s t k (lands 3 true (a32.signExtend 64 * b32.signExtend 64))) ∧
     (wFn k.w = 3 → Completes (exec (.mull64 t) s) s s t k (lands 4 false (a * b))) ∧
     (wFn k.w = 4 → Completes (exec (.mulhu64 t) s) s s t k
       (lands 4 false (((a.setWidth 128 * b.setWidth 128) >>> 64).setWidth 64))) ∧
     (wFn k.w = 5 → Completes (exec (.mulhs64 t) s) s s t k
       (lands 4 false (((a.signExtend 128 * b.signExtend 128).sshiftRight 64).setWidth 64)))) ∧
  ((∀ (x : Thread) (i : Nat) (l : MqLand), x.mqLand = [l] → l.due ≤ i → ∀ n,
     (kget 0 (x.landTo i).mq n : BitVec 64) =
       if n = l.mq then (if l.acc then kget 0 x.mq n + l.value else l.value) else kget 0 x.mq n) ∧
   (∀ (x : Thread) (i : Nat) (l m : MqLand), x.mqLand = [l, m] → l.mq = m.mq → l.due = m.due → l.due ≤ i → m.acc = false →
     (kget 0 (x.landTo i).mq m.mq : BitVec 64) = m.value) ∧
   (∀ (x : Thread) (i : Nat), (∀ l ∈ x.mqLand, i < l.due) → (x.landTo i).mq = x.mq ∧ (x.landTo i).mqLand = x.mqLand) ∧
   ∀ (s : State) (t : Fin 128) (l : MqLand), s.isSched t = true → (s.thread t).mqLand = [l] →
     ∃ s', exec (.mqLanding t) s = .next s' ∧ s'.thread t = (s.thread t).landTo l.due ∧ (s'.thread t).mqLand = [] ∧ OnlyThread s s' t)

/-- R375, R493: the quotient truncated toward zero and the remainder with the sign of the dividend; division by zero gives a
quotient of ones and the dividend as remainder, and raises DZ; −2⁶³ by −1 gives −2⁶³ and 0. The flag gathers in SR.FF; where its
trap is enabled the word is no case of this statement. -/
def Obligations.DivisionsAndRemainders : Prop :=
  ∀ (s : State) (t : Fin 128) (k : Issue), Runs s t k → isPair k.w = false → wOp k.w = 0x11 →
    let x := s.regsAt k
    let a := k.ra x
    let b := k.rb x
    let fl := if b = 0 then FF.dz else 0
    fl &&& x.srf SR.fe 5 = 0 →
    let gives (i : Instr) (ok : BitVec 64 → Prop) : Prop :=
      ∃ r, ok r ∧ Completes (exec i s) s s t k ((k.putRd x r).setSrf SR.ff 5 (x.srf SR.ff 5 ||| fl))
    (wFn k.w = 0 → gives (.divu t) fun r => r.toNat = if b = 0 then 2 ^ 64 - 1 else a.toNat / b.toNat) ∧
    (wFn k.w = 1 → gives (.divs t) fun r =>
      r = if b = 0 then BitVec.allOnes 64 else BitVec.ofInt 64 (a.toInt.tdiv b.toInt)) ∧
    (wFn k.w = 2 → gives (.remu t) fun r => r.toNat = if b = 0 then a.toNat else a.toNat % b.toNat) ∧
    (wFn k.w = 3 → gives (.rems t) fun r => r.toInt = if b = 0 then a.toInt else a.toInt.tmod b.toInt)

/-- R494, R366: each FPU operation but FCMP writes its result on the operands' low bits, rounded under SR.RM, zero-extended, and its
flags gather in SR.FF; with a flag whose trap is enabled the word is no case of this statement. FMA takes rd as its third
operand. The operations on encodings are the model's (R350 to R372). R366: a result with a flag whose trap is enabled in SR.FE
has no effect but the trap: DIVU by zero with DZ enabled is the example of a thread with a handler, a valid stack and no alert:
no register but sp changes, the frame records DZ, and the thread goes on at VEC + 8 × 4. -/
def Obligations.FloatingPointAndItsTraps : Prop :=
  (∀ (s : State) (t : Fin 128) (k : Issue), Runs s t k → isPair k.w = false → wOp k.w = 0x12 →
     let x := s.regsAt k
     let f : Fmt := if wFnW k.w = 0 then .f64 else if wFnW k.w = 1 then .f32 else if wFnW k.w = 2 then .f16 else .bf16
     let a := (k.ra x).toNat % 2 ^ f.w
     let b := (k.rb x).toNat % 2 ^ f.w
     let d := (k.rd x).toNat % 2 ^ f.w
     let m := x.srf SR.rm 2
     let gives (i : Instr) (r : Nat × Nat) : Prop := r.2 &&& x.srf SR.fe 5 = 0 →
       Completes (exec i s) s s t k ((k.putRd x (BitVec.ofNat 64 r.1)).setSrf SR.ff 5 (x.srf SR.ff 5 ||| r.2))
     (wFnOp k.w = 0x0 → gives (.fadd t) (f.add m 0 false a b)) ∧
     (wFnOp k.w = 0x1 → gives (.fsub t) (f.add m 0 true a b)) ∧
     (wFnOp k.w = 0x2 → gives (.fmul t) (f.mul m 0 a b)) ∧
     (wFnOp k.w = 0x3 → gives (.fma t) (f.fma m 0 a b d)) ∧
     (wFnOp k.w = 0x4 → gives (.fdiv t) (f.div m a b)) ∧
     (wFnOp k.w = 0x5 → gives (.fsqrt t) (f.sqrt m a)) ∧
     (wFnOp k.w = 0x6 → gives (.fmin t) (f.minMax false a b)) ∧
     (wFnOp k.w = 0x7 → gives (.fmax t) (f.minMax true a b)) ∧
     (wFnOp k.w = 0x8 → gives (.fabs t) (f.abs a)) ∧
     (wFnOp k.w = 0x9 → gives (.fneg t) (f.neg a))) ∧
  (∀ (s : State) (t : Fin 128) (k : Issue), Runs s t k → isPair k.w = false → wOp k.w = 0x11 → wFn k.w = 0 →
     let x := s.regsAt k
     k.rb x = 0 → Nat.testBit (x.srf SR.fe 5) 1 = true → x.stores = [] →
     s.tflag t TF.handler = true → x.srb SR.al = false → s.badStack t = false →
     ∃ s', exec (.divu t) s = .next s' ∧ (s'.thread t).gpr = x.gpr ∧ (s'.thread t).mq = x.mq ∧
       (s'.thread t).sp = x.sp - 64 ∧ (s'.thread t).srb SR.al = true ∧ (s'.thread t).srb SR.ae = false ∧
       (s'.thread t).srf SR.ff 5 = x.srf SR.ff 5 ∧
       (s'.thread t).pc = BitVec.ofNat 17 (s.vecBase t + 8 * 4) ∧
       s'.mem.mem = (s.tmemPut (x.sp.toNat - 64) (frameBytes x (4 + 2 ^ 9 * FF.dz) 0 0 k.w)).mem.mem)

/-- R495, R496: FCMP sets N Z C V to 1000 for less, 0110 for equal, 0010 for greater and 0011 for unordered, and raises NV only for
a signalling NaN; FCVT writes the converted value of its type pair, an integer extended from its width. R355: what a rounding of
m · 2^-k to an integer gives, of magnitude m and sign `neg`: to nearest the nearer one and on a tie the even one, toward zero
the truncated one, toward +∞ and −∞ the one on that side; it is inexact just where a bit is lost. Choices of the model in it:
log entry 64. -/
def Obligations.ConversionsAndRounding : Prop :=
  (∀ (s : State) (t : Fin 128) (k : Issue), Runs s t k → isPair k.w = false →
     let x := s.regsAt k
     let m := x.srf SR.rm 2
     (wOp k.w = 0x12 → wFnOp k.w = 0xA →
       let f : Fmt := if wFnW k.w = 0 then .f64 else if wFnW k.w = 1 then .f32 else if wFnW k.w = 2 then .f16 else .bf16
       let a := (k.ra x).toNat % 2 ^ f.w
       let b := (k.rb x).toNat % 2 ^ f.w
       let nv := if (f.decode a).isSnan || (f.decode b).isSnan then FF.nv else 0
       let sets (n z c v : Bool) : Prop :=
         Completes (exec (.fcmp t) s) s s t k ((x.setFlags (flagBits z n c v)).setSrf SR.ff 5 (x.srf SR.ff 5 ||| nv))
       nv &&& x.srf SR.fe 5 = 0 →
       (f.cmp a b = some (-1) → sets true false false false) ∧ (f.cmp a b = some 0 → sets false true true false) ∧
       (f.cmp a b = some 1 → sets false false true false) ∧ (f.cmp a b = none → sets false false true true)) ∧
     (wOp k.w = 0x13 →
       let a := (k.ra x).toNat
       let src := bits k.w 7 4
       let dst := bits k.w 3 4
       let gives (v : BitVec 64) (fl : Nat) : Prop := fl &&& x.srf SR.fe 5 = 0 →
         Completes (exec (.fcvt t) s) s s t k ((k.putRd x v).setSrf SR.ff 5 (x.srf SR.ff 5 ||| fl))
       (∀ p, typeFmt src = some p → ∀ q, typeFmt dst = some q →
         let r := p.convert q m 0 (a % 2 ^ p.w)
         gives (BitVec.ofNat 64 r.1) r.2) ∧
       (∀ p, typeFmt src = some p → typeFmt dst = none →
         let n := 8 * typeSize dst
         let r := p.toInt m 0 (typeSigned dst) n (a % 2 ^ p.w)
         gives (if typeSigned dst then (BitVec.ofNat n r.1).signExtend 64 else BitVec.ofNat 64 r.1) r.2) ∧
       (∀ q, typeFmt src = none → typeFmt dst = some q →
         let n := 8 * typeSize src
         let r := q.ofInt m 0 (if typeSigned src then (BitVec.ofNat n a).toInt else ((BitVec.ofNat n a).toNat : Int))
         gives (BitVec.ofNat 64 r.1) r.2))) ∧
  (∀ (r : Nat) (neg : Bool) (m k : Nat),
     (let n := (roundShift RM.near r neg m k).1
      (2 * (n * 2 ^ k) ≤ 2 * m + 2 ^ k ∧ 2 * m ≤ 2 * (n * 2 ^ k) + 2 ^ k) ∧
      (0 < k → (2 * (n * 2 ^ k) = 2 * m + 2 ^ k ∨ 2 * m = 2 * (n * 2 ^ k) + 2 ^ k) → n % 2 = 0)) ∧
     (roundShift RM.zero r neg m k).1 = m / 2 ^ k ∧
     (roundShift RM.up r neg m k).1 = (if neg then m / 2 ^ k else (m + 2 ^ k - 1) / 2 ^ k) ∧
     (roundShift RM.down r neg m k).1 = (if neg then (m + 2 ^ k - 1) / 2 ^ k else m / 2 ^ k) ∧
     ∀ mode, (roundShift mode r neg m k).2 = decide (m % 2 ^ k ≠ 0))

/-! ## Control flow and the status word -/

/-- R501 to R505: B and JMPR go to their targets modulo 2¹⁷; CALL and CALLR set LR to PC + 1, slide the window in the full profile,
push the return address with SHSTK set, and go there; RET slides back, pops and goes to LR. LOOP and REP set their level up and
go on inside it, and past it when the count is 0. Stated for calls that neither overflow nor underflow the window and whose
shadow stack has room or agrees; the other cases are the alerts and faults of other statements. -/
def Obligations.ControlFlow : Prop :=
  ∀ (s : State) (t : Fin 128) (k : Issue), Runs s t k → isPair k.w = false →
    let x := s.regsAt k
    let rel := (x.pc + (BitVec.ofNat 21 k.w).signExtend 17).toNat
    let abs := ((k.ra x).setWidth 17).toNat
    let sh := s.tflag t TF.shstk
    let canCall := (k.full = true → (x.cwp + 3) % 15 ≠ x.wbot) ∧ (sh = true → x.ssp < s.cfg.active.ssEnd t)
    let called : Thread := { x with
      lr := x.pc + 1, cwp := if k.full then (x.cwp + 1) % 15 else x.cwp, ssp := if sh then x.ssp + 8 else x.ssp }
    let pushed := if sh && !s.secHeld then s.tmemPut (0x3C0000 + x.ssp) (natLe 8 (x.pc + 1).toNat) else s
    let popped := s.tmemGet (0x3C0000 + x.ssp - 8) 8
    let returned : Thread := { x with
      cwp := if k.full then (x.cwp + 14) % 15 else x.cwp, ssp := if sh then x.ssp - 8 else x.ssp }
    let loop (n body count : Nat) : Thread := { x with
      ls := kset 0 x.ls n (x.pc + 1), le := kset 0 x.le n (x.pc + BitVec.ofNat 17 body), lc := kset 0 x.lc n (BitVec.ofNat 32 count) }
    (wOp k.w = 0x18 → Branches (exec (.branch t) s) s s t k x rel) ∧
    (wOp k.w = 0x1A → wFn k.w = 0 → Branches (exec (.jmpr t) s) s s t k x abs) ∧
    (wOp k.w = 0x19 → canCall → Branches (exec (.call t) s) s pushed t k called rel) ∧
    (wOp k.w = 0x1A → wFn k.w = 1 → canCall → Branches (exec (.callr t) s) s pushed t k called abs) ∧
    (wOp k.w = 0x1A → wFn k.w = 2 → (k.full = true → x.cwp ≠ x.wbot) → (sh = true → s.cfg.active.ssBase t < x.ssp) →
      (sh = true → (if s.secHeld then 0 else leNat popped.1) = x.lr.toNat) →
      Branches (exec (.ret t) s) s (if sh && !s.secHeld then popped.2.2 else s) t k returned x.lr.toNat) ∧
    (wOp k.w = 0x1C →
      let n := bits k.w 19 2
      let body := bits k.w 8 11 + 1
      let count := if Nat.testBit k.w 7 then bits k.w 0 7 else (x.rg k.full (bits k.w 0 5)).toNat % 2 ^ 32
      if count = 0 then GoesOn (exec (.loop t) s) s s t k (loop n body 0) (x.pc.toNat + body + 1)
      else Completes (exec (.loop t) s) s s t k (loop n body count)) ∧
    (wOp k.w = 0x1D →
      let n := if k.full then 3 else 0
      let count := if Nat.testBit k.w 20 then bits k.w 0 16 else (x.rg k.full (bits k.w 0 5)).toNat % 2 ^ 32
      if count = 0 then GoesOn (exec (.rep t) s) s s t k (loop n 1 0) (x.pc.toNat + 2)
      else Completes (exec (.rep t) s) s s t k (loop n 1 count))

/-- R504: at the end of a word the highest active level whose LE is PC counts down; while its count is not yet used up the thread
goes on at its LS, and when it is used up, or no level ends there, at the next word. The words that follow issue in the slots
after those that the word cost. R476: an operation whose condition fails is suppressed: no register, flag or memory changes, and
it costs the own slots that it would cost; a suppressed branch goes on at the next word, as far away as a taken one (R484).
Stated for one row of each shape. -/
def Obligations.LoopEndsAndFailedConditions : Prop :=
  (∀ (k : Issue) (cost : Nat) (y : Thread) (n : Nat), n ∈ loopLevels k.full →
     let z := k.retire cost y
     let ends (m : Nat) : Prop := y.lcOf m ≠ 0 ∧ y.leOf m = y.pc.toNat
     ((∀ m ∈ loopLevels k.full, ¬ends m) → z.pc = y.pc + 1 ∧ z.lc = y.lc) ∧
     (ends n → (∀ m ∈ loopLevels k.full, n < m → ¬ends m) → 1 < y.lcOf n →
       z.pc.toNat = y.lsOf n ∧ ∀ m, z.lcOf m = if m = n then y.lcOf n - 1 else y.lcOf m) ∧
     (ends n → (∀ m ∈ loopLevels k.full, m ≠ n → ¬ends m) → y.lcOf n = 1 →
       z.pc = y.pc + 1 ∧ ∀ m, z.lcOf m = if m = n then 0 else y.lcOf m) ∧
     z.own = k.i + cost ∧ z.gpr = y.gpr ∧ z.st = TST.ready) ∧
  (∀ (s : State) (t : Fin 128) (k : Issue), Lawful s t k → isPair k.w = false → (s.thread t).wait = .none →
     (s.thread t).condHolds (wCond k.w) = false →
     let quiet (i : Instr) : Prop := Completes (exec i s) s s t k (s.regsAt k)
     (wOp k.w = 0x01 → wFn k.w = 0x00 → quiet (.aluAdd t)) ∧
     (wOp k.w = 0x10 → wFn k.w = 0x02 → quiet (.macs32 t)) ∧
     (wOp k.w = 0x11 → wFn k.w = 0x00 → quiet (.divu t)) ∧
     (wOp k.w = 0x12 → wFnOp k.w = 0x0 → quiet (.fadd t)) ∧
     (wOp k.w = 0x18 → quiet (.branch t)) ∧
     (wOp k.w = 0x19 → quiet (.call t)) ∧
     (wOp k.w = 0x23 → quiet (.ld t)) ∧
     (wOp k.w = 0x2B → quiet (.std t)) ∧
     (wOp k.w = 0x2C → wFnOp k.w = 0x1 → quiet (.amoFadd t)) ∧
     (wOp k.w = 0x30 → quiet (.vld t)) ∧
     ((wOp k.w = 0x38 ∨ wOp k.w = 0x39) → bits k.w 0 4 = 0x2 → quiet (.chw t)) ∧
     ((wOp k.w = 0x38 ∨ wOp k.w = 0x39) → bits k.w 0 4 = 0x6 → quiet (.take t)) ∧
     (wOp k.w = 0x3D → quiet (.mvsw t)) ∧
     (wOp k.w = 0x3E → wFn k.w = 0x02 → quiet (.alert t)))

/-- R440, R445, R480, R515: ALERT raises a SOFT alert, CALL and CALLR a WIN_OVF where the window is full, and RET a WIN_UNF where it
is empty. The window is unchanged; the thread's handler goes on at VEC + 8 × cause on a frame at sp − 64 that holds PC, SR, LR
and sp. R447, R476, R477, R502, R519: a fault stops a thread that is not T0 and does not handle its own faults: it is FAULTED at
its word with a frame on its stack and an entry in the fault log. A word of OP 0 raises ILLEGAL whatever the row, REG without
PRIV raises PRIV, a CALL on a full shadow stack SHADOW. Choices of the model in it: log entries 55, 63. -/
def Obligations.AlertsAndFaults : Prop :=
  (∀ (s : State) (t : Fin 128) (k : Issue), Runs s t k → isPair k.w = false →
     let x := s.regsAt k
     HandlerReady s t x →
     (wOp k.w = 0x3E → wFn k.w = 2 → Alerts (exec (.alert t) s) s t k x 0x05 0) ∧
     (wOp k.w = 0x19 → k.full = true → (x.cwp + 3) % 15 = x.wbot → Alerts (exec (.call t) s) s t k x 0x02 0) ∧
     (wOp k.w = 0x1A → wFn k.w = 1 → k.full = true → (x.cwp + 3) % 15 = x.wbot → Alerts (exec (.callr t) s) s t k x 0x02 0) ∧
     (wOp k.w = 0x1A → wFn k.w = 2 → k.full = true → x.cwp = x.wbot → Alerts (exec (.ret t) s) s t k x 0x03 0) ∧
     (wOp k.w = 0x11 → wFn k.w = 0 → k.rb x = 0 → Nat.testBit (x.srf SR.fe 5) 1 = true → Alerts (exec (.divu t) s) s t k x 0x04 FF.dz)) ∧
  (∀ (s : State) (t : Fin 128) (k : Issue), Issues s t k → isPair k.w = false → (s.thread t).wait = .none →
     let x := s.regsAt k
     FaultStops s t x →
     (wOp k.w = 0x00 → Stops (exec (.nop t) s) s t k x 0x10 0 ∧ Stops (exec (.aluAdd t) s) s t k x 0x10 0) ∧
     (wOp k.w = 0x3F → legalWord (s.wordCtx t) k.w = true → x.srb SR.priv = false →
       (bits k.w 0 1 = 0 → Stops (exec (.regRead t) s) s t k x 0x11 0) ∧
       (bits k.w 0 1 = 1 → Stops (exec (.regWrite t) s) s t k x 0x11 0)) ∧
     (wOp k.w = 0x19 → x.condHolds (wCond k.w) = true → (k.full = true → (x.cwp + 3) % 15 ≠ x.wbot) → s.tflag t TF.shstk = true →
       s.cfg.active.ssEnd t ≤ x.ssp → Stops (exec (.call t) s) s t k x 0x17 0))

/-- R481, R516: MVS copies a special register into rd, TIME being the fabric time of the issue cycle, and MVSW writes the register
that its field names and no other. MVSW to SR follows R436, and faults where it would set PRIV or SEC without PRIV; both are the
cases of another statement. R436: a write of SR changes all but PRIV, SEC and CT at once; these stay through three following
instructions and change after the third. Bits 28 and above of the value are ignored. Choices of the model in it: log entry 76. -/
def Obligations.SpecialRegistersAndStatusModes : Prop :=
  (∀ (s : State) (t : Fin 128) (k : Issue), Runs s t k → isPair k.w = false →
     let x := s.regsAt k
     let n := wSpr k.w
     let v := k.rd x
     let u := v.toNat
     (wOp k.w = 0x3C → ∃ r, Completes (exec (.mvs t) s) s s t k (k.putRd x r) ∧
       (n = 0x00 → r = x.sr.setWidth 64) ∧ (n = 0x01 → r = x.lr.setWidth 64) ∧ (n = 0x02 → r = x.sp) ∧
       (n = 0x03 → r = BitVec.ofNat 64 (x.cwp + 16 * x.wbot)) ∧
       (0x04 ≤ n → n < 0x08 → r = kget 0 x.mq (n - 4)) ∧
       (0x08 ≤ n → n < 0x0C → r = (kget 0 x.ls (n - 8) : BitVec 17).setWidth 64) ∧
       (0x0C ≤ n → n < 0x10 → r = (kget 0 x.le (n - 12) : BitVec 17).setWidth 64) ∧
       (0x10 ≤ n → n < 0x14 → r = (kget 0 x.lc (n - 16) : BitVec 32).setWidth 64) ∧
       (0x14 ≤ n → n < 0x18 → r = kget 0 x.am (n - 20)) ∧
       (n = 0x18 → r = BitVec.ofNat 64 x.vl) ∧ (n = 0x19 → r = BitVec.ofNat 64 x.vstart) ∧ (n = 0x1A → r = BitVec.ofNat 64 x.vgrp) ∧
       (n = 0x1B → r = BitVec.ofNat 64 x.ssp) ∧ (n = 0x1D → r = BitVec.ofNat 64 (2 * k.c))) ∧
     (wOp k.w = 0x3D →
       (n = 0x01 → Completes (exec (.mvsw t) s) s s t k { x with lr := v.setWidth 17 }) ∧
       (n = 0x02 → Completes (exec (.mvsw t) s) s s t k { x with sp := v }) ∧
       (n = 0x03 → u % 16 ≠ 15 → u / 16 % 16 ≠ 15 →
         Completes (exec (.mvsw t) s) s s t k { x with cwp := u % 16, wbot := u / 16 % 16 }) ∧
       (0x04 ≤ n → n < 0x08 → Completes (exec (.mvsw t) s) s s t k { x with mq := kset 0 x.mq (n - 4) v }) ∧
       (0x08 ≤ n → n < 0x0C → Completes (exec (.mvsw t) s) s s t k { x with ls := kset 0 x.ls (n - 8) (v.setWidth 17) }) ∧
       (0x0C ≤ n → n < 0x10 → Completes (exec (.mvsw t) s) s s t k { x with le := kset 0 x.le (n - 12) (v.setWidth 17) }) ∧
       (0x10 ≤ n → n < 0x14 → Completes (exec (.mvsw t) s) s s t k { x with lc := kset 0 x.lc (n - 16) (v.setWidth 32) }) ∧
       (0x14 ≤ n → n < 0x18 → Completes (exec (.mvsw t) s) s s t k { x with am := kset 0 x.am (n - 20) v }) ∧
       (n = 0x18 → u ≤ 16 * x.vgrp → Completes (exec (.mvsw t) s) s s t k { x with vl := u }) ∧
       (n = 0x19 → Completes (exec (.mvsw t) s) s s t k { x with vstart := u % 2 ^ 16 }) ∧
       (n = 0x1A → u ∈ [1, 2, 4, 8] → Completes (exec (.mvsw t) s) s s t k { x with vgrp := u }) ∧
       (n = 0x00 → (x.srb SR.priv = true ∨ (v.getLsbD 10 = false ∧ (v.getLsbD 11 = true → x.srb SR.sec = true))) →
         Completes (exec (.mvsw t) s) s s t k (x.writeSr v)))) ∧
  (∀ (x : Thread) (v : BitVec 64), x.srNew = [] →
     let mode : BitVec 32 := 0x1C00
     let new : BitVec 32 := (v.setWidth 32) &&& 0x0FFFFFFF
     let y := (x.writeSr v).ageSr
     (y.sr &&& ~~~mode) = (new &&& ~~~mode) ∧ (y.sr &&& mode) = (x.sr &&& mode) ∧
     (y.ageSr.ageSr.sr &&& mode) = (x.sr &&& mode) ∧ y.ageSr.ageSr.ageSr.sr = new ∧ y.ageSr.ageSr.ageSr.srNew = [])

/-! ## Memory accesses of threads -/

/-- R498: the effective address of each MODE and what it writes back to rb, for accesses of 1, 2, 4 and 8 bytes. In MOD the rb that
is written back lies in the buffer. -/
def Obligations.EffectiveAddresses : Prop :=
  ∀ (k : Issue) (x : Thread) (n : Nat), n ∈ [1, 2, 4, 8] →
    let rb := k.ra x
    let imm := bits k.w 0 8
    let by8 : BitVec 64 := (BitVec.ofNat 8 imm).signExtend 64 * BitVec.ofNat 64 n
    let by6 : BitVec 64 := (BitVec.ofNat 6 imm).signExtend 64 * BitVec.ofNat 64 n
    let am : BitVec 64 := kget 0 x.am (imm / 64)
    let base := am.toNat % 2 ^ 32
    let len := am.toNat / 2 ^ 32
    (wMode k.w = 0 → k.ea x n = (rb + by8, none)) ∧
    (wMode k.w = 1 → k.ea x n = (rb + x.rg k.full (imm % 32) * BitVec.ofNat 64 n, none)) ∧
    (wMode k.w = 2 → k.ea x n = (rb, some (rb + by8))) ∧
    (wMode k.w = 3 → k.ea x n = (rb + by8, some (rb + by8))) ∧
    (wMode k.w = 4 → len = 0 → k.ea x n = (rb, some (rb + by6))) ∧
    (wMode k.w = 4 → len ≠ 0 → ∃ v : BitVec 64, k.ea x n = (rb, some v) ∧ base ≤ v.toNat ∧ v.toNat < base + len ∧
      ((v.toNat : Int) - rb.toNat - (BitVec.ofNat 6 imm).toInt * n) % len = 0) ∧
    (wMode k.w = 5 → len = 0 → k.ea x n = (rb, some (BitVec.ofNat 64 base))) ∧
    (wMode k.w = 6 → k.ea x n = (x.sp + (BitVec.ofNat 13 (wRa k.w * 2 ^ 8 + imm)).signExtend 64 * BitVec.ofNat 64 n, none))

/-- R428 to R430, R497, R498: a load puts the bytes at its effective address, least significant first, sign-extended or
zero-extended, into rt, usable three CK_THR cycles later, and writes rb back; no byte of memory changes. Stated for thread
memory, the secure partition and staging memory; an access that is not clear, or goes to host memory, is the case of another
statement. Choices of the model in it: log entry 44. -/
def Obligations.LoadsReadMemory : Prop :=
  ∀ (s : State) (t : Fin 128) (k : Issue), Runs s t k → isPair k.w = false →
    let x := s.regsAt k
    let loads (i : Instr) (n : Nat) (ext : Nat → BitVec 64) : Prop :=
      let a := (k.ea x n).1.toNat
      Clear s t k a n → Reads (exec i s) s t k
        ((k.back x (k.ea x n).2).putLoaded (x.idx k.full (wRd k.w)) (ext (s.dataNat a n)) k.c)
    (wOp k.w = 0x20 → loads (.ldsb t) 1 fun v => (BitVec.ofNat 8 v).signExtend 64) ∧
    (wOp k.w = 0x21 → loads (.ldsh t) 2 fun v => (BitVec.ofNat 16 v).signExtend 64) ∧
    (wOp k.w = 0x22 → loads (.ldsw t) 4 fun v => (BitVec.ofNat 32 v).signExtend 64) ∧
    (wOp k.w = 0x23 → loads (.ld t) 8 fun v => BitVec.ofNat 64 v) ∧
    (wOp k.w = 0x24 → loads (.ldub t) 1 fun v => BitVec.ofNat 64 v) ∧
    (wOp k.w = 0x25 → loads (.lduh t) 2 fun v => BitVec.ofNat 64 v) ∧
    (wOp k.w = 0x26 → loads (.lduw t) 4 fun v => BitVec.ofNat 64 v)

/-- R430, R497: a store puts its address and the low bytes of rt, as rt was before the write-back, behind the stores in the store
buffer, and writes rb back; no memory changes while an entry of the four is free. With four entries held the oldest is written
first. R430, R522: a drain writes the oldest store of the thread's buffer: its bytes at its address, and no other byte of
memory. Stated for stores on the block that meet no access of the other pipe; a store to the held partition is discarded (R532).
Choices of the model in it: log entry 67. -/
def Obligations.StoresAndDrains : Prop :=
  (∀ (s : State) (t : Fin 128) (k : Issue), Runs s t k → isPair k.w = false →
     let x := s.regsAt k
     let stores (i : Instr) (n : Nat) : Prop :=
       let a := (k.ea x n).1.toNat
       let e := (a, natLe n (k.rd x).toNat)
       s.permits (k.acc s) true a n = true → s.watched t true a n = none →
         (x.stores.length < 4 → Completes (exec i s) s s t k { k.back x (k.ea x n).2 with stores := x.stores ++ [e] }) ∧
         (x.stores.length = 4 → let d := (s.atSlot k).drainOne t k.c
           Completes (exec i s) s d t k
             { k.back (d.thread t) (k.ea x n).2 with stores := x.stores.tail ++ [e] })
     (wOp k.w = 0x28 → stores (.stb t) 1) ∧ (wOp k.w = 0x29 → stores (.sth t) 2) ∧
     (wOp k.w = 0x2A → stores (.stw t) 4) ∧ (wOp k.w = 0x2B → stores (.std t) 8)) ∧
  (∀ (s : State) (t : Fin 128) (a : Nat) (bs : List Byte) (rest : List (Nat × List Byte)),
     (s.thread t).stores = (a, bs) :: rest → bs.length ≤ 8 →
     (kget [] s.mem.lastAcc (1 - pipeOf t) = []) → s.mem.ecc = [] → s.str.ecc = [] →
     ∃ s', exec (.storeDrain t) s = .next s' ∧
       (a < 2 ^ 63 → s'.thread t = { s.thread t with stores := rest }) ∧ (∀ u, u ≠ t.val → s'.thread u = s.thread u) ∧
       (a + bs.length ≤ 0x3C0000 →
         (∀ b, Memory.get s'.mem.mem b = if a ≤ b ∧ b < a + bs.length then bs.getD (b - a) 0 else Memory.get s.mem.mem b) ∧
         s'.str = s.str) ∧
       (0x3C0000 ≤ a → a + bs.length ≤ 0x400000 →
         (∀ b, Memory.get s'.mem.mem b =
           if s.secHeld = false ∧ a ≤ b ∧ b < a + bs.length then bs.getD (b - a) 0 else Memory.get s.mem.mem b) ∧ s'.str = s.str) ∧
       (2 ^ 32 ≤ a → a + bs.length ≤ 2 ^ 32 + 2 ^ 26 →
         (∀ b, Memory.get s'.str.mem b =
           if a ≤ b + 2 ^ 32 ∧ b + 2 ^ 32 < a + bs.length then bs.getD (b + 2 ^ 32 - a) 0 else Memory.get s.str.mem b) ∧
         s'.mem = s.mem) ∧
       s'.btp.chans = s.btp.chans ∧ s'.btp.lamps = s.btp.lamps)

/-- R499: ADDM and SUBM replace rd with rd + M and rd − M, and CMPM sets flags alone, M being the 64-bit word at the effective
address; all set the flags of class A, and their results follow the load timing. -/
def Obligations.MemoryOperandArithmetic : Prop :=
  ∀ (s : State) (t : Fin 128) (k : Issue), Runs s t k → isPair k.w = false →
    let x := s.regsAt k
    let a := (k.ea x 8).1.toNat
    let m := BitVec.ofNat 64 (s.dataNat a 8)
    let d := k.rd x
    let i := x.idx k.full (wRd k.w)
    let late (y : Thread) : Thread := y.usableFrom 512 (k.c + 3)
    let diff := flagBits (decide (d = m)) (d - m).msb (decide (m.toNat ≤ d.toNat)) (decide ((d - m).toInt ≠ d.toInt - m.toInt))
    let sum := flagBits (decide (d + m = 0)) (d + m).msb (decide (2 ^ 64 ≤ d.toNat + m.toNat)) (decide ((d + m).toInt ≠ d.toInt + m.toInt))
    Clear s t k a 8 →
    (wOp k.w = 0x2D → Reads (exec (.addm t) s) s t k ((late ((k.putRd x (d + m)).setFlags sum)).usableFrom i (k.c + 3))) ∧
    (wOp k.w = 0x2E → Reads (exec (.subm t) s) s t k ((late ((k.putRd x (d - m)).setFlags diff)).usableFrom i (k.c + 3))) ∧
    (wOp k.w = 0x2F → Reads (exec (.cmpm t) s) s t k (late (x.setFlags diff))) ∧
    (0x2D ≤ wOp k.w ∧ wOp k.w ≤ 0x2F → wMode k.w = 0 ∨ wMode k.w = 6)

/-- R251, R500: an AMO writes the new value of its operation at address ra and the old value into rd, usable three cycles later; no
other byte changes. CAS compares with rd as it was. Stated for thread memory, the secure partition and staging memory. -/
def Obligations.AtomicsReplaceTheValue : Prop :=
  ∀ (s : State) (t : Fin 128) (k : Issue), Runs s t k → isPair k.w = false → wOp k.w = 0x2C →
    let x := s.regsAt k
    let a := (k.ra x).toNat
    let n := if wFnW k.w = 2 then 4 else 8
    let w := 8 * n
    let old := s.dataNat a n
    let v := (k.rb x).toNat % 2 ^ w
    let cmp := (k.rd x).toNat % 2 ^ w
    let less := decide ((BitVec.ofNat w v).toInt < (BitVec.ofNat w old).toInt)
    ClearWrite s t k a n → a % n = 0 →
    let swaps (i : Instr) (new : Nat) : Prop := Writes (exec i s) s t k
      (x.putLoaded (x.idx k.full (wRd k.w)) (BitVec.ofNat 64 old) k.c) a (natLe n new)
    (wFnOp k.w = 0x1 → swaps (.amoFadd t) (old + v)) ∧
    (wFnOp k.w = 0x2 → swaps (.amoSwap t) v) ∧
    (wFnOp k.w = 0x3 → swaps (.amoCas t) (if old = cmp then v else old)) ∧
    (wFnOp k.w = 0x4 → swaps (.amoAnd t) (old &&& v)) ∧
    (wFnOp k.w = 0x5 → swaps (.amoOr t) (old ||| v)) ∧
    (wFnOp k.w = 0x6 → swaps (.amoXor t) (old ^^^ v)) ∧
    (wFnOp k.w = 0x7 → swaps (.amoSmin t) (if less then v else old)) ∧
    (wFnOp k.w = 0x8 → swaps (.amoSmax t) (if less then old else v)) ∧
    (wFnOp k.w = 0x9 → swaps (.amoUmin t) (min old v)) ∧
    (wFnOp k.w = 0xA → swaps (.amoUmax t) (max old v))

/-- R428, R429, R500: an access outside the ranges of data addresses, or against the secure partition's rules, and an AMO whose
address is not a multiple of its size, raise ACCESS with the address, and change no memory but the frame. R437, R607, R613: a
load from host memory sends its request to the thread's port and waits in HMP_WAIT; issued again with the answer, it completes
with the bytes of the answer. Choices of the model in it: log entries 68, 69. -/
def Obligations.ForbiddenAndHostAccesses : Prop :=
  (∀ (s : State) (t : Fin 128) (k : Issue), Runs s t k → isPair k.w = false →
     let x := s.regsAt k
     FaultStops s t x →
     (wOp k.w = 0x23 → let a := (k.ea x 8).1.toNat
       s.permits (k.acc s) false a 8 = false → Stops (exec (.ld t) s) s t k x 0x12 a) ∧
     (wOp k.w = 0x2B → let a := (k.ea x 8).1.toNat
       s.permits (k.acc s) true a 8 = false → Stops (exec (.std t) s) s t k x 0x12 a) ∧
     (wOp k.w = 0x2C → wFnOp k.w = 1 → let a := (k.ra x).toNat
       a % (if wFnW k.w = 2 then 4 else 8) ≠ 0 → Stops (exec (.amoFadd t) s) s t k x 0x12 a) ∧
     (∀ a, 0x3C0000 ≤ a → a < 0x400000 → x.srb SR.sec = false → s.permits (k.acc s) false a 1 = false) ∧
     (∀ a, 0x3C0000 ≤ a → a < 0x3C2000 → s.permits (k.acc s) true a 1 = false) ∧
     (∀ a, 0x400000 ≤ a → a < 2 ^ 32 → s.permits (k.acc s) false a 1 = false)) ∧
  (∀ (s : State) (t : Fin 128) (k : Issue), Runs s t k → isPair k.w = false → wOp k.w = 0x23 →
     let x := s.regsAt k
     let a := (k.ea x 8).1.toNat
     2 ^ 63 ≤ a → a % 8 = 0 → x.overlaps a 8 = false →
     (x.ans = [] → ∃ s', exec (.ld t) s = .next s' ∧ (s'.thread t).st = TST.hmpWait ∧ (s'.thread t).wait = .host ∧
       (s'.thread t).gpr = x.gpr ∧ (s'.thread t).pc = x.pc ∧
       ∃ q ∈ (s'.hmpPort (s.threadPort t)).reqs, q.opc = 0 ∧ q.addr.toNat = a - 2 ^ 63 ∧ q.len = 8 ∧ q.who = .thread t x.gen) ∧
     (∀ bs, x.ans = [{ bytes := bs, err := false, poison := false }] →
       Reads (exec (.ld t) s) s t k ((k.back x (k.ea x 8).2).putLoaded (x.idx k.full (wRd k.w)) (BitVec.ofNat 64 (leNat bs)) k.c)))

/-! ## Vectors -/

/-- R508, R509: a VALU operation writes elements VSTART to VL − 1 of vd with its result on the elements of va and vb as they were,
modulo 2^w, leaves the other elements of the group and every other vector register, and sets VSTART to 0. No flag and no general
register changes. -/
def Obligations.VectorIntegerRows : Prop :=
  ∀ (s : State) (t : Fin 128) (k : Issue), Runs s t k → isPair k.w = false → wOp k.w = 0x32 →
    let x := s.regsAt k
    let w := 8 * 2 ^ wFnW k.w
    let sx (e : Nat) : Int := (BitVec.ofNat w e).toInt
    let maps (i : Instr) (f : Nat → Nat → Nat) : Prop :=
      ∃ v us, Completes (exec i s) s s t k { x with v := v, usable := us, vstart := 0 } ∧
        (∀ j, j * w < 128 * x.vgrp → ({ x with v := v } : Thread).elem (wRd k.w) w j =
          if x.vstart ≤ j ∧ j < x.vl then f (x.elem (wRa k.w) w j) (x.elem (wRb k.w) w j) % 2 ^ w else x.elem (wRd k.w) w j) ∧
        ∀ r, (r < wRd k.w ∨ wRd k.w + x.vgrp ≤ r) → (kget 0 v r : BitVec 128) = kget 0 x.v r
    (wFnOp k.w = 0x0 → maps (.vadd t) fun a b => a + b) ∧
    (wFnOp k.w = 0x1 → maps (.vsub t) fun a b => a + 2 ^ w - b) ∧
    (wFnOp k.w = 0x2 → maps (.vmul t) fun a b => a * b) ∧
    (wFnOp k.w = 0x3 → maps (.vand t) fun a b => a &&& b) ∧
    (wFnOp k.w = 0x4 → maps (.vor t) fun a b => a ||| b) ∧
    (wFnOp k.w = 0x5 → maps (.vxor t) fun a b => a ^^^ b) ∧
    (wFnOp k.w = 0x6 → maps (.vmin t) fun a b => if sx a < sx b then a else b) ∧
    (wFnOp k.w = 0x7 → maps (.vmax t) fun a b => if sx a < sx b then b else a) ∧
    (wFnOp k.w = 0x8 → maps (.vminu t) fun a b => min a b) ∧
    (wFnOp k.w = 0x9 → maps (.vmaxu t) fun a b => max a b) ∧
    (wFnOp k.w = 0xA → maps (.vshl t) fun a b => a * 2 ^ (b % w)) ∧
    (wFnOp k.w = 0xB → maps (.vshr t) fun a b => a / 2 ^ (b % w)) ∧
    (wFnOp k.w = 0xC → maps (.vsar t) fun a b => ((BitVec.ofNat w a).sshiftRight (b % w)).toNat)

/-- R508, R510: a VFPU operation writes elements VSTART to VL − 1 of vd with its result on the elements as they were, rounded under
SR.RM, and gathers the flags of all of them in SR.FF; with a flag whose trap is enabled the word is no case of this statement. -/
def Obligations.VectorFloatRows : Prop :=
  ∀ (s : State) (t : Fin 128) (k : Issue), Runs s t k → isPair k.w = false → wOp k.w = 0x33 →
    let x := s.regsAt k
    let f : Fmt := if wFnW k.w = 0 then .f64 else if wFnW k.w = 1 then .f32 else if wFnW k.w = 2 then .f16 else .bf16
    let m := x.srf SR.rm 2
    let maps (i : Instr) (g : Nat → Nat → Nat → Nat × Nat) : Prop :=
      let r (j : Nat) : Nat × Nat := g (x.elem (wRa k.w) f.w j) (x.elem (wRb k.w) f.w j) (x.elem (wRd k.w) f.w j)
      (∀ j, x.vstart ≤ j → j < x.vl → (r j).2 &&& x.srf SR.fe 5 = 0) →
      ∃ v us ff, Completes (exec i s) s s t k ({ x with v := v, usable := us, vstart := 0 }.setSrf SR.ff 5 ff) ∧
        (∀ j, j * f.w < 128 * x.vgrp → ({ x with v := v } : Thread).elem (wRd k.w) f.w j =
          if x.vstart ≤ j ∧ j < x.vl then (r j).1 % 2 ^ f.w else x.elem (wRd k.w) f.w j) ∧
        (∀ b, Nat.testBit ff b = true ↔
          (Nat.testBit (x.srf SR.ff 5) b = true ∨ ∃ j, x.vstart ≤ j ∧ j < x.vl ∧ Nat.testBit (r j).2 b = true))
    (wFnOp k.w = 0x0 → maps (.vfadd t) fun a b _ => f.add m 0 false a b) ∧
    (wFnOp k.w = 0x1 → maps (.vfsub t) fun a b _ => f.add m 0 true a b) ∧
    (wFnOp k.w = 0x2 → maps (.vfmul t) fun a b _ => f.mul m 0 a b) ∧
    (wFnOp k.w = 0x3 → maps (.vfma t) fun a b d => f.fma m 0 a b d) ∧
    (wFnOp k.w = 0x4 → maps (.vfmin t) fun a b _ => f.minMax false a b) ∧
    (wFnOp k.w = 0x5 → maps (.vfmax t) fun a b _ => f.minMax true a b)

/-- R507, R511: SETVL sets VGRP, VL and rd and clears VSTART; VBCAST and VMV fill elements VSTART to VL − 1; VEXT reads one element,
0 at and above VL; VINS writes one, none at and above VL; VREDADD sums elements 0 to VL − 1. Each leaves VSTART at 0. Choices of
the model in it: log entries 64, 65. -/
def Obligations.VectorMoves : Prop :=
  ∀ (s : State) (t : Fin 128) (k : Issue), Runs s t k → isPair k.w = false →
    let x := s.regsAt k
    let w := 8 * 2 ^ wFnW k.w
    let fills (i : Instr) (new : Nat → Nat → Nat) : Prop :=
      ∃ v us, Completes (exec i s) s s t k { x with v := v, usable := us, vstart := 0 } ∧
        (∀ j, j * w < 128 * x.vgrp → ({ x with v := v } : Thread).elem (wRd k.w) w j = new j (x.elem (wRd k.w) w j)) ∧
        ∀ r, (r < wRd k.w ∨ wRd k.w + x.vgrp ≤ r) → (kget 0 v r : BitVec 128) = kget 0 x.v r
    (wOp k.w = 0x34 →
      let g := 2 ^ bits k.w 7 2
      let n := min (k.ra x).toNat (g * 128 / (8 * 2 ^ bits k.w 9 2))
      Completes (exec (.setvl t) s) s s t k { k.putRd x (BitVec.ofNat 64 n) with vgrp := g, vl := n, vstart := 0 }) ∧
    (wOp k.w = 0x35 →
      (wFnOp k.w = 0 → fills (.vbcast t) fun j old => if x.vstart ≤ j ∧ j < x.vl then (k.ra x).toNat % 2 ^ w else old) ∧
      (wFnOp k.w = 1 → Completes (exec (.vext t) s) s s t k
        { k.putRd x (BitVec.ofNat 64 (if x.vl ≤ (k.rb x).toNat then 0 else x.elem (wRa k.w) w (k.rb x).toNat)) with vstart := 0 }) ∧
      (wFnOp k.w = 2 → fills (.vins t) fun j old => if j = (k.rb x).toNat ∧ j < x.vl then (k.ra x).toNat % 2 ^ w else old) ∧
      (wFnOp k.w = 3 → Completes (exec (.vredadd t) s) s s t k
        { k.putRd x (BitVec.ofNat 64 (((List.range x.vl).map fun j => x.elem (wRa k.w) w j).sum % 2 ^ w)) with vstart := 0 }) ∧
      (wFnOp k.w = 4 → fills (.vmv t) fun j old => if x.vstart ≤ j ∧ j < x.vl then x.elem (wRa k.w) w j else old))

/-- R512: the address of element j of VLD and VST: unit stride, strided by rb, or indexed by element j of vb. VLD reads elements
VSTART to VL − 1 from there and VST writes them there in index order, and both set VSTART to 0. Stated for accesses that are
clear, and for VST with an empty store buffer and elements that do not overlap. Choices of the model in it: log entries 66, 75. -/
def Obligations.VectorLoadsAndStores : Prop :=
  ∀ (s : State) (t : Fin 128) (k : Issue), Runs s t k → isPair k.w = false →
    let x := s.regsAt k
    let w := 8 * 2 ^ bits k.w 4 2
    let n := 2 ^ bits k.w 4 2
    let at_ (j : Nat) : Nat := (k.ra x + (if bits k.w 2 2 = 0 then BitVec.ofNat 64 (j * n)
      else if bits k.w 2 2 = 1 then BitVec.ofNat 64 (j * (k.rb x).toNat) else BitVec.ofNat 64 (x.elem (wRb k.w) w j))).toNat
    let live (j : Nat) : Prop := x.vstart ≤ j ∧ j < x.vl
    (wOp k.w = 0x30 → (∀ j, live j → Clear s t k (at_ j) n) →
      ∃ v us, Reads (exec (.vld t) s) s t k { x with v := v, usable := us, vstart := 0 } ∧
        (∀ j, j * w < 128 * x.vgrp → ({ x with v := v } : Thread).elem (wRd k.w) w j =
          if x.vstart ≤ j ∧ j < x.vl then s.dataNat (at_ j) n else x.elem (wRd k.w) w j) ∧
        ∀ r, (r < wRd k.w ∨ wRd k.w + x.vgrp ≤ r) → (kget 0 v r : BitVec 128) = kget 0 x.v r) ∧
    (wOp k.w = 0x31 → x.stores = [] → (∀ j, live j → ClearWrite s t k (at_ j) n ∧ at_ j < 2 ^ 32) →
      (∀ i j, live i → live j → i < j → at_ i + n ≤ at_ j ∨ at_ j + n ≤ at_ i) →
      ∃ s', exec (.vst t) s = .next s' ∧ s'.thread t = k.retire (k.cost (s.thread t)) { x with vstart := 0 } ∧ OnlyAccess s s' t ∧
        (∀ j b, live j → b < n → Memory.get s'.mem.mem (at_ j + b) = (natLe n (x.elem (wRd k.w) w j)).getD b 0) ∧
        ∀ b, (∀ j, live j → b < at_ j ∨ at_ j + n ≤ b) → Memory.get s'.mem.mem b = Memory.get s.mem.mem b)

/-! ## Channels, lamps, events -/

/-- R451 to R453, R514: a read that may take place takes the first word of the channel, holds the channel for reading until a word
with END, and sets CHE and CHB from the word's marks; CHRN and T0's reads set CHV as well. CHRN of a channel that gives no word
clears CHV and changes nothing else, and CHR of a thread but T0 waits, BLOCKED, among the channel's waiters. Choices of the
model in it: log entries 58, 70. -/
def Obligations.ChannelReads : Prop :=
  ∀ (s : State) (t : Fin 128) (k : Issue), Runs s t k → isPair k.w = false → (wOp k.w = 0x38 ∨ wOp k.w = 0x39) →
    let x := s.regsAt k
    let ch := if wOp k.w = 0x38 then bits k.w 4 10 else (k.ra x).toNat % 2 ^ 10
    let e := s.atSlot k
    s.chanForbidden ch = false →
    (e.chanReadable ch t = true → ∀ w ws, (s.chan ch).words = w :: ws →
      let left := e.setChan ch { e.chan ch with words := ws, rhold := if w.fin then none else some (.thread t) }
      let got := ((x.putLoaded (x.idx k.full (wRd k.w)) w.data k.c).setSrb SR.che w.fin).setSrb SR.chb w.brk
      (bits k.w 0 4 = 0 → Completes (exec (.chr t) s) s (left.chanPump 8 ch) t k (if t.val = 0 then got.setSrb SR.chv true else got)) ∧
      (bits k.w 0 4 = 1 → Completes (exec (.chrn t) s) s (left.chanPump 8 ch) t k (got.setSrb SR.chv true))) ∧
    (e.chanReadable ch t = false →
      (bits k.w 0 4 = 1 → Completes (exec (.chrn t) s) s s t k (x.setSrb SR.chv false)) ∧
      (bits k.w 0 4 = 0 → t.val ≠ 0 → ∃ s', exec (.chr t) s = .next s' ∧ (s'.thread t).st = TST.blocked ∧
        (s'.thread t).wait = .chanRead ch (wRd k.w) ∧ (s'.thread t).gpr = x.gpr ∧ (s'.thread t).pc = x.pc ∧
        t.val ∈ (s'.chan ch).waiters ∧ (s'.chan ch).words = (s.chan ch).words ∧ s'.mem = s.mem))

/-- R451 to R453, R514: a write that may take place appends its word, with END for CHWL and CHWLN, and holds the channel for writing
until a word with END; the non-blocking forms and T0's writes set CHV. A non-blocking write that cannot take place clears CHV
and changes nothing else, and a blocking one of a thread but T0 waits. Choices of the model in it: log entries 58, 70. -/
def Obligations.ChannelWrites : Prop :=
  ∀ (s : State) (t : Fin 128) (k : Issue), Runs s t k → isPair k.w = false → (wOp k.w = 0x38 ∨ wOp k.w = 0x39) →
    let x := s.regsAt k
    let ch := if wOp k.w = 0x38 then bits k.w 4 10 else (k.ra x).toNat % 2 ^ 10
    let e := s.atSlot k
    let c := s.chan ch
    let put (fin : Bool) : State := (e.setChan ch { c with
      words := c.words ++ [{ data := k.rd x, fin := fin, brk := false, at_ := e.now / 2, sched := s.isSched t }]
      whold := if fin then none else some (.thread t) }).chanPump 8 ch
    (e.chanWritable ch t = true → c.dropping = false →
      (bits k.w 0 4 = 2 → Completes (exec (.chw t) s) s (put false) t k (if t.val = 0 then x.setSrb SR.chv true else x)) ∧
      (bits k.w 0 4 = 3 → Completes (exec (.chwl t) s) s (put true) t k (if t.val = 0 then x.setSrb SR.chv true else x)) ∧
      (bits k.w 0 4 = 4 → Completes (exec (.chwn t) s) s (put false) t k (x.setSrb SR.chv true)) ∧
      (bits k.w 0 4 = 5 → Completes (exec (.chwln t) s) s (put true) t k (x.setSrb SR.chv true))) ∧
    (e.chanWritable ch t = false →
      (bits k.w 0 4 = 4 → Completes (exec (.chwn t) s) s s t k (x.setSrb SR.chv false)) ∧
      (bits k.w 0 4 = 2 → t.val ≠ 0 → ∃ s', exec (.chw t) s = .next s' ∧ (s'.thread t).st = TST.blocked ∧
        (s'.thread t).wait = .chanWrite ch (k.rd x) false ∧ (s'.thread t).gpr = x.gpr ∧ (s'.chan ch).words = c.words ∧
        t.val ∈ (s'.chan ch).waiters))

/-- R439, R457, R458, R514, R675: TAKE and TRYTAKE of a free lamp make the thread its owner; TRYTAKE of one that another owns clears
CHV; TAKE of one waits, but for T0; RETURN frees a lamp, or passes it to the waiter that waits first; a TAKE of one's own lamp
and a RETURN of another's raise LAMP; WAITEV takes the lowest pending event of its set into rd and clears it, but for one raised
again in that cycle; SIGEV of a general source makes it pending. Choices of the model in it: log entries 57, 70. -/
def Obligations.LampsAndEvents : Prop :=
  ∀ (s : State) (t : Fin 128) (k : Issue), Runs s t k → isPair k.w = false → (wOp k.w = 0x38 ∨ wOp k.w = 0x39) →
    let x := s.regsAt k
    let num (n : Nat) : Nat := if wOp k.w = 0x38 then bits k.w 4 n else (k.ra x).toNat % 2 ^ n
    let l := num 12
    let e := s.atSlot k
    let taken := e.setLamp l { s.lamp l with owner := some t.val }
    (bits k.w 0 4 = 6 → (s.lamp l).owner = none →
      Completes (exec (.take t) s) s taken t k (if t.val = 0 then x.setSrb SR.chv true else x)) ∧
    (bits k.w 0 4 = 7 → (s.lamp l).owner = none → Completes (exec (.trytake t) s) s taken t k (x.setSrb SR.chv true)) ∧
    (bits k.w 0 4 = 7 → ∀ o, (s.lamp l).owner = some o → o ≠ t.val →
      Completes (exec (.trytake t) s) s s t k (x.setSrb SR.chv false)) ∧
    (bits k.w 0 4 = 6 → t.val ≠ 0 → ∀ o, (s.lamp l).owner = some o → o ≠ t.val →
      ∃ s', exec (.take t) s = .next s' ∧ (s'.thread t).st = TST.blocked ∧ (s'.thread t).wait = .lamp l ∧
        t.val ∈ (s'.lamp l).waiters ∧ (s'.lamp l).owner = some o) ∧
    (bits k.w 0 4 = 6 → (s.lamp l).owner = some t.val → FaultStops s t x → Stops (exec (.take t) s) s t k x 0x18 0) ∧
    (bits k.w 0 4 = 7 → (s.lamp l).owner = some t.val → FaultStops s t x → Stops (exec (.trytake t) s) s t k x 0x18 0) ∧
    (bits k.w 0 4 = 8 → (s.lamp l).owner = some t.val → (s.lamp l).waiters = [] →
      Completes (exec (.lampReturn t) s) s (e.setLamp l { owner := none, waiters := [] }) t k x) ∧
    (bits k.w 0 4 = 8 → (s.lamp l).owner ≠ some t.val → FaultStops s t x → Stops (exec (.lampReturn t) s) s t k x 0x18 0) ∧
    (bits k.w 0 4 = 8 → (s.lamp l).owner = some t.val → ∀ u us, (s.lamp l).waiters = u :: us → u ≠ t.val → u < 128 →
      (s.thread u).wait = .lamp l → (s.thread u).st = TST.blocked →
      ∃ s', exec (.lampReturn t) s = .next s' ∧ (s'.lamp l).owner = some u ∧ (s'.thread u).wait = .none) ∧
    (bits k.w 0 4 = 9 → ∀ n, s.threadEvent t (if num 2 = 0 then none else some (num 2)) = some n →
      ∃ s', exec (.waitev t) s = .next s' ∧ s'.thread t = k.retire (k.cost (s.thread t)) (k.putRd x (BitVec.ofNat 64 n)) ∧
        OnlyThread s s' t ∧ (32 ≤ n → (s.atSlot k).raisedAgain n = false → s'.evPending n = false)) ∧
    (bits k.w 0 4 = 9 → s.threadEvent t (if num 2 = 0 then none else some (num 2)) = none →
      ∃ s', exec (.waitev t) s = .next s' ∧ (s'.thread t).st = TST.blocked ∧ (s'.thread t).wait = .event (num 2) (wRd k.w)) ∧
    (bits k.w 0 4 = 0xA → 512 ≤ num 12 → s.crp.mainUp = true →
      ∃ s', exec (.sigev t) s = .next s' ∧ s'.thread t = k.retire (k.cost (s.thread t)) x ∧ OnlyThread s s' t ∧
        s'.evPending (num 12) = true) ∧
    (bits k.w 0 4 = 0xA → num 12 < 512 → FaultStops s t x → Stops (exec (.sigev t) s) s t k x 0x12 0)

/-! ## System instructions, registers, short operations -/

/-- R445, R515, R516, R688: NOP has no effect; FENCE completes once the store buffer has drained and no host write is without its
response, and waits in HMP_WAIT otherwise; RETA takes PC, SR, LR, sp, VL and VSTART from the frame at sp, PRIV and SEC staying 0
without PRIV; BREAK halts the thread behind it with a debugger attached and raises BREAK without one. Choices of the model in
it: log entries 66, 72. -/
def Obligations.SystemRows : Prop :=
  ∀ (s : State) (t : Fin 128) (k : Issue), Runs s t k → isPair k.w = false → wOp k.w = 0x3E →
    let x := s.regsAt k
    let d := (s.atSlot k).drainAll t k.c
    (wFn k.w = 0 → Completes (exec (.nop t) s) s s t k x) ∧
    (wFn k.w = 4 → (d.thread t).pendingWr = 0 → Completes (exec (.fence t) s) s d t k (d.thread t)) ∧
    (wFn k.w = 4 → (d.thread t).pendingWr ≠ 0 →
      ∃ s', exec (.fence t) s = .next s' ∧ (s'.thread t).st = TST.hmpWait ∧ (s'.thread t).wait = .fence ∧ (s'.thread t).pc = x.pc) ∧
    (wFn k.w = 1 → x.stores = [] → (∀ j < 8, Clear s t k (x.sp.toNat + 8 * j) 8) →
      let w (o n : Nat) : Nat := s.dataNat (x.sp.toNat + o) n
      let sr : BitVec 32 := BitVec.ofNat 32 (w 8 4) &&& (if x.srb SR.priv then 0x0FFFFFFF else 0x0FFFF3FF)
      ReadsTo (exec (.reta t) s) s t (k.branchTo (k.cost (s.thread t)) { x with
        sr := sr, lr := BitVec.ofNat 17 (w 0x20 4), sp := BitVec.ofNat 64 (w 0x28 8), vl := w 0x30 2, vstart := w 0x32 2, srNew := [],
        ans := [] } (w 0 4))) ∧
    (wFn k.w = 3 → s.attached = true →
      ∃ s', exec (.breakWord t) s = .next s' ∧ (s'.thread t).st = TST.halted ∧ (s'.thread t).gpr = x.gpr ∧ s'.mem = s.mem ∧
        s'.thread t = { k.retire (k.cost (s.thread t)) x with st := TST.halted, prev := TST.ready, waitSince := s'.now }) ∧
    (wFn k.w = 3 → s.attached = false → FaultStops s t x → Stops (exec (.breakWord t) s) s t k x 0x1A 0)

/-- R479, R515: SPILL stores the eight registers of window group WBOT at ra to ra + 63 and steps WBOT up; FILL loads the group below
WBOT from there and steps WBOT down. Stated for accesses that are clear and an empty store buffer. SPILL with WBOT = CWP, and
FILL with the window full, raise ILLEGAL. Choices of the model in it: log entry 66. -/
def Obligations.SpillAndFill : Prop :=
  ∀ (s : State) (t : Fin 128) (k : Issue), Runs s t k → isPair k.w = false → wOp k.w = 0x3E →
    let x := s.regsAt k
    let a := (k.ra x).toNat
    let below := (x.wbot + 14) % 15
    (wFn k.w = 5 → x.wbot ≠ x.cwp → x.stores = [] → (∀ j < 8, ClearWrite s t k (a + 8 * j) 8) →
      Writes (exec (.spill t) s) s t k { x with wbot := (x.wbot + 1) % 15 } a
        ((List.range 8).map fun j => natLe 8 (kget 0 x.gpr (8 + 8 * x.wbot + j) : BitVec 64).toNat).flatten) ∧
    (wFn k.w = 6 → (x.cwp + 3) % 15 ≠ x.wbot → (∀ j < 8, Clear s t k (a + 8 * j) 8) →
      ∃ g us, Reads (exec (.fill t) s) s t k { x with gpr := g, usable := us, wbot := below } ∧
        ∀ i, (kget 0 g i : BitVec 64) =
          if 8 + 8 * below ≤ i ∧ i < 16 + 8 * below then BitVec.ofNat 64 (s.dataNat (a + 8 * (i - (8 + 8 * below))) 8) else kget 0 x.gpr i) ∧
    (wFn k.w = 5 → x.wbot = x.cwp → FaultStops s t x → Stops (exec (.spill t) s) s t k x 0x10 0) ∧
    (wFn k.w = 6 → (x.cwp + 3) % 15 = x.wbot → FaultStops s t x → Stops (exec (.fill t) s) s t k x 0x10 0)

/-- R517: REG reads the register at (ra + sext(imm10) × 4) mod 2²⁴ into rd, zero-extended, or writes the low 32 bits of r there, as
an access of 32 bits; CHV shows whether it succeeded. An offset that is no multiple of 4 raises ACCESS. A write takes place once
the word has completed, and its CHV is set in the thread that wrote unless the write has reset that thread. Choices of the model
in it: log entry 71. -/
def Obligations.RegisterInstructions : Prop :=
  ∀ (s : State) (t : Fin 128) (k : Issue), Runs s t k → isPair k.w = false → wOp k.w = 0x3F →
    let x := s.regsAt k
    let off := ((k.ra x) + (BitVec.ofNat 10 (k.w / 2)).signExtend 64 * 4).toNat % 2 ^ 24
    (off % 4 = 0 → bits k.w 0 1 = 0 → let r := (s.atSlot k).readAcc off 2
      Completes (exec (.regRead t) s) s r.s t k ((k.putRd x (r.data.setWidth 64)).setSrb SR.chv (!r.err))) ∧
    (off % 4 = 0 → bits k.w 0 1 = 1 → ∃ s1, s1.thread t = k.retire (k.cost (s.thread t)) x ∧ OnlyThread s s1 t ∧
      let r := s1.writeAcc (.thread t) off 2 ((k.rd x).setWidth 32)
      exec (.regWrite t) s = .next (State.settle
        (if (r.s.thread t).gen = x.gen then r.s.modThread t fun y => y.setSrb SR.chv (!r.err) else r.s))) ∧
    (off % 4 ≠ 0 → FaultStops s t x →
      (bits k.w 0 1 = 0 → Stops (exec (.regRead t) s) s t k x 0x12 off) ∧
      (bits k.w 0 1 = 1 → Stops (exec (.regWrite t) s) s t k x 0x12 off))

/-- R433, R475, R518: each short operation that names registers alone, in either position of a pair whose other operation is a NOP,
under its own condition: its result and flags. -/
def Obligations.ShortOperations : Prop :=
  ∀ (s : State) (t : Fin 128) (k : Issue) (first : Bool), Runs s t k → isPair k.w = true →
    let x := s.regsAt k
    let o := if first then bits k.w 16 15 else bits k.w 1 15
    let other := if first then bits k.w 1 15 else bits k.w 16 15
    bits other 8 5 = 0 → (bits o 13 2 = 0 ∨ bits o 13 2 = 1 ∧ x.srb SR.p = true ∨ bits o 13 2 = 2 ∧ x.srb SR.p = false) →
    let i := x.idx k.full (code4 k.full (bits o 4 4))
    let a := x.gprAt i
    let b := x.gprAt (x.idx k.full (code4 k.full (bits o 0 4)))
    let m := (BitVec.ofNat 4 o).signExtend 64
    let n := bits o 0 4 + 1
    let put (r : BitVec 64) : Thread := x.put i r
    let sum (u v : BitVec 64) : Nat :=
      flagBits (decide (u + v = 0)) (u + v).msb (decide (2 ^ 64 ≤ u.toNat + v.toNat)) (decide ((u + v).toInt ≠ u.toInt + v.toInt))
    let diff (u v : BitVec 64) : Nat :=
      flagBits (decide (u = v)) (u - v).msb (decide (v.toNat ≤ u.toNat)) (decide ((u - v).toInt ≠ u.toInt - v.toInt))
    let logic (r : BitVec 64) : Thread := (put r).setFlags (flagBits (decide (r = 0)) r.msb (x.srb SR.c) false)
    let shift (r : BitVec 64) (c : Bool) : Thread := (put r).setFlags (flagBits (decide (r = 0)) r.msb c (x.srb SR.v))
    (bits o 8 5 = 0x00 → Completes (exec (.shortNop t) s) s s t k x) ∧
    (bits o 8 5 = 0x01 → Completes (exec (.shortMov t) s) s s t k (put b)) ∧
    (bits o 8 5 = 0x02 → Completes (exec (.shortAdd t) s) s s t k ((put (a + b)).setFlags (sum a b))) ∧
    (bits o 8 5 = 0x03 → Completes (exec (.shortSub t) s) s s t k ((put (a - b)).setFlags (diff a b))) ∧
    (bits o 8 5 = 0x04 → Completes (exec (.shortAnd t) s) s s t k (logic (a &&& b))) ∧
    (bits o 8 5 = 0x05 → Completes (exec (.shortOr t) s) s s t k (logic (a ||| b))) ∧
    (bits o 8 5 = 0x06 → Completes (exec (.shortXor t) s) s s t k (logic (a ^^^ b))) ∧
    (bits o 8 5 = 0x07 → Completes (exec (.shortCmp t) s) s s t k (x.setFlags (diff a b))) ∧
    (bits o 8 5 = 0x08 → Completes (exec (.shortAddi t) s) s s t k ((put (a + m)).setFlags (sum a m))) ∧
    (bits o 8 5 = 0x09 → Completes (exec (.shortMovi t) s) s s t k (put m)) ∧
    (bits o 8 5 = 0x0A → Completes (exec (.shli t) s) s s t k (shift (a <<< n) (a.getLsbD (64 - n)))) ∧
    (bits o 8 5 = 0x0B → Completes (exec (.shri t) s) s s t k (shift (a >>> n) (a.getLsbD (n - 1)))) ∧
    (bits o 8 5 = 0x0C → Completes (exec (.sari t) s) s s t k (shift (a.sshiftRight n) (a.getLsbD (n - 1)))) ∧
    (bits o 8 5 = 0x11 → Completes (exec (.mqr t) s) s s t k (put (kget 0 x.mq (bits o 0 4)))) ∧
    (bits o 8 5 = 0x12 → Completes (exec (.shortNeg t) s) s s t k ((put (0 - b)).setFlags (diff 0 b))) ∧
    (bits o 8 5 = 0x13 → Completes (exec (.shortNot t) s) s s t k (logic (~~~b))) ∧
    (bits o 8 5 = 0x14 → ∃ r : BitVec 64, Completes (exec (.shortClz t) s) s s t k (put r) ∧ (r.toNat = 64 ↔ b = 0) ∧
      (∀ j < 64, 64 ≤ j + r.toNat → b.getLsbD j = false) ∧ (b ≠ 0 → b.getLsbD (63 - r.toNat) = true)) ∧
    (bits o 8 5 = 0x15 → ∃ r : BitVec 64, Completes (exec (.shortPopc t) s) s s t k (put r) ∧
      r.toNat = ((List.range 64).filter fun j => b.getLsbD j).length) ∧
    (bits o 8 5 = 0x17 → ∃ r : BitVec 64, Completes (exec (.shortMin t) s) s s t k (put r) ∧ r.toInt = min a.toInt b.toInt) ∧
    (bits o 8 5 = 0x18 → ∃ r : BitVec 64, Completes (exec (.shortMax t) s) s s t k (put r) ∧ r.toInt = max a.toInt b.toInt)

/-- R433, R497, R518: the short loads and stores, with a NOP beside them: LD and LDI load the word at RS, ST and STI put RD behind
the stores of the buffer, and LDI and STI step RS by 8. BS goes to PC plus its signed offset. R433: both operations of a pair
read before either writes: a pair of MOVs that name each other's registers exchanges them. -/
def Obligations.ShortMemoryAndPairs : Prop :=
  (∀ (s : State) (t : Fin 128) (k : Issue) (first : Bool), Runs s t k → isPair k.w = true →
     let x := s.regsAt k
     let o := if first then bits k.w 16 15 else bits k.w 1 15
     let other := if first then bits k.w 1 15 else bits k.w 16 15
     bits other 8 5 = 0 → bits o 13 2 = 0 →
     let i := x.idx k.full (code4 k.full (bits o 4 4))
     let j := x.idx k.full (code4 k.full (bits o 0 4))
     let a := (x.gprAt j).toNat
     let step : Thread := x.put j (x.gprAt j + 8)
     let stored (y : Thread) : Thread := { y with stores := x.stores ++ [(a, natLe 8 (x.gprAt i).toNat)] }
     (bits o 8 5 = 0x0D → Clear s t k a 8 →
       Reads (exec (.shortLd t) s) s t k (x.putLoaded i (BitVec.ofNat 64 (s.dataNat a 8)) k.c)) ∧
     (bits o 8 5 = 0x0F → Clear s t k a 8 →
       Reads (exec (.ldi t) s) s t k (step.putLoaded i (BitVec.ofNat 64 (s.dataNat a 8)) k.c)) ∧
     (bits o 8 5 = 0x0E → s.permits (k.acc s) true a 8 = true → s.watched t true a 8 = none → x.stores.length < 4 →
       Completes (exec (.shortSt t) s) s s t k (stored x)) ∧
     (bits o 8 5 = 0x10 → s.permits (k.acc s) true a 8 = true → s.watched t true a 8 = none → x.stores.length < 4 →
       Completes (exec (.sti t) s) s s t k (stored step)) ∧
     (bits o 8 5 = 0x16 → first = false →
       Branches (exec (.bs t) s) s s t k x (x.pc + (BitVec.ofNat 8 o).signExtend 17).toNat)) ∧
  (∀ (s : State) (t : Fin 128) (k : Issue), Runs s t k → isPair k.w = true →
     let x := s.regsAt k
     let p := bits k.w 16 15
     let q := bits k.w 1 15
     bits p 8 7 = 1 → bits q 8 7 = 1 → bits p 4 4 = bits q 0 4 → bits q 4 4 = bits p 0 4 →
     let i := x.idx k.full (code4 k.full (bits p 4 4))
     let j := x.idx k.full (code4 k.full (bits q 4 4))
     ∃ g us, Completes (exec (.shortMov t) s) s s t k { x with gpr := g, usable := us } ∧
       (kget 0 g i : BitVec 64) = x.gprAt j ∧ (kget 0 g j : BitVec 64) = x.gprAt i ∧
       ∀ r, r ≠ i → r ≠ j → (kget 0 g r : BitVec 64) = x.gprAt r)
end

