-- ==== Sys2Proof/Laws/Kmap.lean ====
section
/-! SUPPORT. Sparse tables and memories: a read after a write, and the canonical form that every write keeps. -/

namespace Sys2Proof.Machine

theorem kget_kdel_same {α : Type} (d : α) (m : KMap α) (k : Nat) : kget d (kdel m k) k = d := by
  induction m with
  | nil => rfl
  | cons e m ih => rcases e with ⟨a, v⟩; by_cases h : a = k <;> simp [kdel, kget, h, ih]

theorem kget_kdel_ne {α : Type} (d : α) (m : KMap α) {k j : Nat} (h : j ≠ k) : kget d (kdel m k) j = kget d m j := by
  induction m with
  | nil => rfl
  | cons e m ih =>
    rcases e with ⟨a, v⟩
    by_cases h1 : a = k
    · subst h1; simp [kdel, kget, ih, Ne.symm h]
    · simp [kdel, kget, h1, ih]

theorem kget_kins_same {α : Type} (d : α) (m : KMap α) (k : Nat) (v : α) : kget d (kins m k v) k = v := by
  induction m with
  | nil => simp [kins, kget]
  | cons e m ih =>
    rcases e with ⟨a, w⟩
    by_cases h : a = k
    · simp [kins, kget, h]
    · by_cases h2 : k < a <;> simp [kins, kget, h, h2, ih]

theorem kget_kins_ne {α : Type} (d : α) (m : KMap α) {k j : Nat} (v : α) (h : j ≠ k) : kget d (kins m k v) j = kget d m j := by
  induction m with
  | nil => simp [kins, kget, Ne.symm h]
  | cons e m ih =>
    rcases e with ⟨a, w⟩
    by_cases h1 : a = k
    · subst h1; simp [kins, kget, Ne.symm h]
    · by_cases h2 : k < a <;> simp [kins, kget, h1, h2, ih, Ne.symm h]

/-- A read of the key written gives the value written. -/
@[simp] theorem kget_kset_same {α : Type} [DecidableEq α] (d : α) (m : KMap α) (k : Nat) (v : α) :
    kget d (kset d m k v) k = v := by
  by_cases h : v = d
  · subst h; simp [kset, kget_kdel_same]
  · simp [kset, h, kget_kins_same]

/-- A write leaves every other key alone. -/
theorem kget_kset_ne {α : Type} [DecidableEq α] (d e : α) (m : KMap α) {k j : Nat} (v : α) (h : j ≠ k) :
    kget e (kset d m k v) j = kget e m j := by
  unfold kset; split
  · exact kget_kdel_ne e m h
  · exact kget_kins_ne e m v h

/-- Both cases in one. -/
theorem kget_kset {α : Type} [DecidableEq α] (d : α) (m : KMap α) (k j : Nat) (v : α) :
    kget d (kset d m k v) j = if j = k then v else kget d m j := by
  by_cases h : j = k
  · subst h; simp
  · simp [h, kget_kset_ne]

theorem kwfFrom_weaken {α : Type} [DecidableEq α] (d : α) {m : KMap α} {lo : Nat} (h : kwfFrom d (some lo) m = true) :
    kwfFrom d none m = true := by
  cases m with
  | nil => rfl
  | cons e m => rcases e with ⟨a, v⟩; simp [kwfFrom] at h ⊢; exact ⟨h.1.2, h.2⟩

theorem kwfFrom_mono {α : Type} [DecidableEq α] (d : α) {m : KMap α} {lo lo' : Nat} (hl : lo' ≤ lo)
    (h : kwfFrom d (some lo) m = true) : kwfFrom d (some lo') m = true := by
  cases m with
  | nil => rfl
  | cons e m => rcases e with ⟨a, v⟩; simp [kwfFrom] at h ⊢; exact ⟨⟨by omega, h.1.2⟩, h.2⟩

theorem kwfFrom_kdel {α : Type} [DecidableEq α] (d : α) (m : KMap α) (k : Nat) :
    ∀ lo, kwfFrom d lo m = true → kwfFrom d lo (kdel m k) = true := by
  induction m with
  | nil => intro lo _; rfl
  | cons e m ih =>
    rcases e with ⟨a, v⟩
    intro lo h
    simp only [kwfFrom, Bool.and_eq_true, decide_eq_true_eq] at h
    have h2 := ih (some a) h.2
    by_cases h1 : a = k
    · simp only [kdel, h1, if_true]
      cases lo with
      | none => rw [h1] at h2; exact kwfFrom_weaken d h2
      | some l => rw [h1] at h2; exact kwfFrom_mono d (by have := h.1.1; simp at this; omega) h2
    · simp only [kdel, h1, if_false, kwfFrom, Bool.and_eq_true, decide_eq_true_eq]
      exact ⟨h.1, h2⟩

theorem kwfFrom_kins {α : Type} [DecidableEq α] (d : α) (m : KMap α) (k : Nat) (v : α) (hv : v ≠ d) :
    ∀ lo, (∀ l, lo = some l → l < k) → kwfFrom d lo m = true → kwfFrom d lo (kins m k v) = true := by
  induction m with
  | nil =>
    intro lo hl _
    cases lo <;> simp_all [kins, kwfFrom]
  | cons e m ih =>
    rcases e with ⟨a, w⟩
    intro lo hl h
    simp only [kwfFrom, Bool.and_eq_true, decide_eq_true_eq] at h
    by_cases h1 : a = k
    · subst h1
      simp only [kins, if_true, kwfFrom, Bool.and_eq_true, decide_eq_true_eq]
      exact ⟨⟨h.1.1, hv⟩, h.2⟩
    · by_cases h2 : k < a
      · simp only [kins, h1, h2, if_true, if_false, kwfFrom, Bool.and_eq_true, decide_eq_true_eq]
        refine ⟨⟨?_, hv⟩, ⟨trivial, h.1.2⟩, h.2⟩
        cases lo with
        | none => rfl
        | some l => simpa using hl l rfl
      · simp only [kins, h1, h2, if_false, kwfFrom, Bool.and_eq_true, decide_eq_true_eq]
        exact ⟨h.1, ih (some a) (by intro l hl'; cases hl'; omega) h.2⟩

/-- A write keeps the canonical form. -/
theorem kwf_kset {α : Type} [DecidableEq α] (d : α) (m : KMap α) (k : Nat) (v : α) (h : kwf d m = true) :
    kwf d (kset d m k v) = true := by
  unfold kwf kset at *
  split
  · exact kwfFrom_kdel d m k none h
  · next hv => exact kwfFrom_kins d m k v hv none (by intro l hl; cases hl) h

/-! ## Memories -/

theorem Memory.get_set (m : List Host.Cell) (a b : Nat) (v : Byte) :
    Memory.get (Memory.set m a v) b = if b = a then v else Memory.get m b := kget_kset 0 m a b v

/-- A byte read after a write: the byte written where the address lies in it, the byte before elsewhere. -/
theorem Memory.get_write (bs : List Byte) : ∀ (m : List Host.Cell) (a b : Nat),
    Memory.get (Memory.write m a bs) b = if a ≤ b ∧ b < a + bs.length then bs.getD (b - a) 0 else Memory.get m b := by
  induction bs with
  | nil =>
    intro m a b
    rw [if_neg (by simp only [List.length_nil]; omega)]
    rfl
  | cons x xs ih =>
    intro m a b
    rw [Memory.write, ih, Memory.get_set, List.length_cons]
    by_cases h1 : b = a
    · subst h1
      rw [if_neg (by omega), if_pos rfl, if_pos (by omega), Nat.sub_self]
      rfl
    · by_cases h2 : a + 1 ≤ b ∧ b < a + 1 + xs.length
      · have h4 : b - a = (b - (a + 1)) + 1 := by omega
        rw [if_pos h2, if_pos (by omega), h4]
        rfl
      · rw [if_neg h2, if_neg h1, if_neg (by omega)]

/-- Memory operations keep the canonical form. -/
theorem Memory.wf_set (m : List Host.Cell) (a : Nat) (v : Byte) (h : Memory.wf m = true) : Memory.wf (Memory.set m a v) = true :=
  kwf_kset 0 m a v h

theorem Memory.wf_write (bs : List Byte) : ∀ (m : List Host.Cell) (a : Nat), Memory.wf m = true → Memory.wf (Memory.write m a bs) = true := by
  induction bs with
  | nil => intro m a h; exact h
  | cons b bs ih => intro m a h; exact ih _ _ (Memory.wf_set m a b h)

theorem Memory.read_length (m : List Host.Cell) (n : Nat) : ∀ a, (Memory.read m a n).length = n := by
  induction n with
  | zero => intro a; rfl
  | succ n ih => intro a; simp [Memory.read, ih]

end Sys2Proof.Machine
end

