-- ==== Sys2Proof/Laws/State.lean ====
section
/-! SUPPORT. One lemma for each field of State and each of the named updates: the fields that the update leaves alone, and the one
that it sets. -/

namespace Sys2Proof.Machine

@[simp] theorem State.setReg_pending (s : State) (off : Nat) (v : Word) : (s.setReg off v).pending = s.pending := rfl
@[simp] theorem State.setReg_now (s : State) (off : Nat) (v : Word) : (s.setReg off v).now = s.now := rfl
@[simp] theorem State.setReg_hits (s : State) (off : Nat) (v : Word) : (s.setReg off v).hits = s.hits := rfl
@[simp] theorem State.setReg_sch (s : State) (off : Nat) (v : Word) : (s.setReg off v).sch = s.sch := rfl
@[simp] theorem State.setReg_cfg (s : State) (off : Nat) (v : Word) : (s.setReg off v).cfg = s.cfg := rfl
@[simp] theorem State.setReg_lnk (s : State) (off : Nat) (v : Word) : (s.setReg off v).lnk = s.lnk := rfl
@[simp] theorem State.setReg_que (s : State) (off : Nat) (v : Word) : (s.setReg off v).que = s.que := rfl
@[simp] theorem State.setReg_str (s : State) (off : Nat) (v : Word) : (s.setReg off v).str = s.str := rfl
@[simp] theorem State.setReg_tnd (s : State) (off : Nat) (v : Word) : (s.setReg off v).tnd = s.tnd := rfl
@[simp] theorem State.setReg_btp (s : State) (off : Nat) (v : Word) : (s.setReg off v).btp = s.btp := rfl
@[simp] theorem State.setReg_mem (s : State) (off : Nat) (v : Word) : (s.setReg off v).mem = s.mem := rfl
@[simp] theorem State.setReg_vwk (s : State) (off : Nat) (v : Word) : (s.setReg off v).vwk = s.vwk := rfl
@[simp] theorem State.setReg_sbd (s : State) (off : Nat) (v : Word) : (s.setReg off v).sbd = s.sbd := rfl
@[simp] theorem State.setReg_hmp (s : State) (off : Nat) (v : Word) : (s.setReg off v).hmp = s.hmp := rfl
@[simp] theorem State.setReg_crp (s : State) (off : Nat) (v : Word) : (s.setReg off v).crp = s.crp := rfl
@[simp] theorem State.setReg_dbg (s : State) (off : Nat) (v : Word) : (s.setReg off v).dbg = s.dbg := rfl
@[simp] theorem State.setReg_storeFaults (s : State) (off : Nat) (v : Word) : (s.setReg off v).storeFaults = s.storeFaults := rfl
@[simp] theorem State.setReg_out (s : State) (off : Nat) (v : Word) : (s.setReg off v).out = s.out := rfl
@[simp] theorem State.setReg_freeCount (s : State) (off : Nat) (v : Word) : (s.setReg off v).freeCount = s.freeCount := rfl

@[simp] theorem State.setF_pending (s : State) (x : Fld) (v : Nat) : (s.setF x v).pending = s.pending := rfl
@[simp] theorem State.setF_now (s : State) (x : Fld) (v : Nat) : (s.setF x v).now = s.now := rfl
@[simp] theorem State.setF_hits (s : State) (x : Fld) (v : Nat) : (s.setF x v).hits = s.hits := rfl
@[simp] theorem State.setF_sch (s : State) (x : Fld) (v : Nat) : (s.setF x v).sch = s.sch := rfl
@[simp] theorem State.setF_cfg (s : State) (x : Fld) (v : Nat) : (s.setF x v).cfg = s.cfg := rfl
@[simp] theorem State.setF_lnk (s : State) (x : Fld) (v : Nat) : (s.setF x v).lnk = s.lnk := rfl
@[simp] theorem State.setF_que (s : State) (x : Fld) (v : Nat) : (s.setF x v).que = s.que := rfl
@[simp] theorem State.setF_str (s : State) (x : Fld) (v : Nat) : (s.setF x v).str = s.str := rfl
@[simp] theorem State.setF_tnd (s : State) (x : Fld) (v : Nat) : (s.setF x v).tnd = s.tnd := rfl
@[simp] theorem State.setF_btp (s : State) (x : Fld) (v : Nat) : (s.setF x v).btp = s.btp := rfl
@[simp] theorem State.setF_mem (s : State) (x : Fld) (v : Nat) : (s.setF x v).mem = s.mem := rfl
@[simp] theorem State.setF_vwk (s : State) (x : Fld) (v : Nat) : (s.setF x v).vwk = s.vwk := rfl
@[simp] theorem State.setF_sbd (s : State) (x : Fld) (v : Nat) : (s.setF x v).sbd = s.sbd := rfl
@[simp] theorem State.setF_hmp (s : State) (x : Fld) (v : Nat) : (s.setF x v).hmp = s.hmp := rfl
@[simp] theorem State.setF_crp (s : State) (x : Fld) (v : Nat) : (s.setF x v).crp = s.crp := rfl
@[simp] theorem State.setF_dbg (s : State) (x : Fld) (v : Nat) : (s.setF x v).dbg = s.dbg := rfl
@[simp] theorem State.setF_storeFaults (s : State) (x : Fld) (v : Nat) : (s.setF x v).storeFaults = s.storeFaults := rfl
@[simp] theorem State.setF_out (s : State) (x : Fld) (v : Nat) : (s.setF x v).out = s.out := rfl
@[simp] theorem State.setF_freeCount (s : State) (x : Fld) (v : Nat) : (s.setF x v).freeCount = s.freeCount := rfl

@[simp] theorem State.setB_pending (s : State) (x : Fld) (b : Bool) : (s.setB x b).pending = s.pending := rfl
@[simp] theorem State.setB_now (s : State) (x : Fld) (b : Bool) : (s.setB x b).now = s.now := rfl
@[simp] theorem State.setB_hits (s : State) (x : Fld) (b : Bool) : (s.setB x b).hits = s.hits := rfl
@[simp] theorem State.setB_sch (s : State) (x : Fld) (b : Bool) : (s.setB x b).sch = s.sch := rfl
@[simp] theorem State.setB_cfg (s : State) (x : Fld) (b : Bool) : (s.setB x b).cfg = s.cfg := rfl
@[simp] theorem State.setB_lnk (s : State) (x : Fld) (b : Bool) : (s.setB x b).lnk = s.lnk := rfl
@[simp] theorem State.setB_que (s : State) (x : Fld) (b : Bool) : (s.setB x b).que = s.que := rfl
@[simp] theorem State.setB_str (s : State) (x : Fld) (b : Bool) : (s.setB x b).str = s.str := rfl
@[simp] theorem State.setB_tnd (s : State) (x : Fld) (b : Bool) : (s.setB x b).tnd = s.tnd := rfl
@[simp] theorem State.setB_btp (s : State) (x : Fld) (b : Bool) : (s.setB x b).btp = s.btp := rfl
@[simp] theorem State.setB_mem (s : State) (x : Fld) (b : Bool) : (s.setB x b).mem = s.mem := rfl
@[simp] theorem State.setB_vwk (s : State) (x : Fld) (b : Bool) : (s.setB x b).vwk = s.vwk := rfl
@[simp] theorem State.setB_sbd (s : State) (x : Fld) (b : Bool) : (s.setB x b).sbd = s.sbd := rfl
@[simp] theorem State.setB_hmp (s : State) (x : Fld) (b : Bool) : (s.setB x b).hmp = s.hmp := rfl
@[simp] theorem State.setB_crp (s : State) (x : Fld) (b : Bool) : (s.setB x b).crp = s.crp := rfl
@[simp] theorem State.setB_dbg (s : State) (x : Fld) (b : Bool) : (s.setB x b).dbg = s.dbg := rfl
@[simp] theorem State.setB_storeFaults (s : State) (x : Fld) (b : Bool) : (s.setB x b).storeFaults = s.storeFaults := rfl
@[simp] theorem State.setB_out (s : State) (x : Fld) (b : Bool) : (s.setB x b).out = s.out := rfl
@[simp] theorem State.setB_freeCount (s : State) (x : Fld) (b : Bool) : (s.setB x b).freeCount = s.freeCount := rfl

@[simp] theorem State.satF_pending (s : State) (x : Fld) (n : Nat) : (s.satF x n).pending = s.pending := rfl
@[simp] theorem State.satF_now (s : State) (x : Fld) (n : Nat) : (s.satF x n).now = s.now := rfl
@[simp] theorem State.satF_sch (s : State) (x : Fld) (n : Nat) : (s.satF x n).sch = s.sch := rfl
@[simp] theorem State.satF_cfg (s : State) (x : Fld) (n : Nat) : (s.satF x n).cfg = s.cfg := rfl
@[simp] theorem State.satF_lnk (s : State) (x : Fld) (n : Nat) : (s.satF x n).lnk = s.lnk := rfl
@[simp] theorem State.satF_que (s : State) (x : Fld) (n : Nat) : (s.satF x n).que = s.que := rfl
@[simp] theorem State.satF_str (s : State) (x : Fld) (n : Nat) : (s.satF x n).str = s.str := rfl
@[simp] theorem State.satF_tnd (s : State) (x : Fld) (n : Nat) : (s.satF x n).tnd = s.tnd := rfl
@[simp] theorem State.satF_btp (s : State) (x : Fld) (n : Nat) : (s.satF x n).btp = s.btp := rfl
@[simp] theorem State.satF_mem (s : State) (x : Fld) (n : Nat) : (s.satF x n).mem = s.mem := rfl
@[simp] theorem State.satF_vwk (s : State) (x : Fld) (n : Nat) : (s.satF x n).vwk = s.vwk := rfl
@[simp] theorem State.satF_sbd (s : State) (x : Fld) (n : Nat) : (s.satF x n).sbd = s.sbd := rfl
@[simp] theorem State.satF_hmp (s : State) (x : Fld) (n : Nat) : (s.satF x n).hmp = s.hmp := rfl
@[simp] theorem State.satF_crp (s : State) (x : Fld) (n : Nat) : (s.satF x n).crp = s.crp := rfl
@[simp] theorem State.satF_dbg (s : State) (x : Fld) (n : Nat) : (s.satF x n).dbg = s.dbg := rfl
@[simp] theorem State.satF_storeFaults (s : State) (x : Fld) (n : Nat) : (s.satF x n).storeFaults = s.storeFaults := rfl
@[simp] theorem State.satF_out (s : State) (x : Fld) (n : Nat) : (s.satF x n).out = s.out := rfl
@[simp] theorem State.satF_freeCount (s : State) (x : Fld) (n : Nat) : (s.satF x n).freeCount = s.freeCount := rfl

@[simp] theorem State.mark_pending (s : State) (x : Fld) (n : Nat) : (s.mark x n).pending = s.pending := rfl
@[simp] theorem State.mark_now (s : State) (x : Fld) (n : Nat) : (s.mark x n).now = s.now := rfl
@[simp] theorem State.mark_regs (s : State) (x : Fld) (n : Nat) : (s.mark x n).regs = s.regs := rfl
@[simp] theorem State.mark_sch (s : State) (x : Fld) (n : Nat) : (s.mark x n).sch = s.sch := rfl
@[simp] theorem State.mark_cfg (s : State) (x : Fld) (n : Nat) : (s.mark x n).cfg = s.cfg := rfl
@[simp] theorem State.mark_lnk (s : State) (x : Fld) (n : Nat) : (s.mark x n).lnk = s.lnk := rfl
@[simp] theorem State.mark_que (s : State) (x : Fld) (n : Nat) : (s.mark x n).que = s.que := rfl
@[simp] theorem State.mark_str (s : State) (x : Fld) (n : Nat) : (s.mark x n).str = s.str := rfl
@[simp] theorem State.mark_tnd (s : State) (x : Fld) (n : Nat) : (s.mark x n).tnd = s.tnd := rfl
@[simp] theorem State.mark_btp (s : State) (x : Fld) (n : Nat) : (s.mark x n).btp = s.btp := rfl
@[simp] theorem State.mark_mem (s : State) (x : Fld) (n : Nat) : (s.mark x n).mem = s.mem := rfl
@[simp] theorem State.mark_vwk (s : State) (x : Fld) (n : Nat) : (s.mark x n).vwk = s.vwk := rfl
@[simp] theorem State.mark_sbd (s : State) (x : Fld) (n : Nat) : (s.mark x n).sbd = s.sbd := rfl
@[simp] theorem State.mark_hmp (s : State) (x : Fld) (n : Nat) : (s.mark x n).hmp = s.hmp := rfl
@[simp] theorem State.mark_crp (s : State) (x : Fld) (n : Nat) : (s.mark x n).crp = s.crp := rfl
@[simp] theorem State.mark_dbg (s : State) (x : Fld) (n : Nat) : (s.mark x n).dbg = s.dbg := rfl
@[simp] theorem State.mark_storeFaults (s : State) (x : Fld) (n : Nat) : (s.mark x n).storeFaults = s.storeFaults := rfl
@[simp] theorem State.mark_out (s : State) (x : Fld) (n : Nat) : (s.mark x n).out = s.out := rfl
@[simp] theorem State.mark_freeCount (s : State) (x : Fld) (n : Nat) : (s.mark x n).freeCount = s.freeCount := rfl

@[simp] theorem State.hit_pending (s : State) (x : Fld) : (s.hit x).pending = s.pending := rfl
@[simp] theorem State.hit_now (s : State) (x : Fld) : (s.hit x).now = s.now := rfl
@[simp] theorem State.hit_sch (s : State) (x : Fld) : (s.hit x).sch = s.sch := rfl
@[simp] theorem State.hit_cfg (s : State) (x : Fld) : (s.hit x).cfg = s.cfg := rfl
@[simp] theorem State.hit_lnk (s : State) (x : Fld) : (s.hit x).lnk = s.lnk := rfl
@[simp] theorem State.hit_que (s : State) (x : Fld) : (s.hit x).que = s.que := rfl
@[simp] theorem State.hit_str (s : State) (x : Fld) : (s.hit x).str = s.str := rfl
@[simp] theorem State.hit_tnd (s : State) (x : Fld) : (s.hit x).tnd = s.tnd := rfl
@[simp] theorem State.hit_btp (s : State) (x : Fld) : (s.hit x).btp = s.btp := rfl
@[simp] theorem State.hit_mem (s : State) (x : Fld) : (s.hit x).mem = s.mem := rfl
@[simp] theorem State.hit_vwk (s : State) (x : Fld) : (s.hit x).vwk = s.vwk := rfl
@[simp] theorem State.hit_sbd (s : State) (x : Fld) : (s.hit x).sbd = s.sbd := rfl
@[simp] theorem State.hit_hmp (s : State) (x : Fld) : (s.hit x).hmp = s.hmp := rfl
@[simp] theorem State.hit_crp (s : State) (x : Fld) : (s.hit x).crp = s.crp := rfl
@[simp] theorem State.hit_dbg (s : State) (x : Fld) : (s.hit x).dbg = s.dbg := rfl
@[simp] theorem State.hit_storeFaults (s : State) (x : Fld) : (s.hit x).storeFaults = s.storeFaults := rfl
@[simp] theorem State.hit_out (s : State) (x : Fld) : (s.hit x).out = s.out := rfl
@[simp] theorem State.hit_freeCount (s : State) (x : Fld) : (s.hit x).freeCount = s.freeCount := rfl

@[simp] theorem State.setReg64_pending (s : State) (lo hi v : Nat) : (s.setReg64 lo hi v).pending = s.pending := rfl
@[simp] theorem State.setReg64_now (s : State) (lo hi v : Nat) : (s.setReg64 lo hi v).now = s.now := rfl
@[simp] theorem State.setReg64_hits (s : State) (lo hi v : Nat) : (s.setReg64 lo hi v).hits = s.hits := rfl
@[simp] theorem State.setReg64_sch (s : State) (lo hi v : Nat) : (s.setReg64 lo hi v).sch = s.sch := rfl
@[simp] theorem State.setReg64_cfg (s : State) (lo hi v : Nat) : (s.setReg64 lo hi v).cfg = s.cfg := rfl
@[simp] theorem State.setReg64_lnk (s : State) (lo hi v : Nat) : (s.setReg64 lo hi v).lnk = s.lnk := rfl
@[simp] theorem State.setReg64_que (s : State) (lo hi v : Nat) : (s.setReg64 lo hi v).que = s.que := rfl
@[simp] theorem State.setReg64_str (s : State) (lo hi v : Nat) : (s.setReg64 lo hi v).str = s.str := rfl
@[simp] theorem State.setReg64_tnd (s : State) (lo hi v : Nat) : (s.setReg64 lo hi v).tnd = s.tnd := rfl
@[simp] theorem State.setReg64_btp (s : State) (lo hi v : Nat) : (s.setReg64 lo hi v).btp = s.btp := rfl
@[simp] theorem State.setReg64_mem (s : State) (lo hi v : Nat) : (s.setReg64 lo hi v).mem = s.mem := rfl
@[simp] theorem State.setReg64_vwk (s : State) (lo hi v : Nat) : (s.setReg64 lo hi v).vwk = s.vwk := rfl
@[simp] theorem State.setReg64_sbd (s : State) (lo hi v : Nat) : (s.setReg64 lo hi v).sbd = s.sbd := rfl
@[simp] theorem State.setReg64_hmp (s : State) (lo hi v : Nat) : (s.setReg64 lo hi v).hmp = s.hmp := rfl
@[simp] theorem State.setReg64_crp (s : State) (lo hi v : Nat) : (s.setReg64 lo hi v).crp = s.crp := rfl
@[simp] theorem State.setReg64_dbg (s : State) (lo hi v : Nat) : (s.setReg64 lo hi v).dbg = s.dbg := rfl
@[simp] theorem State.setReg64_storeFaults (s : State) (lo hi v : Nat) : (s.setReg64 lo hi v).storeFaults = s.storeFaults := rfl
@[simp] theorem State.setReg64_out (s : State) (lo hi v : Nat) : (s.setReg64 lo hi v).out = s.out := rfl
@[simp] theorem State.setReg64_freeCount (s : State) (lo hi v : Nat) : (s.setReg64 lo hi v).freeCount = s.freeCount := rfl

@[simp] theorem State.emit_pending (s : State) (o : Out) : (s.emit o).pending = s.pending := rfl
@[simp] theorem State.emit_now (s : State) (o : Out) : (s.emit o).now = s.now := rfl
@[simp] theorem State.emit_regs (s : State) (o : Out) : (s.emit o).regs = s.regs := rfl
@[simp] theorem State.emit_hits (s : State) (o : Out) : (s.emit o).hits = s.hits := rfl
@[simp] theorem State.emit_sch (s : State) (o : Out) : (s.emit o).sch = s.sch := rfl
@[simp] theorem State.emit_cfg (s : State) (o : Out) : (s.emit o).cfg = s.cfg := rfl
@[simp] theorem State.emit_lnk (s : State) (o : Out) : (s.emit o).lnk = s.lnk := rfl
@[simp] theorem State.emit_que (s : State) (o : Out) : (s.emit o).que = s.que := rfl
@[simp] theorem State.emit_str (s : State) (o : Out) : (s.emit o).str = s.str := rfl
@[simp] theorem State.emit_tnd (s : State) (o : Out) : (s.emit o).tnd = s.tnd := rfl
@[simp] theorem State.emit_btp (s : State) (o : Out) : (s.emit o).btp = s.btp := rfl
@[simp] theorem State.emit_mem (s : State) (o : Out) : (s.emit o).mem = s.mem := rfl
@[simp] theorem State.emit_vwk (s : State) (o : Out) : (s.emit o).vwk = s.vwk := rfl
@[simp] theorem State.emit_sbd (s : State) (o : Out) : (s.emit o).sbd = s.sbd := rfl
@[simp] theorem State.emit_hmp (s : State) (o : Out) : (s.emit o).hmp = s.hmp := rfl
@[simp] theorem State.emit_crp (s : State) (o : Out) : (s.emit o).crp = s.crp := rfl
@[simp] theorem State.emit_dbg (s : State) (o : Out) : (s.emit o).dbg = s.dbg := rfl
@[simp] theorem State.emit_storeFaults (s : State) (o : Out) : (s.emit o).storeFaults = s.storeFaults := rfl
@[simp] theorem State.emit_freeCount (s : State) (o : Out) : (s.emit o).freeCount = s.freeCount := rfl

@[simp] theorem State.count_pending (s : State) (off n : Nat) : (s.count off n).pending = s.pending := rfl
@[simp] theorem State.count_now (s : State) (off n : Nat) : (s.count off n).now = s.now := rfl
@[simp] theorem State.count_regs (s : State) (off n : Nat) : (s.count off n).regs = s.regs := rfl
@[simp] theorem State.count_hits (s : State) (off n : Nat) : (s.count off n).hits = s.hits := rfl
@[simp] theorem State.count_cfg (s : State) (off n : Nat) : (s.count off n).cfg = s.cfg := rfl
@[simp] theorem State.count_lnk (s : State) (off n : Nat) : (s.count off n).lnk = s.lnk := rfl
@[simp] theorem State.count_que (s : State) (off n : Nat) : (s.count off n).que = s.que := rfl
@[simp] theorem State.count_str (s : State) (off n : Nat) : (s.count off n).str = s.str := rfl
@[simp] theorem State.count_tnd (s : State) (off n : Nat) : (s.count off n).tnd = s.tnd := rfl
@[simp] theorem State.count_btp (s : State) (off n : Nat) : (s.count off n).btp = s.btp := rfl
@[simp] theorem State.count_mem (s : State) (off n : Nat) : (s.count off n).mem = s.mem := rfl
@[simp] theorem State.count_vwk (s : State) (off n : Nat) : (s.count off n).vwk = s.vwk := rfl
@[simp] theorem State.count_sbd (s : State) (off n : Nat) : (s.count off n).sbd = s.sbd := rfl
@[simp] theorem State.count_hmp (s : State) (off n : Nat) : (s.count off n).hmp = s.hmp := rfl
@[simp] theorem State.count_crp (s : State) (off n : Nat) : (s.count off n).crp = s.crp := rfl
@[simp] theorem State.count_dbg (s : State) (off n : Nat) : (s.count off n).dbg = s.dbg := rfl
@[simp] theorem State.count_storeFaults (s : State) (off n : Nat) : (s.count off n).storeFaults = s.storeFaults := rfl
@[simp] theorem State.count_out (s : State) (off n : Nat) : (s.count off n).out = s.out := rfl
@[simp] theorem State.count_freeCount (s : State) (off n : Nat) : (s.count off n).freeCount = s.freeCount := rfl

@[simp] theorem State.countMax_pending (s : State) (off v : Nat) : (s.countMax off v).pending = s.pending := rfl
@[simp] theorem State.countMax_now (s : State) (off v : Nat) : (s.countMax off v).now = s.now := rfl
@[simp] theorem State.countMax_regs (s : State) (off v : Nat) : (s.countMax off v).regs = s.regs := rfl
@[simp] theorem State.countMax_hits (s : State) (off v : Nat) : (s.countMax off v).hits = s.hits := rfl
@[simp] theorem State.countMax_cfg (s : State) (off v : Nat) : (s.countMax off v).cfg = s.cfg := rfl
@[simp] theorem State.countMax_lnk (s : State) (off v : Nat) : (s.countMax off v).lnk = s.lnk := rfl
@[simp] theorem State.countMax_que (s : State) (off v : Nat) : (s.countMax off v).que = s.que := rfl
@[simp] theorem State.countMax_str (s : State) (off v : Nat) : (s.countMax off v).str = s.str := rfl
@[simp] theorem State.countMax_tnd (s : State) (off v : Nat) : (s.countMax off v).tnd = s.tnd := rfl
@[simp] theorem State.countMax_btp (s : State) (off v : Nat) : (s.countMax off v).btp = s.btp := rfl
@[simp] theorem State.countMax_mem (s : State) (off v : Nat) : (s.countMax off v).mem = s.mem := rfl
@[simp] theorem State.countMax_vwk (s : State) (off v : Nat) : (s.countMax off v).vwk = s.vwk := rfl
@[simp] theorem State.countMax_sbd (s : State) (off v : Nat) : (s.countMax off v).sbd = s.sbd := rfl
@[simp] theorem State.countMax_hmp (s : State) (off v : Nat) : (s.countMax off v).hmp = s.hmp := rfl
@[simp] theorem State.countMax_crp (s : State) (off v : Nat) : (s.countMax off v).crp = s.crp := rfl
@[simp] theorem State.countMax_dbg (s : State) (off v : Nat) : (s.countMax off v).dbg = s.dbg := rfl
@[simp] theorem State.countMax_storeFaults (s : State) (off v : Nat) : (s.countMax off v).storeFaults = s.storeFaults := rfl
@[simp] theorem State.countMax_out (s : State) (off v : Nat) : (s.countMax off v).out = s.out := rfl
@[simp] theorem State.countMax_freeCount (s : State) (off v : Nat) : (s.countMax off v).freeCount = s.freeCount := rfl

@[simp] theorem State.setHmp_pending (s : State) (p : Nat) (x : HmpPort) : (s.setHmp p x).pending = s.pending := rfl
@[simp] theorem State.setHmp_now (s : State) (p : Nat) (x : HmpPort) : (s.setHmp p x).now = s.now := rfl
@[simp] theorem State.setHmp_regs (s : State) (p : Nat) (x : HmpPort) : (s.setHmp p x).regs = s.regs := rfl
@[simp] theorem State.setHmp_hits (s : State) (p : Nat) (x : HmpPort) : (s.setHmp p x).hits = s.hits := rfl
@[simp] theorem State.setHmp_sch (s : State) (p : Nat) (x : HmpPort) : (s.setHmp p x).sch = s.sch := rfl
@[simp] theorem State.setHmp_cfg (s : State) (p : Nat) (x : HmpPort) : (s.setHmp p x).cfg = s.cfg := rfl
@[simp] theorem State.setHmp_lnk (s : State) (p : Nat) (x : HmpPort) : (s.setHmp p x).lnk = s.lnk := rfl
@[simp] theorem State.setHmp_que (s : State) (p : Nat) (x : HmpPort) : (s.setHmp p x).que = s.que := rfl
@[simp] theorem State.setHmp_str (s : State) (p : Nat) (x : HmpPort) : (s.setHmp p x).str = s.str := rfl
@[simp] theorem State.setHmp_tnd (s : State) (p : Nat) (x : HmpPort) : (s.setHmp p x).tnd = s.tnd := rfl
@[simp] theorem State.setHmp_btp (s : State) (p : Nat) (x : HmpPort) : (s.setHmp p x).btp = s.btp := rfl
@[simp] theorem State.setHmp_mem (s : State) (p : Nat) (x : HmpPort) : (s.setHmp p x).mem = s.mem := rfl
@[simp] theorem State.setHmp_vwk (s : State) (p : Nat) (x : HmpPort) : (s.setHmp p x).vwk = s.vwk := rfl
@[simp] theorem State.setHmp_sbd (s : State) (p : Nat) (x : HmpPort) : (s.setHmp p x).sbd = s.sbd := rfl
@[simp] theorem State.setHmp_crp (s : State) (p : Nat) (x : HmpPort) : (s.setHmp p x).crp = s.crp := rfl
@[simp] theorem State.setHmp_dbg (s : State) (p : Nat) (x : HmpPort) : (s.setHmp p x).dbg = s.dbg := rfl
@[simp] theorem State.setHmp_storeFaults (s : State) (p : Nat) (x : HmpPort) : (s.setHmp p x).storeFaults = s.storeFaults := rfl
@[simp] theorem State.setHmp_out (s : State) (p : Nat) (x : HmpPort) : (s.setHmp p x).out = s.out := rfl
@[simp] theorem State.setHmp_freeCount (s : State) (p : Nat) (x : HmpPort) : (s.setHmp p x).freeCount = s.freeCount := rfl

@[simp] theorem State.hmpPush_pending (s : State) (p : Nat) (r : HmpReq) : (s.hmpPush p r).pending = s.pending := rfl
@[simp] theorem State.hmpPush_now (s : State) (p : Nat) (r : HmpReq) : (s.hmpPush p r).now = s.now := rfl
@[simp] theorem State.hmpPush_regs (s : State) (p : Nat) (r : HmpReq) : (s.hmpPush p r).regs = s.regs := rfl
@[simp] theorem State.hmpPush_hits (s : State) (p : Nat) (r : HmpReq) : (s.hmpPush p r).hits = s.hits := rfl
@[simp] theorem State.hmpPush_sch (s : State) (p : Nat) (r : HmpReq) : (s.hmpPush p r).sch = s.sch := rfl
@[simp] theorem State.hmpPush_cfg (s : State) (p : Nat) (r : HmpReq) : (s.hmpPush p r).cfg = s.cfg := rfl
@[simp] theorem State.hmpPush_lnk (s : State) (p : Nat) (r : HmpReq) : (s.hmpPush p r).lnk = s.lnk := rfl
@[simp] theorem State.hmpPush_que (s : State) (p : Nat) (r : HmpReq) : (s.hmpPush p r).que = s.que := rfl
@[simp] theorem State.hmpPush_str (s : State) (p : Nat) (r : HmpReq) : (s.hmpPush p r).str = s.str := rfl
@[simp] theorem State.hmpPush_tnd (s : State) (p : Nat) (r : HmpReq) : (s.hmpPush p r).tnd = s.tnd := rfl
@[simp] theorem State.hmpPush_btp (s : State) (p : Nat) (r : HmpReq) : (s.hmpPush p r).btp = s.btp := rfl
@[simp] theorem State.hmpPush_mem (s : State) (p : Nat) (r : HmpReq) : (s.hmpPush p r).mem = s.mem := rfl
@[simp] theorem State.hmpPush_vwk (s : State) (p : Nat) (r : HmpReq) : (s.hmpPush p r).vwk = s.vwk := rfl
@[simp] theorem State.hmpPush_sbd (s : State) (p : Nat) (r : HmpReq) : (s.hmpPush p r).sbd = s.sbd := rfl
@[simp] theorem State.hmpPush_crp (s : State) (p : Nat) (r : HmpReq) : (s.hmpPush p r).crp = s.crp := rfl
@[simp] theorem State.hmpPush_dbg (s : State) (p : Nat) (r : HmpReq) : (s.hmpPush p r).dbg = s.dbg := rfl
@[simp] theorem State.hmpPush_storeFaults (s : State) (p : Nat) (r : HmpReq) : (s.hmpPush p r).storeFaults = s.storeFaults := rfl
@[simp] theorem State.hmpPush_out (s : State) (p : Nat) (r : HmpReq) : (s.hmpPush p r).out = s.out := rfl
@[simp] theorem State.hmpPush_freeCount (s : State) (p : Nat) (r : HmpReq) : (s.hmpPush p r).freeCount = s.freeCount := rfl

@[simp] theorem State.wait_pending (s : State) (n : Nat) : (s.wait n).pending = s.pending := rfl
@[simp] theorem State.wait_regs (s : State) (n : Nat) : (s.wait n).regs = s.regs := rfl
@[simp] theorem State.wait_cfg (s : State) (n : Nat) : (s.wait n).cfg = s.cfg := rfl
@[simp] theorem State.wait_lnk (s : State) (n : Nat) : (s.wait n).lnk = s.lnk := rfl
@[simp] theorem State.wait_str (s : State) (n : Nat) : (s.wait n).str = s.str := rfl
@[simp] theorem State.wait_tnd (s : State) (n : Nat) : (s.wait n).tnd = s.tnd := rfl
@[simp] theorem State.wait_btp (s : State) (n : Nat) : (s.wait n).btp = s.btp := rfl
@[simp] theorem State.wait_mem (s : State) (n : Nat) : (s.wait n).mem = s.mem := rfl
@[simp] theorem State.wait_vwk (s : State) (n : Nat) : (s.wait n).vwk = s.vwk := rfl
@[simp] theorem State.wait_sbd (s : State) (n : Nat) : (s.wait n).sbd = s.sbd := rfl
@[simp] theorem State.wait_hmp (s : State) (n : Nat) : (s.wait n).hmp = s.hmp := rfl
@[simp] theorem State.wait_crp (s : State) (n : Nat) : (s.wait n).crp = s.crp := rfl
@[simp] theorem State.wait_dbg (s : State) (n : Nat) : (s.wait n).dbg = s.dbg := rfl
@[simp] theorem State.wait_storeFaults (s : State) (n : Nat) : (s.wait n).storeFaults = s.storeFaults := rfl
@[simp] theorem State.wait_out (s : State) (n : Nat) : (s.wait n).out = s.out := rfl
@[simp] theorem State.wait_freeCount (s : State) (n : Nat) : (s.wait n).freeCount = s.freeCount := rfl

@[simp] theorem State.waitTo_pending (s : State) (t : Nat) : (s.waitTo t).pending = s.pending := rfl
@[simp] theorem State.waitTo_regs (s : State) (t : Nat) : (s.waitTo t).regs = s.regs := rfl
@[simp] theorem State.waitTo_cfg (s : State) (t : Nat) : (s.waitTo t).cfg = s.cfg := rfl
@[simp] theorem State.waitTo_lnk (s : State) (t : Nat) : (s.waitTo t).lnk = s.lnk := rfl
@[simp] theorem State.waitTo_str (s : State) (t : Nat) : (s.waitTo t).str = s.str := rfl
@[simp] theorem State.waitTo_tnd (s : State) (t : Nat) : (s.waitTo t).tnd = s.tnd := rfl
@[simp] theorem State.waitTo_btp (s : State) (t : Nat) : (s.waitTo t).btp = s.btp := rfl
@[simp] theorem State.waitTo_mem (s : State) (t : Nat) : (s.waitTo t).mem = s.mem := rfl
@[simp] theorem State.waitTo_vwk (s : State) (t : Nat) : (s.waitTo t).vwk = s.vwk := rfl
@[simp] theorem State.waitTo_sbd (s : State) (t : Nat) : (s.waitTo t).sbd = s.sbd := rfl
@[simp] theorem State.waitTo_hmp (s : State) (t : Nat) : (s.waitTo t).hmp = s.hmp := rfl
@[simp] theorem State.waitTo_crp (s : State) (t : Nat) : (s.waitTo t).crp = s.crp := rfl
@[simp] theorem State.waitTo_dbg (s : State) (t : Nat) : (s.waitTo t).dbg = s.dbg := rfl
@[simp] theorem State.waitTo_storeFaults (s : State) (t : Nat) : (s.waitTo t).storeFaults = s.storeFaults := rfl
@[simp] theorem State.waitTo_out (s : State) (t : Nat) : (s.waitTo t).out = s.out := rfl
@[simp] theorem State.waitTo_freeCount (s : State) (t : Nat) : (s.waitTo t).freeCount = s.freeCount := rfl

@[simp] theorem State.waitFt_pending (s : State) (t : Nat) : (s.waitFt t).pending = s.pending := rfl
@[simp] theorem State.waitFt_regs (s : State) (t : Nat) : (s.waitFt t).regs = s.regs := rfl
@[simp] theorem State.waitFt_cfg (s : State) (t : Nat) : (s.waitFt t).cfg = s.cfg := rfl
@[simp] theorem State.waitFt_lnk (s : State) (t : Nat) : (s.waitFt t).lnk = s.lnk := rfl
@[simp] theorem State.waitFt_str (s : State) (t : Nat) : (s.waitFt t).str = s.str := rfl
@[simp] theorem State.waitFt_tnd (s : State) (t : Nat) : (s.waitFt t).tnd = s.tnd := rfl
@[simp] theorem State.waitFt_btp (s : State) (t : Nat) : (s.waitFt t).btp = s.btp := rfl
@[simp] theorem State.waitFt_mem (s : State) (t : Nat) : (s.waitFt t).mem = s.mem := rfl
@[simp] theorem State.waitFt_vwk (s : State) (t : Nat) : (s.waitFt t).vwk = s.vwk := rfl
@[simp] theorem State.waitFt_sbd (s : State) (t : Nat) : (s.waitFt t).sbd = s.sbd := rfl
@[simp] theorem State.waitFt_hmp (s : State) (t : Nat) : (s.waitFt t).hmp = s.hmp := rfl
@[simp] theorem State.waitFt_crp (s : State) (t : Nat) : (s.waitFt t).crp = s.crp := rfl
@[simp] theorem State.waitFt_dbg (s : State) (t : Nat) : (s.waitFt t).dbg = s.dbg := rfl
@[simp] theorem State.waitFt_storeFaults (s : State) (t : Nat) : (s.waitFt t).storeFaults = s.storeFaults := rfl
@[simp] theorem State.waitFt_out (s : State) (t : Nat) : (s.waitFt t).out = s.out := rfl
@[simp] theorem State.waitFt_freeCount (s : State) (t : Nat) : (s.waitFt t).freeCount = s.freeCount := rfl

@[simp] theorem State.setThread_pending (s : State) (t : Nat) (x : Thread) : (s.setThread t x).pending = s.pending := rfl
@[simp] theorem State.setThread_now (s : State) (t : Nat) (x : Thread) : (s.setThread t x).now = s.now := rfl
@[simp] theorem State.setThread_regs (s : State) (t : Nat) (x : Thread) : (s.setThread t x).regs = s.regs := rfl
@[simp] theorem State.setThread_hits (s : State) (t : Nat) (x : Thread) : (s.setThread t x).hits = s.hits := rfl
@[simp] theorem State.setThread_sch (s : State) (t : Nat) (x : Thread) : (s.setThread t x).sch = s.sch := rfl
@[simp] theorem State.setThread_cfg (s : State) (t : Nat) (x : Thread) : (s.setThread t x).cfg = s.cfg := rfl
@[simp] theorem State.setThread_lnk (s : State) (t : Nat) (x : Thread) : (s.setThread t x).lnk = s.lnk := rfl
@[simp] theorem State.setThread_que (s : State) (t : Nat) (x : Thread) : (s.setThread t x).que = s.que := rfl
@[simp] theorem State.setThread_str (s : State) (t : Nat) (x : Thread) : (s.setThread t x).str = s.str := rfl
@[simp] theorem State.setThread_tnd (s : State) (t : Nat) (x : Thread) : (s.setThread t x).tnd = s.tnd := rfl
@[simp] theorem State.setThread_mem (s : State) (t : Nat) (x : Thread) : (s.setThread t x).mem = s.mem := rfl
@[simp] theorem State.setThread_vwk (s : State) (t : Nat) (x : Thread) : (s.setThread t x).vwk = s.vwk := rfl
@[simp] theorem State.setThread_sbd (s : State) (t : Nat) (x : Thread) : (s.setThread t x).sbd = s.sbd := rfl
@[simp] theorem State.setThread_hmp (s : State) (t : Nat) (x : Thread) : (s.setThread t x).hmp = s.hmp := rfl
@[simp] theorem State.setThread_crp (s : State) (t : Nat) (x : Thread) : (s.setThread t x).crp = s.crp := rfl
@[simp] theorem State.setThread_dbg (s : State) (t : Nat) (x : Thread) : (s.setThread t x).dbg = s.dbg := rfl
@[simp] theorem State.setThread_storeFaults (s : State) (t : Nat) (x : Thread) : (s.setThread t x).storeFaults = s.storeFaults := rfl
@[simp] theorem State.setThread_out (s : State) (t : Nat) (x : Thread) : (s.setThread t x).out = s.out := rfl
@[simp] theorem State.setThread_freeCount (s : State) (t : Nat) (x : Thread) : (s.setThread t x).freeCount = s.freeCount := rfl

@[simp] theorem State.modThread_pending (s : State) (t : Nat) (f : Thread → Thread) : (s.modThread t f).pending = s.pending := rfl
@[simp] theorem State.modThread_now (s : State) (t : Nat) (f : Thread → Thread) : (s.modThread t f).now = s.now := rfl
@[simp] theorem State.modThread_regs (s : State) (t : Nat) (f : Thread → Thread) : (s.modThread t f).regs = s.regs := rfl
@[simp] theorem State.modThread_hits (s : State) (t : Nat) (f : Thread → Thread) : (s.modThread t f).hits = s.hits := rfl
@[simp] theorem State.modThread_sch (s : State) (t : Nat) (f : Thread → Thread) : (s.modThread t f).sch = s.sch := rfl
@[simp] theorem State.modThread_cfg (s : State) (t : Nat) (f : Thread → Thread) : (s.modThread t f).cfg = s.cfg := rfl
@[simp] theorem State.modThread_lnk (s : State) (t : Nat) (f : Thread → Thread) : (s.modThread t f).lnk = s.lnk := rfl
@[simp] theorem State.modThread_que (s : State) (t : Nat) (f : Thread → Thread) : (s.modThread t f).que = s.que := rfl
@[simp] theorem State.modThread_str (s : State) (t : Nat) (f : Thread → Thread) : (s.modThread t f).str = s.str := rfl
@[simp] theorem State.modThread_tnd (s : State) (t : Nat) (f : Thread → Thread) : (s.modThread t f).tnd = s.tnd := rfl
@[simp] theorem State.modThread_mem (s : State) (t : Nat) (f : Thread → Thread) : (s.modThread t f).mem = s.mem := rfl
@[simp] theorem State.modThread_vwk (s : State) (t : Nat) (f : Thread → Thread) : (s.modThread t f).vwk = s.vwk := rfl
@[simp] theorem State.modThread_sbd (s : State) (t : Nat) (f : Thread → Thread) : (s.modThread t f).sbd = s.sbd := rfl
@[simp] theorem State.modThread_hmp (s : State) (t : Nat) (f : Thread → Thread) : (s.modThread t f).hmp = s.hmp := rfl
@[simp] theorem State.modThread_crp (s : State) (t : Nat) (f : Thread → Thread) : (s.modThread t f).crp = s.crp := rfl
@[simp] theorem State.modThread_dbg (s : State) (t : Nat) (f : Thread → Thread) : (s.modThread t f).dbg = s.dbg := rfl
@[simp] theorem State.modThread_storeFaults (s : State) (t : Nat) (f : Thread → Thread) : (s.modThread t f).storeFaults = s.storeFaults := rfl
@[simp] theorem State.modThread_out (s : State) (t : Nat) (f : Thread → Thread) : (s.modThread t f).out = s.out := rfl
@[simp] theorem State.modThread_freeCount (s : State) (t : Nat) (f : Thread → Thread) : (s.modThread t f).freeCount = s.freeCount := rfl

@[simp] theorem State.modBtp_pending (s : State) (f : BtpState → BtpState) : (s.modBtp f).pending = s.pending := rfl
@[simp] theorem State.modBtp_now (s : State) (f : BtpState → BtpState) : (s.modBtp f).now = s.now := rfl
@[simp] theorem State.modBtp_regs (s : State) (f : BtpState → BtpState) : (s.modBtp f).regs = s.regs := rfl
@[simp] theorem State.modBtp_hits (s : State) (f : BtpState → BtpState) : (s.modBtp f).hits = s.hits := rfl
@[simp] theorem State.modBtp_sch (s : State) (f : BtpState → BtpState) : (s.modBtp f).sch = s.sch := rfl
@[simp] theorem State.modBtp_cfg (s : State) (f : BtpState → BtpState) : (s.modBtp f).cfg = s.cfg := rfl
@[simp] theorem State.modBtp_lnk (s : State) (f : BtpState → BtpState) : (s.modBtp f).lnk = s.lnk := rfl
@[simp] theorem State.modBtp_que (s : State) (f : BtpState → BtpState) : (s.modBtp f).que = s.que := rfl
@[simp] theorem State.modBtp_str (s : State) (f : BtpState → BtpState) : (s.modBtp f).str = s.str := rfl
@[simp] theorem State.modBtp_tnd (s : State) (f : BtpState → BtpState) : (s.modBtp f).tnd = s.tnd := rfl
@[simp] theorem State.modBtp_mem (s : State) (f : BtpState → BtpState) : (s.modBtp f).mem = s.mem := rfl
@[simp] theorem State.modBtp_vwk (s : State) (f : BtpState → BtpState) : (s.modBtp f).vwk = s.vwk := rfl
@[simp] theorem State.modBtp_sbd (s : State) (f : BtpState → BtpState) : (s.modBtp f).sbd = s.sbd := rfl
@[simp] theorem State.modBtp_hmp (s : State) (f : BtpState → BtpState) : (s.modBtp f).hmp = s.hmp := rfl
@[simp] theorem State.modBtp_crp (s : State) (f : BtpState → BtpState) : (s.modBtp f).crp = s.crp := rfl
@[simp] theorem State.modBtp_dbg (s : State) (f : BtpState → BtpState) : (s.modBtp f).dbg = s.dbg := rfl
@[simp] theorem State.modBtp_storeFaults (s : State) (f : BtpState → BtpState) : (s.modBtp f).storeFaults = s.storeFaults := rfl
@[simp] theorem State.modBtp_out (s : State) (f : BtpState → BtpState) : (s.modBtp f).out = s.out := rfl
@[simp] theorem State.modBtp_freeCount (s : State) (f : BtpState → BtpState) : (s.modBtp f).freeCount = s.freeCount := rfl
@[simp] theorem State.modBtp_btp (s : State) (f : BtpState → BtpState) : (s.modBtp f).btp = f s.btp := rfl

@[simp] theorem State.setChan_pending (s : State) (ch : Nat) (c : Chan) : (s.setChan ch c).pending = s.pending := rfl
@[simp] theorem State.setChan_now (s : State) (ch : Nat) (c : Chan) : (s.setChan ch c).now = s.now := rfl
@[simp] theorem State.setChan_regs (s : State) (ch : Nat) (c : Chan) : (s.setChan ch c).regs = s.regs := rfl
@[simp] theorem State.setChan_hits (s : State) (ch : Nat) (c : Chan) : (s.setChan ch c).hits = s.hits := rfl
@[simp] theorem State.setChan_sch (s : State) (ch : Nat) (c : Chan) : (s.setChan ch c).sch = s.sch := rfl
@[simp] theorem State.setChan_cfg (s : State) (ch : Nat) (c : Chan) : (s.setChan ch c).cfg = s.cfg := rfl
@[simp] theorem State.setChan_lnk (s : State) (ch : Nat) (c : Chan) : (s.setChan ch c).lnk = s.lnk := rfl
@[simp] theorem State.setChan_que (s : State) (ch : Nat) (c : Chan) : (s.setChan ch c).que = s.que := rfl
@[simp] theorem State.setChan_str (s : State) (ch : Nat) (c : Chan) : (s.setChan ch c).str = s.str := rfl
@[simp] theorem State.setChan_tnd (s : State) (ch : Nat) (c : Chan) : (s.setChan ch c).tnd = s.tnd := rfl
@[simp] theorem State.setChan_mem (s : State) (ch : Nat) (c : Chan) : (s.setChan ch c).mem = s.mem := rfl
@[simp] theorem State.setChan_vwk (s : State) (ch : Nat) (c : Chan) : (s.setChan ch c).vwk = s.vwk := rfl
@[simp] theorem State.setChan_sbd (s : State) (ch : Nat) (c : Chan) : (s.setChan ch c).sbd = s.sbd := rfl
@[simp] theorem State.setChan_hmp (s : State) (ch : Nat) (c : Chan) : (s.setChan ch c).hmp = s.hmp := rfl
@[simp] theorem State.setChan_crp (s : State) (ch : Nat) (c : Chan) : (s.setChan ch c).crp = s.crp := rfl
@[simp] theorem State.setChan_dbg (s : State) (ch : Nat) (c : Chan) : (s.setChan ch c).dbg = s.dbg := rfl
@[simp] theorem State.setChan_storeFaults (s : State) (ch : Nat) (c : Chan) : (s.setChan ch c).storeFaults = s.storeFaults := rfl
@[simp] theorem State.setChan_out (s : State) (ch : Nat) (c : Chan) : (s.setChan ch c).out = s.out := rfl
@[simp] theorem State.setChan_freeCount (s : State) (ch : Nat) (c : Chan) : (s.setChan ch c).freeCount = s.freeCount := rfl

@[simp] theorem State.setLamp_pending (s : State) (l : Nat) (x : Lamp) : (s.setLamp l x).pending = s.pending := rfl
@[simp] theorem State.setLamp_now (s : State) (l : Nat) (x : Lamp) : (s.setLamp l x).now = s.now := rfl
@[simp] theorem State.setLamp_regs (s : State) (l : Nat) (x : Lamp) : (s.setLamp l x).regs = s.regs := rfl
@[simp] theorem State.setLamp_hits (s : State) (l : Nat) (x : Lamp) : (s.setLamp l x).hits = s.hits := rfl
@[simp] theorem State.setLamp_sch (s : State) (l : Nat) (x : Lamp) : (s.setLamp l x).sch = s.sch := rfl
@[simp] theorem State.setLamp_cfg (s : State) (l : Nat) (x : Lamp) : (s.setLamp l x).cfg = s.cfg := rfl
@[simp] theorem State.setLamp_lnk (s : State) (l : Nat) (x : Lamp) : (s.setLamp l x).lnk = s.lnk := rfl
@[simp] theorem State.setLamp_que (s : State) (l : Nat) (x : Lamp) : (s.setLamp l x).que = s.que := rfl
@[simp] theorem State.setLamp_str (s : State) (l : Nat) (x : Lamp) : (s.setLamp l x).str = s.str := rfl
@[simp] theorem State.setLamp_tnd (s : State) (l : Nat) (x : Lamp) : (s.setLamp l x).tnd = s.tnd := rfl
@[simp] theorem State.setLamp_mem (s : State) (l : Nat) (x : Lamp) : (s.setLamp l x).mem = s.mem := rfl
@[simp] theorem State.setLamp_vwk (s : State) (l : Nat) (x : Lamp) : (s.setLamp l x).vwk = s.vwk := rfl
@[simp] theorem State.setLamp_sbd (s : State) (l : Nat) (x : Lamp) : (s.setLamp l x).sbd = s.sbd := rfl
@[simp] theorem State.setLamp_hmp (s : State) (l : Nat) (x : Lamp) : (s.setLamp l x).hmp = s.hmp := rfl
@[simp] theorem State.setLamp_crp (s : State) (l : Nat) (x : Lamp) : (s.setLamp l x).crp = s.crp := rfl
@[simp] theorem State.setLamp_dbg (s : State) (l : Nat) (x : Lamp) : (s.setLamp l x).dbg = s.dbg := rfl
@[simp] theorem State.setLamp_storeFaults (s : State) (l : Nat) (x : Lamp) : (s.setLamp l x).storeFaults = s.storeFaults := rfl
@[simp] theorem State.setLamp_out (s : State) (l : Nat) (x : Lamp) : (s.setLamp l x).out = s.out := rfl
@[simp] theorem State.setLamp_freeCount (s : State) (l : Nat) (x : Lamp) : (s.setLamp l x).freeCount = s.freeCount := rfl

@[simp] theorem State.modMem_pending (s : State) (f : MemState → MemState) : (s.modMem f).pending = s.pending := rfl
@[simp] theorem State.modMem_now (s : State) (f : MemState → MemState) : (s.modMem f).now = s.now := rfl
@[simp] theorem State.modMem_regs (s : State) (f : MemState → MemState) : (s.modMem f).regs = s.regs := rfl
@[simp] theorem State.modMem_hits (s : State) (f : MemState → MemState) : (s.modMem f).hits = s.hits := rfl
@[simp] theorem State.modMem_sch (s : State) (f : MemState → MemState) : (s.modMem f).sch = s.sch := rfl
@[simp] theorem State.modMem_cfg (s : State) (f : MemState → MemState) : (s.modMem f).cfg = s.cfg := rfl
@[simp] theorem State.modMem_lnk (s : State) (f : MemState → MemState) : (s.modMem f).lnk = s.lnk := rfl
@[simp] theorem State.modMem_que (s : State) (f : MemState → MemState) : (s.modMem f).que = s.que := rfl
@[simp] theorem State.modMem_str (s : State) (f : MemState → MemState) : (s.modMem f).str = s.str := rfl
@[simp] theorem State.modMem_tnd (s : State) (f : MemState → MemState) : (s.modMem f).tnd = s.tnd := rfl
@[simp] theorem State.modMem_btp (s : State) (f : MemState → MemState) : (s.modMem f).btp = s.btp := rfl
@[simp] theorem State.modMem_vwk (s : State) (f : MemState → MemState) : (s.modMem f).vwk = s.vwk := rfl
@[simp] theorem State.modMem_sbd (s : State) (f : MemState → MemState) : (s.modMem f).sbd = s.sbd := rfl
@[simp] theorem State.modMem_hmp (s : State) (f : MemState → MemState) : (s.modMem f).hmp = s.hmp := rfl
@[simp] theorem State.modMem_crp (s : State) (f : MemState → MemState) : (s.modMem f).crp = s.crp := rfl
@[simp] theorem State.modMem_dbg (s : State) (f : MemState → MemState) : (s.modMem f).dbg = s.dbg := rfl
@[simp] theorem State.modMem_storeFaults (s : State) (f : MemState → MemState) : (s.modMem f).storeFaults = s.storeFaults := rfl
@[simp] theorem State.modMem_out (s : State) (f : MemState → MemState) : (s.modMem f).out = s.out := rfl
@[simp] theorem State.modMem_freeCount (s : State) (f : MemState → MemState) : (s.modMem f).freeCount = s.freeCount := rfl
@[simp] theorem State.modMem_mem (s : State) (f : MemState → MemState) : (s.modMem f).mem = f s.mem := rfl

@[simp] theorem State.modSch_pending (s : State) (f : SchState → SchState) : (s.modSch f).pending = s.pending := rfl
@[simp] theorem State.modSch_now (s : State) (f : SchState → SchState) : (s.modSch f).now = s.now := rfl
@[simp] theorem State.modSch_regs (s : State) (f : SchState → SchState) : (s.modSch f).regs = s.regs := rfl
@[simp] theorem State.modSch_hits (s : State) (f : SchState → SchState) : (s.modSch f).hits = s.hits := rfl
@[simp] theorem State.modSch_cfg (s : State) (f : SchState → SchState) : (s.modSch f).cfg = s.cfg := rfl
@[simp] theorem State.modSch_lnk (s : State) (f : SchState → SchState) : (s.modSch f).lnk = s.lnk := rfl
@[simp] theorem State.modSch_que (s : State) (f : SchState → SchState) : (s.modSch f).que = s.que := rfl
@[simp] theorem State.modSch_str (s : State) (f : SchState → SchState) : (s.modSch f).str = s.str := rfl
@[simp] theorem State.modSch_tnd (s : State) (f : SchState → SchState) : (s.modSch f).tnd = s.tnd := rfl
@[simp] theorem State.modSch_btp (s : State) (f : SchState → SchState) : (s.modSch f).btp = s.btp := rfl
@[simp] theorem State.modSch_mem (s : State) (f : SchState → SchState) : (s.modSch f).mem = s.mem := rfl
@[simp] theorem State.modSch_vwk (s : State) (f : SchState → SchState) : (s.modSch f).vwk = s.vwk := rfl
@[simp] theorem State.modSch_sbd (s : State) (f : SchState → SchState) : (s.modSch f).sbd = s.sbd := rfl
@[simp] theorem State.modSch_hmp (s : State) (f : SchState → SchState) : (s.modSch f).hmp = s.hmp := rfl
@[simp] theorem State.modSch_crp (s : State) (f : SchState → SchState) : (s.modSch f).crp = s.crp := rfl
@[simp] theorem State.modSch_dbg (s : State) (f : SchState → SchState) : (s.modSch f).dbg = s.dbg := rfl
@[simp] theorem State.modSch_storeFaults (s : State) (f : SchState → SchState) : (s.modSch f).storeFaults = s.storeFaults := rfl
@[simp] theorem State.modSch_out (s : State) (f : SchState → SchState) : (s.modSch f).out = s.out := rfl
@[simp] theorem State.modSch_freeCount (s : State) (f : SchState → SchState) : (s.modSch f).freeCount = s.freeCount := rfl
@[simp] theorem State.modSch_sch (s : State) (f : SchState → SchState) : (s.modSch f).sch = f s.sch := rfl

@[simp] theorem State.setSchGroup_pending (s : State) (g : Nat) (x : SchGroup) : (s.setSchGroup g x).pending = s.pending := rfl
@[simp] theorem State.setSchGroup_now (s : State) (g : Nat) (x : SchGroup) : (s.setSchGroup g x).now = s.now := rfl
@[simp] theorem State.setSchGroup_regs (s : State) (g : Nat) (x : SchGroup) : (s.setSchGroup g x).regs = s.regs := rfl
@[simp] theorem State.setSchGroup_hits (s : State) (g : Nat) (x : SchGroup) : (s.setSchGroup g x).hits = s.hits := rfl
@[simp] theorem State.setSchGroup_cfg (s : State) (g : Nat) (x : SchGroup) : (s.setSchGroup g x).cfg = s.cfg := rfl
@[simp] theorem State.setSchGroup_lnk (s : State) (g : Nat) (x : SchGroup) : (s.setSchGroup g x).lnk = s.lnk := rfl
@[simp] theorem State.setSchGroup_que (s : State) (g : Nat) (x : SchGroup) : (s.setSchGroup g x).que = s.que := rfl
@[simp] theorem State.setSchGroup_str (s : State) (g : Nat) (x : SchGroup) : (s.setSchGroup g x).str = s.str := rfl
@[simp] theorem State.setSchGroup_tnd (s : State) (g : Nat) (x : SchGroup) : (s.setSchGroup g x).tnd = s.tnd := rfl
@[simp] theorem State.setSchGroup_btp (s : State) (g : Nat) (x : SchGroup) : (s.setSchGroup g x).btp = s.btp := rfl
@[simp] theorem State.setSchGroup_mem (s : State) (g : Nat) (x : SchGroup) : (s.setSchGroup g x).mem = s.mem := rfl
@[simp] theorem State.setSchGroup_vwk (s : State) (g : Nat) (x : SchGroup) : (s.setSchGroup g x).vwk = s.vwk := rfl
@[simp] theorem State.setSchGroup_sbd (s : State) (g : Nat) (x : SchGroup) : (s.setSchGroup g x).sbd = s.sbd := rfl
@[simp] theorem State.setSchGroup_hmp (s : State) (g : Nat) (x : SchGroup) : (s.setSchGroup g x).hmp = s.hmp := rfl
@[simp] theorem State.setSchGroup_crp (s : State) (g : Nat) (x : SchGroup) : (s.setSchGroup g x).crp = s.crp := rfl
@[simp] theorem State.setSchGroup_dbg (s : State) (g : Nat) (x : SchGroup) : (s.setSchGroup g x).dbg = s.dbg := rfl
@[simp] theorem State.setSchGroup_storeFaults (s : State) (g : Nat) (x : SchGroup) : (s.setSchGroup g x).storeFaults = s.storeFaults := rfl
@[simp] theorem State.setSchGroup_out (s : State) (g : Nat) (x : SchGroup) : (s.setSchGroup g x).out = s.out := rfl
@[simp] theorem State.setSchGroup_freeCount (s : State) (g : Nat) (x : SchGroup) : (s.setSchGroup g x).freeCount = s.freeCount := rfl

@[simp] theorem State.modCrp_pending (s : State) (f : CrpState → CrpState) : (s.modCrp f).pending = s.pending := rfl
@[simp] theorem State.modCrp_now (s : State) (f : CrpState → CrpState) : (s.modCrp f).now = s.now := rfl
@[simp] theorem State.modCrp_regs (s : State) (f : CrpState → CrpState) : (s.modCrp f).regs = s.regs := rfl
@[simp] theorem State.modCrp_hits (s : State) (f : CrpState → CrpState) : (s.modCrp f).hits = s.hits := rfl
@[simp] theorem State.modCrp_sch (s : State) (f : CrpState → CrpState) : (s.modCrp f).sch = s.sch := rfl
@[simp] theorem State.modCrp_cfg (s : State) (f : CrpState → CrpState) : (s.modCrp f).cfg = s.cfg := rfl
@[simp] theorem State.modCrp_lnk (s : State) (f : CrpState → CrpState) : (s.modCrp f).lnk = s.lnk := rfl
@[simp] theorem State.modCrp_que (s : State) (f : CrpState → CrpState) : (s.modCrp f).que = s.que := rfl
@[simp] theorem State.modCrp_str (s : State) (f : CrpState → CrpState) : (s.modCrp f).str = s.str := rfl
@[simp] theorem State.modCrp_tnd (s : State) (f : CrpState → CrpState) : (s.modCrp f).tnd = s.tnd := rfl
@[simp] theorem State.modCrp_btp (s : State) (f : CrpState → CrpState) : (s.modCrp f).btp = s.btp := rfl
@[simp] theorem State.modCrp_mem (s : State) (f : CrpState → CrpState) : (s.modCrp f).mem = s.mem := rfl
@[simp] theorem State.modCrp_vwk (s : State) (f : CrpState → CrpState) : (s.modCrp f).vwk = s.vwk := rfl
@[simp] theorem State.modCrp_sbd (s : State) (f : CrpState → CrpState) : (s.modCrp f).sbd = s.sbd := rfl
@[simp] theorem State.modCrp_hmp (s : State) (f : CrpState → CrpState) : (s.modCrp f).hmp = s.hmp := rfl
@[simp] theorem State.modCrp_dbg (s : State) (f : CrpState → CrpState) : (s.modCrp f).dbg = s.dbg := rfl
@[simp] theorem State.modCrp_storeFaults (s : State) (f : CrpState → CrpState) : (s.modCrp f).storeFaults = s.storeFaults := rfl
@[simp] theorem State.modCrp_out (s : State) (f : CrpState → CrpState) : (s.modCrp f).out = s.out := rfl
@[simp] theorem State.modCrp_freeCount (s : State) (f : CrpState → CrpState) : (s.modCrp f).freeCount = s.freeCount := rfl
@[simp] theorem State.modCrp_crp (s : State) (f : CrpState → CrpState) : (s.modCrp f).crp = f s.crp := rfl

@[simp] theorem State.modQue_pending (s : State) (f : QueState → QueState) : (s.modQue f).pending = s.pending := rfl
@[simp] theorem State.modQue_now (s : State) (f : QueState → QueState) : (s.modQue f).now = s.now := rfl
@[simp] theorem State.modQue_regs (s : State) (f : QueState → QueState) : (s.modQue f).regs = s.regs := rfl
@[simp] theorem State.modQue_hits (s : State) (f : QueState → QueState) : (s.modQue f).hits = s.hits := rfl
@[simp] theorem State.modQue_sch (s : State) (f : QueState → QueState) : (s.modQue f).sch = s.sch := rfl
@[simp] theorem State.modQue_cfg (s : State) (f : QueState → QueState) : (s.modQue f).cfg = s.cfg := rfl
@[simp] theorem State.modQue_lnk (s : State) (f : QueState → QueState) : (s.modQue f).lnk = s.lnk := rfl
@[simp] theorem State.modQue_str (s : State) (f : QueState → QueState) : (s.modQue f).str = s.str := rfl
@[simp] theorem State.modQue_tnd (s : State) (f : QueState → QueState) : (s.modQue f).tnd = s.tnd := rfl
@[simp] theorem State.modQue_btp (s : State) (f : QueState → QueState) : (s.modQue f).btp = s.btp := rfl
@[simp] theorem State.modQue_mem (s : State) (f : QueState → QueState) : (s.modQue f).mem = s.mem := rfl
@[simp] theorem State.modQue_vwk (s : State) (f : QueState → QueState) : (s.modQue f).vwk = s.vwk := rfl
@[simp] theorem State.modQue_sbd (s : State) (f : QueState → QueState) : (s.modQue f).sbd = s.sbd := rfl
@[simp] theorem State.modQue_hmp (s : State) (f : QueState → QueState) : (s.modQue f).hmp = s.hmp := rfl
@[simp] theorem State.modQue_crp (s : State) (f : QueState → QueState) : (s.modQue f).crp = s.crp := rfl
@[simp] theorem State.modQue_dbg (s : State) (f : QueState → QueState) : (s.modQue f).dbg = s.dbg := rfl
@[simp] theorem State.modQue_storeFaults (s : State) (f : QueState → QueState) : (s.modQue f).storeFaults = s.storeFaults := rfl
@[simp] theorem State.modQue_out (s : State) (f : QueState → QueState) : (s.modQue f).out = s.out := rfl
@[simp] theorem State.modQue_freeCount (s : State) (f : QueState → QueState) : (s.modQue f).freeCount = s.freeCount := rfl
@[simp] theorem State.modQue_que (s : State) (f : QueState → QueState) : (s.modQue f).que = f s.que := rfl

@[simp] theorem State.modCfg_pending (s : State) (f : CfgState → CfgState) : (s.modCfg f).pending = s.pending := rfl
@[simp] theorem State.modCfg_now (s : State) (f : CfgState → CfgState) : (s.modCfg f).now = s.now := rfl
@[simp] theorem State.modCfg_regs (s : State) (f : CfgState → CfgState) : (s.modCfg f).regs = s.regs := rfl
@[simp] theorem State.modCfg_hits (s : State) (f : CfgState → CfgState) : (s.modCfg f).hits = s.hits := rfl
@[simp] theorem State.modCfg_sch (s : State) (f : CfgState → CfgState) : (s.modCfg f).sch = s.sch := rfl
@[simp] theorem State.modCfg_lnk (s : State) (f : CfgState → CfgState) : (s.modCfg f).lnk = s.lnk := rfl
@[simp] theorem State.modCfg_que (s : State) (f : CfgState → CfgState) : (s.modCfg f).que = s.que := rfl
@[simp] theorem State.modCfg_str (s : State) (f : CfgState → CfgState) : (s.modCfg f).str = s.str := rfl
@[simp] theorem State.modCfg_tnd (s : State) (f : CfgState → CfgState) : (s.modCfg f).tnd = s.tnd := rfl
@[simp] theorem State.modCfg_btp (s : State) (f : CfgState → CfgState) : (s.modCfg f).btp = s.btp := rfl
@[simp] theorem State.modCfg_mem (s : State) (f : CfgState → CfgState) : (s.modCfg f).mem = s.mem := rfl
@[simp] theorem State.modCfg_vwk (s : State) (f : CfgState → CfgState) : (s.modCfg f).vwk = s.vwk := rfl
@[simp] theorem State.modCfg_sbd (s : State) (f : CfgState → CfgState) : (s.modCfg f).sbd = s.sbd := rfl
@[simp] theorem State.modCfg_hmp (s : State) (f : CfgState → CfgState) : (s.modCfg f).hmp = s.hmp := rfl
@[simp] theorem State.modCfg_crp (s : State) (f : CfgState → CfgState) : (s.modCfg f).crp = s.crp := rfl
@[simp] theorem State.modCfg_dbg (s : State) (f : CfgState → CfgState) : (s.modCfg f).dbg = s.dbg := rfl
@[simp] theorem State.modCfg_storeFaults (s : State) (f : CfgState → CfgState) : (s.modCfg f).storeFaults = s.storeFaults := rfl
@[simp] theorem State.modCfg_out (s : State) (f : CfgState → CfgState) : (s.modCfg f).out = s.out := rfl
@[simp] theorem State.modCfg_freeCount (s : State) (f : CfgState → CfgState) : (s.modCfg f).freeCount = s.freeCount := rfl
@[simp] theorem State.modCfg_cfg (s : State) (f : CfgState → CfgState) : (s.modCfg f).cfg = f s.cfg := rfl

@[simp] theorem State.modTnd_pending (s : State) (f : TndState → TndState) : (s.modTnd f).pending = s.pending := rfl
@[simp] theorem State.modTnd_now (s : State) (f : TndState → TndState) : (s.modTnd f).now = s.now := rfl
@[simp] theorem State.modTnd_regs (s : State) (f : TndState → TndState) : (s.modTnd f).regs = s.regs := rfl
@[simp] theorem State.modTnd_hits (s : State) (f : TndState → TndState) : (s.modTnd f).hits = s.hits := rfl
@[simp] theorem State.modTnd_sch (s : State) (f : TndState → TndState) : (s.modTnd f).sch = s.sch := rfl
@[simp] theorem State.modTnd_cfg (s : State) (f : TndState → TndState) : (s.modTnd f).cfg = s.cfg := rfl
@[simp] theorem State.modTnd_lnk (s : State) (f : TndState → TndState) : (s.modTnd f).lnk = s.lnk := rfl
@[simp] theorem State.modTnd_que (s : State) (f : TndState → TndState) : (s.modTnd f).que = s.que := rfl
@[simp] theorem State.modTnd_str (s : State) (f : TndState → TndState) : (s.modTnd f).str = s.str := rfl
@[simp] theorem State.modTnd_btp (s : State) (f : TndState → TndState) : (s.modTnd f).btp = s.btp := rfl
@[simp] theorem State.modTnd_mem (s : State) (f : TndState → TndState) : (s.modTnd f).mem = s.mem := rfl
@[simp] theorem State.modTnd_vwk (s : State) (f : TndState → TndState) : (s.modTnd f).vwk = s.vwk := rfl
@[simp] theorem State.modTnd_sbd (s : State) (f : TndState → TndState) : (s.modTnd f).sbd = s.sbd := rfl
@[simp] theorem State.modTnd_hmp (s : State) (f : TndState → TndState) : (s.modTnd f).hmp = s.hmp := rfl
@[simp] theorem State.modTnd_crp (s : State) (f : TndState → TndState) : (s.modTnd f).crp = s.crp := rfl
@[simp] theorem State.modTnd_dbg (s : State) (f : TndState → TndState) : (s.modTnd f).dbg = s.dbg := rfl
@[simp] theorem State.modTnd_storeFaults (s : State) (f : TndState → TndState) : (s.modTnd f).storeFaults = s.storeFaults := rfl
@[simp] theorem State.modTnd_out (s : State) (f : TndState → TndState) : (s.modTnd f).out = s.out := rfl
@[simp] theorem State.modTnd_freeCount (s : State) (f : TndState → TndState) : (s.modTnd f).freeCount = s.freeCount := rfl
@[simp] theorem State.modTnd_tnd (s : State) (f : TndState → TndState) : (s.modTnd f).tnd = f s.tnd := rfl

@[simp] theorem State.modVwk_pending (s : State) (f : VwkState → VwkState) : (s.modVwk f).pending = s.pending := rfl
@[simp] theorem State.modVwk_now (s : State) (f : VwkState → VwkState) : (s.modVwk f).now = s.now := rfl
@[simp] theorem State.modVwk_regs (s : State) (f : VwkState → VwkState) : (s.modVwk f).regs = s.regs := rfl
@[simp] theorem State.modVwk_hits (s : State) (f : VwkState → VwkState) : (s.modVwk f).hits = s.hits := rfl
@[simp] theorem State.modVwk_sch (s : State) (f : VwkState → VwkState) : (s.modVwk f).sch = s.sch := rfl
@[simp] theorem State.modVwk_cfg (s : State) (f : VwkState → VwkState) : (s.modVwk f).cfg = s.cfg := rfl
@[simp] theorem State.modVwk_lnk (s : State) (f : VwkState → VwkState) : (s.modVwk f).lnk = s.lnk := rfl
@[simp] theorem State.modVwk_que (s : State) (f : VwkState → VwkState) : (s.modVwk f).que = s.que := rfl
@[simp] theorem State.modVwk_str (s : State) (f : VwkState → VwkState) : (s.modVwk f).str = s.str := rfl
@[simp] theorem State.modVwk_tnd (s : State) (f : VwkState → VwkState) : (s.modVwk f).tnd = s.tnd := rfl
@[simp] theorem State.modVwk_btp (s : State) (f : VwkState → VwkState) : (s.modVwk f).btp = s.btp := rfl
@[simp] theorem State.modVwk_mem (s : State) (f : VwkState → VwkState) : (s.modVwk f).mem = s.mem := rfl
@[simp] theorem State.modVwk_sbd (s : State) (f : VwkState → VwkState) : (s.modVwk f).sbd = s.sbd := rfl
@[simp] theorem State.modVwk_hmp (s : State) (f : VwkState → VwkState) : (s.modVwk f).hmp = s.hmp := rfl
@[simp] theorem State.modVwk_crp (s : State) (f : VwkState → VwkState) : (s.modVwk f).crp = s.crp := rfl
@[simp] theorem State.modVwk_dbg (s : State) (f : VwkState → VwkState) : (s.modVwk f).dbg = s.dbg := rfl
@[simp] theorem State.modVwk_storeFaults (s : State) (f : VwkState → VwkState) : (s.modVwk f).storeFaults = s.storeFaults := rfl
@[simp] theorem State.modVwk_out (s : State) (f : VwkState → VwkState) : (s.modVwk f).out = s.out := rfl
@[simp] theorem State.modVwk_freeCount (s : State) (f : VwkState → VwkState) : (s.modVwk f).freeCount = s.freeCount := rfl
@[simp] theorem State.modVwk_vwk (s : State) (f : VwkState → VwkState) : (s.modVwk f).vwk = f s.vwk := rfl

@[simp] theorem State.setTm_pending (s : State) (m : Nat) (x : Timer) : (s.setTm m x).pending = s.pending := rfl
@[simp] theorem State.setTm_now (s : State) (m : Nat) (x : Timer) : (s.setTm m x).now = s.now := rfl
@[simp] theorem State.setTm_regs (s : State) (m : Nat) (x : Timer) : (s.setTm m x).regs = s.regs := rfl
@[simp] theorem State.setTm_hits (s : State) (m : Nat) (x : Timer) : (s.setTm m x).hits = s.hits := rfl
@[simp] theorem State.setTm_sch (s : State) (m : Nat) (x : Timer) : (s.setTm m x).sch = s.sch := rfl
@[simp] theorem State.setTm_cfg (s : State) (m : Nat) (x : Timer) : (s.setTm m x).cfg = s.cfg := rfl
@[simp] theorem State.setTm_lnk (s : State) (m : Nat) (x : Timer) : (s.setTm m x).lnk = s.lnk := rfl
@[simp] theorem State.setTm_que (s : State) (m : Nat) (x : Timer) : (s.setTm m x).que = s.que := rfl
@[simp] theorem State.setTm_str (s : State) (m : Nat) (x : Timer) : (s.setTm m x).str = s.str := rfl
@[simp] theorem State.setTm_tnd (s : State) (m : Nat) (x : Timer) : (s.setTm m x).tnd = s.tnd := rfl
@[simp] theorem State.setTm_btp (s : State) (m : Nat) (x : Timer) : (s.setTm m x).btp = s.btp := rfl
@[simp] theorem State.setTm_mem (s : State) (m : Nat) (x : Timer) : (s.setTm m x).mem = s.mem := rfl
@[simp] theorem State.setTm_vwk (s : State) (m : Nat) (x : Timer) : (s.setTm m x).vwk = s.vwk := rfl
@[simp] theorem State.setTm_hmp (s : State) (m : Nat) (x : Timer) : (s.setTm m x).hmp = s.hmp := rfl
@[simp] theorem State.setTm_crp (s : State) (m : Nat) (x : Timer) : (s.setTm m x).crp = s.crp := rfl
@[simp] theorem State.setTm_dbg (s : State) (m : Nat) (x : Timer) : (s.setTm m x).dbg = s.dbg := rfl
@[simp] theorem State.setTm_storeFaults (s : State) (m : Nat) (x : Timer) : (s.setTm m x).storeFaults = s.storeFaults := rfl
@[simp] theorem State.setTm_out (s : State) (m : Nat) (x : Timer) : (s.setTm m x).out = s.out := rfl
@[simp] theorem State.setTm_freeCount (s : State) (m : Nat) (x : Timer) : (s.setTm m x).freeCount = s.freeCount := rfl

@[simp] theorem State.setPe_pending (s : State) (n : Nat) (x : PinEngine) : (s.setPe n x).pending = s.pending := rfl
@[simp] theorem State.setPe_now (s : State) (n : Nat) (x : PinEngine) : (s.setPe n x).now = s.now := rfl
@[simp] theorem State.setPe_regs (s : State) (n : Nat) (x : PinEngine) : (s.setPe n x).regs = s.regs := rfl
@[simp] theorem State.setPe_hits (s : State) (n : Nat) (x : PinEngine) : (s.setPe n x).hits = s.hits := rfl
@[simp] theorem State.setPe_sch (s : State) (n : Nat) (x : PinEngine) : (s.setPe n x).sch = s.sch := rfl
@[simp] theorem State.setPe_cfg (s : State) (n : Nat) (x : PinEngine) : (s.setPe n x).cfg = s.cfg := rfl
@[simp] theorem State.setPe_lnk (s : State) (n : Nat) (x : PinEngine) : (s.setPe n x).lnk = s.lnk := rfl
@[simp] theorem State.setPe_que (s : State) (n : Nat) (x : PinEngine) : (s.setPe n x).que = s.que := rfl
@[simp] theorem State.setPe_str (s : State) (n : Nat) (x : PinEngine) : (s.setPe n x).str = s.str := rfl
@[simp] theorem State.setPe_tnd (s : State) (n : Nat) (x : PinEngine) : (s.setPe n x).tnd = s.tnd := rfl
@[simp] theorem State.setPe_btp (s : State) (n : Nat) (x : PinEngine) : (s.setPe n x).btp = s.btp := rfl
@[simp] theorem State.setPe_mem (s : State) (n : Nat) (x : PinEngine) : (s.setPe n x).mem = s.mem := rfl
@[simp] theorem State.setPe_vwk (s : State) (n : Nat) (x : PinEngine) : (s.setPe n x).vwk = s.vwk := rfl
@[simp] theorem State.setPe_hmp (s : State) (n : Nat) (x : PinEngine) : (s.setPe n x).hmp = s.hmp := rfl
@[simp] theorem State.setPe_crp (s : State) (n : Nat) (x : PinEngine) : (s.setPe n x).crp = s.crp := rfl
@[simp] theorem State.setPe_dbg (s : State) (n : Nat) (x : PinEngine) : (s.setPe n x).dbg = s.dbg := rfl
@[simp] theorem State.setPe_storeFaults (s : State) (n : Nat) (x : PinEngine) : (s.setPe n x).storeFaults = s.storeFaults := rfl
@[simp] theorem State.setPe_out (s : State) (n : Nat) (x : PinEngine) : (s.setPe n x).out = s.out := rfl
@[simp] theorem State.setPe_freeCount (s : State) (n : Nat) (x : PinEngine) : (s.setPe n x).freeCount = s.freeCount := rfl

@[simp] theorem State.setLg_pending (s : State) (g : Nat) (x : LinkGroup) : (s.setLg g x).pending = s.pending := rfl
@[simp] theorem State.setLg_now (s : State) (g : Nat) (x : LinkGroup) : (s.setLg g x).now = s.now := rfl
@[simp] theorem State.setLg_regs (s : State) (g : Nat) (x : LinkGroup) : (s.setLg g x).regs = s.regs := rfl
@[simp] theorem State.setLg_hits (s : State) (g : Nat) (x : LinkGroup) : (s.setLg g x).hits = s.hits := rfl
@[simp] theorem State.setLg_sch (s : State) (g : Nat) (x : LinkGroup) : (s.setLg g x).sch = s.sch := rfl
@[simp] theorem State.setLg_cfg (s : State) (g : Nat) (x : LinkGroup) : (s.setLg g x).cfg = s.cfg := rfl
@[simp] theorem State.setLg_que (s : State) (g : Nat) (x : LinkGroup) : (s.setLg g x).que = s.que := rfl
@[simp] theorem State.setLg_str (s : State) (g : Nat) (x : LinkGroup) : (s.setLg g x).str = s.str := rfl
@[simp] theorem State.setLg_tnd (s : State) (g : Nat) (x : LinkGroup) : (s.setLg g x).tnd = s.tnd := rfl
@[simp] theorem State.setLg_btp (s : State) (g : Nat) (x : LinkGroup) : (s.setLg g x).btp = s.btp := rfl
@[simp] theorem State.setLg_mem (s : State) (g : Nat) (x : LinkGroup) : (s.setLg g x).mem = s.mem := rfl
@[simp] theorem State.setLg_vwk (s : State) (g : Nat) (x : LinkGroup) : (s.setLg g x).vwk = s.vwk := rfl
@[simp] theorem State.setLg_sbd (s : State) (g : Nat) (x : LinkGroup) : (s.setLg g x).sbd = s.sbd := rfl
@[simp] theorem State.setLg_hmp (s : State) (g : Nat) (x : LinkGroup) : (s.setLg g x).hmp = s.hmp := rfl
@[simp] theorem State.setLg_crp (s : State) (g : Nat) (x : LinkGroup) : (s.setLg g x).crp = s.crp := rfl
@[simp] theorem State.setLg_dbg (s : State) (g : Nat) (x : LinkGroup) : (s.setLg g x).dbg = s.dbg := rfl
@[simp] theorem State.setLg_storeFaults (s : State) (g : Nat) (x : LinkGroup) : (s.setLg g x).storeFaults = s.storeFaults := rfl
@[simp] theorem State.setLg_out (s : State) (g : Nat) (x : LinkGroup) : (s.setLg g x).out = s.out := rfl
@[simp] theorem State.setLg_freeCount (s : State) (g : Nat) (x : LinkGroup) : (s.setLg g x).freeCount = s.freeCount := rfl

@[simp] theorem State.setDrift_pending (s : State) (d : Nat) (x : Drift) : (s.setDrift d x).pending = s.pending := by
  unfold State.setDrift; dsimp only; split <;> rfl
@[simp] theorem State.setDrift_now (s : State) (d : Nat) (x : Drift) : (s.setDrift d x).now = s.now := by
  unfold State.setDrift; dsimp only; split <;> rfl
@[simp] theorem State.setDrift_regs (s : State) (d : Nat) (x : Drift) : (s.setDrift d x).regs = s.regs := by
  unfold State.setDrift; dsimp only; split <;> rfl
@[simp] theorem State.setDrift_hits (s : State) (d : Nat) (x : Drift) : (s.setDrift d x).hits = s.hits := by
  unfold State.setDrift; dsimp only; split <;> rfl
@[simp] theorem State.setDrift_cfg (s : State) (d : Nat) (x : Drift) : (s.setDrift d x).cfg = s.cfg := by
  unfold State.setDrift; dsimp only; split <;> rfl
@[simp] theorem State.setDrift_lnk (s : State) (d : Nat) (x : Drift) : (s.setDrift d x).lnk = s.lnk := by
  unfold State.setDrift; dsimp only; split <;> rfl
@[simp] theorem State.setDrift_que (s : State) (d : Nat) (x : Drift) : (s.setDrift d x).que = s.que := by
  unfold State.setDrift; dsimp only; split <;> rfl
@[simp] theorem State.setDrift_tnd (s : State) (d : Nat) (x : Drift) : (s.setDrift d x).tnd = s.tnd := by
  unfold State.setDrift; dsimp only; split <;> rfl
@[simp] theorem State.setDrift_btp (s : State) (d : Nat) (x : Drift) : (s.setDrift d x).btp = s.btp := by
  unfold State.setDrift; dsimp only; split <;> rfl
@[simp] theorem State.setDrift_mem (s : State) (d : Nat) (x : Drift) : (s.setDrift d x).mem = s.mem := by
  unfold State.setDrift; dsimp only; split <;> rfl
@[simp] theorem State.setDrift_vwk (s : State) (d : Nat) (x : Drift) : (s.setDrift d x).vwk = s.vwk := by
  unfold State.setDrift; dsimp only; split <;> rfl
@[simp] theorem State.setDrift_sbd (s : State) (d : Nat) (x : Drift) : (s.setDrift d x).sbd = s.sbd := by
  unfold State.setDrift; dsimp only; split <;> rfl
@[simp] theorem State.setDrift_hmp (s : State) (d : Nat) (x : Drift) : (s.setDrift d x).hmp = s.hmp := by
  unfold State.setDrift; dsimp only; split <;> rfl
@[simp] theorem State.setDrift_crp (s : State) (d : Nat) (x : Drift) : (s.setDrift d x).crp = s.crp := by
  unfold State.setDrift; dsimp only; split <;> rfl
@[simp] theorem State.setDrift_dbg (s : State) (d : Nat) (x : Drift) : (s.setDrift d x).dbg = s.dbg := by
  unfold State.setDrift; dsimp only; split <;> rfl
@[simp] theorem State.setDrift_storeFaults (s : State) (d : Nat) (x : Drift) : (s.setDrift d x).storeFaults = s.storeFaults := by
  unfold State.setDrift; dsimp only; split <;> rfl
@[simp] theorem State.setDrift_out (s : State) (d : Nat) (x : Drift) : (s.setDrift d x).out = s.out := by
  unfold State.setDrift; dsimp only; split <;> rfl
@[simp] theorem State.setDrift_freeCount (s : State) (d : Nat) (x : Drift) : (s.setDrift d x).freeCount = s.freeCount := by
  unfold State.setDrift; dsimp only; split <;> rfl

@[simp] theorem State.setRed_pending (s : State) (id : Nat) (x : RedEntry) : (s.setRed id x).pending = s.pending := rfl
@[simp] theorem State.setRed_now (s : State) (id : Nat) (x : RedEntry) : (s.setRed id x).now = s.now := rfl
@[simp] theorem State.setRed_regs (s : State) (id : Nat) (x : RedEntry) : (s.setRed id x).regs = s.regs := rfl
@[simp] theorem State.setRed_hits (s : State) (id : Nat) (x : RedEntry) : (s.setRed id x).hits = s.hits := rfl
@[simp] theorem State.setRed_sch (s : State) (id : Nat) (x : RedEntry) : (s.setRed id x).sch = s.sch := rfl
@[simp] theorem State.setRed_cfg (s : State) (id : Nat) (x : RedEntry) : (s.setRed id x).cfg = s.cfg := rfl
@[simp] theorem State.setRed_lnk (s : State) (id : Nat) (x : RedEntry) : (s.setRed id x).lnk = s.lnk := rfl
@[simp] theorem State.setRed_que (s : State) (id : Nat) (x : RedEntry) : (s.setRed id x).que = s.que := rfl
@[simp] theorem State.setRed_tnd (s : State) (id : Nat) (x : RedEntry) : (s.setRed id x).tnd = s.tnd := rfl
@[simp] theorem State.setRed_btp (s : State) (id : Nat) (x : RedEntry) : (s.setRed id x).btp = s.btp := rfl
@[simp] theorem State.setRed_mem (s : State) (id : Nat) (x : RedEntry) : (s.setRed id x).mem = s.mem := rfl
@[simp] theorem State.setRed_vwk (s : State) (id : Nat) (x : RedEntry) : (s.setRed id x).vwk = s.vwk := rfl
@[simp] theorem State.setRed_sbd (s : State) (id : Nat) (x : RedEntry) : (s.setRed id x).sbd = s.sbd := rfl
@[simp] theorem State.setRed_hmp (s : State) (id : Nat) (x : RedEntry) : (s.setRed id x).hmp = s.hmp := rfl
@[simp] theorem State.setRed_crp (s : State) (id : Nat) (x : RedEntry) : (s.setRed id x).crp = s.crp := rfl
@[simp] theorem State.setRed_dbg (s : State) (id : Nat) (x : RedEntry) : (s.setRed id x).dbg = s.dbg := rfl
@[simp] theorem State.setRed_storeFaults (s : State) (id : Nat) (x : RedEntry) : (s.setRed id x).storeFaults = s.storeFaults := rfl
@[simp] theorem State.setRed_out (s : State) (id : Nat) (x : RedEntry) : (s.setRed id x).out = s.out := rfl
@[simp] theorem State.setRed_freeCount (s : State) (id : Nat) (x : RedEntry) : (s.setRed id x).freeCount = s.freeCount := rfl

end Sys2Proof.Machine
end

