-- ==== Sys2Proof/Laws/Settle.lean ====
section
/-! SUPPORT. What the event router, the void causes and the end of a command leave alone: everything but registers and what hardware set in them, the counters
and void record of the shift, host memory requests and outputs; the end of a command also tells the tandem output and the
all-blocked detector. -/

namespace Sys2Proof.Machine

theorem foldl_keep {α β : Type} (f : State → α) (g : State → β → State) (h : ∀ s b, f (g s b) = f s) (l : List β) (s : State) :
    f (l.foldl g s) = f s := by
  induction l generalizing s with
  | nil => rfl
  | cons b l ih => simp only [List.foldl_cons]; rw [ih, h]

/-- The state without what an event may write. -/
def State.still (s : State) : State := { s with regs := [], hits := [], sch := SchState.init, hmp := [], out := [] }

/-- The state without what the end of a command may write. -/
def State.still2 (s : State) : State :=
  { s.still with tnd := TndState.init, btp := { s.btp with blockedSince := none, allArmed := false } }

@[simp] theorem State.setReg_still (s : State) (off : Nat) (v : Word) : (s.setReg off v).still = s.still := rfl
@[simp] theorem State.setReg64_still (s : State) (lo hi v : Nat) : (s.setReg64 lo hi v).still = s.still := rfl
@[simp] theorem State.setF_still (s : State) (x : Fld) (v : Nat) : (s.setF x v).still = s.still := rfl
@[simp] theorem State.setB_still (s : State) (x : Fld) (b : Bool) : (s.setB x b).still = s.still := rfl
@[simp] theorem State.mark_still (s : State) (x : Fld) (n : Nat) : (s.mark x n).still = s.still := rfl
@[simp] theorem State.hit_still (s : State) (x : Fld) : (s.hit x).still = s.still := rfl
@[simp] theorem State.emit_still (s : State) (o : Out) : (s.emit o).still = s.still := rfl
@[simp] theorem State.count_still (s : State) (off n : Nat) : (s.count off n).still = s.still := rfl
@[simp] theorem State.hmpPush_still (s : State) (p : Nat) (r : HmpReq) : (s.hmpPush p r).still = s.still := rfl
@[simp] theorem State.modSch_still (s : State) (f : SchState → SchState) : (s.modSch f).still = s.still := rfl
@[simp] theorem State.sch_still (s : State) (x : SchState) : { s with sch := x }.still = s.still := rfl

@[simp] theorem State.updateIrq_still (s : State) : s.updateIrq.still = s.still := by
  unfold State.updateIrq; dsimp only; split <;> simp

@[simp] theorem State.raise_still (s : State) (n : Nat) : (s.raise n).still = s.still := by
  unfold State.raise; dsimp only; repeat' split
  all_goals simp [State.sendMsi]

@[simp] theorem State.clearEvent_still (s : State) (n : Nat) : (s.clearEvent n).still = s.still := by
  unfold State.clearEvent; split
  · unfold State.redeliver; dsimp only; split <;> rfl
  · simp

@[simp] theorem State.setCls_still (s : State) (v : Nat) : (s.setCls v).still = s.still := by
  unfold State.setCls; extract_lets; split
  · rw [State.raise_still]; rfl
  · rfl

@[simp] theorem State.setCause_still (s : State) (x : Fld) (b : Bool) : (s.setCause x b).still = s.still := by simp [State.setCause]

@[simp] theorem State.refreshVoid_still (s : State) : s.refreshVoid.still = s.still := by
  unfold State.refreshVoid; simp only [State.setCls_still]; exact foldl_keep _ _ (by intros; simp) _ _

@[simp] theorem State.setMode_still (s : State) (m : Nat) : (s.setMode m).still = s.still := by
  unfold State.setMode; dsimp only; repeat' split
  all_goals simp

@[simp] theorem State.lockCause_still (s old : State) : (s.lockCause old).still = s.still := by
  unfold State.lockCause; split <;> simp

@[simp] theorem State.setSteer_still (s : State) (v : Int) : (s.setSteer v).still = s.still := by
  unfold State.setSteer; extract_lets; rw [State.emit_still, State.setF_still]

@[simp] theorem State.setServo_still (s : State) (t : Nat) : (s.setServo t).still = s.still := by
  unfold State.setServo; split
  · rfl
  · extract_lets s1 s2
    have h : s2.still = s.still := rfl
    split
    · split
      · exact h
      · rw [State.setSteer_still]; exact h
    · repeat' split
      all_goals exact h

theorem State.still2_of_still {a b : State} (h : a.still = b.still) : a.still2 = b.still2 := by
  have h1 : a.btp = b.btp := by simpa [State.still] using congrArg State.btp h
  unfold State.still2; rw [h, h1]

theorem State.settleServo_still (s : State) : s.settleServo.still = s.still := by
  unfold State.settleServo; repeat' split
  all_goals simp

theorem State.settleMode_still (s : State) : s.settleMode.still = s.still := by
  unfold State.settleMode; repeat' split
  all_goals simp

theorem State.settleCauses_still (s : State) : s.settleCauses.still = s.still := by
  unfold State.settleCauses; dsimp only; repeat' split
  all_goals simp

/-- What the end of a command leaves alone. -/
theorem State.settle_still2 (s : State) : s.settle.still2 = s.still2 := by
  have e1 : s.settle.still2 = s.settleServo.settleMode.settleLive.settleBlocked.still2 := by
    apply State.still2_of_still
    simp [State.settle, State.settleSticky, State.settleCauses_still]
  have e2 (a : State) : a.settleBlocked.still2 = a.still2 := by
    unfold State.settleBlocked; dsimp only; repeat' split
    all_goals rfl
  have e3 (a : State) : a.settleLive.still2 = a.still2 := by
    unfold State.settleLive; dsimp only; split <;> rfl
  rw [e1, e2, e3]
  exact State.still2_of_still (by rw [State.settleMode_still, State.settleServo_still])

@[simp] theorem State.raise_pending (s : State) (n : Nat) : (s.raise n).pending = s.pending := by
  have h := congrArg State.pending (State.raise_still s n); exact h
@[simp] theorem State.setMode_pending (s : State) (m : Nat) : (s.setMode m).pending = s.pending := by
  have h := congrArg State.pending (State.setMode_still s m); exact h
@[simp] theorem State.clearEvent_pending (s : State) (n : Nat) : (s.clearEvent n).pending = s.pending := by
  have h := congrArg State.pending (State.clearEvent_still s n); exact h
@[simp] theorem State.setCause_pending (s : State) (x : Fld) (b : Bool) : (s.setCause x b).pending = s.pending := by
  have h := congrArg State.pending (State.setCause_still s x b); exact h
@[simp] theorem State.raise_now (s : State) (n : Nat) : (s.raise n).now = s.now := by
  have h := congrArg State.now (State.raise_still s n); exact h
@[simp] theorem State.setMode_now (s : State) (m : Nat) : (s.setMode m).now = s.now := by
  have h := congrArg State.now (State.setMode_still s m); exact h
@[simp] theorem State.clearEvent_now (s : State) (n : Nat) : (s.clearEvent n).now = s.now := by
  have h := congrArg State.now (State.clearEvent_still s n); exact h
@[simp] theorem State.setCause_now (s : State) (x : Fld) (b : Bool) : (s.setCause x b).now = s.now := by
  have h := congrArg State.now (State.setCause_still s x b); exact h
@[simp] theorem State.raise_cfg (s : State) (n : Nat) : (s.raise n).cfg = s.cfg := by
  have h := congrArg State.cfg (State.raise_still s n); exact h
@[simp] theorem State.setMode_cfg (s : State) (m : Nat) : (s.setMode m).cfg = s.cfg := by
  have h := congrArg State.cfg (State.setMode_still s m); exact h
@[simp] theorem State.clearEvent_cfg (s : State) (n : Nat) : (s.clearEvent n).cfg = s.cfg := by
  have h := congrArg State.cfg (State.clearEvent_still s n); exact h
@[simp] theorem State.setCause_cfg (s : State) (x : Fld) (b : Bool) : (s.setCause x b).cfg = s.cfg := by
  have h := congrArg State.cfg (State.setCause_still s x b); exact h
@[simp] theorem State.raise_lnk (s : State) (n : Nat) : (s.raise n).lnk = s.lnk := by
  have h := congrArg State.lnk (State.raise_still s n); exact h
@[simp] theorem State.setMode_lnk (s : State) (m : Nat) : (s.setMode m).lnk = s.lnk := by
  have h := congrArg State.lnk (State.setMode_still s m); exact h
@[simp] theorem State.clearEvent_lnk (s : State) (n : Nat) : (s.clearEvent n).lnk = s.lnk := by
  have h := congrArg State.lnk (State.clearEvent_still s n); exact h
@[simp] theorem State.setCause_lnk (s : State) (x : Fld) (b : Bool) : (s.setCause x b).lnk = s.lnk := by
  have h := congrArg State.lnk (State.setCause_still s x b); exact h
@[simp] theorem State.raise_que (s : State) (n : Nat) : (s.raise n).que = s.que := by
  have h := congrArg State.que (State.raise_still s n); exact h
@[simp] theorem State.setMode_que (s : State) (m : Nat) : (s.setMode m).que = s.que := by
  have h := congrArg State.que (State.setMode_still s m); exact h
@[simp] theorem State.clearEvent_que (s : State) (n : Nat) : (s.clearEvent n).que = s.que := by
  have h := congrArg State.que (State.clearEvent_still s n); exact h
@[simp] theorem State.setCause_que (s : State) (x : Fld) (b : Bool) : (s.setCause x b).que = s.que := by
  have h := congrArg State.que (State.setCause_still s x b); exact h
@[simp] theorem State.raise_str (s : State) (n : Nat) : (s.raise n).str = s.str := by
  have h := congrArg State.str (State.raise_still s n); exact h
@[simp] theorem State.setMode_str (s : State) (m : Nat) : (s.setMode m).str = s.str := by
  have h := congrArg State.str (State.setMode_still s m); exact h
@[simp] theorem State.clearEvent_str (s : State) (n : Nat) : (s.clearEvent n).str = s.str := by
  have h := congrArg State.str (State.clearEvent_still s n); exact h
@[simp] theorem State.setCause_str (s : State) (x : Fld) (b : Bool) : (s.setCause x b).str = s.str := by
  have h := congrArg State.str (State.setCause_still s x b); exact h
@[simp] theorem State.raise_tnd (s : State) (n : Nat) : (s.raise n).tnd = s.tnd := by
  have h := congrArg State.tnd (State.raise_still s n); exact h
@[simp] theorem State.setMode_tnd (s : State) (m : Nat) : (s.setMode m).tnd = s.tnd := by
  have h := congrArg State.tnd (State.setMode_still s m); exact h
@[simp] theorem State.clearEvent_tnd (s : State) (n : Nat) : (s.clearEvent n).tnd = s.tnd := by
  have h := congrArg State.tnd (State.clearEvent_still s n); exact h
@[simp] theorem State.setCause_tnd (s : State) (x : Fld) (b : Bool) : (s.setCause x b).tnd = s.tnd := by
  have h := congrArg State.tnd (State.setCause_still s x b); exact h
@[simp] theorem State.raise_btp (s : State) (n : Nat) : (s.raise n).btp = s.btp := by
  have h := congrArg State.btp (State.raise_still s n); exact h
@[simp] theorem State.setMode_btp (s : State) (m : Nat) : (s.setMode m).btp = s.btp := by
  have h := congrArg State.btp (State.setMode_still s m); exact h
@[simp] theorem State.clearEvent_btp (s : State) (n : Nat) : (s.clearEvent n).btp = s.btp := by
  have h := congrArg State.btp (State.clearEvent_still s n); exact h
@[simp] theorem State.setCause_btp (s : State) (x : Fld) (b : Bool) : (s.setCause x b).btp = s.btp := by
  have h := congrArg State.btp (State.setCause_still s x b); exact h
@[simp] theorem State.raise_mem (s : State) (n : Nat) : (s.raise n).mem = s.mem := by
  have h := congrArg State.mem (State.raise_still s n); exact h
@[simp] theorem State.setMode_mem (s : State) (m : Nat) : (s.setMode m).mem = s.mem := by
  have h := congrArg State.mem (State.setMode_still s m); exact h
@[simp] theorem State.clearEvent_mem (s : State) (n : Nat) : (s.clearEvent n).mem = s.mem := by
  have h := congrArg State.mem (State.clearEvent_still s n); exact h
@[simp] theorem State.setCause_mem (s : State) (x : Fld) (b : Bool) : (s.setCause x b).mem = s.mem := by
  have h := congrArg State.mem (State.setCause_still s x b); exact h
@[simp] theorem State.raise_vwk (s : State) (n : Nat) : (s.raise n).vwk = s.vwk := by
  have h := congrArg State.vwk (State.raise_still s n); exact h
@[simp] theorem State.setMode_vwk (s : State) (m : Nat) : (s.setMode m).vwk = s.vwk := by
  have h := congrArg State.vwk (State.setMode_still s m); exact h
@[simp] theorem State.clearEvent_vwk (s : State) (n : Nat) : (s.clearEvent n).vwk = s.vwk := by
  have h := congrArg State.vwk (State.clearEvent_still s n); exact h
@[simp] theorem State.setCause_vwk (s : State) (x : Fld) (b : Bool) : (s.setCause x b).vwk = s.vwk := by
  have h := congrArg State.vwk (State.setCause_still s x b); exact h
@[simp] theorem State.raise_sbd (s : State) (n : Nat) : (s.raise n).sbd = s.sbd := by
  have h := congrArg State.sbd (State.raise_still s n); exact h
@[simp] theorem State.setMode_sbd (s : State) (m : Nat) : (s.setMode m).sbd = s.sbd := by
  have h := congrArg State.sbd (State.setMode_still s m); exact h
@[simp] theorem State.clearEvent_sbd (s : State) (n : Nat) : (s.clearEvent n).sbd = s.sbd := by
  have h := congrArg State.sbd (State.clearEvent_still s n); exact h
@[simp] theorem State.setCause_sbd (s : State) (x : Fld) (b : Bool) : (s.setCause x b).sbd = s.sbd := by
  have h := congrArg State.sbd (State.setCause_still s x b); exact h
@[simp] theorem State.raise_crp (s : State) (n : Nat) : (s.raise n).crp = s.crp := by
  have h := congrArg State.crp (State.raise_still s n); exact h
@[simp] theorem State.setMode_crp (s : State) (m : Nat) : (s.setMode m).crp = s.crp := by
  have h := congrArg State.crp (State.setMode_still s m); exact h
@[simp] theorem State.clearEvent_crp (s : State) (n : Nat) : (s.clearEvent n).crp = s.crp := by
  have h := congrArg State.crp (State.clearEvent_still s n); exact h
@[simp] theorem State.setCause_crp (s : State) (x : Fld) (b : Bool) : (s.setCause x b).crp = s.crp := by
  have h := congrArg State.crp (State.setCause_still s x b); exact h
@[simp] theorem State.raise_dbg (s : State) (n : Nat) : (s.raise n).dbg = s.dbg := by
  have h := congrArg State.dbg (State.raise_still s n); exact h
@[simp] theorem State.setMode_dbg (s : State) (m : Nat) : (s.setMode m).dbg = s.dbg := by
  have h := congrArg State.dbg (State.setMode_still s m); exact h
@[simp] theorem State.clearEvent_dbg (s : State) (n : Nat) : (s.clearEvent n).dbg = s.dbg := by
  have h := congrArg State.dbg (State.clearEvent_still s n); exact h
@[simp] theorem State.setCause_dbg (s : State) (x : Fld) (b : Bool) : (s.setCause x b).dbg = s.dbg := by
  have h := congrArg State.dbg (State.setCause_still s x b); exact h
@[simp] theorem State.raise_storeFaults (s : State) (n : Nat) : (s.raise n).storeFaults = s.storeFaults := by
  have h := congrArg State.storeFaults (State.raise_still s n); exact h
@[simp] theorem State.setMode_storeFaults (s : State) (m : Nat) : (s.setMode m).storeFaults = s.storeFaults := by
  have h := congrArg State.storeFaults (State.setMode_still s m); exact h
@[simp] theorem State.clearEvent_storeFaults (s : State) (n : Nat) : (s.clearEvent n).storeFaults = s.storeFaults := by
  have h := congrArg State.storeFaults (State.clearEvent_still s n); exact h
@[simp] theorem State.setCause_storeFaults (s : State) (x : Fld) (b : Bool) : (s.setCause x b).storeFaults = s.storeFaults := by
  have h := congrArg State.storeFaults (State.setCause_still s x b); exact h
@[simp] theorem State.raise_freeCount (s : State) (n : Nat) : (s.raise n).freeCount = s.freeCount := by
  have h := congrArg State.freeCount (State.raise_still s n); exact h
@[simp] theorem State.setMode_freeCount (s : State) (m : Nat) : (s.setMode m).freeCount = s.freeCount := by
  have h := congrArg State.freeCount (State.setMode_still s m); exact h
@[simp] theorem State.clearEvent_freeCount (s : State) (n : Nat) : (s.clearEvent n).freeCount = s.freeCount := by
  have h := congrArg State.freeCount (State.clearEvent_still s n); exact h
@[simp] theorem State.setCause_freeCount (s : State) (x : Fld) (b : Bool) : (s.setCause x b).freeCount = s.freeCount := by
  have h := congrArg State.freeCount (State.setCause_still s x b); exact h

theorem State.still2_pending (s : State) : s.still2.pending = s.pending := rfl
@[simp] theorem State.settle_pending (s : State) : s.settle.pending = s.pending := by
  rw [← State.still2_pending s.settle, State.settle_still2, State.still2_pending]
theorem State.still2_now (s : State) : s.still2.now = s.now := rfl
@[simp] theorem State.settle_now (s : State) : s.settle.now = s.now := by
  rw [← State.still2_now s.settle, State.settle_still2, State.still2_now]
theorem State.still2_cfg (s : State) : s.still2.cfg = s.cfg := rfl
@[simp] theorem State.settle_cfg (s : State) : s.settle.cfg = s.cfg := by
  rw [← State.still2_cfg s.settle, State.settle_still2, State.still2_cfg]
theorem State.still2_lnk (s : State) : s.still2.lnk = s.lnk := rfl
@[simp] theorem State.settle_lnk (s : State) : s.settle.lnk = s.lnk := by
  rw [← State.still2_lnk s.settle, State.settle_still2, State.still2_lnk]
theorem State.still2_que (s : State) : s.still2.que = s.que := rfl
@[simp] theorem State.settle_que (s : State) : s.settle.que = s.que := by
  rw [← State.still2_que s.settle, State.settle_still2, State.still2_que]
theorem State.still2_str (s : State) : s.still2.str = s.str := rfl
@[simp] theorem State.settle_str (s : State) : s.settle.str = s.str := by
  rw [← State.still2_str s.settle, State.settle_still2, State.still2_str]
theorem State.still2_mem (s : State) : s.still2.mem = s.mem := rfl
@[simp] theorem State.settle_mem (s : State) : s.settle.mem = s.mem := by
  rw [← State.still2_mem s.settle, State.settle_still2, State.still2_mem]
theorem State.still2_vwk (s : State) : s.still2.vwk = s.vwk := rfl
@[simp] theorem State.settle_vwk (s : State) : s.settle.vwk = s.vwk := by
  rw [← State.still2_vwk s.settle, State.settle_still2, State.still2_vwk]
theorem State.still2_sbd (s : State) : s.still2.sbd = s.sbd := rfl
@[simp] theorem State.settle_sbd (s : State) : s.settle.sbd = s.sbd := by
  rw [← State.still2_sbd s.settle, State.settle_still2, State.still2_sbd]
theorem State.still2_crp (s : State) : s.still2.crp = s.crp := rfl
@[simp] theorem State.settle_crp (s : State) : s.settle.crp = s.crp := by
  rw [← State.still2_crp s.settle, State.settle_still2, State.still2_crp]
theorem State.still2_dbg (s : State) : s.still2.dbg = s.dbg := rfl
@[simp] theorem State.settle_dbg (s : State) : s.settle.dbg = s.dbg := by
  rw [← State.still2_dbg s.settle, State.settle_still2, State.still2_dbg]
theorem State.still2_storeFaults (s : State) : s.still2.storeFaults = s.storeFaults := rfl
@[simp] theorem State.settle_storeFaults (s : State) : s.settle.storeFaults = s.storeFaults := by
  rw [← State.still2_storeFaults s.settle, State.settle_still2, State.still2_storeFaults]
theorem State.still2_freeCount (s : State) : s.still2.freeCount = s.freeCount := rfl
@[simp] theorem State.settle_freeCount (s : State) : s.settle.freeCount = s.freeCount := by
  rw [← State.still2_freeCount s.settle, State.settle_still2, State.still2_freeCount]
theorem State.still2_threads (s : State) : s.still2.btp.threads = s.btp.threads := rfl
@[simp] theorem State.settle_threads (s : State) : s.settle.btp.threads = s.btp.threads := by
  rw [← State.still2_threads s.settle, State.settle_still2, State.still2_threads]
theorem State.still2_chans (s : State) : s.still2.btp.chans = s.btp.chans := rfl
@[simp] theorem State.settle_chans (s : State) : s.settle.btp.chans = s.btp.chans := by
  rw [← State.still2_chans s.settle, State.settle_still2, State.still2_chans]
theorem State.still2_lamps (s : State) : s.still2.btp.lamps = s.btp.lamps := rfl
@[simp] theorem State.settle_lamps (s : State) : s.settle.btp.lamps = s.btp.lamps := by
  rw [← State.still2_lamps s.settle, State.settle_still2, State.still2_lamps]
theorem State.still2_flog (s : State) : s.still2.btp.flog = s.btp.flog := rfl
@[simp] theorem State.settle_flog (s : State) : s.settle.btp.flog = s.btp.flog := by
  rw [← State.still2_flog s.settle, State.settle_still2, State.still2_flog]
theorem State.still2_holder (s : State) : s.still2.btp.holder = s.btp.holder := rfl
@[simp] theorem State.settle_holder (s : State) : s.settle.btp.holder = s.btp.holder := by
  rw [← State.still2_holder s.settle, State.settle_still2, State.still2_holder]
theorem State.still2_granted (s : State) : s.still2.btp.granted = s.btp.granted := rfl
@[simp] theorem State.settle_granted (s : State) : s.settle.btp.granted = s.btp.granted := by
  rw [← State.still2_granted s.settle, State.settle_still2, State.still2_granted]
theorem State.still2_nextCyc (s : State) : s.still2.btp.nextCyc = s.btp.nextCyc := rfl
@[simp] theorem State.settle_nextCyc (s : State) : s.settle.btp.nextCyc = s.btp.nextCyc := by
  rw [← State.still2_nextCyc s.settle, State.settle_still2, State.still2_nextCyc]

@[simp] theorem State.settle_thread (s : State) (t : Nat) : s.settle.thread t = s.thread t := by simp [State.thread]
@[simp] theorem State.settle_chan (s : State) (ch : Nat) : s.settle.chan ch = s.chan ch := by simp [State.chan]
@[simp] theorem State.settle_lamp (s : State) (l : Nat) : s.settle.lamp l = s.lamp l := by simp [State.lamp]

end Sys2Proof.Machine
end

