-- ==== Sys2Proof/Laws/Regs.lean ====
section
/-! SUPPORT. Registers: a register written reads as written, the others as before; events, void causes and the end of a command
leave every calm register as it was. -/

namespace Sys2Proof.Machine

@[simp] theorem State.reg_setReg_same (s : State) (off : Nat) (v : Word) : (s.setReg off v).reg off = v := by
  unfold State.reg State.setReg; exact kget_kset_same ..

theorem State.reg_setReg_ne (s : State) {off off' : Nat} (v : Word) (h : off' ≠ off) : (s.setReg off v).reg off' = s.reg off' := by
  unfold State.reg State.setReg; exact kget_kset_ne _ _ _ _ h

theorem State.reg_setReg (s : State) (off off' : Nat) (v : Word) :
    (s.setReg off v).reg off' = if off' = off then v else s.reg off' := by
  split
  · rename_i h; subst h; simp
  · rename_i h; exact s.reg_setReg_ne v h

theorem State.reg_congr {a b : State} (h : a.regs = b.regs) (off : Nat) : a.reg off = b.reg off := by
  unfold State.reg; rw [h]

@[simp] theorem State.emit_reg (s : State) (o : Out) (off : Nat) : (s.emit o).reg off = s.reg off := rfl
@[simp] theorem State.count_reg (s : State) (a n off : Nat) : (s.count a n).reg off = s.reg off := rfl
@[simp] theorem State.mark_reg (s : State) (x : Fld) (n off : Nat) : (s.mark x n).reg off = s.reg off := rfl
@[simp] theorem State.hmpPush_reg (s : State) (p : Nat) (r : HmpReq) (off : Nat) : (s.hmpPush p r).reg off = s.reg off := rfl
@[simp] theorem State.wait_reg (s : State) (n off : Nat) : (s.wait n).reg off = s.reg off := rfl
@[simp] theorem State.modSch_reg (s : State) (f : SchState → SchState) (off : Nat) : (s.modSch f).reg off = s.reg off := rfl
@[simp] theorem State.setThread_reg (s : State) (t : Nat) (x : Thread) (off : Nat) : (s.setThread t x).reg off = s.reg off := rfl
@[simp] theorem State.modThread_reg (s : State) (t : Nat) (f : Thread → Thread) (off : Nat) : (s.modThread t f).reg off = s.reg off := rfl

theorem State.setF_reg_ne (s : State) (x : Fld) (v : Nat) {off : Nat} (h : off ≠ x.off) : (s.setF x v).reg off = s.reg off :=
  s.reg_setReg_ne _ h
theorem State.setB_reg_ne (s : State) (x : Fld) (b : Bool) {off : Nat} (h : off ≠ x.off) : (s.setB x b).reg off = s.reg off :=
  s.reg_setReg_ne _ h

theorem State.hit_reg_ne (s : State) (x : Fld) {off : Nat} (h : off ≠ x.off) : (s.hit x).reg off = s.reg off :=
  (s.mark x 1).reg_setReg_ne _ h

theorem State.updateIrq_reg (s : State) {off : Nat} (h : calmReg off = true) : s.updateIrq.reg off = s.reg off := by
  simp [calmReg] at h
  unfold State.updateIrq; dsimp only; split
  · rfl
  · simp only [State.emit_reg, State.count_reg, State.setReg64]
    rw [State.reg_setReg_ne, State.reg_setReg_ne] <;> simp [R.EVT_IRQ_LVL_LO, R.EVT_IRQ_LVL_HI] <;> omega

theorem pendFld_off (n : Nat) : (pendFld n).off = 0x3E0100 + 4 * (n / 32) := rfl

theorem State.raise_reg (s : State) {n off : Nat} (hn : n < 4096) (h : calmReg off = true) : (s.raise n).reg off = s.reg off := by
  have h' := h
  simp [calmReg] at h
  unfold State.raise; dsimp only; repeat' split
  all_goals try rfl
  all_goals rw [State.updateIrq_reg _ h']; try simp only [State.sendMsi, State.hmpPush_reg]
  all_goals rw [State.hit_reg_ne]; rfl
  all_goals rw [pendFld_off]; omega

theorem State.clearEvent_reg (s : State) {n off : Nat} (hn : n < 4096) (h : calmReg off = true) : (s.clearEvent n).reg off = s.reg off := by
  unfold State.clearEvent; split
  · unfold State.redeliver; dsimp only; split
    · simp only [State.sendMsi, State.hmpPush_reg]; rfl
    · rfl
  · rw [State.updateIrq_reg _ h, State.setB_reg_ne]
    simp [calmReg] at h; rw [pendFld_off]; omega

theorem State.setCls_reg (s : State) (v : Nat) {off : Nat} (h : calmReg off = true) : (s.setCls v).reg off = s.reg off := by
  have e (a : State) (x y : Word) : ((a.setReg R.SCH_CLS_STAT x).setReg R.SCH_CLS_CAUSE y).reg off = a.reg off := by
    simp [calmReg] at h
    rw [State.reg_setReg_ne, State.reg_setReg_ne] <;> simp [R.SCH_CLS_STAT, R.SCH_CLS_CAUSE] <;> omega
  unfold State.setCls; extract_lets; split
  · rw [State.raise_reg _ (by decide) h]; exact e ..
  · exact e ..

theorem State.setCause_reg (s : State) (x : Fld) (b : Bool) {off : Nat} (h : calmReg off = true) :
    (s.setCause x b).reg off = s.reg off := s.setCls_reg _ h

theorem State.refreshVoid_reg (s : State) {off : Nat} (h : calmReg off = true) : s.refreshVoid.reg off = s.reg off := by
  unfold State.refreshVoid; dsimp only
  rw [State.setCls_reg _ _ h]
  refine List.foldlRecOn (motive := fun (a : State) => a.reg off = s.reg off) _ _ rfl ?_
  intro a ih g hg
  rw [State.setB_reg_ne, ih]
  simp [calmReg] at h
  simp at hg
  simp [F.SCH_LGn_PEER_VOIDED, R.SCH_LGn_PEER]; omega

theorem State.setMode_reg (s : State) (m : Nat) {off : Nat} (h : calmReg off = true) : (s.setMode m).reg off = s.reg off := by
  have e (a : State) : (((a.setF F.CRP_MODE_PREV s.mode).setF F.CRP_MODE_MODE m).raise EV.mode).reg off = a.reg off := by
    rw [State.raise_reg _ (by decide) h]
    simp [calmReg] at h
    rw [State.setF_reg_ne, State.setF_reg_ne] <;> simp [F.CRP_MODE_PREV, F.CRP_MODE_MODE, R.CRP_MODE] <;> omega
  unfold State.setMode; dsimp only; repeat' split
  · rfl
  · rw [e]; rfl
  · rw [State.setCause_reg _ _ _ h, e]; rfl

theorem State.lockCause_reg (s old : State) {off : Nat} (h : calmReg off = true) : (s.lockCause old).reg off = s.reg off := by
  unfold State.lockCause; split
  · exact State.setCause_reg _ _ _ h
  · rfl

theorem State.setServo_reg (s : State) (t : Nat) {off : Nat} (h : calmReg off = true) : (s.setServo t).reg off = s.reg off := by
  have h' : ¬(0x40030 ≤ off ∧ off < 0x40180) := by simp [calmReg] at h; omega
  have e : off ≠ 0x40030 := by omega
  have c (a : State) (x : Fld) (v : Nat) (hx : x.off = 0x40030) : (a.setF x v).reg off = a.reg off := a.setF_reg_ne x v (hx ▸ e)
  have steer (a : State) : (a.setSteer 0).reg off = a.reg off := by
    unfold State.setSteer; extract_lets
    rw [State.emit_reg, State.setF_reg_ne]; simp [F.SCH_TL_FREQ_STEER, R.SCH_TL_FREQ]; omega
  unfold State.setServo; split
  · rfl
  · extract_lets s1 s2 s3
    have h2 : s2.reg off = s.reg off := by
      show ((State.modSch _ _).setF _ _).reg off = _
      rw [c _ _ _ rfl, State.modSch_reg, State.count_reg, c _ _ _ rfl]
    have h3 : s3.reg off = s.reg off := (c s2 _ _ rfl).trans h2
    have hb (b : Bool) : (s2.setB F.SCH_TL_STAT_UP_SEL b).reg off = s.reg off := (c s2 _ _ rfl).trans h2
    split
    · split
      · exact h3
      · exact (steer s3).trans h3
    · split
      · exact hb _
      · split
        · exact hb _
        · exact h2

/-- The end of a command leaves calm registers as they were. -/
theorem State.settle_reg (s : State) {off : Nat} (h : calmReg off = true) : s.settle.reg off = s.reg off := by
  have a1 (s : State) : s.settleServo.reg off = s.reg off := by
    unfold State.settleServo; repeat' split
    all_goals first | rfl | (rw [State.lockCause_reg _ _ h, State.setServo_reg _ _ h]) | (rw [State.setServo_reg _ _ h])
  have a2 (s : State) : s.settleMode.reg off = s.reg off := by
    unfold State.settleMode; repeat' split
    all_goals first | rfl | (rw [State.setMode_reg _ _ h])
  have a3 (s : State) : s.settleLive.reg off = s.reg off := by
    unfold State.settleLive; dsimp only; split <;> rfl
  have a4 (s : State) : s.settleBlocked.reg off = s.reg off := by
    unfold State.settleBlocked; dsimp only; repeat' split
    all_goals rfl
  have a5 (s : State) : s.settleCauses.reg off = s.reg off := by
    unfold State.settleCauses; dsimp only; repeat' split
    all_goals simp only [State.setCause_reg _ _ _ h, State.refreshVoid_reg _ h]
  have a6 (s : State) : s.settleSticky.reg off = s.reg off := by
    unfold State.settleSticky; rw [State.reg_setReg_ne]
    simp [calmReg] at h; simp [R.SCH_CLS_CAUSE]; omega
  unfold State.settle
  rw [State.updateIrq_reg _ h, a6, a5, a4, a3, a2, a1]

theorem State.settle_f (s : State) (x : Fld) (h : calmReg x.off = true) : s.settle.f x = s.f x := by
  unfold State.f; rw [s.settle_reg h]
theorem State.settle_flag (s : State) (x : Fld) (h : calmReg x.off = true) : s.settle.flag x = s.flag x := by
  unfold State.flag; rw [s.settle_f x h]

end Sys2Proof.Machine
end

