-- ==== Sys2Proof/Laws/Drifts.lean ====
section
/-! SUPPORT. What the drifts leave alone while time passes: everything but the few registers of their own and
those of events, what hardware set in registers, the counters of the shift, the groups' egress buffers, the stream engine with staging memory, host memory requests and outputs. -/

namespace Sys2Proof.Machine

/-- Registers that an event writes: the IRQ levels and the pending bits. -/
def eventReg (off : Nat) : Bool :=
  (decide (0x3E0018 ≤ off) && decide (off < 0x3E0020)) || (decide (0x3E0100 ≤ off) && decide (off < 0x3E0300))

theorem eventReg_calm {off : Nat} (h : calmReg off = true) : eventReg off = false := by simp [calmReg, eventReg] at *; omega

/-- The state without what the drifts may write, and the registers that they leave alone. -/
def State.apart (s : State) : State × (Nat → Word) :=
  ({ s with
    regs := [], hits := [], lnk := LnkState.init, str := StrState.init, hmp := [], out := []
    sch := { s.sch with counters := [], saturated := false } },
   fun off => if !eventReg off && !driftReg off then s.reg off else 0)

theorem State.setReg_apart (s : State) {off : Nat} (v : Word) (h : (!eventReg off && !driftReg off) = false) :
    (s.setReg off v).apart = s.apart := by
  refine Prod.ext rfl (funext fun o => ?_)
  by_cases e : o = off
  · subst e; simp only [State.apart, h]; rfl
  · simp only [State.apart, s.reg_setReg_ne v e]

theorem State.setF_apart (s : State) (x : Fld) (v : Nat) (h : (!eventReg x.off && !driftReg x.off) = false) :
    (s.setF x v).apart = s.apart := s.setReg_apart _ h
@[simp] theorem State.mark_apart (s : State) (x : Fld) (n : Nat) : (s.mark x n).apart = s.apart := rfl
theorem State.hit_apart (s : State) (x : Fld) (h : (!eventReg x.off && !driftReg x.off) = false) : (s.hit x).apart = s.apart :=
  (s.mark x 1).setF_apart x _ h
@[simp] theorem State.count_apart (s : State) (off n : Nat) : (s.count off n).apart = s.apart := rfl
@[simp] theorem State.countMax_apart (s : State) (off n : Nat) : (s.countMax off n).apart = s.apart := rfl
@[simp] theorem State.emit_apart (s : State) (o : Out) : (s.emit o).apart = s.apart := rfl
@[simp] theorem State.hmpPush_apart (s : State) (p : Nat) (r : HmpReq) : (s.hmpPush p r).apart = s.apart := rfl
@[simp] theorem State.str_apart (s : State) (x : StrState) : { s with str := x }.apart = s.apart := rfl
@[simp] theorem State.hits_apart (s : State) (x : KMap (Word × Word)) : { s with hits := x }.apart = s.apart := rfl
@[simp] theorem State.setLg_apart (s : State) (g : Nat) (x : LinkGroup) : (s.setLg g x).apart = s.apart := rfl
@[simp] theorem State.modLg_apart (s : State) (g : Nat) (f : LinkGroup → LinkGroup) : (s.modLg g f).apart = s.apart := rfl

@[simp] theorem State.updateIrq_apart (s : State) : s.updateIrq.apart = s.apart := by
  have e (a : State) (v : Nat) : (a.setReg64 R.EVT_IRQ_LVL_LO R.EVT_IRQ_LVL_HI v).apart = a.apart := by
    unfold State.setReg64; rw [State.setReg_apart _ _ (by decide), State.setReg_apart _ _ (by decide)]
  unfold State.updateIrq; extract_lets; split
  · rfl
  · simp [e]

theorem State.raise_apart (s : State) {n : Nat} (hn : n < 4096) : (s.raise n).apart = s.apart := by
  have e (a : State) : (a.hit (pendFld n)).apart = a.apart := a.hit_apart _ (by rw [pendFld_off]; simp [eventReg]; omega)
  unfold State.raise; dsimp only; repeat' split
  all_goals simp [State.sendMsi, e]

@[simp] theorem State.setDrift_apart (s : State) (d : Nat) (x : Drift) : (s.setDrift d x).apart = s.apart := by
  unfold State.setDrift; dsimp only; rw [State.str_apart]; split <;> simp

@[simp] theorem State.setRun_apart (s : State) (r : Run) : (s.setRun r).apart = s.apart := by
  unfold State.setRun; split
  · rfl
  · rw [← State.str_apart s]
    refine foldl_keep _ _ (fun a b => ?_) _ _
    have e (x : State) (n : Nat) (v : Word) : (x.setReg (R.STR_Dd_DONE (n % 16)) v).apart = x.apart :=
      x.setReg_apart v (by simp [driftReg]; exact fun _ _ _ => ⟨n % 16, Nat.mod_lt _ (by decide), rfl⟩)
    simp only [apply_ite State.apart, State.count_apart, e, ite_self]

@[simp] theorem State.loseBank_apart (s : State) (c b : Nat) : (s.loseBank c b).apart = s.apart := by
  unfold State.loseBank; split <;> simp

@[simp] theorem State.smemAccess_apart (s : State) (w : Nat) (who : SmemWho) : (s.smemAccess w who).2.2.apart = s.apart := by
  unfold State.smemAccess; extract_lets s1 marked bytes s2
  have h1 : s1.apart = s.apart := rfl
  have h2 : s2.apart = s.apart := rfl
  repeat' split
  all_goals first | exact h1 | exact h2 | rw [State.raise_apart _ (by decide), State.hit_apart _ _ (by decide), State.setF_apart _ _ _ (by decide), State.count_apart, h2]

@[simp] theorem State.smemPutRun_apart (s : State) (a : Nat) (bs : List Byte) (p : Bool) : (s.smemPutRun a bs p).apart = s.apart := rfl

@[simp] theorem State.smemPutMask_apart (s : State) (w : Nat) (rs : List (Nat × List Byte)) (p : Bool) (who : SmemWho) :
    (s.smemPutMask w rs p who).apart = s.apart := by
  unfold State.smemPutMask; rw [State.count_apart]; exact foldl_keep _ _ (by intros; simp) _ _

@[simp] theorem State.grant_apart (s : State) (a : Ask) (c : Nat) (h : Bool) : (s.grant a c h).apart = s.apart := by
  unfold State.grant; split
  · rfl
  · extract_lets; repeat' split
    · rfl
    · simp
    · rw [State.setRun_apart]
      rename_i h1
      rw [← State.smemAccess_apart s a.word (.drift h), h1]

@[simp] theorem State.grantSched_apart (s : State) (c : Nat) : (s.grantSched c).apart = s.apart := by
  unfold State.grantSched
  refine foldl_keep _ _ (fun t a => ?_) _ _
  dsimp only; repeat' split
  all_goals simp

@[simp] theorem State.grantRest_apart (s : State) (c : Nat) : (s.grantRest c).apart = s.apart := by
  unfold State.grantRest; extract_lets asks winner wins s1 lost s2
  have h1 : s1.apart = s.apart := foldl_keep _ _ (by intros; simp) _ _
  have h2 : s2.apart = s1.apart := foldl_keep _ _ (by intros; simp) _ _
  rw [foldl_keep State.apart, h2, h1]
  intros; split <;> simp

@[simp] theorem State.takeBeats_apart (s : State) (id c : Nat) : (s.takeBeats id c).apart = s.apart := by
  unfold State.takeBeats; split
  · rfl
  · refine foldl_keep _ _ (fun t m => ?_) _ _
    split
    · rfl
    · split
      · rfl
      · extract_lets m1 t1
        have h1 : t1.apart = t.apart := by
          show State.apart (match t.run id with | some y => _ | none => _) = _
          split <;> simp
        split
        · exact h1
        · rw [State.setDrift_apart, h1]

@[simp] theorem State.sendOne_apart (s : State) (r : Run) (m : Member) (x : LateFlit) : (s.sendOne r m x).apart = s.apart := by
  unfold State.sendOne; extract_lets; repeat' split
  all_goals simp

@[simp] theorem State.takeSends_apart (n : Nat) (s : State) (id c : Nat) : (State.takeSends n s id c).apart = s.apart := by
  induction n generalizing s with
  | zero => rfl
  | succ n ih =>
    unfold State.takeSends; split
    · rfl
    · simp [apply_ite State.apart, ih]

@[simp] theorem State.hmpAtOnce_apart (s : State) (p a n src : Nat) (d : Option (List Byte × Bool)) (ok : Bool) (lat : Nat) :
    (s.hmpAtOnce p a n src d ok lat).apart = s.apart := by
  unfold State.hmpAtOnce State.hmpIssue; dsimp only
  cases d <;> simp [apply_ite State.apart]

@[simp] theorem State.sendReads_apart (s : State) (io : StreamIo) (src : Nat) (m : Member) : (s.sendReads io src m).apart = s.apart := by
  unfold State.sendReads
  exact foldl_keep _ _ (fun a p => foldl_keep _ _ (by intros; simp) _ _) _ _

@[simp] theorem State.sendWrites_apart (s : State) (io : StreamIo) (src : Nat) (m : Member) (l : List WriteReq) :
    (s.sendWrites io src m l).1.apart = s.apart := by
  induction l generalizing s m with
  | nil => rfl
  | cons r rest ih =>
    unfold State.sendWrites; extract_lets err s1
    have h1 : s1.apart = s.apart := by simp [s1]
    split
    · exact h1
    · rw [ih, h1]

@[simp] theorem State.finishRun_apart (s : State) (r : Run) (c : Nat) : (s.finishRun r c).apart = s.apart := by
  have tail (a : State) (l : List Member) (g : State → Member → Drift) :
      (l.foldl (fun a m => a.setDrift m.d (g a m)) a).apart = a.apart := foldl_keep _ _ (by intros; simp) _ _
  unfold State.finishRun; extract_lets src s1
  have h1 : s1.apart = s.apart := foldl_keep _ _ (by intros; simp) _ _
  cases hr : r.term with
  | none => simp only; rw [tail, State.str_apart, h1]
  | some m =>
    rcases hw : s1.sendWrites r.io (src m) m (writeReqs m.stores.reverse) with ⟨t, m1, err⟩
    have ht : t.apart = s1.apart := by rw [← State.sendWrites_apart s1 r.io (src m) m (writeReqs m.stores.reverse), hw]
    cases err <;> simp only [hw] <;> rw [tail, State.str_apart, State.setRun_apart, ht, h1]

@[simp] theorem State.runsGo_apart (s : State) (c : Nat) : (s.runsGo c).apart = s.apart := by
  unfold State.runsGo
  refine foldl_keep _ _ (fun a id => ?_) _ _
  extract_lets b c' e
  have h1 : c'.apart = a.apart := by
    show State.apart (match b.run id with | some r => _ | none => _) = _
    split <;> simp [b]
  have h2 : e.apart = a.apart := by simp [e, h1]
  split
  · simp [apply_ite State.apart, h2]
  · exact h2

@[simp] theorem State.streamCycle_apart (s : State) (c : Nat) : (s.streamCycle c).apart = s.apart := by
  unfold State.streamCycle; rw [State.str_apart]; simp

@[simp] theorem State.runTo_apart (n : Nat) (s : State) (t : Nat) : (State.runTo n s t).apart = s.apart := by
  induction n generalizing s with
  | zero => rfl
  | succ n ih =>
    unfold State.runTo; split
    · rfl
    · simp [apply_ite State.apart, ih]

/-- What the drifts leave alone while they catch up with fabric time. -/
@[simp] theorem State.catchUp_apart (s : State) : s.catchUp.apart = s.apart := by
  unfold State.catchUp; split
  · rfl
  · rw [State.str_apart, State.runTo_apart, State.hits_apart, State.runTo_apart]

@[simp] theorem State.catchUp_now (s : State) : s.catchUp.now = s.now := congrArg (fun x => x.1.now) s.catchUp_apart
@[simp] theorem State.catchUp_que (s : State) : s.catchUp.que = s.que := congrArg (fun x => x.1.que) s.catchUp_apart
@[simp] theorem State.catchUp_pending (s : State) : s.catchUp.pending = s.pending := congrArg (fun x => x.1.pending) s.catchUp_apart
@[simp] theorem State.catchUp_cfg (s : State) : s.catchUp.cfg = s.cfg := congrArg (fun x => x.1.cfg) s.catchUp_apart
@[simp] theorem State.catchUp_tnd (s : State) : s.catchUp.tnd = s.tnd := congrArg (fun x => x.1.tnd) s.catchUp_apart
@[simp] theorem State.catchUp_btp (s : State) : s.catchUp.btp = s.btp := congrArg (fun x => x.1.btp) s.catchUp_apart
@[simp] theorem State.catchUp_mem (s : State) : s.catchUp.mem = s.mem := congrArg (fun x => x.1.mem) s.catchUp_apart
@[simp] theorem State.catchUp_vwk (s : State) : s.catchUp.vwk = s.vwk := congrArg (fun x => x.1.vwk) s.catchUp_apart
@[simp] theorem State.catchUp_sbd (s : State) : s.catchUp.sbd = s.sbd := congrArg (fun x => x.1.sbd) s.catchUp_apart
@[simp] theorem State.catchUp_crp (s : State) : s.catchUp.crp = s.crp := congrArg (fun x => x.1.crp) s.catchUp_apart
@[simp] theorem State.catchUp_dbg (s : State) : s.catchUp.dbg = s.dbg := congrArg (fun x => x.1.dbg) s.catchUp_apart
@[simp] theorem State.catchUp_storeFaults (s : State) : s.catchUp.storeFaults = s.storeFaults := congrArg (fun x => x.1.storeFaults) s.catchUp_apart
@[simp] theorem State.catchUp_freeCount (s : State) : s.catchUp.freeCount = s.freeCount := congrArg (fun x => x.1.freeCount) s.catchUp_apart
@[simp] theorem State.catchUp_ft (s : State) : s.catchUp.sch.ft = s.sch.ft := congrArg (fun x => x.1.sch.ft) s.catchUp_apart
theorem State.catchUp_reg' (s : State) {off : Nat} (h : eventReg off = false) (h' : driftReg off = false) : s.catchUp.reg off = s.reg off := by
  simpa [State.apart, h, h'] using congrArg (fun x => x.2 off) s.catchUp_apart
theorem State.catchUp_reg (s : State) {off : Nat} (h : calmReg off = true) (h' : driftReg off = false) : s.catchUp.reg off = s.reg off :=
  s.catchUp_reg' (eventReg_calm h) h'

@[simp] theorem State.pass_pending (s : State) (n : Nat) : (s.pass n).pending = s.pending := by rw [State.pass]; simp
@[simp] theorem State.pass_cfg (s : State) (n : Nat) : (s.pass n).cfg = s.cfg := by rw [State.pass]; simp
@[simp] theorem State.pass_tnd (s : State) (n : Nat) : (s.pass n).tnd = s.tnd := by rw [State.pass]; simp
@[simp] theorem State.pass_btp (s : State) (n : Nat) : (s.pass n).btp = s.btp := by rw [State.pass]; simp
@[simp] theorem State.pass_mem (s : State) (n : Nat) : (s.pass n).mem = s.mem := by rw [State.pass]; simp
@[simp] theorem State.pass_vwk (s : State) (n : Nat) : (s.pass n).vwk = s.vwk := by rw [State.pass]; simp
@[simp] theorem State.pass_sbd (s : State) (n : Nat) : (s.pass n).sbd = s.sbd := by rw [State.pass]; simp
@[simp] theorem State.pass_crp (s : State) (n : Nat) : (s.pass n).crp = s.crp := by rw [State.pass]; simp
@[simp] theorem State.pass_dbg (s : State) (n : Nat) : (s.pass n).dbg = s.dbg := by rw [State.pass]; simp
@[simp] theorem State.pass_storeFaults (s : State) (n : Nat) : (s.pass n).storeFaults = s.storeFaults := by rw [State.pass]; simp
@[simp] theorem State.pass_freeCount (s : State) (n : Nat) : (s.pass n).freeCount = s.freeCount := by rw [State.pass]; simp
@[simp] theorem State.passTo_pending (s : State) (t : Nat) : (s.passTo t).pending = s.pending := by rw [State.passTo]; simp
@[simp] theorem State.passTo_cfg (s : State) (t : Nat) : (s.passTo t).cfg = s.cfg := by rw [State.passTo]; simp
@[simp] theorem State.passTo_tnd (s : State) (t : Nat) : (s.passTo t).tnd = s.tnd := by rw [State.passTo]; simp
@[simp] theorem State.passTo_btp (s : State) (t : Nat) : (s.passTo t).btp = s.btp := by rw [State.passTo]; simp
@[simp] theorem State.passTo_mem (s : State) (t : Nat) : (s.passTo t).mem = s.mem := by rw [State.passTo]; simp
@[simp] theorem State.passTo_vwk (s : State) (t : Nat) : (s.passTo t).vwk = s.vwk := by rw [State.passTo]; simp
@[simp] theorem State.passTo_sbd (s : State) (t : Nat) : (s.passTo t).sbd = s.sbd := by rw [State.passTo]; simp
@[simp] theorem State.passTo_crp (s : State) (t : Nat) : (s.passTo t).crp = s.crp := by rw [State.passTo]; simp
@[simp] theorem State.passTo_dbg (s : State) (t : Nat) : (s.passTo t).dbg = s.dbg := by rw [State.passTo]; simp
@[simp] theorem State.passTo_storeFaults (s : State) (t : Nat) : (s.passTo t).storeFaults = s.storeFaults := by rw [State.passTo]; simp
@[simp] theorem State.passTo_freeCount (s : State) (t : Nat) : (s.passTo t).freeCount = s.freeCount := by rw [State.passTo]; simp
@[simp] theorem State.passFt_pending (s : State) (t : Nat) : (s.passFt t).pending = s.pending := by rw [State.passFt]; simp
@[simp] theorem State.passFt_cfg (s : State) (t : Nat) : (s.passFt t).cfg = s.cfg := by rw [State.passFt]; simp
@[simp] theorem State.passFt_tnd (s : State) (t : Nat) : (s.passFt t).tnd = s.tnd := by rw [State.passFt]; simp
@[simp] theorem State.passFt_btp (s : State) (t : Nat) : (s.passFt t).btp = s.btp := by rw [State.passFt]; simp
@[simp] theorem State.passFt_mem (s : State) (t : Nat) : (s.passFt t).mem = s.mem := by rw [State.passFt]; simp
@[simp] theorem State.passFt_vwk (s : State) (t : Nat) : (s.passFt t).vwk = s.vwk := by rw [State.passFt]; simp
@[simp] theorem State.passFt_sbd (s : State) (t : Nat) : (s.passFt t).sbd = s.sbd := by rw [State.passFt]; simp
@[simp] theorem State.passFt_crp (s : State) (t : Nat) : (s.passFt t).crp = s.crp := by rw [State.passFt]; simp
@[simp] theorem State.passFt_dbg (s : State) (t : Nat) : (s.passFt t).dbg = s.dbg := by rw [State.passFt]; simp
@[simp] theorem State.passFt_storeFaults (s : State) (t : Nat) : (s.passFt t).storeFaults = s.storeFaults := by rw [State.passFt]; simp
@[simp] theorem State.passFt_freeCount (s : State) (t : Nat) : (s.passFt t).freeCount = s.freeCount := by rw [State.passFt]; simp

/-- Where no drift executes a command, time alone passes. -/
theorem State.catchUp_idle {s : State} (h : s.str.runs = []) : s.catchUp = s := by unfold State.catchUp; simp [h]
theorem State.pass_idle {s : State} (h : s.str.runs = []) (n : Nat) : s.pass n = s.wait n := State.catchUp_idle h
theorem State.passTo_idle {s : State} (h : s.str.runs = []) (t : Nat) : s.passTo t = s.waitTo t := State.catchUp_idle h
theorem State.passFt_idle {s : State} (h : s.str.runs = []) (t : Nat) : s.passFt t = s.waitFt t := State.catchUp_idle h
theorem State.meet_idle {s : State} (h : s.str.runs = []) : s.meet = s := by unfold State.meet; simp [h]

/-! ## Accesses of other requesters to staging memory -/

@[simp] theorem State.meet_apart (s : State) : s.meet.apart = s.apart := by
  unfold State.meet; split
  · rfl
  · dsimp only; rw [State.str_apart]; split <;> simp

theorem State.loseBank_str (s : State) (c b : Nat) : ∃ l, (s.loseBank c b).str = { s.str with lost := l } := by
  unfold State.loseBank; split
  · exact ⟨_, rfl⟩
  · exact ⟨_, rfl⟩

theorem State.loseBank_lnk (s : State) (c b : Nat) : (s.loseBank c b).lnk = s.lnk := by unfold State.loseBank; split <;> rfl

@[simp] theorem State.serveFrom_apart (n : Nat) (s : State) (who : SmemWho) (b c : Nat) :
    (State.serveFrom n s who b c).apart = s.apart := by
  induction n generalizing s c with
  | zero => rfl
  | succ n ih =>
    unfold State.serveFrom; split
    · rw [ih, State.loseBank_apart]
    · rfl

theorem State.serveFrom_lnk (n : Nat) (s : State) (who : SmemWho) (b c : Nat) : (State.serveFrom n s who b c).lnk = s.lnk := by
  induction n generalizing s c with
  | zero => rfl
  | succ n ih =>
    unfold State.serveFrom; split
    · rw [ih, State.loseBank_lnk]
    · rfl

theorem State.serveFrom_runs (n : Nat) (s : State) (who : SmemWho) (b c : Nat) :
    (State.serveFrom n s who b c).str.runs = s.str.runs := by
  induction n generalizing s c with
  | zero => rfl
  | succ n ih =>
    unfold State.serveFrom; split
    · obtain ⟨l, h⟩ := s.loseBank_str c b
      rw [ih, h]
    · dsimp only; split <;> rfl

@[simp] theorem State.serve_apart (s : State) (who : SmemWho) (b : Nat) : (s.serve who b).apart = s.apart := by
  unfold State.serve; split
  · simp
  · dsimp only; rw [State.serveFrom_apart, State.str_apart, State.meet_apart]

/-- Where no drift executes a command, what a service leaves alone. -/
theorem State.serve_idle {s : State} (h : s.str.runs = []) (who : SmemWho) (b : Nat) :
    (s.serve who b).lnk = s.lnk ∧ (s.serve who b).str.runs = [] := by
  unfold State.serve; rw [State.meet_idle h]; split
  · exact ⟨rfl, h⟩
  · dsimp only; rw [State.serveFrom_lnk, State.serveFrom_runs]; exact ⟨rfl, h⟩

@[simp] theorem State.smemPut1_apart (s : State) (a : Nat) (bs : List Byte) (p : Bool) (who : SmemWho) :
    (s.smemPut1 a bs p who).apart = s.apart := by
  unfold State.smemPut1; rw [State.count_apart, State.smemPutRun_apart, State.serve_apart]

theorem State.smemPut1_idle {s : State} (h : s.str.runs = []) (a : Nat) (bs : List Byte) (p : Bool) (who : SmemWho) :
    (s.smemPut1 a bs p who).lnk = s.lnk ∧ (s.smemPut1 a bs p who).str.runs = [] := State.serve_idle h who _

theorem State.smemPut_apart (s : State) (a : Nat) (bs : List Byte) (p : Bool) (who : SmemWho) :
    (s.smemPut a bs p who).apart = s.apart := by
  have h (n : Nat) (s : State) (a : Nat) (bs : List Byte) : (State.smemPutSpan n s a bs p who).apart = s.apart := by
    induction n generalizing s a bs with
    | zero => rfl
    | succ n ih =>
      unfold State.smemPutSpan; split
      · rfl
      · dsimp only; rw [ih, State.smemPut1_apart]
  exact h ..

theorem State.smemPut_idle {s : State} (h : s.str.runs = []) (a : Nat) (bs : List Byte) (p : Bool) (who : SmemWho) :
    (s.smemPut a bs p who).lnk = s.lnk ∧ (s.smemPut a bs p who).str.runs = [] := by
  have e (n : Nat) (s : State) (a : Nat) (bs : List Byte) (h : s.str.runs = []) :
      (State.smemPutSpan n s a bs p who).lnk = s.lnk ∧ (State.smemPutSpan n s a bs p who).str.runs = [] := by
    induction n generalizing s a bs with
    | zero => exact ⟨rfl, h⟩
    | succ n ih =>
      unfold State.smemPutSpan; split
      · exact ⟨rfl, h⟩
      · dsimp only
        have h1 := State.smemPut1_idle h (a % 2 ^ 26) (bs.take (64 - a % 64)) p who
        have h2 := ih _ (a + (64 - a % 64)) (bs.drop (64 - a % 64)) h1.2
        exact ⟨h2.1.trans h1.1, h2.2⟩
  exact e _ _ _ _ h

end Sys2Proof.Machine
end

