-- ==== Sys2Proof/Laws/Memory.lean ====
section
/-! SUPPORT. Every operation on the two memories keeps their canonical form, and the state after reset has it. -/

namespace Sys2Proof.Machine

/-- The canonical form of a memory is kept by a filter of its entries. -/
theorem kwfFrom_filter {α : Type} [DecidableEq α] (d : α) (p : Nat × α → Bool) (m : KMap α) :
    ∀ lo, kwfFrom d lo m = true → kwfFrom d lo (m.filter p) = true := by
  induction m with
  | nil => intro lo h; exact h
  | cons e m ih =>
    obtain ⟨a, v⟩ := e
    intro lo h
    have hm : kwfFrom d (some a) m = true := by
      simp only [kwfFrom, Bool.and_eq_true] at h; exact h.2
    by_cases hp : p (a, v)
    · simp only [List.filter_cons, hp, if_true]
      simp only [kwfFrom, Bool.and_eq_true] at h ⊢
      exact ⟨h.1, ih _ h.2⟩
    · simp only [List.filter_cons, hp]
      have h2 := ih _ hm
      cases lo with
      | none => exact kwfFrom_weaken d h2
      | some l =>
        have hl : l < a := by simp only [kwfFrom, Bool.and_eq_true, decide_eq_true_eq] at h; exact h.1.1
        exact kwfFrom_mono d (Nat.le_of_lt hl) h2

theorem Memory.wf_filter (m : List Host.Cell) (p : Nat × Byte → Bool) (h : Memory.wf m = true) : Memory.wf (m.filter p) = true :=
  kwfFrom_filter 0 p m none h

theorem Memory.wf_corrected (m : List Host.Cell) (ecc : List EccFault) (l n : Nat) (h : Memory.wf m = true) :
    Memory.wf (corrected m ecc l n) = true := by
  unfold corrected
  generalize List.range n = r
  induction r generalizing m with
  | nil => exact h
  | cons i r ih =>
    refine ih _ ?_
    dsimp only
    split
    · exact Memory.wf_set _ _ _ h
    · exact h

theorem Memory.wf_laneWrite (en : Bool) (m : List Host.Cell) (ecc : List EccFault) (a : Nat) (bs : List Byte) (h : Memory.wf m = true) :
    Memory.wf (laneWrite en m ecc a bs).1 = true := by
  unfold laneWrite
  refine Memory.wf_write _ _ _ ?_
  split
  · exact Memory.wf_corrected _ _ _ _ h
  · exact h

/-- Both memories are in canonical form. -/
structure State.MemWf (s : State) : Prop where
  staging : Memory.wf s.str.mem = true
  thread : Memory.wf s.mem.mem = true

theorem State.reset_memWf : State.reset.MemWf := ⟨rfl, rfl⟩

theorem State.MemWf.of_eq {s s' : State} (h : s.MemWf) (h1 : s'.str = s.str) (h2 : s'.mem = s.mem) : s'.MemWf :=
  ⟨h1 ▸ h.staging, h2 ▸ h.thread⟩

theorem State.settle_memWf {s : State} (h : s.MemWf) : s.settle.MemWf := h.of_eq (by simp) (by simp)

theorem State.smemPutRun_memWf {s : State} (h : s.MemWf) (a : Nat) (bs : List Byte) (p : Bool) : (s.smemPutRun a bs p).MemWf :=
  ⟨Memory.wf_laneWrite _ _ _ _ _ h.staging, h.thread⟩

theorem State.smemPutMask_memWf {s : State} (h : s.MemWf) (w : Nat) (runs : List (Nat × List Byte)) (p : Bool) (who : SmemWho) :
    (s.smemPutMask w runs p who).MemWf := by
  have h2 : ∀ (l : List (Nat × List Byte)) (s : State), s.MemWf → (l.foldl (fun a r => a.smemPutRun (64 * w + r.1) r.2 p) s).MemWf := by
    intro l
    induction l with
    | nil => intro s h; exact h
    | cons r l ih => intro s h; exact ih _ (State.smemPutRun_memWf h _ _ _)
  exact ⟨(h2 runs s h).staging, (h2 runs s h).thread⟩

/-! ## The drifts -/

/-- Staging memory alone. -/
def State.smem (s : State) : List Host.Cell := s.str.mem

@[simp] theorem State.count_smem (s : State) (o n : Nat) : (s.count o n).smem = s.smem := rfl
@[simp] theorem State.setDrift_smem (s : State) (d : Nat) (x : Drift) : (s.setDrift d x).smem = s.smem := by
  unfold State.setDrift State.smem; dsimp only; split <;> rfl

@[simp] theorem State.setRun_smem (s : State) (r : Run) : (s.setRun r).smem = s.smem := by
  unfold State.setRun; split
  · rfl
  · refine (foldl_keep State.smem _ (fun a b => ?_) _ _).trans rfl
    show State.smem (ite _ _ _) = _
    have e (x : State) (o : Nat) (v : Word) : (x.setReg o v).smem = x.smem := rfl
    simp only [apply_ite State.smem, State.count_smem, e, ite_self]

@[simp] theorem State.loseBank_smem (s : State) (c b : Nat) : (s.loseBank c b).smem = s.smem := by
  unfold State.loseBank; split <;> rfl

@[simp] theorem State.smemAccess_str (s : State) (w : Nat) (who : SmemWho) : (s.smemAccess w who).2.2.str = s.str := by
  unfold State.smemAccess; extract_lets s1 marked bytes s2
  repeat' split
  all_goals first | rfl | rw [State.raise_str, State.hit_str, State.setF_str, State.count_str]; rfl

@[simp] theorem State.smemAccess_mem (s : State) (w : Nat) (who : SmemWho) : (s.smemAccess w who).2.2.mem = s.mem := by
  unfold State.smemAccess; extract_lets s1 marked bytes s2
  repeat' split
  all_goals first | rfl | rw [State.raise_mem, State.hit_mem, State.setF_mem, State.count_mem]; rfl

/-- The canonical form of staging memory goes on. -/
def State.SmemWf (s : State) : Prop := Memory.wf s.smem = true

theorem State.SmemWf.fold {β : Type} {g : State → β → State} (l : List β) {s : State} (h : s.SmemWf)
    (hg : ∀ a b, State.SmemWf a → State.SmemWf (g a b)) : State.SmemWf (l.foldl g s) := by
  induction l generalizing s with
  | nil => exact h
  | cons b l ih => exact ih (hg s b h)

theorem State.SmemWf.of_eq {a b : State} (h : a.SmemWf) (e : b.smem = a.smem) : b.SmemWf := by unfold State.SmemWf; rw [e]; exact h

theorem State.grant_smemWf {s : State} (h : s.SmemWf) (a : Ask) (c : Nat) (hit : Bool) : (s.grant a c hit).SmemWf := by
  unfold State.grant; split
  · exact h
  · extract_lets; repeat' split
    · exact h
    · refine State.SmemWf.of_eq ?_ (State.setRun_smem ..)
      exact (State.SmemWf.fold (g := fun (a : State) (r : Nat × List Byte) => a.smemPutRun _ r.2 _) _ h fun a b ha =>
        Memory.wf_laneWrite _ _ _ _ _ ha).of_eq rfl
    · rename_i h1
      refine h.of_eq ((State.setRun_smem ..).trans ?_)
      have := State.smemAccess_str s a.word (.drift hit)
      rw [h1] at this
      unfold State.smem; rw [← this]

theorem State.grantSched_smemWf {s : State} (h : s.SmemWf) (c : Nat) : (s.grantSched c).SmemWf := by
  unfold State.grantSched
  refine h.fold _ fun t a ht => ?_
  dsimp only; split
  · exact ht.of_eq (State.loseBank_smem ..)
  · refine State.grant_smemWf (ht.of_eq ?_) ..
    show State.smem (ite _ _ _) = _
    split <;> simp

theorem State.grantRest_smemWf {s : State} (h : s.SmemWf) (c : Nat) : (s.grantRest c).SmemWf := by
  unfold State.grantRest; extract_lets asks winner wins s1 lost s2
  have h1 : s1.SmemWf := h.fold _ fun t a ht => by
    refine State.grant_smemWf ?_ _ _ _
    exact State.SmemWf.of_eq ht rfl
  have h2 : s2.SmemWf := h1.fold _ fun t a ht => ht.of_eq (State.loseBank_smem ..)
  refine h2.fold _ fun t a ht => ?_
  split
  · exact ht.of_eq rfl
  · exact ht

@[simp] theorem State.takeBeats_smem (s : State) (id c : Nat) : (s.takeBeats id c).smem = s.smem := by
  unfold State.takeBeats; split
  · rfl
  · refine foldl_keep _ _ (fun t m => ?_) _ _
    split
    · rfl
    · split
      · rfl
      · extract_lets m1 t1
        have h1 : t1.smem = t.smem := by
          show State.smem (match t.run id with | some y => _ | none => _) = _
          split <;> simp
        split
        · exact h1
        · rw [State.setDrift_smem, h1]

@[simp] theorem State.sendOne_smem (s : State) (r : Run) (m : Member) (x : LateFlit) : (s.sendOne r m x).smem = s.smem := by
  have e (a : State) (g : Nat) (f : LinkGroup → LinkGroup) : (a.modLg g f).smem = a.smem := rfl
  unfold State.sendOne; extract_lets; repeat' split
  all_goals simp [e]

@[simp] theorem State.takeSends_smem (n : Nat) (s : State) (id c : Nat) : (State.takeSends n s id c).smem = s.smem := by
  induction n generalizing s with
  | zero => rfl
  | succ n ih =>
    unfold State.takeSends; split
    · rfl
    · simp [apply_ite State.smem, ih]

@[simp] theorem State.hmpAtOnce_smem (s : State) (p a n src : Nat) (d : Option (List Byte × Bool)) (ok : Bool) (lat : Nat) :
    (s.hmpAtOnce p a n src d ok lat).smem = s.smem := by
  have e (a : State) (o : Out) : (a.emit o).smem = a.smem := rfl
  have m (a : State) (o n : Nat) : (a.countMax o n).smem = a.smem := rfl
  unfold State.hmpAtOnce State.hmpIssue; dsimp only
  cases d <;> simp [apply_ite State.smem, e, m]

@[simp] theorem State.sendWrites_smem (s : State) (io : StreamIo) (src : Nat) (m : Member) (l : List WriteReq) :
    (s.sendWrites io src m l).1.smem = s.smem := by
  induction l generalizing s m with
  | nil => rfl
  | cons r rest ih =>
    unfold State.sendWrites; extract_lets err s1
    have h1 : s1.smem = s.smem := by simp [s1]
    split
    · exact h1
    · rw [ih, h1]

@[simp] theorem State.finishRun_smem (s : State) (r : Run) (c : Nat) : (s.finishRun r c).smem = s.smem := by
  have tail (a : State) (l : List Member) (g : State → Member → Drift) :
      (l.foldl (fun a m => a.setDrift m.d (g a m)) a).smem = a.smem := foldl_keep _ _ (by intros; simp) _ _
  have e (a : State) (l : List Run) : ({ a with str := { a.str with runs := l } } : State).smem = a.smem := rfl
  unfold State.finishRun; extract_lets src s1
  have h1 : s1.smem = s.smem := foldl_keep _ _ (fun a m => foldl_keep _ _ (fun a p => foldl_keep _ _ (by intros; simp) _ _) _ _) _ _
  cases hr : r.term with
  | none => simp only; rw [tail, e, h1]
  | some m =>
    rcases hw : s1.sendWrites r.io (src m) m (writeReqs m.stores.reverse) with ⟨t, m1, err⟩
    have ht : t.smem = s1.smem := by rw [← State.sendWrites_smem s1 r.io (src m) m (writeReqs m.stores.reverse), hw]
    cases err <;> simp only [hw] <;> rw [tail, e, State.setRun_smem, ht, h1]

@[simp] theorem State.runsGo_smem (s : State) (c : Nat) : (s.runsGo c).smem = s.smem := by
  unfold State.runsGo
  refine foldl_keep _ _ (fun a id => ?_) _ _
  extract_lets b c' e
  have h1 : c'.smem = a.smem := by
    show State.smem (match b.run id with | some r => _ | none => _) = _
    split <;> simp [b]
  have h2 : e.smem = a.smem := by simp [e, h1]
  split
  · simp [apply_ite State.smem, h2]
  · exact h2

theorem State.streamCycle_smemWf {s : State} (h : s.SmemWf) (c : Nat) : (s.streamCycle c).SmemWf := by
  have e : (s.streamCycle c).smem = (((s.grantSched c).grantRest c).runsGo c).smem := by unfold State.streamCycle State.smem; rfl
  exact (State.grantRest_smemWf (State.grantSched_smemWf h _) _).of_eq (e.trans (State.runsGo_smem ..))

theorem State.runTo_smemWf (n : Nat) {s : State} (h : s.SmemWf) (t : Nat) : (State.runTo n s t).SmemWf := by
  induction n generalizing s with
  | zero => exact h
  | succ n ih =>
    unfold State.runTo; split
    · exact h
    · split
      · exact ih (State.streamCycle_smemWf h _)
      · exact h

/-- The drifts keep both memories in canonical form while time passes. -/
theorem State.catchUp_memWf {s : State} (h : s.MemWf) : s.catchUp.MemWf := by
  refine ⟨?_, by rw [s.catchUp_mem]; exact h.thread⟩
  unfold State.catchUp; split
  · exact h.staging
  · extract_lets t fuel s1 s2
    have h1 : s1.SmemWf := State.runTo_smemWf _ h.staging _
    have h2 : s2.SmemWf := by
      refine State.runTo_smemWf _ ?_ _
      exact State.SmemWf.of_eq h1 rfl
    exact h2

theorem State.pass_memWf {s : State} (h : s.MemWf) (n : Nat) : (s.pass n).MemWf := State.catchUp_memWf (h.of_eq rfl rfl)
theorem State.passTo_memWf {s : State} (h : s.MemWf) (t : Nat) : (s.passTo t).MemWf := State.catchUp_memWf (h.of_eq rfl rfl)
theorem State.passFt_memWf {s : State} (h : s.MemWf) (t : Nat) : (s.passFt t).MemWf := State.catchUp_memWf (h.of_eq rfl rfl)

theorem State.meet_memWf {s : State} (h : s.MemWf) : s.meet.MemWf := by
  unfold State.meet; split
  · exact h
  · extract_lets s1 t s2
    have h1 : s1.MemWf := State.catchUp_memWf h
    have h2 : s2.SmemWf := by
      show State.SmemWf (ite _ _ _)
      split
      · exact State.grantSched_smemWf h1.staging _
      · exact h1.staging
    have e : s2.mem = s1.mem := by
      show State.mem (ite _ _ _) = _
      split
      · exact congrArg (fun x => x.1.mem) (s1.grantSched_apart t)
      · rfl
    exact ⟨h2, (congrArg (fun m => Memory.wf m.mem) e).trans h1.thread⟩

theorem State.serve_memWf {s : State} (h : s.MemWf) (who : SmemWho) (b : Nat) : (s.serve who b).MemWf := by
  have e (n : Nat) (s : State) (h : s.MemWf) (b c : Nat) : (State.serveFrom n s who b c).MemWf := by
    induction n generalizing s c with
    | zero => exact h
    | succ n ih =>
      unfold State.serveFrom; split
      · refine ih _ ?_ _
        have hl : (s.loseBank c b).mem = s.mem := by unfold State.loseBank; split <;> rfl
        exact ⟨State.SmemWf.of_eq h.staging (State.loseBank_smem ..), hl ▸ h.thread⟩
      · refine ⟨?_, h.thread⟩
        dsimp only; split <;> exact h.staging
  unfold State.serve; split
  · exact State.meet_memWf h
  · refine e _ _ ?_ _ _
    exact ⟨(State.meet_memWf h).staging, (State.meet_memWf h).thread⟩

theorem State.smemPut1_memWf {s : State} (h : s.MemWf) (a : Nat) (bs : List Byte) (p : Bool) (who : SmemWho) :
    (s.smemPut1 a bs p who).MemWf :=
  (State.smemPutRun_memWf (State.serve_memWf h who _) a bs p).of_eq rfl rfl

theorem State.smemPutSpan_memWf (n : Nat) : ∀ {s : State}, s.MemWf → ∀ a bs p who, (State.smemPutSpan n s a bs p who).MemWf := by
  induction n with
  | zero => intro s h _ _ _ _; exact h
  | succ n ih =>
    intro s h a bs p who
    unfold State.smemPutSpan
    split
    · exact h
    · exact ih (State.smemPut1_memWf h _ _ _ _) _ _ _ _

theorem State.smemPut_memWf {s : State} (h : s.MemWf) (a : Nat) (bs : List Byte) (p : Bool) (who : SmemWho) : (s.smemPut a bs p who).MemWf :=
  State.smemPutSpan_memWf _ h _ _ _ _

/-- A read of staging memory keeps both memories in canonical form. -/
theorem State.smemWord_memWf {s : State} (h : s.MemWf) (w : Nat) (who : SmemWho) : (s.smemWord w who).2.2.MemWf :=
  (State.serve_memWf h who (w % 512)).of_eq (State.smemAccess_str ..) (State.smemAccess_mem ..)

theorem State.tmemPut1_memWf {s : State} (h : s.MemWf) (a : Nat) (bs : List Byte) : (s.tmemPut1 a bs).MemWf :=
  ⟨h.staging, Memory.wf_laneWrite _ _ _ _ _ h.thread⟩

theorem State.tmemPutSpan_memWf (n : Nat) : ∀ {s : State}, s.MemWf → ∀ a bs, (State.tmemPutSpan n s a bs).MemWf := by
  induction n with
  | zero => intro s h _ _; exact h
  | succ n ih =>
    intro s h a bs
    unfold State.tmemPutSpan
    split
    · exact h
    · exact ih (State.tmemPut1_memWf h _ _) _ _

theorem State.tmemPut_memWf {s : State} (h : s.MemWf) (a : Nat) (bs : List Byte) : (s.tmemPut a bs).MemWf :=
  State.tmemPutSpan_memWf _ h _ _

theorem State.setWord_memWf {s : State} (h : s.MemWf) (w : Nat) (bs : List Byte) : (s.setWord w bs).MemWf :=
  ⟨h.staging, Memory.wf_write _ _ _ h.thread⟩

/-- A read of a word changes neither memory. -/
theorem State.tmemWord_str (s : State) (w : Nat) : (s.tmemWord w).2.2.str = s.str := by
  unfold State.tmemWord
  dsimp only
  generalize s.flag F.MEM_CFG_ECC_EN = e
  generalize s.mem.poison.contains w = q
  generalize lanesDouble s.mem.ecc w 1 = r
  cases e with
  | false => rw [if_pos (by decide)]
  | true =>
    rw [if_neg (by decide)]
    cases q with
    | true => rw [if_pos rfl]
    | false =>
      rw [if_neg (by decide)]
      cases r with
      | true => rw [if_pos rfl, State.raise_str, State.hit_str, State.setF_str, State.satF_str]
      | false => rw [if_neg (by decide), State.satF_str]

theorem State.tmemWord_mem (s : State) (w : Nat) : (s.tmemWord w).2.2.mem = s.mem := by
  unfold State.tmemWord
  dsimp only
  generalize s.flag F.MEM_CFG_ECC_EN = e
  generalize s.mem.poison.contains w = q
  generalize lanesDouble s.mem.ecc w 1 = r
  cases e with
  | false => rw [if_pos (by decide)]
  | true =>
    rw [if_neg (by decide)]
    cases q with
    | true => rw [if_pos rfl]
    | false =>
      rw [if_neg (by decide)]
      cases r with
      | true => rw [if_pos rfl, State.raise_mem, State.hit_mem, State.setF_mem, State.satF_mem]
      | false => rw [if_neg (by decide), State.satF_mem]

theorem State.scrubStaging_memWf {s : State} (h : s.MemWf) : s.scrubStaging.MemWf := by
  unfold State.scrubStaging
  split
  · exact h
  · have h1 := State.smemWord_memWf h s.str.scrub .scrub
    dsimp only
    refine ⟨?_, h1.thread⟩
    show Memory.wf (ite _ _ _) = true
    split
    · exact Memory.wf_corrected _ _ _ _ h1.staging
    · exact h1.staging

theorem State.scrubThread_memWf {s : State} (h : s.MemWf) : s.scrubThread.MemWf := by
  unfold State.scrubThread
  split
  · exact h
  · have h1 := s.tmemWord_str s.mem.scrub
    have h2 := s.tmemWord_mem s.mem.scrub
    dsimp only
    constructor
    · show Memory.wf (s.tmemWord _).2.2.str.mem = true
      rw [h1]; exact h.staging
    · show Memory.wf (ite _ _ _) = true
      rw [h2]; split
      · exact Memory.wf_corrected _ _ _ _ h.thread
      · exact h.thread

theorem State.clearPartition_memWf {s : State} (h : s.MemWf) : s.clearPartition.MemWf :=
  ⟨h.staging, Memory.wf_filter _ _ h.thread⟩

theorem State.clearMemories_memWf (s : State) : s.clearMemories.MemWf := ⟨rfl, rfl⟩

/-- The record of a meeting changes neither memory. -/
theorem State.meeting_str (s : State) (rw_ : Bool) (w : Nat) : (s.meeting rw_ w).str = s.str := by
  unfold State.meeting
  dsimp only
  generalize (if rw_ = true then (if s.laterPort = 0 then F.MEM_STAT_BUSY_A else F.MEM_STAT_BUSY_B)
    else if s.laterPort = 0 then F.MEM_STAT_WLOST_A else F.MEM_STAT_WLOST_B) = x
  have h : ((((s.hit x).setF F.MEM_CONF_ADDR_ADDR w).setB F.MEM_CONF_ADDR_KIND rw_).setF F.MEM_CONF_ADDR_LATER s.laterPort).str =
      s.str := by
    rw [State.setF_str, State.setB_str, State.setF_str, State.hit_str]
  repeat' split
  all_goals first
    | exact h
    | rw [State.raise_str]; exact h

theorem State.meeting_mem (s : State) (rw_ : Bool) (w : Nat) : (s.meeting rw_ w).mem = s.mem := by
  unfold State.meeting
  dsimp only
  generalize (if rw_ = true then (if s.laterPort = 0 then F.MEM_STAT_BUSY_A else F.MEM_STAT_BUSY_B)
    else if s.laterPort = 0 then F.MEM_STAT_WLOST_A else F.MEM_STAT_WLOST_B) = x
  have h : ((((s.hit x).setF F.MEM_CONF_ADDR_ADDR w).setB F.MEM_CONF_ADDR_KIND rw_).setF F.MEM_CONF_ADDR_LATER s.laterPort).mem =
      s.mem := by
    rw [State.setF_mem, State.setB_mem, State.setF_mem, State.hit_mem]
  repeat' split
  all_goals first
    | exact h
    | rw [State.raise_mem]; exact h

theorem State.noteAcc_memWf {s : State} (h : s.MemWf) (p : Nat) (a : PortAcc) : (s.noteAcc p a).MemWf := ⟨h.staging, h.thread⟩

theorem State.meeting_memWf {s : State} (h : s.MemWf) (rw_ : Bool) (w : Nat) : (s.meeting rw_ w).MemWf :=
  h.of_eq (s.meeting_str rw_ w) (s.meeting_mem rw_ w)

/-- A thread's write at its port, whichever of two accesses of the cycle it is. -/
theorem State.thrWrite_memWf {s : State} (h : s.MemWf) (t c a : Nat) (bs : List Byte) : (s.thrWrite t c a bs).MemWf := by
  unfold State.thrWrite
  dsimp only
  split
  · refine State.noteAcc_memWf (State.meeting_memWf ?_ _ _) _ _
    split
    · exact h
    · exact State.tmemPut1_memWf (State.setWord_memWf h _ _) _ _
  · refine State.noteAcc_memWf (State.tmemPut1_memWf ?_ _ _) _ _
    split
    · exact h
    · exact State.meeting_memWf h _ _

end Sys2Proof.Machine
end

