-- ==== Sys2Proof/Laws/Settled.lean ====
section
/-! SUPPORT. Every command answers a next state in which everything that holds continuously has been made to hold. -/

namespace Sys2Proof.Machine

/-- The outcome is a state that has settled. -/
def Settled (o : Host.Outcome State Fault Refusal) : Prop := ∃ x : State, o = .next x.settle

theorem done_settled (x : State) : Settled (done x) := ⟨x, rfl⟩

theorem exec_settled (i : Instr) (s : State) : Settled (exec i s) := by
  cases i <;> dsimp only [
    exec, execRegisterWrite, execRcFieldRead, execStagingWindowAccess, execTmemWindowAccess, execMarkEpochStart,
    execTimeMarkReceive, execMarkMissing, execHoldoverExpiry, execAcquireTimeout, execWinderTakeover, execRelock,
    execSwapDecisionPoint, execSwapCancel, execShiftBoundary, execReportPublish, execLoadStart, execCfgWord, execCfgTimeout,
    execCrossPhaseDone, execSignaturePhaseDone, execLoadAbort, execDisarm, execArm, execActivate, execExpertUnlock,
    execExpertLock, execLaneRxValidChange, execLinkGroupEnable, execCodewordReceive, execTrainTimeout, execParam,
    execParamAck, execDelayReq, execDelayRsp, execRetrain, execFlitReceive, execEgressSlot, execCreditReturnTimer,
    execAckTimer, execReplayTimeout, execCtrlRepeat, execRemapReq, execRemapGo, execRemapDone, execWidthReq, execWidthAck,
    execRestoreReq, execRestoreAck, execRefuse, execKeyLoad, execKeyErase, execGcmArm, execLinkReset, execDoorbellSq,
    execDoorbellRq, execDoorbellCq, execQueueContextRead, execQueueContextWrite, execQueueFlush, execMessageStart,
    execBFlitLanding, execSend, execWrite, execRead, execAtomic, execReduce, execBarrier, execAckonly,
    execLaterSegmentReceive, execResponseSegmentReceive, execRetxTimeout, execReassemblyTimeout, execAckonlySend,
    execBarrierTimeout, execBarrierRelease, execBarrierReset, execPeerRead, execPeerAdd, execPeerRemove,
    execStreamCommandCommit, execStreamCommandGo, execStreamCopy, execStreamAdd, execStreamSub, execStreamMul,
    execStreamFma, execStreamAxpy, execStreamScale, execStreamMin, execStreamMax, execStreamAbs, execStreamNeg,
    execStreamAnd, execStreamOr, execStreamXor, execStreamCommandEnd, execChainTimeout, execDriftAbort, execDriftFlush,
    execClassSLanding, execStagingScrub, execReduceEntryReset, execTandemEnable, execTandemTrainWord,
    execTandemControlReceive, execTandemMarkReceive, execTandemSegmentReceive, execTandemBadWord, execTandemLost,
    execTandemReadyFlag, execTandemLivenessChange, execTakeDelayExpiry, execTakeover, execPoolSlotGrant,
    execEventAlertEntry, execChannelWaitResume, execEventWaitResume, execStoreDrain, execMqLanding, execThreadStop,
    execThreadStart, execThreadResume, execResumeAlert, execThreadReset, execThreadHalt, execThreadRun, execFaultLogPop,
    execForceReturn, execLampScan, execAllblockDetect, execAluAdd, execAluSub, execAdc, execSbc, execAluAnd, execAluOr,
    execAluXor, execAndn, execAluShl, execAluShr, execAluSar, execAluRor, execAluCmp, execTst, execAluMov, execAluNot,
    execAluNeg, execAluMin, execAluMax, execMinu, execMaxu, execAluClz, execCtz, execAluPopc, execBrev, execBswap, execPerm,
    execAddi, execAndi, execOri, execXori, execCmpi, execMovi, execMovk, execShiShl, execShiShr, execShiSar, execShiRor,
    execExtu, execExts, execIns, execCmpp, execMulu32, execMuls32, execMacs32, execMull64, execMulhu64, execMulhs64,
    execDivu, execDivs, execRemu, execRems, execFadd, execFsub, execFmul, execFma, execFdiv, execFsqrt, execFmin, execFmax,
    execFabs, execFneg, execFcmp, execFcvt, execBranch, execCall, execJmpr, execCallr, execRet, execLoop, execRep, execLdsb,
    execLdsh, execLdsw, execLd, execLdub, execLduh, execLduw, execStb, execSth, execStw, execStd, execAddm, execSubm,
    execCmpm, execAmoFadd, execAmoSwap, execAmoCas, execAmoAnd, execAmoOr, execAmoXor, execAmoSmin, execAmoSmax,
    execAmoUmin, execAmoUmax, execVld, execVst, execVadd, execVsub, execVmul, execVand, execVor, execVxor, execVmin,
    execVmax, execVminu, execVmaxu, execVshl, execVshr, execVsar, execVfadd, execVfsub, execVfmul, execVfma, execVfmin,
    execVfmax, execSetvl, execVbcast, execVext, execVins, execVredadd, execVmv, execChr, execChrn, execChw, execChwl,
    execChwn, execChwln, execTake, execTrytake, execLampReturn, execWaitev, execSigev, execMvs, execMvsw, execNop, execReta,
    execAlert, execBreakWord, execFence, execSpill, execFill, execRegRead, execRegWrite, execShortNop, execShortMov,
    execShortAdd, execShortSub, execShortAnd, execShortOr, execShortXor, execShortCmp, execShortAddi, execShortMovi,
    execShli, execShri, execSari, execShortLd, execShortSt, execLdi, execSti, execMqr, execShortNeg, execShortNot,
    execShortClz, execShortPopc, execBs, execShortMin, execShortMax, execTmemScrub, execTamperAssert, execTamperRelease,
    execLifecycleTransition, execSecureWipeEnd, execMemoryWake, execVwkPing, execVwkIdentReq, execVwkIdent, execVwkClaim,
    execVwkRelease, execVwkChain, execVwkUser, execVwkBadFrame, execVwkSend, execVwkFrameSent, execVwkTxTimeout,
    execVwkClaimStart, execVwkClaimResult, execVwkDetach, execVwkAttn, execVwaLowEnd, execVwkAttention, execVwkStuck,
    execVwkRxPop, execPeEntry, execPeEnable, execPeDisable, execPeFlush, execPeDiscard, execPeFeedWrite, execPeCatchRead,
    execPeProgWrite, execPeBaseWrite, execPePinmapWrite, execPeDepthWrite, execSbOwnerChange, execTimerStep,
    execTimerLapEnd, execTimerExpiry, execTimerEnable, execTimerDisable, execReloadNow, execTimerCapture, execTimerCapRead,
    execHmpRequestTransfer, execHmpReadData, execHmpWriteResponse, execHmpTimeout, execLcBusWord, execLcBusTimeout,
    execScanModeRise, execMbistEnd, execPllLockFall, execPowerAckChange, execPor, execPorMemoryClearDone,
    execMainResetRelease, execImageReapplyDone, execHardReset, execSoftReset, execModeReqStandby, execModeReqTrain,
    execModeReqLock, execModeReqRun, execModeReqDrain, execModeReqRetain, execModeReqSafe, execDrainComplete,
    execDrainTimeout, execWakeRequest, execDroopWarnCross, execDroopHoldEnd, execDroopAllowanceOverrun, execBor,
    execTempUpdate, execHeadPowerLoss, execEvtRaise, execEventPendingClear, execDbgacc, execDebugHalt, execDebugResume,
    execDebugReset, execPllLockRise, execPorNHigh, execMemoryTestStart] <;>
    repeat' (first | with_reducible exact done_settled _ | split)

/-- A step answers a next state, whatever waits. -/
theorem step_next (s : State) : ∃ t, step s = .next t := by
  unfold step
  split
  · exact ⟨_, rfl⟩
  · obtain ⟨x, hx⟩ := exec_settled _ _
    exact ⟨_, hx⟩

end Sys2Proof.Machine
end

