-- ==== Sys2Proof/Laws/Threads.lean ====
section
/-! SUPPORT. Threads: a thread written reads as written and the others as before; landings change MQ registers alone; what the end
of a word and its issue leave alone; and the lemma that says once what a row of an instruction comes to. -/

namespace Sys2Proof.Machine

@[simp] theorem State.thread_setThread_same (s : State) (t : Nat) (x : Thread) : (s.setThread t x).thread t = x := by
  unfold State.thread State.setThread; exact kget_kset_same ..
theorem State.thread_setThread_ne (s : State) {t u : Nat} (x : Thread) (h : u ≠ t) : (s.setThread t x).thread u = s.thread u := by
  unfold State.thread State.setThread; exact kget_kset_ne _ _ _ _ h
@[simp] theorem State.thread_modThread_same (s : State) (t : Nat) (f : Thread → Thread) : (s.modThread t f).thread t = f (s.thread t) :=
  s.thread_setThread_same t _
theorem State.thread_modThread_ne (s : State) {t u : Nat} (f : Thread → Thread) (h : u ≠ t) :
    (s.modThread t f).thread u = s.thread u := s.thread_setThread_ne _ h
@[simp] theorem State.thread_count (s : State) (o n t : Nat) : (s.count o n).thread t = s.thread t := rfl
@[simp] theorem State.thread_wait (s : State) (n t : Nat) : (s.wait n).thread t = s.thread t := rfl
@[simp] theorem State.thread_passFt (s : State) (n t : Nat) : (s.passFt n).thread t = s.thread t := by
  unfold State.thread; rw [State.passFt_btp]

/-- Products that land change MQ registers, and are no longer due. -/
theorem Thread.landTo_eq (x : Thread) (i : Nat) : ∃ m l, x.landTo i = { x with mq := m, mqLand := l } := by
  unfold Thread.landTo; dsimp only
  refine List.foldlRecOn (motive := fun (y : Thread) => ∃ m l, y = { x with mq := m, mqLand := l }) _ _ ⟨x.mq, _, rfl⟩ ?_
  rintro y ⟨m, l, rfl⟩ a -
  exact ⟨_, _, rfl⟩

/-- With no product due, nothing lands. -/
theorem Thread.landTo_none (x : Thread) (i : Nat) (h : ∀ l ∈ x.mqLand, i < l.due) : x.landTo i = x := by
  have h1 : (x.mqLand.filter fun l => decide (l.due ≤ i)) = [] := by
    rw [List.filter_eq_nil_iff]; intro a ha; have := h a ha; simp; omega
  have h2 : (x.mqLand.filter fun l => decide (i < l.due)) = x.mqLand := by
    rw [List.filter_eq_self]; intro a ha; simpa using h a ha
  unfold Thread.landTo; rw [h1, h2]; rfl

/-- A loop end changes loop counts alone. -/
theorem Thread.loopEnd_eq (x : Thread) (next : Nat) (ns : List Nat) : ∃ c n, x.loopEnd next ns = ({ x with lc := c }, n) := by
  induction ns generalizing x with
  | nil => exact ⟨x.lc, next, rfl⟩
  | cons a ns ih =>
    unfold Thread.loopEnd; dsimp only
    split
    · split
      · exact ⟨_, _, rfl⟩
      · obtain ⟨c, n, h⟩ := ih (x.setLc a 0)
        exact ⟨c, n, by rw [h]; rfl⟩
    · exact ih x

theorem Thread.ageSr_eq (x : Thread) : ∃ a b, x.ageSr = { x with sr := a, srNew := b } := ⟨_, _, rfl⟩

/-- No status mode is on its way. -/
theorem Thread.ageSr_none (x : Thread) (h : x.srNew = []) : x.ageSr = x := by
  unfold Thread.ageSr; rw [h]; cases x; simp_all

/-- Where no loop ends at PC, a word's end goes on at `next`. -/
theorem Thread.loopEnd_none (x : Thread) (next : Nat) (ns : List Nat)
    (h : ∀ n ∈ ns, x.lcOf n = 0 ∨ x.leOf n ≠ x.pc.toNat) : x.loopEnd next ns = (x, next) := by
  induction ns with
  | nil => rfl
  | cons a ns ih =>
    have ha := h a (by simp)
    unfold Thread.loopEnd; dsimp only
    rw [if_neg (by rintro ⟨h1, h2⟩; rcases ha with h3 | h3 <;> contradiction)]
    exact ih fun n hn => h n (by simp [hn])

@[simp] theorem State.atSlot_cfg (s : State) (k : Issue) : (s.atSlot k).cfg = s.cfg := by unfold State.atSlot; split <;> simp
@[simp] theorem State.atSlot_mem (s : State) (k : Issue) : (s.atSlot k).mem = s.mem := by unfold State.atSlot; split <;> simp
@[simp] theorem State.atSlot_storeFaults (s : State) (k : Issue) : (s.atSlot k).storeFaults = s.storeFaults := by
  unfold State.atSlot; split <;> simp
@[simp] theorem State.atSlot_thread (s : State) (k : Issue) : (s.atSlot k).thread k.t = (s.thread k.t).landTo k.i := by
  unfold State.atSlot; rw [State.thread_modThread_same]; split
  · rw [State.thread_count, State.thread_passFt]
  · rfl
theorem State.atSlot_thread_ne (s : State) (k : Issue) {u : Nat} (h : u ≠ k.t) : (s.atSlot k).thread u = s.thread u := by
  unfold State.atSlot; rw [State.thread_modThread_ne _ _ h]; split
  · rw [State.thread_count, State.thread_passFt]
  · rfl
theorem State.atSlot_reg (s : State) (k : Issue) {off : Nat} (h : calmReg off = true) (h' : driftReg off = false) :
    (s.atSlot k).reg off = s.reg off := by
  unfold State.atSlot; rw [State.modThread_reg]; split
  · rw [State.count_reg, State.passFt, State.catchUp_reg _ h h']; rfl
  · rfl

/-- The slot of `nextIssue` is a slot of the thread. -/
theorem State.nextIssue_slot {s : State} {t : Nat} {k : Issue} (h : s.nextIssue t = some k) : k = s.slotOf t k.i k.c := by
  unfold State.nextIssue at h; dsimp only at h
  split at h
  · obtain ⟨p, -, rfl⟩ := Option.map_eq_some_iff.1 h; rfl
  · split at h
    · cases h; rfl
    · cases h

theorem Issues.t_eq {s : State} {t : Nat} {k : Issue} (h : Issues s t k) : k.t = t := by
  rw [State.nextIssue_slot h.slot]; rfl
theorem Issues.w_eq {s : State} {t : Nat} {k : Issue} (h : Issues s t k) : k.w = s.wordAt t := by
  rw [State.nextIssue_slot h.slot]; rfl
theorem Issues.full_eq {s : State} {t : Nat} {k : Issue} (h : Issues s t k) : k.full = s.tflag t TF.full := by
  rw [State.nextIssue_slot h.slot]; rfl

theorem State.tflag_congr {a b : State} (h : a.cfg = b.cfg) (t n : Nat) : a.tflag t n = b.tflag t n := by unfold State.tflag; rw [h]
theorem State.isSched_congr {a b : State} (h : a.cfg = b.cfg) (t : Nat) : a.isSched t = b.isSched t := by unfold State.isSched; rw [h]

/-- Nothing that an issue reads of a thread but MQ registers changes when products land. -/
theorem State.wordCtx_atSlot (s : State) (k : Issue) :
    ∃ m l, (s.atSlot k).wordCtx k.t = { s.wordCtx k.t with x := { s.thread k.t with mq := m, mqLand := l } } := by
  obtain ⟨m, l, h⟩ := (s.thread k.t).landTo_eq k.i
  refine ⟨m, l, ?_⟩
  unfold State.wordCtx
  rw [State.tflag_congr (s.atSlot_cfg k), State.tflag_congr (s.atSlot_cfg k), s.atSlot_cfg k, s.atSlot_thread k, h]

theorem legalWord_mq (c : WordCtx) (m : KMap (BitVec 64)) (l : List MqLand) (w : Nat) :
    legalWord { c with x := { c.x with mq := m, mqLand := l } } w = legalWord c w := rfl
theorem wordCost_mq (full : Bool) (x : Thread) (m : KMap (BitVec 64)) (l : List MqLand) (w : Nat) :
    wordCost full { x with mq := m, mqLand := l } w = wordCost full x w := rfl

theorem State.legal_atSlot (s : State) (k : Issue) : legalWord ((s.atSlot k).wordCtx k.t) k.w = legalWord (s.wordCtx k.t) k.w := by
  obtain ⟨m, l, h⟩ := s.wordCtx_atSlot k
  rw [h]; exact legalWord_mq (s.wordCtx k.t) m l k.w

theorem State.costAt_atSlot (s : State) (k : Issue) (w : Nat) : (s.atSlot k).costAt k.t w = s.costAt k.t w := by
  obtain ⟨m, l, h⟩ := s.wordCtx_atSlot k
  obtain ⟨m', l', h'⟩ := (s.thread k.t).landTo_eq k.i
  unfold State.costAt
  rw [h, s.atSlot_thread k, h', State.tflag_congr (s.atSlot_cfg k)]
  rfl

theorem State.wordAt_atSlot (s : State) (k : Issue) : (s.atSlot k).wordAt k.t = s.wordAt k.t := by
  obtain ⟨m, l, h⟩ := (s.thread k.t).landTo_eq k.i
  unfold State.wordAt; rw [s.atSlot_cfg, s.atSlot_thread, h]

theorem State.slotOf_atSlot (s : State) (k : Issue) (i c : Nat) : (s.atSlot k).slotOf k.t i c = s.slotOf k.t i c := by
  obtain ⟨m, l, h⟩ := (s.thread k.t).landTo_eq k.i
  unfold State.slotOf; dsimp only
  rw [s.wordAt_atSlot, s.costAt_atSlot, State.isSched_congr (s.atSlot_cfg k), State.tflag_congr (s.atSlot_cfg k), s.atSlot_cfg,
    s.atSlot_thread, h]
  rfl

theorem State.atSlot_f (s : State) (k : Issue) (x : Fld) (h : calmReg x.off = true) (h' : driftReg x.off = false) :
    (s.atSlot k).f x = s.f x := by unfold State.f; rw [s.atSlot_reg k h h']
theorem State.atSlot_flag (s : State) (k : Issue) (x : Fld) (h : calmReg x.off = true) (h' : driftReg x.off = false) :
    (s.atSlot k).flag x = s.flag x := by unfold State.flag; rw [s.atSlot_f k x h h']
theorem State.atSlot_attached (s : State) (k : Issue) : (s.atSlot k).attached = s.attached := by
  unfold State.attached State.dbgLocked
  rw [s.atSlot_flag k _ (by decide) (by decide), s.atSlot_f k _ (by decide) (by decide)]

theorem State.breakHit_atSlot (s : State) (k : Issue) : (s.atSlot k).breakHit k.t = s.breakHit k.t := by
  obtain ⟨m, l, h⟩ := (s.thread k.t).landTo_eq k.i
  unfold State.breakHit; dsimp only
  rw [s.atSlot_attached, s.atSlot_thread, h]
  split
  · rfl
  · have e : ∀ i < 8, (s.atSlot k).reg (F.DBG_BPi_EN i).off = s.reg (F.DBG_BPi_EN i).off :=
      fun i hi => s.atSlot_reg k (by revert i; decide) (by revert i; decide)
    simp only [show List.range 8 = [0, 1, 2, 3, 4, 5, 6, 7] from rfl, List.find?, State.flag, State.f]
    have e' := fun i hi => e i hi
    simp only [F.DBG_BPi_EN, F.DBG_BPi_PC, F.DBG_BPi_ANY, F.DBG_BPi_THREAD] at e' ⊢
    simp only [e' 0 (by decide), e' 1 (by decide), e' 2 (by decide), e' 3 (by decide), e' 4 (by decide), e' 5 (by decide),
      e' 6 (by decide), e' 7 (by decide)]

/-- A row whose word thread `t` issues in slot `k`, with an outcome that is no overlap: the outcome ends in the state of the slot. -/
theorem State.issue_outcome {s : State} {t : Nat} {k : Issue} {key : Nat × Nat} {r : Res} (h : Issues s t k)
    (hk : (wordOps k.w).isEmpty = true ∨ key ∈ wordOps k.w) (hr : (s.atSlot k).runWord k = r) (ho : r ≠ .overlap) :
    s.issue t key = (s.atSlot k).issueEnd k r := by
  have hw := h.w_eq
  have ht := h.t_eq
  subst ht
  have hin : (s.atSlot k).issueEnd k r =
      (match (s.atSlot k).breakHit k.t with
      | some j => (s.atSlot k).hitHalt k.t j false
      | none =>
        match (s.atSlot k).runWord ((s.atSlot k).slotOf k.t k.i k.c) with
        | .overlap => s
        | q => (s.atSlot k).issueEnd ((s.atSlot k).slotOf k.t k.i k.c) q) := by
    rw [s.breakHit_atSlot, h.noBreak, s.slotOf_atSlot, ← State.nextIssue_slot h.slot, hr]
    cases r <;> first | rfl | exact absurd rfl ho
  have h1 : s.issue k.t key = s.issueNext k.t := by
    unfold State.issue; dsimp only
    rw [← hw, h.can, if_pos]
    rcases hk with h2 | h2
    · simp [h2]
    · simp [h2]
  rw [h1]
  have hs := h.slot
  unfold State.issueNext
  rw [if_neg (by rw [h.sound]; decide)]; dsimp only
  rw [h.noErr]; dsimp only
  unfold State.nextIssue at hs; dsimp only at hs
  · split
    · rename_i hsch
      rw [if_pos hsch] at hs
      obtain ⟨⟨i, c⟩, hn, he⟩ := Option.map_eq_some_iff.1 hs
      rw [hn]; dsimp only
      have hi : k.i = i := by rw [← he]; rfl
      have hc : k.c = c := by rw [← he]; rfl
      have hat : ((s.passFt (2 * c)).count (Cnt.thread k.t 1) (i - (s.thread k.t).own)).modThread k.t (fun x => x.landTo i) = s.atSlot k := by
        unfold State.atSlot; rw [if_pos hsch, hi, hc]
      unfold State.issueIn; dsimp only
      rw [hat, ← hi, ← hc]
      rw [hin, s.breakHit_atSlot, h.noBreak]; dsimp only
      rw [s.slotOf_atSlot, ← State.nextIssue_slot h.slot, hr]
      cases r <;> first | rfl | exact absurd rfl ho
    · rename_i hsch
      rw [if_neg hsch] at hs
      split at hs
      · rename_i hg
        rw [if_neg (by simpa using hg.1)]
        rw [if_neg (by omega)]
        have he : s.slotOf k.t ((s.thread k.t).base - 1) (kget 0 s.btp.nextCyc (pipeOf k.t) - 1) = k := by injection hs
        have hi : k.i = (s.thread k.t).base - 1 := by rw [← he]; rfl
        have hc : k.c = kget 0 s.btp.nextCyc (pipeOf k.t) - 1 := by rw [← he]; rfl
        have hat : (s.modBtp fun b => { b with granted := kset 0 b.granted (pipeOf k.t) 0 }).modThread k.t (fun x => x.landTo k.i) =
            s.atSlot k := by
          unfold State.atSlot; rw [if_neg hsch]
        rw [← hi, ← hc]
        unfold State.issueIn; dsimp only
        rw [hat, hin, s.breakHit_atSlot, h.noBreak]; dsimp only
        rw [s.slotOf_atSlot, ← State.nextIssue_slot h.slot, hr]
        cases r <;> first | rfl | exact absurd rfl ho
      · cases hs

/-! ## Ends of words -/

/-- The state without what a trace record may write. -/
def State.still3 (s : State) : State := { s.still with str := StrState.init, dbg := DbgState.init, lnk := LnkState.init }

theorem State.still3_of_still {a b : State} (h : a.still = b.still) : a.still3 = b.still3 := by unfold State.still3; rw [h]
theorem State.dbg_still3 (s : State) (d : DbgState) : ({ s with dbg := d } : State).still3 = s.still3 := rfl
theorem State.still3_of_apart {a b : State} (h : a.apart = b.apart) : a.still3 = b.still3 :=
  congrArg (fun x : State × (Nat → Word) => { x.1 with sch := SchState.init, dbg := DbgState.init }) h

/-- A trace record leaves the links alone where no drift executes a command, and adds none. -/
def State.Idle (s s' : State) : Prop := s.str.runs = [] → s'.lnk = s.lnk ∧ s'.str.runs = []

theorem State.Idle.trans {a b c : State} (h1 : State.Idle a b) (h2 : State.Idle b c) : State.Idle a c := fun h =>
  ⟨(h2 (h1 h).2).1.trans (h1 h).1, (h2 (h1 h).2).2⟩

theorem State.Idle.of_still {a b : State} (h : b.still = a.still) : State.Idle a b := fun hr => by
  have h1 : b.lnk = a.lnk := by simpa [State.still] using congrArg State.lnk h
  have h2 : b.str = a.str := by simpa [State.still] using congrArg State.str h
  exact ⟨h1, h2 ▸ hr⟩

theorem State.traceFlush_still3 (s : State) (late : Bool) : (s.traceFlush late).still3 = s.still3 := by
  unfold State.traceFlush; dsimp only; split
  · rw [State.dbg_still3]; exact State.still3_of_apart (State.smemPutMask_apart ..)
  · rw [State.dbg_still3]; exact State.still3_of_apart (State.smemPut_apart ..)

theorem State.traceFlush_idle (s : State) (late : Bool) : State.Idle s (s.traceFlush late) := fun h => by
  unfold State.traceFlush; dsimp only; split
  · exact ⟨rfl, h⟩
  · exact State.smemPut_idle h ..

theorem State.traceIndex_still (s : State) (n : Nat) : (s.traceIndex n).still = s.still := by
  unfold State.traceIndex; repeat' split
  · rw [State.raise_still, State.hit_still, State.setF_still]
  · rw [State.hit_still, State.setF_still]
  · rw [State.setF_still]

theorem State.traceGather_still3 (s : State) (late : Bool) (r : BitVec 64) : (s.traceGather late r).still3 = s.still3 := by
  unfold State.traceGather; dsimp only
  split
  · rw [State.traceFlush_still3]; rfl
  · rfl

theorem State.traceGather_idle (s : State) (late : Bool) (r : BitVec 64) : State.Idle s (s.traceGather late r) := by
  unfold State.traceGather; dsimp only
  split
  · exact fun h => State.traceFlush_idle { s with dbg := { s.dbg with trace := s.dbg.trace ++ [r] } } late h
  · exact fun h => ⟨rfl, h⟩

theorem State.traceRecord_still3 (s : State) (late : Bool) (r : BitVec 64) : (s.traceRecord late r).still3 = s.still3 := by
  unfold State.traceRecord; repeat' split
  · rfl
  · rfl
  · rw [State.still3_of_still (State.traceIndex_still ..), State.traceGather_still3]

theorem State.traceRecord_idle (s : State) (late : Bool) (r : BitVec 64) : State.Idle s (s.traceRecord late r) := by
  unfold State.traceRecord; repeat' split
  · exact fun h => ⟨rfl, h⟩
  · exact fun h => ⟨rfl, h⟩
  · exact (s.traceGather_idle late r).trans (.of_still (State.traceIndex_still ..))

theorem State.traceEmpty_idle (s : State) (p c : Nat) : State.Idle s (s.traceEmpty p c) := by
  unfold State.traceEmpty; split
  · exact fun h => ⟨rfl, h⟩
  · extract_lets; split
    · exact State.traceRecord_idle _ _ _
    · exact fun h => ⟨rfl, h⟩

theorem State.traceEmpty_still3 (s : State) (p c : Nat) : (s.traceEmpty p c).still3 = s.still3 := by
  unfold State.traceEmpty; split
  · rfl
  · extract_lets; split
    · exact State.traceRecord_still3 _ _ _
    · rfl

/-- What holds of a state and carries over each step of a fold holds at its end. -/
theorem State.Idle.fold {α : Type} (f : State → α → State) (hf : ∀ a x, State.Idle a (f a x)) (l : List α) (s : State) :
    State.Idle s (l.foldl f s) := by
  induction l generalizing s with
  | nil => exact fun h => ⟨rfl, h⟩
  | cons x l ih => exact (hf s x).trans (ih _)

theorem State.traceFill_idle (s : State) : State.Idle s s.traceFill := by
  unfold State.traceFill; dsimp only; split
  · exact fun h => ⟨rfl, h⟩
  · split
    · exact State.Idle.fold _ (fun a j => (a.traceEmpty_idle 0 (s.dbg.next + j)).trans (State.traceEmpty_idle _ 1 (s.dbg.next + j))) _ s
    · exact fun h => ⟨rfl, h⟩

theorem State.traceFill_still3 (s : State) : s.traceFill.still3 = s.still3 := by
  unfold State.traceFill; dsimp only; split
  · rfl
  · rw [State.dbg_still3]; split
    · exact foldl_keep _ _ (by intros; rw [State.traceEmpty_still3, State.traceEmpty_still3]) _ _
    · rfl

theorem State.trace_idle (s : State) (kind : Nat) (ex : Bool) (p t pc c : Nat) : State.Idle s (s.trace kind ex p t pc c) := by
  unfold State.trace; dsimp only; repeat' split
  · exact fun h => ⟨rfl, h⟩
  · exact s.traceFill_idle.trans
      (State.traceRecord_idle { s.traceFill with dbg := { s.traceFill.dbg with seen := (p, c) :: s.traceFill.dbg.seen } } _ _)
  · exact s.traceFill_idle

theorem State.trace_still3 (s : State) (kind : Nat) (ex : Bool) (p t pc c : Nat) : (s.trace kind ex p t pc c).still3 = s.still3 := by
  unfold State.trace; dsimp only; repeat' split
  · rfl
  · rw [State.traceRecord_still3, State.dbg_still3, State.traceFill_still3]
  · rw [State.dbg_still3, State.traceFill_still3]

/-- With tracing off there is no record. -/
theorem State.trace_off (s : State) (h : s.flag F.DBG_TR_CFG_EN = false) (kind : Nat) (ex : Bool) (p t pc c : Nat) :
    s.trace kind ex p t pc c = s := by
  unfold State.trace; rw [if_pos (by simp [h])]

/-- The issue of a word: its thread, and what it leaves alone. -/
theorem State.issued_thread (s : State) (k : Issue) (pc cost : Nat) (ex : Bool) :
    (s.issued k pc cost ex).thread k.t = k.charge cost (s.thread k.t) := by
  have h (a : State) : (a.trace 1 ex (pipeOf k.t) k.t pc k.c).thread k.t = a.thread k.t := by
    have := congrArg (fun (x : State) => x.thread k.t) (a.trace_still3 1 ex (pipeOf k.t) k.t pc k.c)
    exact this
  unfold State.issued; dsimp only
  rw [State.thread_modThread_same, h]; rfl

/-! ## What a word leaves alone -/

theorem State.btp_still3 {a b : State} (h : a.still3 = b.still3) : a.btp = b.btp := by
  have := congrArg State.btp h; exact this

theorem State.trace_btp (s : State) (kind : Nat) (ex : Bool) (p t pc c : Nat) : (s.trace kind ex p t pc c).btp = s.btp :=
  State.btp_still3 (s.trace_still3 kind ex p t pc c)

theorem OnlyThread.of_same {s s' : State} {t : Nat} (h : s'.still3 = s.still3) (h1 : s.flag F.DBG_TR_CFG_EN = false → s' = s)
    (h2 : State.Idle s s') : OnlyThread s s' t where
  idle hr := (h2 hr).2
  others u _ := by unfold State.thread; rw [State.btp_still3 h]
  chans := by rw [State.btp_still3 h]
  lamps := by rw [State.btp_still3 h]
  flog := by rw [State.btp_still3 h]
  mem := by have := congrArg State.mem h; exact this
  cfg := by have := congrArg State.cfg h; exact this
  lnk hr := (h2 hr).1
  vwk := by have := congrArg State.vwk h; exact this
  sbd := by have := congrArg State.sbd h; exact this
  crp := by have := congrArg State.crp h; exact this
  dbg hf := by rw [h1 hf]
  que := by
    have e : s'.que = s.que := by have := congrArg State.que h; exact this
    rw [e]
  staging hf _ := by rw [h1 hf]
  regs hf _ _ _ := by rw [h1 hf]

theorem OnlyThread.refl (s : State) (t : Nat) : OnlyThread s s t := .of_same rfl (fun _ => rfl) fun h => ⟨rfl, h⟩

theorem OnlyThread.trace_cfg {a b : State} {t : Nat} (h : OnlyThread a b t) (hf : a.flag F.DBG_TR_CFG_EN = false) :
    b.flag F.DBG_TR_CFG_EN = false := by
  unfold State.flag State.f at *; rw [h.regs hf _ (by decide) fun e => absurd e (by decide)]; exact hf

theorem OnlyThread.trans {a b c : State} {t : Nat} (h1 : OnlyThread a b t) (h2 : OnlyThread b c t) : OnlyThread a c t where
  idle hr := h2.idle (h1.idle hr)
  others u hu := (h2.others u hu).trans (h1.others u hu)
  chans := h2.chans.trans h1.chans
  lamps := h2.lamps.trans h1.lamps
  flog := h2.flog.trans h1.flog
  mem := h2.mem.trans h1.mem
  cfg := h2.cfg.trans h1.cfg
  lnk hr := (h2.lnk (h1.idle hr)).trans (h1.lnk hr)
  vwk := h2.vwk.trans h1.vwk
  sbd := h2.sbd.trans h1.sbd
  crp := h2.crp.trans h1.crp
  que := by rw [h2.que, h1.que]
  dbg hf := (h2.dbg (h1.trace_cfg hf)).trans (h1.dbg hf)
  staging hf hr := (h2.staging (h1.trace_cfg hf) (h1.idle hr)).trans (h1.staging hf hr)
  regs hf off ho hd := (h2.regs (h1.trace_cfg hf) off ho fun h => h1.idle (hd h)).trans (h1.regs hf off ho hd)

theorem OnlyThread.of_btp {s s' : State} {t : Nat} (h : { s with btp := s'.btp, sch := s'.sch } = s')
    (ho : ∀ u, u ≠ t → s'.thread u = s.thread u) (hc : s'.btp.chans = s.btp.chans) (hl : s'.btp.lamps = s.btp.lamps)
    (hf : s'.btp.flog = s.btp.flog) : OnlyThread s s' t := by
  have e {α : Type} (f : State → α) : f s' = f { s with btp := s'.btp, sch := s'.sch } := by rw [h]
  exact ⟨fun hr => (e fun x => x.str.runs).trans hr, ho, hc, hl, hf, e State.mem, e State.cfg, fun _ => e State.lnk, e State.vwk, e State.sbd,
    e State.crp, fun _ => e State.dbg, by rw [e State.que], fun _ _ => e State.str, fun _ off _ _ => e fun x => x.reg off⟩

theorem OnlyThread.setThread (s : State) (t : Nat) (x : Thread) : OnlyThread s (s.setThread t x) t :=
  .of_btp rfl (fun _ h => s.thread_setThread_ne x h) rfl rfl rfl

theorem OnlyThread.modThread (s : State) (t : Nat) (f : Thread → Thread) : OnlyThread s (s.modThread t f) t := .setThread s t _

theorem OnlyThread.count (s : State) (t o n : Nat) : OnlyThread s (s.count o n) t := .of_btp rfl (fun _ _ => rfl) rfl rfl rfl

theorem OnlyThread.passFt (s : State) (t n : Nat) : OnlyThread s (s.passFt n) t where
  idle hr := by rw [s.passFt_idle hr]; exact hr
  others u _ := s.thread_passFt n u
  chans := by rw [State.passFt_btp]
  lamps := by rw [State.passFt_btp]
  flog := by rw [State.passFt_btp]
  mem := s.passFt_mem n
  cfg := s.passFt_cfg n
  lnk hr := by rw [s.passFt_idle hr]; rfl
  vwk := s.passFt_vwk n
  sbd := s.passFt_sbd n
  crp := s.passFt_crp n
  dbg _ := s.passFt_dbg n
  que := by rw [State.passFt, State.catchUp_que]; rfl
  staging _ hr := by rw [s.passFt_idle hr]; rfl
  regs _ off h hd := by
    by_cases hr : driftReg off = true
    · rw [s.passFt_idle (hd hr)]; rfl
    · rw [State.passFt, State.catchUp_reg _ h (by simpa using hr)]; rfl

theorem OnlyThread.granted (s : State) (t : Nat) (g : KMap Nat) : OnlyThread s (s.modBtp fun b => { b with granted := g }) t :=
  .of_btp rfl (fun _ _ => rfl) rfl rfl rfl

theorem OnlyThread.atSlot (s : State) (k : Issue) : OnlyThread s (s.atSlot k) k.t := by
  unfold State.atSlot; dsimp only
  split
  · exact ((OnlyThread.passFt ..).trans (.count ..)).trans (.modThread ..)
  · exact (OnlyThread.granted ..).trans (.modThread ..)

theorem OnlyThread.trace (s : State) (kind : Nat) (ex : Bool) (p t pc c u : Nat) : OnlyThread s (s.trace kind ex p t pc c) u :=
  .of_same (s.trace_still3 ..) (fun h => s.trace_off h ..) (s.trace_idle kind ex p t pc c)

theorem OnlyThread.issued (s : State) (k : Issue) (pc cost : Nat) (ex : Bool) : OnlyThread s (s.issued k pc cost ex) k.t := by
  unfold State.issued; dsimp only
  exact (((OnlyThread.count ..).trans (.count ..)).trans (.trace ..)).trans (.modThread ..)

theorem State.leaveWait_none (s : State) (t : Nat) (h : (s.thread t).wait = .none) :
    s.leaveWait t = s.modThread t fun x => { x with wait := .none } := by
  unfold State.leaveWait; dsimp only; rw [h]

theorem OnlyThread.leaveWait (s : State) (t : Nat) (h : (s.thread t).wait = .none) : OnlyThread s (s.leaveWait t) t := by
  rw [s.leaveWait_none t h]; exact .modThread ..

theorem OnlyThread.settle (s : State) (t : Nat) : OnlyThread s s.settle t :=
  ⟨fun h => by rw [s.settle_str]; exact h, fun u _ => s.settle_thread u, s.settle_chans, s.settle_lamps, s.settle_flog, s.settle_mem,
    s.settle_cfg, fun _ => s.settle_lnk, s.settle_vwk, s.settle_sbd, s.settle_crp, fun _ => s.settle_dbg, by rw [s.settle_que],
    fun _ _ => s.settle_str, fun _ _ h _ => s.settle_reg h⟩

/-! ## What a row comes to -/

/-- A lawful word whose condition holds has its effect in the state of its slot. -/
theorem Runs.effect {s : State} {t : Nat} {k : Issue} (h : Runs s t k) : (s.atSlot k).runWord k = wordEff k.w k (s.atSlot k) := by
  have ht := h.t_eq
  subst ht
  obtain ⟨m, l, hl⟩ := (s.thread k.t).landTo_eq k.i
  have hb : (s.atSlot k).badReg k.t k.full k.w = none := by
    unfold State.badReg
    rw [List.find?_eq_none]
    intro r _
    simp [State.storeFault, h.sound]
  unfold State.runWord
  rw [if_neg (by rw [s.legal_atSlot, h.legal]; decide), if_neg ?_, if_neg ?_, hb]
  · rw [s.atSlot_thread, hl]
    have := h.cond
    simp only [Thread.executes, Thread.condHolds, Thread.flags, Thread.srf] at this ⊢
    rw [this]; decide
  · rw [s.atSlot_thread, hl]
    by_cases hp : privWord k.w = true
    · have := h.priv hp
      simp only [Thread.srb] at this ⊢
      rw [hp, this]; decide
    · simp [hp]

theorem Lawful.cost_eq {s : State} {t : Nat} {k : Issue} (h : Lawful s t k) : (s.atSlot k).costAt k.t k.w = k.cost (s.thread t) := by
  have ht := h.t_eq
  subst ht
  rw [s.costAt_atSlot]
  unfold State.costAt Issue.cost
  rw [if_pos, h.full_eq]
  rw [h.legal]
  by_cases hp : privWord k.w = true
  · rw [h.priv hp]; simp
  · simp [hp]

/-- What a row comes to whose word completes with thread `t` at `y`. -/
theorem Runs.completes {s : State} {t : Nat} {k : Issue} (h : Runs s t k) {key : Nat × Nat} (hk : key ∈ wordOps k.w) {s0 s1 : State}
    {y : Thread} (he : wordEff k.w k (s.atSlot k) = .go s1) (hy : s1.thread t = y) (hw : y.wait = .none) (hcf : s1.cfg = s.cfg)
    (ho : OnlyThread s0 s1 t) : Completes (done (s.issue t key)) s s0 t k y := by
  have ht := h.t_eq
  have hc := h.cost_eq
  have hf := h.full_eq
  have hr := h.effect.trans he
  have hi := State.issue_outcome h.toIssues (Or.inr hk) hr (by simp)
  subst ht
  refine ⟨_, rfl, ?_, ?_⟩
  · rw [State.settle_thread, hi]
    unfold State.issueEnd Res.mark State.conclude State.finishInstr; dsimp only
    rw [hc, State.leaveWait_none _ _ (by rw [State.issued_thread, hy]; exact hw), State.thread_modThread_same, State.thread_modThread_same,
      State.issued_thread, hy]
    have hfl : ∀ a : State, a.cfg = s.cfg → a.tflag k.t TF.full = k.full := fun a e => by rw [hf]; exact State.tflag_congr e ..
    rw [hfl]
    · unfold Issue.retire Issue.goOn Issue.charge; rw [hw]
    · exact (OnlyThread.issued s1 k _ _ _).cfg.trans hcf
  · refine OnlyThread.trans ?_ (OnlyThread.settle _ _)
    rw [hi]
    unfold State.issueEnd Res.mark State.conclude State.finishInstr; dsimp only
    refine ho.trans ((OnlyThread.issued ..).trans ((OnlyThread.leaveWait _ _ ?_).trans (.modThread ..)))
    rw [State.issued_thread, hy]; exact hw

/-- The rows whose words name registers of the thread alone. -/
theorem Runs.completes_reg {s : State} {t : Nat} {k : Issue} (h : Runs s t k) {key : Nat × Nat} (hk : key ∈ wordOps k.w)
    {f : Issue → Thread → Thread} (he : wordEff k.w = regEff f) (hw : (f k (s.regsAt k)).wait = .none) :
    Completes (done (s.issue t key)) s s t k (f k (s.regsAt k)) := by
  have ht := h.t_eq
  subst ht
  refine h.completes hk (s1 := (s.atSlot k).modThread k.t (f k)) (by rw [he]; rfl) ?_ hw (s.atSlot_cfg k)
    ((OnlyThread.atSlot s k).trans (.modThread ..))
  rw [State.thread_modThread_same, s.atSlot_thread]; rfl

/-- The rows whose words are branches that the thread takes, with registers of the thread written beside. -/
theorem Runs.branches {s : State} {t : Nat} {k : Issue} (h : Runs s t k) {key : Nat × Nat} (hk : key ∈ wordOps k.w) {s0 s1 : State}
    {y : Thread} {tgt : Nat} (he : wordEff k.w k (s.atSlot k) = .jump s1 tgt) (hy : s1.thread t = y) (hw : y.wait = .none)
    (ho : OnlyThread s0 s1 t) : Branches (done (s.issue t key)) s s0 t k y tgt := by
  have ht := h.t_eq
  have hc := h.cost_eq
  have hr := h.effect.trans he
  have hi := State.issue_outcome h.toIssues (Or.inr hk) hr (by simp)
  subst ht
  have hw' (a b : Nat) (c : Bool) : ((s1.issued k a b c).thread k.t).wait = .none := by rw [State.issued_thread, hy]; exact hw
  refine ⟨_, rfl, ?_, ?_⟩
  · rw [State.settle_thread, hi]
    unfold State.issueEnd Res.mark State.conclude; dsimp only
    rw [hc, State.leaveWait_none _ _ (hw' ..), State.thread_modThread_same, State.thread_modThread_same, State.issued_thread, hy]
    unfold Issue.branchTo Issue.charge; rw [hw]
  · refine OnlyThread.trans ?_ (OnlyThread.settle _ _)
    rw [hi]
    unfold State.issueEnd Res.mark State.conclude; dsimp only
    exact ho.trans ((OnlyThread.issued ..).trans ((OnlyThread.leaveWait _ _ (hw' ..)).trans (.modThread ..)))

/-- A long word of a key that the opcode map has is that operation's word alone, with its effect. -/
theorem wordOps_long {w : Nat} {key : Nat × Nat} {f : Eff} (h : isPair w = false) (hk : longKey w = key) (he : effOf key = some f) :
    key ∈ wordOps w := by
  unfold wordOps; rw [h, hk, he]; simp
theorem wordEff_long {w : Nat} {key : Nat × Nat} {f : Eff} (h : isPair w = false) (hk : longKey w = key) (he : effOf key = some f) :
    wordEff w = f := by
  unfold wordEff; rw [h, hk, he]; simp

/-- The key of a long word, by its major opcode. -/
theorem longKey_fn {w op n : Nat} (h : wOp w = op) (ho : op = 0x01 ∨ op = 0x10 ∨ op = 0x11 ∨ op = 0x1A ∨ op = 0x3E) (hn : wFn w = n) :
    longKey w = (op, n) := by
  unfold longKey; dsimp only; rw [h, if_pos ho, hn]
theorem longKey_shi {w n : Nat} (h : wOp w = 0x0C) (hn : bits w 3 2 = n) : longKey w = (0x0C, n) := by
  unfold longKey; dsimp only; rw [h, hn]; rfl
theorem longKey_movk {w : Nat} (h : 0x08 ≤ wOp w ∧ wOp w ≤ 0x0B) : longKey w = (0x08, 0) := by
  unfold longKey; dsimp only; rw [if_neg (by omega), if_neg (by omega), if_pos h]
theorem longKey_fnOp {w op n : Nat} (h : wOp w = op) (ho : op = 0x12 ∨ op = 0x2C ∨ op = 0x32 ∨ op = 0x33 ∨ op = 0x35) (hn : wFnOp w = n) :
    longKey w = (op, n) := by
  unfold longKey; dsimp only; rw [h, hn, if_neg (by omega), if_neg (by omega), if_neg (by omega), if_pos ho]
theorem longKey_chan {w n : Nat} (h : wOp w = 0x38 ∨ wOp w = 0x39) (hn : bits w 0 4 = n) : longKey w = (0x38, n) := by
  unfold longKey; dsimp only; rw [hn, if_neg (by omega), if_neg (by omega), if_neg (by omega), if_neg (by omega), if_pos h]
theorem longKey_reg {w n : Nat} (h : wOp w = 0x3F) (hn : bits w 0 1 = n) : longKey w = (0x3F, n) := by
  unfold longKey; dsimp only; rw [h, hn]; rfl
theorem longKey_op {w op : Nat} (h : wOp w = op) (ho : op ∈ [0x02, 0x03, 0x04, 0x05, 0x06, 0x07, 0x0D, 0x0E, 0x0F, 0x13, 0x14, 0x18, 0x19, 0x1C,
    0x1D, 0x20, 0x21, 0x22, 0x23, 0x24, 0x25, 0x26, 0x28, 0x29, 0x2A, 0x2B, 0x2D, 0x2E, 0x2F, 0x30, 0x31, 0x34, 0x3C, 0x3D]) :
    longKey w = (op, 0) := by
  unfold longKey; dsimp only; rw [h]
  simp only [List.mem_cons, List.not_mem_nil, or_false] at ho
  rcases ho with rfl | rfl | rfl | rfl | rfl | rfl | rfl | rfl | rfl | rfl | rfl | rfl | rfl | rfl | rfl | rfl | rfl | rfl | rfl | rfl | rfl |
    rfl | rfl | rfl | rfl | rfl | rfl | rfl | rfl | rfl | rfl | rfl | rfl | rfl <;> rfl

/-- The wait of a thread whose registers are written. -/
theorem Runs.regsAt_wait {s : State} {t : Nat} {k : Issue} (h : Runs s t k) : (s.regsAt k).wait = .none := by
  obtain ⟨m, l, hl⟩ := (s.thread k.t).landTo_eq k.i
  unfold State.regsAt; rw [hl]; have := h.idle; rw [← h.t_eq] at this; exact this

end Sys2Proof.Machine
end

