-- ==== Sys2Proof/Machine/Ports.lean ====
section
/-! DEFINITION. The values that neighbours see at the outputs of the block while it does not drive them in operation (R594, R595). -/

namespace Sys2Proof.Machine

/-- The outputs of R594's table, row by row; rows whose signals share their values are one. -/
inductive PortOut where
  /-- Ln_TX_EIDLE. -/
  | txEidle
  /-- Ln_TX_VALID, Ln_TX_PRECODE, Ln_RX_PRECODE, Ln_TX_DATA. -/
  | txOther
  /-- HMPp_RQ_VALID, HMPp_WD_VALID and the fields that they qualify. -/
  | hmpValid
  /-- HMPp_RD_READY, HMPp_RS_READY. -/
  | hmpReady
  | hmpFlush
  | cspAck
  | cspRdata
  | cspErr
  | cfgReady
  /-- TND_TX_CK, TND_TX_DATA, TND_TX_KIND, TND_TX_CRC, TND_LIVE_O. -/
  | tandem
  /-- IRQ[63:0]. -/
  | irq
  /-- PLL_STEER, PLL_STB. -/
  | pll
  /-- CK_CORE_O, CK_CTL_O. -/
  | clocks
  /-- PWR_MAIN_REQ, PWR_RET_REQ, PWR_BOOST. -/
  | power
  | isoEn
  /-- LC_REQ, LC_ADDR. -/
  | lifecycle
  /-- TDO_EN, MBIST_DONE, MBIST_FAIL, SCAN_OUT. -/
  | test
  /-- The output enables of SB0 to SB31. -/
  | sbEnable
  /-- The pull-downs of VWC, VWD, VWA. -/
  | vowick
  deriving DecidableEq, Repr

/-- The conditions of R594's columns, and operation. -/
inductive PortCond where
  | headOff
  | mainOff
  | reset
  | running
  deriving DecidableEq, Repr

/-- The condition that the block is in. -/
def State.portCond (s : State) : PortCond :=
  if !s.crp.headOn then .headOff else if !s.flag F.CRP_PWR_STAT_MAIN_ACK then .mainOff else if !s.crp.mainUp then .reset else .running

/-- The value of output `o` where R594 fixes one: `req` is the level of CSP_REQ, which the clamp passes to CSP_ACK while HEAD is off
(R595). None where the block drives the output: in operation, the headframe's responder, power and lifecycle outputs, the clocks that
run with RCK, and the Vowick wires. ISO_EN and HMP_FLUSH in RESET are what the sequence in progress gives them (R656, R657). -/
def State.portValue (s : State) (req : Bool) (o : PortOut) : Option Nat :=
  match s.portCond with
  | .running => none
  | .reset =>
    match o with
    | .txEidle => some 1
    | .hmpReady => some 1
    | .hmpFlush => some (s.f F.CRP_PWR_STAT_HMP_FLUSH)
    | .isoEn => some (s.f F.CRP_PWR_STAT_ISO_EN)
    | .cspAck => none
    | .cspRdata => none
    | .cspErr => none
    | .clocks => none
    | .power => none
    | .lifecycle => none
    | .vowick => none
    | .txOther | .hmpValid | .cfgReady | .tandem | .irq | .pll | .test | .sbEnable => some 0
  | .mainOff =>
    match o with
    | .txEidle => some 1
    | .hmpReady => some 1
    | .hmpFlush => some 1
    | .isoEn => some 1
    | .cspAck => none
    | .cspRdata => none
    | .cspErr => none
    | .power => none
    | .lifecycle => none
    | .vowick => none
    | .txOther | .hmpValid | .cfgReady | .tandem | .irq | .pll | .clocks | .test | .sbEnable => some 0
  | .headOff =>
    match o with
    | .txEidle => some 1
    | .hmpReady => some 1
    | .hmpFlush => some 1
    | .isoEn => some 1
    | .cspAck => some (b2n req)
    | .cspRdata => some 0xFFFFFFFF
    | .cspErr => some 1
    | .txOther | .hmpValid | .cfgReady | .tandem | .irq | .pll | .clocks | .power | .lifecycle | .test | .sbEnable | .vowick => some 0

end Sys2Proof.Machine
end

