-- ==== Sys2Proof/WellFormed.lean ====
section
/-! DEFINITION. When the operands of a command are those of its row: a write that a row names carries the row's command bits, a
frame its command code, a lane set has 1, 2 or 4 lanes (R157), and lists are in their canonical form. A command that is not well-formed
still has a meaning: the write, the flit or the frame is what it is. -/

namespace Sys2Proof

open Machine (Fld bits)

/-- The field's value in a word that is being written. -/
def fieldIs (data : BitVec 32) (x : Fld) (v : Nat) : Bool := bits data.toNat x.lo x.w == v

/-- The one-bit field is set. -/
def fieldOn (data : BitVec 32) (x : Fld) : Bool := fieldIs data x 1

/-- A CTRL or TRAIN flit with command code `c` (R191). -/
def flitCmd (f : Flit) (c : Nat) : Bool := bits f.pay.toNat 0 16 == c

/-- The numbers rise strictly. -/
def rising : List Nat → Bool
  | a :: b :: l => decide (a < b) && rising (b :: l)
  | _ => true

/-- Answers of the host: bytes by rising address, none zero; pages of 4 KiB and blocks of 128 bytes by their numbers. -/
def StreamIo.ok (io : StreamIo) : Bool := Machine.kwf (0 : Byte) io.bytes && rising io.rdErr && rising io.wrErr && rising io.poison

/-- A Vowick frame of command `c` with at most eight data bytes (R548, R549). -/
def VwkFrame.is (f : VwkFrame) (c : Nat) : Bool := f.cmd.toNat == c && decide (f.len.toNat ≤ 8)

/-- The operands are those of the row; the rows of the last arm admit every value of their operands' types. -/
def Instr.wellFormed (i : Instr) : Bool :=
  match i with
  | .registerWrite _ off size _ => size == 2 && off.toNat % 4 == 0
  | .rcFieldRead _ off size => size == 2 && off.toNat % 4 == 0
  | .stagingWindowAccess _ a => a.size == 2 && a.addr.toNat % 4 == 0
  | .tmemWindowAccess _ a => a.size == 2 && a.addr.toNat % 4 == 0
  | .relock _ d => fieldOn d Machine.F.SCH_TL_CTRL_RELOCK
  | .loadStart _ d => fieldOn d Machine.F.CFG_CTRL_START
  | .loadAbort _ d => fieldOn d Machine.F.CFG_CTRL_ABORT
  | .disarm _ d => fieldOn d Machine.F.CFG_CTRL_DISARM
  | .activate _ d => fieldOn d Machine.F.CFG_CTRL_ACTIVATE
  | .expertUnlock _ d => fieldIs d Machine.F.GLB_CTRL_EXPERT 0x3C5A || fieldIs d Machine.F.GLB_CTRL_EXPERT 0xA5C3
  | .expertLock _ d => fieldIs d Machine.F.GLB_CTRL_EXPERT 0
  | .linkGroupEnable _ g d => fieldOn d (Machine.F.LNK_LGn_CTRL_EN g)
  | .retrain _ g d => fieldOn d (Machine.F.LNK_LGn_CTRL_RETRAIN g)
  | .keyLoad _ g d => fieldOn d (Machine.F.LNK_LGn_KEY_CMD_LOAD g)
  | .keyErase _ g d => fieldOn d (Machine.F.LNK_LGn_KEY_CMD_ERASE g)
  | .linkReset _ d => !fieldIs d Machine.F.CRP_LINK_RST_LG 0
  | .queueContextRead _ d => fieldOn d Machine.F.QUE_CTX_CMD_READ
  | .queueContextWrite _ d => fieldOn d Machine.F.QUE_CTX_CMD_WRITE
  | .queueFlush _ d => fieldOn d Machine.F.QUE_CTX_CMD_FLUSH
  | .barrierRelease _ d => fieldIs d Machine.F.QUE_BAR_CMD_CMD 1
  | .barrierReset _ d => fieldIs d Machine.F.QUE_BAR_CMD_CMD 2
  | .peerRead _ d => fieldOn d Machine.F.QUE_PEER_CMD_READ
  | .peerAdd _ d => fieldOn d Machine.F.QUE_PEER_CMD_ADD
  | .peerRemove _ d => fieldOn d Machine.F.QUE_PEER_CMD_REMOVE
  | .streamCommandGo _ d => fieldOn d Machine.F.STR_CMD_GO_GO
  | .driftAbort _ n d => fieldOn d (Machine.F.STR_Dd_CTRL_ABORT n)
  | .driftFlush _ n d => fieldOn d (Machine.F.STR_Dd_CTRL_FLUSH n)
  | .reduceEntryReset _ d => fieldOn d Machine.F.STR_RED_CMD_RESET
  | .tandemEnable _ d => fieldOn d Machine.F.GLB_TND_CTRL_EN
  | .takeover _ d => fieldOn d Machine.F.GLB_TND_CTRL_TAKEOVER
  | .threadStop _ d => fieldIs d Machine.F.BTP_TH_CMD_CMD 1
  | .threadStart _ d => fieldIs d Machine.F.BTP_TH_CMD_CMD 2
  | .threadResume _ d => fieldIs d Machine.F.BTP_TH_CMD_CMD 3
  | .resumeAlert _ d => fieldIs d Machine.F.BTP_TH_CMD_CMD 4
  | .threadReset _ d => fieldIs d Machine.F.BTP_TH_CMD_CMD 5
  | .threadHalt _ d => fieldIs d Machine.F.BTP_TH_CMD_CMD 6
  | .threadRun _ d => fieldIs d Machine.F.BTP_TH_CMD_CMD 7
  | .faultLogPop _ d => fieldOn d Machine.F.BTP_FLOG_POP_POP
  | .forceReturn _ d => fieldOn d Machine.F.BTP_LAMP_CMD_FORCE_RETURN
  | .lampScan _ d => fieldOn d Machine.F.BTP_LAMP_CMD_SCAN
  | .vwkSend _ d => fieldOn d Machine.F.VWK_CTRL_SEND
  | .vwkDetach _ d => fieldOn d Machine.F.VWK_CTRL_DETACH
  | .vwkAttn _ d => fieldOn d Machine.F.VWK_CTRL_ATTN
  | .vwkRxPop _ d => fieldOn d Machine.F.VWK_RX_POP_POP
  | .vwkClaimStart (.write _ d) => fieldOn d Machine.F.VWK_CTRL_CLAIM
  | .peEnable _ n d => fieldOn d (Machine.F.PEn_CTRL_EN n)
  | .peDisable _ n d => !fieldOn d (Machine.F.PEn_CTRL_EN n)
  | .peFlush _ n d => fieldOn d (Machine.F.PEn_CTRL_FLUSH n)
  | .peDiscard _ n d => fieldOn d (Machine.F.PEn_CTRL_DISCARD n)
  | .timerEnable _ m d => fieldOn d (Machine.F.TMm_CTRL_EN m)
  | .timerDisable _ m d => !fieldOn d (Machine.F.TMm_CTRL_EN m)
  | .reloadNow _ m d => fieldOn d (Machine.F.TMm_CTRL_RELOAD_NOW m)
  | .hardReset _ d => fieldOn d Machine.F.CRP_RST_CTRL_HARD && fieldIs d Machine.F.CRP_RST_CTRL_KEY 0x7E57
  | .softReset _ d => fieldOn d Machine.F.CRP_RST_CTRL_SOFT && fieldIs d Machine.F.CRP_RST_CTRL_KEY 0x7E57
  | .debugHalt _ d => fieldOn d Machine.F.DBG_CTRL_HALT
  | .debugResume _ d => fieldOn d Machine.F.DBG_CTRL_RESUME
  | .debugReset _ d => fieldOn d Machine.F.DBG_CTRL_DBG_RST && fieldIs d Machine.F.DBG_CTRL_KEY 0xDB60
  | .modeReqStandby _ d => fieldIs d Machine.F.CRP_MODE_CTRL_REQ 3
  | .modeReqTrain _ d => fieldIs d Machine.F.CRP_MODE_CTRL_REQ 4
  | .modeReqLock _ d => fieldIs d Machine.F.CRP_MODE_CTRL_REQ 5
  | .modeReqRun _ d => fieldIs d Machine.F.CRP_MODE_CTRL_REQ 6
  | .modeReqDrain _ d => fieldIs d Machine.F.CRP_MODE_CTRL_REQ 8
  | .modeReqRetain _ d => fieldIs d Machine.F.CRP_MODE_CTRL_REQ 9
  | .modeReqSafe _ d => fieldIs d Machine.F.CRP_MODE_CTRL_REQ 11
  | .wakeRequest (.csp d) => fieldIs d Machine.F.CRP_MODE_CTRL_REQ 3
  | .param _ f => flitCmd f 0x10
  | .paramAck _ f => flitCmd f 0x11
  | .delayReq _ f _ => flitCmd f 0x12
  | .delayRsp _ f _ => flitCmd f 0x13
  | .remapReq _ f => flitCmd f 1
  | .remapGo _ f => flitCmd f 2
  | .remapDone _ f => flitCmd f 3
  | .widthReq _ f => flitCmd f 4
  | .widthAck _ f => flitCmd f 5
  | .restoreReq _ f => flitCmd f 6
  | .restoreAck _ f => flitCmd f 7
  | .refuse _ f => flitCmd f 8
  | .streamCopy _ io => io.ok
  | .streamAdd _ io => io.ok
  | .streamSub _ io => io.ok
  | .streamMul _ io => io.ok
  | .streamFma _ io => io.ok
  | .streamAxpy _ io => io.ok
  | .streamScale _ io => io.ok
  | .streamMin _ io => io.ok
  | .streamMax _ io => io.ok
  | .streamAbs _ io => io.ok
  | .streamNeg _ io => io.ok
  | .streamAnd _ io => io.ok
  | .streamOr _ io => io.ok
  | .streamXor _ io => io.ok
  | .vwkPing f => f.is 0
  | .vwkIdentReq f => f.is 1
  | .vwkIdent f => f.is 2
  | .vwkClaim f => f.is 3
  | .vwkRelease f => f.is 5
  | .vwkChain f => f.is 6
  | .vwkUser f => decide (8 ≤ f.cmd.toNat) && decide (f.cmd.toNat ≤ 14) && decide (f.len.toNat ≤ 8)
  | .dbgacc dr => bits dr.toNat 32 2 == 0
  | .codewordReceive _ _ cw skew => [1, 2, 4].contains cw.length && skew.length == cw.length
  | .markEpochStart .. | .timeMarkReceive .. | .markMissing .. | .holdoverExpiry .. | .acquireTimeout ..
  | .winderTakeover .. | .swapDecisionPoint .. | .swapCancel .. | .shiftBoundary .. | .reportPublish .. | .cfgWord ..
  | .cfgTimeout .. | .crossPhaseDone .. | .signaturePhaseDone .. | .arm .. | .laneRxValidChange ..
  | .trainTimeout .. | .flitReceive .. | .egressSlot .. | .creditReturnTimer .. | .ackTimer .. | .replayTimeout ..
  | .ctrlRepeat .. | .gcmArm .. | .doorbellSq .. | .doorbellRq .. | .doorbellCq .. | .messageStart .. | .bFlitLanding ..
  | .send .. | .write .. | .read .. | .atomic .. | .reduce .. | .barrier .. | .ackonly .. | .laterSegmentReceive ..
  | .responseSegmentReceive .. | .retxTimeout .. | .reassemblyTimeout .. | .ackonlySend .. | .barrierTimeout ..
  | .streamCommandCommit .. | .streamCommandEnd .. | .chainTimeout .. | .classSLanding .. | .stagingScrub ..
  | .tandemTrainWord .. | .tandemControlReceive .. | .tandemMarkReceive .. | .tandemSegmentReceive .. | .tandemBadWord ..
  | .tandemLost .. | .tandemReadyFlag .. | .tandemLivenessChange .. | .takeDelayExpiry .. | .poolSlotGrant ..
  | .eventAlertEntry .. | .channelWaitResume .. | .eventWaitResume .. | .storeDrain .. | .mqLanding .. | .allblockDetect ..
  | .aluAdd .. | .aluSub .. | .adc .. | .sbc .. | .aluAnd .. | .aluOr .. | .aluXor .. | .andn .. | .aluShl .. | .aluShr ..
  | .aluSar .. | .aluRor .. | .aluCmp .. | .tst .. | .aluMov .. | .aluNot .. | .aluNeg .. | .aluMin .. | .aluMax ..
  | .minu .. | .maxu .. | .aluClz .. | .ctz .. | .aluPopc .. | .brev .. | .bswap .. | .perm .. | .addi .. | .andi ..
  | .ori .. | .xori .. | .cmpi .. | .movi .. | .movk .. | .shiShl .. | .shiShr .. | .shiSar .. | .shiRor .. | .extu ..
  | .exts .. | .ins .. | .cmpp .. | .mulu32 .. | .muls32 .. | .macs32 .. | .mull64 .. | .mulhu64 .. | .mulhs64 .. | .divu ..
  | .divs .. | .remu .. | .rems .. | .fadd .. | .fsub .. | .fmul .. | .fma .. | .fdiv .. | .fsqrt .. | .fmin .. | .fmax ..
  | .fabs .. | .fneg .. | .fcmp .. | .fcvt .. | .branch .. | .call .. | .jmpr .. | .callr .. | .ret .. | .loop .. | .rep ..
  | .ldsb .. | .ldsh .. | .ldsw .. | .ld .. | .ldub .. | .lduh .. | .lduw .. | .stb .. | .sth .. | .stw .. | .std ..
  | .addm .. | .subm .. | .cmpm .. | .amoFadd .. | .amoSwap .. | .amoCas .. | .amoAnd .. | .amoOr .. | .amoXor ..
  | .amoSmin .. | .amoSmax .. | .amoUmin .. | .amoUmax .. | .vld .. | .vst .. | .vadd .. | .vsub .. | .vmul .. | .vand ..
  | .vor .. | .vxor .. | .vmin .. | .vmax .. | .vminu .. | .vmaxu .. | .vshl .. | .vshr .. | .vsar .. | .vfadd ..
  | .vfsub .. | .vfmul .. | .vfma .. | .vfmin .. | .vfmax .. | .setvl .. | .vbcast .. | .vext .. | .vins .. | .vredadd ..
  | .vmv .. | .chr .. | .chrn .. | .chw .. | .chwl .. | .chwn .. | .chwln .. | .take .. | .trytake .. | .lampReturn ..
  | .waitev .. | .sigev .. | .mvs .. | .mvsw .. | .nop .. | .reta .. | .alert .. | .breakWord .. | .fence .. | .spill ..
  | .fill .. | .regRead .. | .regWrite .. | .shortNop .. | .shortMov .. | .shortAdd .. | .shortSub .. | .shortAnd ..
  | .shortOr .. | .shortXor .. | .shortCmp .. | .shortAddi .. | .shortMovi .. | .shli .. | .shri .. | .sari .. | .shortLd ..
  | .shortSt .. | .ldi .. | .sti .. | .mqr .. | .shortNeg .. | .shortNot .. | .shortClz .. | .shortPopc .. | .bs ..
  | .shortMin .. | .shortMax .. | .tmemScrub .. | .tamperAssert .. | .tamperRelease .. | .lifecycleTransition ..
  | .secureWipeEnd .. | .memoryWake .. | .vwkBadFrame .. | .vwkFrameSent .. | .vwkTxTimeout .. | .vwkClaimStart ..
  | .vwkClaimResult .. | .vwaLowEnd .. | .vwkAttention .. | .vwkStuck .. | .peEntry .. | .peFeedWrite .. | .peCatchRead ..
  | .peProgWrite .. | .peBaseWrite .. | .pePinmapWrite .. | .peDepthWrite .. | .sbOwnerChange .. | .timerStep ..
  | .timerLapEnd .. | .timerExpiry .. | .timerCapture .. | .timerCapRead .. | .hmpRequestTransfer .. | .hmpReadData ..
  | .hmpWriteResponse .. | .hmpTimeout .. | .lcBusWord .. | .lcBusTimeout .. | .scanModeRise .. | .mbistEnd ..
  | .pllLockFall .. | .powerAckChange .. | .por .. | .porMemoryClearDone .. | .mainResetRelease .. | .imageReapplyDone ..
  | .drainComplete .. | .drainTimeout .. | .wakeRequest .. | .droopWarnCross .. | .droopHoldEnd ..
  | .droopAllowanceOverrun .. | .bor .. | .tempUpdate .. | .headPowerLoss .. | .evtRaise .. | .eventPendingClear ..
  | .pllLockRise .. | .porNHigh .. | .memoryTestStart .. => true

end Sys2Proof
end

