-- ==== Sys2Proof/Tests/Slice0.lean ====
section
/-! SUPPORT. Tests of single commands, of well-formedness, and states that meet the hypotheses of the statements: a theorem
`witness_X` shows, for each clause of `Obligations.X` with hypotheses of its own, a state and operands that meet them together. -/

namespace Sys2Proof.Tests
open Sys2Proof Sys2Proof.Machine

/-! ## States of threads -/

/-- An image with thread `t` in slot 0 of its pipe's roster, its thread entry with flags `flags`, and the text `code`. -/
def textImage (t flags : Nat) (code : List Nat) : Half :=
  let entry := natLe 2 flags ++ natLe 2 0x300 ++ natLe 4 0 ++ natLe 4 0x100 ++ natLe 4 0x1000 ++ natLe 4 0x200 ++ natLe 4 0x2000 ++
    natLe 2 0x80 ++ natLe 2 2 ++ natLe 4 0
  { hdr := none, sects := [
      { idx := 0, typ := 1, inst := 0, dest := 0, bytes := (List.replicate (t + 4) entry).flatten },
      { idx := 0, typ := 2, inst := pipeOf t, dest := 0, bytes := natLe 2 (2 * t) },
      { idx := 0, typ := 14, inst := 0, dest := 0, bytes := code.flatMap (natLe 4) }] }

/-- The block up in mode FULL, nothing asleep or wiped, an image active. -/
def up (h : Half) : State :=
  let s : State := { State.reset with
    cfg := { State.reset.cfg with active := h, imageActive := true }
    crp := { State.reset.crp with mainUp := true, headOn := true, seq := none } }
  ((((s.setF F.CRP_MODE_MODE 6).setF F.MEM_STAT_WAKE_T 0).setF F.MEM_STAT_WAKE_S 0).setB F.MEM_SEC_STAT_ACTIVE false).setF
    F.QUE_PEER_CFG_MAX 0

/-- Thread `t` ready at the first word of `code` with what `f` makes of its registers. -/
def run (t flags : Nat) (code : List Nat) (f : Thread → Thread) : State :=
  (up (textImage t flags code)).modThread t fun x => f { x with st := TST.ready, started := true, sp := 0x1000, sr := 0x400 }

/-- Registers by their codes in the full profile. -/
def regs (l : List (Nat × Nat)) (x : Thread) : Thread :=
  { x with gpr := l.foldl (fun m p => kset 0 m (x.idx true p.1) (BitVec.ofNat 64 p.2)) x.gpr }

/-- Thread 2, of the full profile with vectors, a shadow stack and a handler, at the word `w`. -/
def one (w : Nat) : State := run 2 0x1F [w] (regs [(0, 3), (1, 0x100), (2, 77)])

/-- Thread 2 with neither a handler nor the handling of its own faults, at the word `w`. -/
def bare (w : Nat) : State := run 2 0x0F [w] (regs [(0, 3), (1, 0x100), (2, 77)])

/-- The slot in which thread `t` issues, and thread 2. -/
def slotAt (s : State) (t : Nat) : Issue := (s.nextIssue t).getD { t := t, i := 0, c := 0, last := 0, w := 0, full := false }
def at2 (s : State) : Issue := slotAt s 2

/-- A long word. -/
def word (op rd ra rb fn : Nat) : Nat := op * 2 ^ 21 + rd * 2 ^ 16 + ra * 2 ^ 11 + rb * 2 ^ 6 + fn

/-- A pair of short operations. -/
def pair (p q : Nat) : Nat := 2 ^ 31 + p * 2 ^ 16 + q * 2

/-- A short operation. -/
def short (cond op rd rs : Nat) : Nat := cond * 2 ^ 13 + op * 2 ^ 8 + rd * 16 + rs

def issuesB (s : State) (t : Nat) (k : Issue) : Bool :=
  s.canIssue t && decide (s.nextIssue t = some k) && s.storeFaults.isEmpty && (s.thread t).storeErr.isNone && (s.breakHit t).isNone

theorem issues_of {s : State} {t : Nat} {k : Issue} (h : issuesB s t k = true) : Issues s t k := by
  constructor <;> simp_all [issuesB]

def lawfulB (s : State) (t : Nat) (k : Issue) : Bool :=
  issuesB s t k && legalWord (s.wordCtx t) k.w && (!privWord k.w || (s.thread t).srb SR.priv)

theorem lawful_of {s : State} {t : Nat} {k : Issue} (h : lawfulB s t k = true) : Lawful s t k := by
  simp [lawfulB, Bool.and_eq_true] at h
  obtain ⟨⟨h1, h2⟩, h3⟩ := h
  exact { issues_of h1 with
    legal := h2, priv := fun h => by cases h3 with | inl h' => simp [h] at h' | inr h' => exact h' }

def runsB (s : State) (t : Nat) (k : Issue) : Bool :=
  lawfulB s t k && (s.thread t).executes k.w && decide ((s.thread t).wait = .none)

theorem runs_of {s : State} {t : Nat} {k : Issue} (h : runsB s t k = true) : Runs s t k := by
  simp [runsB, Bool.and_eq_true] at h
  exact { lawful_of h.1.1 with cond := h.1.2, idle := h.2 }

def clearB (s : State) (t : Nat) (k : Issue) (a n : Nat) : Bool :=
  s.permits (k.acc s) false a n && decide (s.watched t false a n = none) && !(s.thread t).overlaps a n && decide (a < 2 ^ 63) &&
    !s.secHeld && s.mem.ecc.isEmpty && s.str.ecc.isEmpty && s.mem.poison.isEmpty && s.str.poison.isEmpty &&
    ((kget [] s.mem.lastAcc (1 - pipeOf t)).all fun e => decide (e.cyc ≠ k.c)) && decide (s.f F.QUE_PEER_CFG_MAX = 0) &&
    s.str.runs.isEmpty

theorem clear_of {s : State} {t : Nat} {k : Issue} {a n : Nat} (h : clearB s t k a n = true) : Clear s t k a n := by
  constructor <;> simp_all [clearB]

def clearWriteB (s : State) (t : Nat) (k : Issue) (a n : Nat) : Bool :=
  clearB s t k a n && s.permits (k.acc s) true a n && decide (s.watched t true a n = none)

theorem clearWrite_of {s : State} {t : Nat} {k : Issue} {a n : Nat} (h : clearWriteB s t k a n = true) : ClearWrite s t k a n := by
  simp only [clearWriteB, Bool.and_eq_true, decide_eq_true_eq] at h
  exact { clear_of h.1.1 with write := h.1.2, noWatchWr := h.2 }

def faultStopsB (s : State) (t : Nat) (x : Thread) : Bool :=
  decide (t ≠ 0) && !s.tflag t TF.faultSelf && !x.srb SR.al && !s.badStack t && x.stores.isEmpty && decide (s.btp.flog.length < 32)

theorem faultStops_of {s : State} {t : Nat} {x : Thread} (h : faultStopsB s t x = true) : FaultStops s t x := by
  constructor <;> simp_all [faultStopsB]

def handlerReadyB (s : State) (t : Nat) (x : Thread) : Bool :=
  s.tflag t TF.handler && !x.srb SR.al && !s.badStack t && x.stores.isEmpty

theorem handlerReady_of {s : State} {t : Nat} {x : Thread} (h : handlerReadyB s t x = true) : HandlerReady s t x := by
  constructor <;> simp_all [handlerReadyB]

/-- Each element of `l` has `P`, checked, and `Q`, by its check `q`. -/
theorem each {α : Type} {q : α → Bool} {Q P : α → Prop} [DecidablePred P] {l : List α} (hq : ∀ a, q a = true → Q a)
    (h : (l.all fun a => q a && decide (P a)) = true) : ∀ a ∈ l, Q a ∧ P a := by
  intro a ha
  have h1 := List.all_eq_true.1 h a ha
  simp only [Bool.and_eq_true, decide_eq_true_eq] at h1
  exact ⟨hq a h1.1, h1.2⟩

/-- The same with two conditions by their checks. -/
theorem each₂ {α : Type} {q r : α → Bool} {Q R P : α → Prop} [DecidablePred P] {l : List α} (hq : ∀ a, q a = true → Q a)
    (hr : ∀ a, r a = true → R a) (h : (l.all fun a => (q a && r a) && decide (P a)) = true) : ∀ a ∈ l, Q a ∧ R a ∧ P a := by
  intro a ha
  have h1 := List.all_eq_true.1 h a ha
  simp only [Bool.and_eq_true, decide_eq_true_eq] at h1
  exact ⟨hq a h1.1.1, hr a h1.1.2, h1.2⟩

set_option maxRecDepth 20000
set_option Elab.async false

/-! ## Hypotheses of the statements on instructions -/

theorem witness_AluSumsAndLogic : ∀ fn ∈ [0x00, 0x01, 0x02, 0x03, 0x0C, 0x10, 0x04, 0x05, 0x06, 0x07, 0x0F, 0x0D],
    Runs (one (word 0x01 0 1 0 fn)) 2 (at2 (one (word 0x01 0 1 0 fn))) ∧
      (let k := at2 (one (word 0x01 0 1 0 fn)); isPair k.w = false ∧ wOp k.w = 0x01 ∧ wFn k.w = fn) :=
  each (fun _ => runs_of) (by decide +kernel)

/-- Counts 0 and 63 of the SHI forms, and counts 3 of the ALU forms. -/
theorem witness_ShiftsAndTheirFlags :
    (∀ fn ∈ [0x08, 0x09, 0x0A, 0x0B], Runs (one (word 0x01 2 1 0 fn)) 2 (at2 (one (word 0x01 2 1 0 fn))) ∧
      (let k := at2 (one (word 0x01 2 1 0 fn)); isPair k.w = false ∧ wOp k.w = 0x01 ∧ wFn k.w = fn)) ∧
    (∀ p ∈ [(0, 0), (1, 0), (2, 0), (3, 0), (0, 63), (1, 63), (2, 63), (3, 63)],
      Runs (one (word 0x0C 2 1 0 (32 * p.2 + 8 * p.1))) 2 (at2 (one (word 0x0C 2 1 0 (32 * p.2 + 8 * p.1)))) ∧
      (let k := at2 (one (word 0x0C 2 1 0 (32 * p.2 + 8 * p.1)))
       isPair k.w = false ∧ wOp k.w = 0x0C ∧ bits k.w 3 2 = p.1 ∧ bits k.w 5 6 = p.2)) :=
  ⟨each (fun _ => runs_of) (by decide +kernel), each (fun _ => runs_of) (by decide +kernel)⟩

theorem witness_AluMovesAndCounts : ∀ fn ∈ [0x0E, 0x11, 0x12, 0x13, 0x14, 0x15, 0x16, 0x17, 0x18, 0x19, 0x1A],
    Runs (one (word 0x01 2 1 0 fn)) 2 (at2 (one (word 0x01 2 1 0 fn))) ∧
      (let k := at2 (one (word 0x01 2 1 0 fn)); isPair k.w = false ∧ wOp k.w = 0x01 ∧ wFn k.w = fn) :=
  each (fun _ => runs_of) (by decide +kernel)

/-- Each immediate and field form; the field at 0 of one bit, and the field that ends at bit 63. -/
theorem witness_ImmediatesFieldsAndPredicates : ∀ p ∈ [(0x02, word 0x02 2 1 0 0), (0x03, word 0x03 2 1 31 63), (0x04, word 0x04 2 1 0 1),
      (0x05, word 0x05 2 1 16 0), (0x06, word 0x06 0 1 0 0), (0x07, word 0x07 2 0 0 5), (0x08, word 0x08 2 0 0 5),
      (0x0B, word 0x0B 2 31 31 63), (0x0D, word 0x0D 2 1 0 0), (0x0E, word 0x0E 2 1 0 0 + 63 * 32), (0x0F, word 0x0F 2 1 0 31 + 32 * 32),
      (0x14, 0x14 * 2 ^ 21 + 3 * 2 ^ 19 + 1 * 2 ^ 15 + 2 * 2 ^ 10 + 1 * 2 ^ 5),
      (0x14, 0x14 * 2 ^ 21 + 0xB * 2 ^ 15 + 2 * 2 ^ 10 + 1 * 2 ^ 5)],
    Runs (one p.2) 2 (at2 (one p.2)) ∧ (let k := at2 (one p.2); isPair k.w = false ∧ wOp k.w = p.1 ∧ k.w = p.2) :=
  each (fun _ => runs_of) (by decide +kernel)

/-- Thread 2 with products on their way. -/
def landing (l : List MqLand) : State := (one 0).modThread 2 fun x => { x with mqLand := l }

theorem witness_MultipliesAndLandings :
    (∀ fn ∈ [0, 1, 2, 3, 4, 5], Runs (one (word 0x10 0 1 2 fn)) 2 (at2 (one (word 0x10 0 1 2 fn))) ∧
      (let k := at2 (one (word 0x10 0 1 2 fn)); isPair k.w = false ∧ wOp k.w = 0x10 ∧ wFn k.w = fn)) ∧
    (∀ l ∈ [({ mq := 3, due := 7, value := 5, acc := true } : MqLand), { mq := 0, due := 0, value := 5, acc := false }],
      ((landing [l]).thread 2).mqLand = [l] ∧ l.due ≤ 7 ∧ (landing [l]).isSched 2 = true) ∧
    (let l : MqLand := { mq := 1, due := 4, value := 5, acc := true }
     let m : MqLand := { mq := 1, due := 4, value := 6, acc := false }
     ((landing [l, m]).thread 2).mqLand = [l, m] ∧ l.mq = m.mq ∧ l.due = m.due ∧ l.due ≤ 4 ∧ m.acc = false ∧
     ∀ e ∈ ((landing [l, m]).thread 2).mqLand, 3 < e.due) :=
  ⟨each (fun _ => runs_of) (by decide +kernel), by decide +kernel, by decide +kernel⟩

/-- A divisor of 3 and of 0 with no trap enabled. -/
theorem witness_DivisionsAndRemainders : ∀ p ∈ [(0, 0), (1, 0), (2, 0), (3, 0), (0, 5), (1, 5), (2, 5), (3, 5)],
    Runs (one (word 0x11 2 1 p.2 p.1)) 2 (at2 (one (word 0x11 2 1 p.2 p.1))) ∧
      (let s := one (word 0x11 2 1 p.2 p.1); let k := at2 s; let x := s.regsAt k
       isPair k.w = false ∧ wOp k.w = 0x11 ∧ wFn k.w = p.1 ∧ (k.rb x = 0 ↔ p.2 = 5) ∧
       (if k.rb x = 0 then FF.dz else 0) &&& x.srf SR.fe 5 = 0) :=
  each (fun _ => runs_of) (by decide +kernel)

/-- Thread 2 dividing by zero with every trap enabled. -/
def trapping : State := run 2 0x1F [word 0x11 2 1 5 0] fun x => { x with sr := 0x0F800400 }

theorem witness_FloatingPointAndItsTraps :
    (∀ p ∈ [(0x0, 0), (0x1, 1), (0x2, 2), (0x3, 3), (0x4, 0), (0x5, 0), (0x6, 0), (0x7, 0), (0x8, 0), (0x9, 3)],
      Runs (one (word 0x12 2 1 0 (4 * p.1 + p.2))) 2 (at2 (one (word 0x12 2 1 0 (4 * p.1 + p.2)))) ∧
      (let s := one (word 0x12 2 1 0 (4 * p.1 + p.2)); let k := at2 s
       isPair k.w = false ∧ wOp k.w = 0x12 ∧ wFnOp k.w = p.1 ∧ wFnW k.w = p.2 ∧ (s.regsAt k).srf SR.fe 5 = 0)) ∧
    (∀ s ∈ [trapping], Runs s 2 (at2 s) ∧ (let k := at2 s; let x := s.regsAt k
      isPair k.w = false ∧ wOp k.w = 0x11 ∧ wFn k.w = 0 ∧ k.rb x = 0 ∧ Nat.testBit (x.srf SR.fe 5) 1 = true ∧ x.stores = [] ∧
      s.tflag 2 TF.handler = true ∧ x.srb SR.al = false ∧ s.badStack 2 = false)) :=
  ⟨each (fun _ => runs_of) (by decide +kernel), each (fun _ => runs_of) (by decide +kernel)⟩

/-- FCMP of a lesser, an equal, a greater number and a NaN; FCVT between formats, to an integer and from one. -/
theorem witness_ComparesAndConversions :
    (∀ p ∈ [(0x3FF0000000000000, 0x4000000000000000, some (-1)), (0, 0x8000000000000000, some 0),
        (0x4000000000000000, 0x3FF0000000000000, some 1), (0x7FF8000000000000, 0, none)],
      Runs (run 2 0x1F [word 0x12 0 1 2 0x28] (regs [(1, p.1), (2, p.2.1)])) 2
        (at2 (run 2 0x1F [word 0x12 0 1 2 0x28] (regs [(1, p.1), (2, p.2.1)]))) ∧
      (let s := run 2 0x1F [word 0x12 0 1 2 0x28] (regs [(1, p.1), (2, p.2.1)]); let k := at2 s; let x := s.regsAt k
       isPair k.w = false ∧ wOp k.w = 0x12 ∧ wFnOp k.w = 0xA ∧ wFnW k.w = 0 ∧ x.srf SR.fe 5 = 0 ∧
       Fmt.f64.cmp ((k.ra x).toNat % 2 ^ 64) ((k.rb x).toNat % 2 ^ 64) = p.2.2)) ∧
    (∀ p ∈ [(0xD, 0xC), (0x8, 0xD), (0xD, 0x5), (0xC, 0x0), (0x4, 0xD), (0x7, 0xA)], Runs (one (word 0x13 2 1 0 0 + p.1 * 128 + p.2 * 8)) 2
        (at2 (one (word 0x13 2 1 0 0 + p.1 * 128 + p.2 * 8))) ∧
      (let s := one (word 0x13 2 1 0 0 + p.1 * 128 + p.2 * 8); let k := at2 s
       isPair k.w = false ∧ wOp k.w = 0x13 ∧ bits k.w 7 4 = p.1 ∧ bits k.w 3 4 = p.2 ∧ (s.regsAt k).srf SR.fe 5 = 0)) ∧
    typeFmt 0xD = some .f64 ∧ typeFmt 0xC = some .f32 ∧ typeFmt 0x8 = some .f8e4 ∧ typeFmt 0xA = some .bf16 ∧ typeFmt 0x5 = none ∧
      typeFmt 0x0 = none ∧ typeFmt 0x4 = none ∧ typeFmt 0x7 = none :=
  ⟨each (fun _ => runs_of) (by decide +kernel), each (fun _ => runs_of) (by decide +kernel), by decide⟩

/-- A tie between 2 and 3, 5/2, and a tie between 3 and 4, 7/2. -/
theorem witness_RoundingChoosesTheNeighbour : ∀ m ∈ [5, 7],
    0 < 1 ∧ 2 * ((roundShift RM.near 0 false m 1).1 * 2 ^ 1) = 2 * m + 2 ^ 1 ∨
      2 * m = 2 * ((roundShift RM.near 0 false m 1).1 * 2 ^ 1) + 2 ^ 1 := by decide +kernel

/-- Thread 2 at the word `w` with the window pointers, the shadow stack pointer and the link register given. -/
def windowed (w cwp wbot ssp lr : Nat) : State :=
  run 2 0x1F [w] fun x => { regs [(1, 0x1FFFF)] x with cwp := cwp, wbot := wbot, ssp := ssp, lr := BitVec.ofNat 17 lr }

/-- Branches at both ends of the displacement; calls with one group left and one shadow entry left; returns with one of each; loops
and repeats of 0 and 1. -/
theorem witness_ControlFlow :
    (∀ w ∈ [0x18 * 2 ^ 21 + 0xFFFFF, 0x18 * 2 ^ 21 + 0x100000, word 0x1A 0 1 0 0], Runs (one w) 2 (at2 (one w)) ∧
      (let k := at2 (one w); isPair k.w = false ∧ k.w = w)) ∧
    (∀ s ∈ [windowed (0x19 * 2 ^ 21 + 7) 0 4 0x2078 0, windowed (0x19 * 2 ^ 21 + 0x100000) 14 0 0x2000 0,
        windowed (word 0x1A 0 1 0 1) 11 0 0x2078 0],
      Runs s 2 (at2 s) ∧ (let k := at2 s; let x := s.regsAt k
       isPair k.w = false ∧ (wOp k.w = 0x19 ∨ wOp k.w = 0x1A ∧ wFn k.w = 1) ∧ k.full = true ∧ (x.cwp + 3) % 15 ≠ x.wbot ∧
       s.tflag 2 TF.shstk = true ∧ x.ssp < s.cfg.active.ssEnd 2)) ∧
    (∀ s ∈ [windowed (word 0x1A 0 0 0 2) 1 0 0x2008 0, windowed (word 0x1A 0 0 0 2) 0 14 0x2080 0],
      Runs s 2 (at2 s) ∧ (let k := at2 s; let x := s.regsAt k
       isPair k.w = false ∧ wOp k.w = 0x1A ∧ wFn k.w = 2 ∧ k.full = true ∧ x.cwp ≠ x.wbot ∧ s.tflag 2 TF.shstk = true ∧
       s.cfg.active.ssBase 2 < x.ssp ∧ s.secHeld = false ∧ leNat (s.tmemGet (0x3C0000 + x.ssp - 8) 8).1 = x.lr.toNat)) ∧
    (∀ p ∈ [(0x1C, 0x1C * 2 ^ 21 + 3 * 2 ^ 19 + 128, 0), (0x1C, 0x1C * 2 ^ 21 + 0x7FF * 2 ^ 8 + 128 + 1, 1),
        (0x1C, 0x1C * 2 ^ 21 + 5, 0), (0x1D, 0x1D * 2 ^ 21 + 2 ^ 20, 0), (0x1D, 0x1D * 2 ^ 21 + 2 ^ 20 + 1, 1), (0x1D, 0x1D * 2 ^ 21 + 1, 0x100)],
      Runs (one p.2.1) 2 (at2 (one p.2.1)) ∧ (let s := one p.2.1; let k := at2 s; let x := s.regsAt k
        isPair k.w = false ∧ wOp k.w = p.1 ∧ (if wOp k.w = 0x1C then (if Nat.testBit k.w 7 then bits k.w 0 7
            else (x.rg k.full (bits k.w 0 5)).toNat % 2 ^ 32)
          else if Nat.testBit k.w 20 then bits k.w 0 16 else (x.rg k.full (bits k.w 0 5)).toNat % 2 ^ 32) = p.2.2)) :=
  ⟨each (fun _ => runs_of) (by decide +kernel), each (fun _ => runs_of) (by decide +kernel),
    each (fun _ => runs_of) (by decide +kernel), each (fun _ => runs_of) (by decide +kernel)⟩

/-- No level that ends; level 3 ends with passes left and with its last; and the states whose condition fails. -/
theorem witness_LoopEndsAndFailedConditions :
    (let y (count : Nat) : Thread := { Thread.init with pc := 9, le := [(3, 9)], lc := [(3, BitVec.ofNat 32 count)] }
     3 ∈ loopLevels true ∧ (∀ m ∈ loopLevels true, ¬((y 0).lcOf m ≠ 0 ∧ (y 0).leOf m = (y 0).pc.toNat)) ∧
     (∀ c ∈ [1, 2], (y c).lcOf 3 = c ∧ (y c).lcOf 3 ≠ 0 ∧ (y c).leOf 3 = (y c).pc.toNat ∧
       ∀ m ∈ loopLevels true, m ≠ 3 → ¬((y c).lcOf m ≠ 0 ∧ (y c).leOf m = (y c).pc.toNat))) ∧
    (∀ w ∈ [word 0x01 2 1 0 0, word 0x10 0 1 2 2, word 0x11 2 1 0 0, word 0x12 2 1 0 0, 0x18 * 2 ^ 21 + 4, 0x19 * 2 ^ 21 + 4,
        word 0x23 2 1 0 0, word 0x2B 2 1 0 0, word 0x2C 2 1 0 7, word 0x30 2 1 0 0, 0x38 * 2 ^ 21 + 3 * 2 ^ 4 + 2,
        0x39 * 2 ^ 21 + 2 * 2 ^ 16 + 2 * 2 ^ 11 + 2, 0x38 * 2 ^ 21 + 3 * 2 ^ 4 + 6, 0x39 * 2 ^ 21 + 2 ^ 11 + 6, 0x3D * 2 ^ 21 + 2 ^ 16 + 4 * 2 ^ 10,
        word 0x3E 0 0 0 2],
      Lawful (one (w + 2 ^ 27)) 2 (at2 (one (w + 2 ^ 27))) ∧ (let s := one (w + 2 ^ 27); let k := at2 s
        isPair k.w = false ∧ (s.thread 2).wait = .none ∧ (s.thread 2).condHolds (wCond k.w) = false ∧ k.w = w + 2 ^ 27)) :=
  ⟨by decide +kernel, each (fun _ => lawful_of) (by decide +kernel)⟩

theorem witness_AlertsAndFaults :
    (∀ s ∈ [one (word 0x3E 0 0 0 2), windowed (0x19 * 2 ^ 21 + 7) 0 3 0x2000 0, windowed (word 0x1A 0 1 0 1) 12 0 0x2000 0,
        windowed (word 0x1A 0 0 0 2) 14 14 0x2080 0, trapping],
      Runs s 2 (at2 s) ∧ HandlerReady s 2 (s.regsAt (at2 s)) ∧ (let k := at2 s; let x := s.regsAt k
        isPair k.w = false ∧ k.full = true ∧ ((wOp k.w = 0x3E ∧ wFn k.w = 2) ∨
          ((wOp k.w = 0x19 ∨ wOp k.w = 0x1A ∧ wFn k.w = 1) ∧ (x.cwp + 3) % 15 = x.wbot) ∨
          (wOp k.w = 0x1A ∧ wFn k.w = 2 ∧ x.cwp = x.wbot) ∨
          (wOp k.w = 0x11 ∧ wFn k.w = 0 ∧ k.rb x = 0 ∧ Nat.testBit (x.srf SR.fe 5) 1 = true)))) ∧
    (∀ s ∈ [bare 0, bare 1, (bare (word 0x3F 2 1 0 0)).modThread 2 fun x => { x with sr := 0 },
        (bare (word 0x3F 2 1 0 1)).modThread 2 fun x => { x with sr := 0 },
        (bare (0x19 * 2 ^ 21)).modThread 2 fun x => { x with ssp := 0x2080 }],
      Issues s 2 (at2 s) ∧ FaultStops s 2 (s.regsAt (at2 s)) ∧ (let k := at2 s; let x := s.regsAt k
        isPair k.w = false ∧ (s.thread 2).wait = .none ∧ (wOp k.w = 0x00 ∨
          (wOp k.w = 0x3F ∧ legalWord (s.wordCtx 2) k.w = true ∧ x.srb SR.priv = false) ∨
          (wOp k.w = 0x19 ∧ x.condHolds (wCond k.w) = true ∧ (x.cwp + 3) % 15 ≠ x.wbot ∧ s.tflag 2 TF.shstk = true ∧
            s.cfg.active.ssEnd 2 ≤ x.ssp)))) :=
  ⟨each₂ (fun _ => runs_of) (fun _ => handlerReady_of) (by decide +kernel),
    each₂ (fun _ => issues_of) (fun _ => faultStops_of) (by decide +kernel)⟩

/-- MVS of every special register; MVSW of each, with CWP 14, VL 16 × VGRP, VGRP 8, and SR with and without PRIV. -/
theorem witness_SpecialRegistersAndStatusModes :
    (∀ n ∈ List.range 0x1E, Runs (one (0x3C * 2 ^ 21 + 2 * 2 ^ 16 + n * 2 ^ 10)) 2 (at2 (one (0x3C * 2 ^ 21 + 2 * 2 ^ 16 + n * 2 ^ 10))) ∧
      (let k := at2 (one (0x3C * 2 ^ 21 + 2 * 2 ^ 16 + n * 2 ^ 10)); isPair k.w = false ∧ wOp k.w = 0x3C ∧ wSpr k.w = n)) ∧
    (∀ p ∈ [(0x01, 0), (0x02, 1), (0x03, 0xEE), (0x04, 1), (0x07, 1), (0x08, 1), (0x0B, 1), (0x0C, 1), (0x0F, 1), (0x10, 1), (0x13, 1),
        (0x14, 1), (0x17, 1), (0x18, 16), (0x19, 0xFFFF), (0x1A, 8), (0x1A, 1), (0x00, 0x1FFF)],
      Runs (run 2 0x1F [0x3D * 2 ^ 21 + 2 * 2 ^ 16 + p.1 * 2 ^ 10] (regs [(2, p.2)])) 2
        (at2 (run 2 0x1F [0x3D * 2 ^ 21 + 2 * 2 ^ 16 + p.1 * 2 ^ 10] (regs [(2, p.2)]))) ∧
      (let s := run 2 0x1F [0x3D * 2 ^ 21 + 2 * 2 ^ 16 + p.1 * 2 ^ 10] (regs [(2, p.2)]); let k := at2 s; let x := s.regsAt k
       isPair k.w = false ∧ wOp k.w = 0x3D ∧ wSpr k.w = p.1 ∧ (k.rd x).toNat = p.2 ∧ x.srb SR.priv = true ∧ 16 * x.vgrp = 16 ∧
       x.srNew = [])) ∧
    (let s := run 2 0x1F [0x3D * 2 ^ 21 + 2 * 2 ^ 16] fun x => { regs [(2, 0xF)] x with sr := 0 }
     Runs s 2 (at2 s) ∧ ((s.regsAt (at2 s)).srb SR.priv = false ∧ ((at2 s).rd (s.regsAt (at2 s))).getLsbD 10 = false ∧
       ((at2 s).rd (s.regsAt (at2 s))).getLsbD 11 = false)) :=
  ⟨each (fun _ => runs_of) (by decide +kernel), each (fun _ => runs_of) (by decide +kernel), runs_of (by decide +kernel),
    by decide +kernel⟩

/-- A slot for the word `w`. -/
def slotFor (w : Nat) : Issue := { t := 2, i := 0, c := 0, last := 0, w := w, full := true }

/-- Each mode; circular and bit-reversed ones with and without a length. -/
theorem witness_EffectiveAddresses : ∀ n ∈ [1, 2, 4, 8], n ∈ [1, 2, 4, 8] ∧
    (∀ m ∈ List.range 7, wMode (slotFor (word 0x23 2 1 0 0 + m * 2 ^ 8)).w = m) ∧
    (∀ q ∈ [0, 1], ((kget 0 ({ Thread.init with am := [(1, BitVec.ofNat 64 (0x100 + 0x40 * 2 ^ 32))] } : Thread).am q : BitVec 64).toNat /
      2 ^ 32 = 0 ↔ q = 0)) := by decide +kernel

/-- Thread 2 at the word `w`, register 1 holding the address `a`, with `stores` in its buffer. -/
def atAddr (w a sr : Nat) (stores : List (Nat × List Byte)) : State :=
  run 2 0x0F [w] fun x => { regs [(0, 3), (1, a), (2, 77)] x with sr := BitVec.ofNat 32 sr, stores := stores }

/-- Each size at the first and last address of thread memory, of the secure partition and of staging memory. -/
theorem witness_LoadsReadMemory : ∀ p ∈ [(0x20, 1, 0), (0x21, 2, 0x3BFFFE), (0x22, 4, 0x3C0000), (0x23, 8, 0x3FFFF8), (0x24, 1, 0x3FFFFF),
      (0x25, 2, 2 ^ 32), (0x26, 4, 2 ^ 32 + 2 ^ 26 - 4)],
    Runs (atAddr (word p.1 2 1 0 0) p.2.2 0xC00 []) 2 (at2 (atAddr (word p.1 2 1 0 0) p.2.2 0xC00 [])) ∧
    Clear (atAddr (word p.1 2 1 0 0) p.2.2 0xC00 []) 2 (at2 (atAddr (word p.1 2 1 0 0) p.2.2 0xC00 [])) p.2.2 p.2.1 ∧
    (let s := atAddr (word p.1 2 1 0 0) p.2.2 0xC00 []; let k := at2 s
     isPair k.w = false ∧ wOp k.w = p.1 ∧ (k.ea (s.regsAt k) p.2.1).1.toNat = p.2.2) :=
  each₂ (fun _ => runs_of) (fun _ => clear_of) (by decide +kernel)

/-- Four stores. -/
def four : List (Nat × List Byte) := [(0x200, [1, 2, 3]), (0x208, [4]), (2 ^ 32 + 0x800, [9, 9]), (0x210, [5])]

/-- Each size with an empty and with a full buffer; drains of a store at the end of each memory, and of one to the held partition. -/
theorem witness_StoresAndDrains :
    (∀ p ∈ [(0x28, 1, 0, []), (0x29, 2, 0x3C3000, []), (0x2A, 4, 2 ^ 32, []), (0x2B, 8, 2 ^ 32 + 2 ^ 26 - 8, []),
        (0x28, 1, 0x3FFFFF, four), (0x29, 2, 0x3BFFFE, four), (0x2A, 4, 0, four), (0x2B, 8, 0, four)],
      Runs (atAddr (word p.1 2 1 0 0) p.2.2.1 0xC00 p.2.2.2) 2 (at2 (atAddr (word p.1 2 1 0 0) p.2.2.1 0xC00 p.2.2.2)) ∧
      (let s := atAddr (word p.1 2 1 0 0) p.2.2.1 0xC00 p.2.2.2; let k := at2 s; let x := s.regsAt k
       isPair k.w = false ∧ wOp k.w = p.1 ∧ (k.ea x p.2.1).1.toNat = p.2.2.1 ∧
       s.permits (k.acc s) true p.2.2.1 p.2.1 = true ∧ s.watched 2 true p.2.2.1 p.2.1 = none ∧
       (x.stores.length < 4 ∨ x.stores.length = 4))) ∧
    (∀ a ∈ [0, 0x3BFFF8, 0x3C0000, 0x3FFFF8, 2 ^ 32, 2 ^ 32 + 2 ^ 26 - 8, 2 ^ 63], ∀ held ∈ [false, true],
      let s := (atAddr 0 0 0 [(a, [1, 2, 3, 4, 5, 6, 7, 8])]).setB F.MEM_SEC_STAT_ACTIVE held
      (s.thread 2).stores = [(a, [1, 2, 3, 4, 5, 6, 7, 8])] ∧ kget [] s.mem.lastAcc (1 - pipeOf 2) = [] ∧ s.mem.ecc = [] ∧ s.str.ecc = [] ∧
      s.secHeld = held) :=
  ⟨each (fun _ => runs_of) (by decide +kernel), by decide +kernel⟩

theorem witness_MemoryOperandArithmetic : ∀ p ∈ [(0x2D, 0), (0x2E, 0), (0x2F, 0), (0x2D, 6), (0x2E, 6), (0x2F, 6)],
    Runs (atAddr (word p.1 2 1 0 0 + p.2 * 2 ^ 8) 0x3BFFF8 0xC00 []) 2 (at2 (atAddr (word p.1 2 1 0 0 + p.2 * 2 ^ 8) 0x3BFFF8 0xC00 [])) ∧
    Clear (atAddr (word p.1 2 1 0 0 + p.2 * 2 ^ 8) 0x3BFFF8 0xC00 []) 2 (at2 (atAddr (word p.1 2 1 0 0 + p.2 * 2 ^ 8) 0x3BFFF8 0xC00 []))
      (if p.2 = 0 then 0x3BFFF8 else 0x1000 + 8 * 0x100) 8 ∧
    (let s := atAddr (word p.1 2 1 0 0 + p.2 * 2 ^ 8) 0x3BFFF8 0xC00 []; let k := at2 s
     isPair k.w = false ∧ wOp k.w = p.1 ∧ (k.ea (s.regsAt k) 8).1.toNat = if p.2 = 0 then 0x3BFFF8 else 0x1000 + 8 * 0x100) :=
  each₂ (fun _ => runs_of) (fun _ => clear_of) (by decide +kernel)

/-- Each operation, of four and of eight bytes. -/
theorem witness_AtomicsReplaceTheValue : ∀ p ∈ [(1, 2), (2, 3), (3, 2), (4, 3), (5, 2), (6, 3), (7, 2), (8, 3), (9, 2), (10, 3)],
    Runs (atAddr (word 0x2C 2 1 0 (4 * p.1 + p.2)) 0x3C3000 0xC00 []) 2 (at2 (atAddr (word 0x2C 2 1 0 (4 * p.1 + p.2)) 0x3C3000 0xC00 [])) ∧
    ClearWrite (atAddr (word 0x2C 2 1 0 (4 * p.1 + p.2)) 0x3C3000 0xC00 []) 2
      (at2 (atAddr (word 0x2C 2 1 0 (4 * p.1 + p.2)) 0x3C3000 0xC00 [])) 0x3C3000 (if p.2 = 2 then 4 else 8) ∧
    (let s := atAddr (word 0x2C 2 1 0 (4 * p.1 + p.2)) 0x3C3000 0xC00 []; let k := at2 s
     isPair k.w = false ∧ wOp k.w = 0x2C ∧ wFnOp k.w = p.1 ∧ wFnW k.w = p.2 ∧ (k.ra (s.regsAt k)).toNat = 0x3C3000) :=
  each₂ (fun _ => runs_of) (fun _ => clearWrite_of) (by decide +kernel)

theorem witness_ForbiddenAndHostAccesses :
    (∀ p ∈ [(word 0x23 2 1 0 0, 0x3BFFFC, 0x400), (word 0x23 2 1 0 0, 0x400000, 0xC00), (word 0x2B 2 1 0 0, 0x3C0000, 0xC00),
        (word 0x2C 2 1 0 6, 2, 0x400), (word 0x2C 2 1 0 7, 4, 0x400)],
      Runs (atAddr p.1 p.2.1 p.2.2 []) 2 (at2 (atAddr p.1 p.2.1 p.2.2 [])) ∧
      FaultStops (atAddr p.1 p.2.1 p.2.2 []) 2 ((atAddr p.1 p.2.1 p.2.2 []).regsAt (at2 (atAddr p.1 p.2.1 p.2.2 []))) ∧
      (let s := atAddr p.1 p.2.1 p.2.2 []; let k := at2 s
       isPair k.w = false ∧ ((wOp k.w = 0x23 ∧ s.permits (k.acc s) false p.2.1 8 = false) ∨
         (wOp k.w = 0x2B ∧ s.permits (k.acc s) true p.2.1 8 = false) ∨
         (wOp k.w = 0x2C ∧ wFnOp k.w = 1 ∧ p.2.1 % (if wFnW k.w = 2 then 4 else 8) ≠ 0)))) ∧
    (∀ s ∈ [atAddr (word 0x23 2 1 0 0) (2 ^ 63) 0x400 [], (atAddr (word 0x23 2 1 0 0) (2 ^ 64 - 8) 0x400 []).modThread 2 fun x =>
        { x with ans := [{ bytes := [1, 2, 3, 4, 5, 6, 7, 8], err := false, poison := false }] }],
      Runs s 2 (at2 s) ∧ (let k := at2 s; let x := s.regsAt k; let a := (k.ea x 8).1.toNat
       isPair k.w = false ∧ wOp k.w = 0x23 ∧ 2 ^ 63 ≤ a ∧ a % 8 = 0 ∧ x.overlaps a 8 = false ∧
       (x.ans = [] ∨ x.ans = [{ bytes := [1, 2, 3, 4, 5, 6, 7, 8], err := false, poison := false }]))) :=
  ⟨each₂ (fun _ => runs_of) (fun _ => faultStops_of) (by decide +kernel), each (fun _ => runs_of) (by decide +kernel)⟩

/-- Thread 2 at a vector word with VL, VSTART and VGRP. -/
def vector (w vl vstart vgrp : Nat) : State :=
  run 2 0x0F [w] fun x => { regs [(0, 3), (1, 0x100), (2, 8)] x with vl := vl, vstart := vstart, vgrp := vgrp }

theorem witness_VectorIntegerRows : ∀ fn ∈ List.range 13,
    Runs (vector (word 0x32 2 4 6 (4 * fn + fn % 4)) 2 1 2) 2 (at2 (vector (word 0x32 2 4 6 (4 * fn + fn % 4)) 2 1 2)) ∧
      (let k := at2 (vector (word 0x32 2 4 6 (4 * fn + fn % 4)) 2 1 2)
       isPair k.w = false ∧ wOp k.w = 0x32 ∧ wFnOp k.w = fn ∧ wFnW k.w = fn % 4) :=
  each (fun _ => runs_of) (by decide +kernel)

theorem witness_VectorFloatRows : ∀ p ∈ [(0, 0), (1, 1), (2, 2), (3, 3), (4, 0), (5, 1)],
    Runs (vector (word 0x33 2 4 6 (4 * p.1 + p.2)) 2 0 2) 2 (at2 (vector (word 0x33 2 4 6 (4 * p.1 + p.2)) 2 0 2)) ∧
      (let s := vector (word 0x33 2 4 6 (4 * p.1 + p.2)) 2 0 2; let k := at2 s
       isPair k.w = false ∧ wOp k.w = 0x33 ∧ wFnOp k.w = p.1 ∧ wFnW k.w = p.2 ∧ (s.regsAt k).srf SR.fe 5 = 0) :=
  each (fun _ => runs_of) (by decide +kernel)

theorem witness_VectorMoves : ∀ w ∈ [word 0x34 2 1 0 0, word 0x34 2 1 31 0 + 0x780 - 31 * 64, word 0x35 2 1 0 0, word 0x35 2 2 1 4, word 0x35 2 1 0 8,
      word 0x35 2 2 0 12, word 0x35 2 4 0 16],
    Runs (vector w 2 1 2) 2 (at2 (vector w 2 1 2)) ∧ (let k := at2 (vector w 2 1 2)
      isPair k.w = false ∧ k.w = w ∧ (wOp k.w = 0x34 ∨ (wOp k.w = 0x35 ∧ wFnOp k.w ≤ 4))) :=
  each (fun _ => runs_of) (by decide +kernel)

theorem witness_VectorLoadsAndStores : ∀ p ∈ [(0x30, 0, 0), (0x30, 1, 1), (0x30, 2, 2), (0x31, 0, 3), (0x31, 1, 2)],
    Runs (vector (word p.1 2 1 2 0 + 16 * p.2.2 + 4 * p.2.1) 1 0 2) 2 (at2 (vector (word p.1 2 1 2 0 + 16 * p.2.2 + 4 * p.2.1) 1 0 2)) ∧
    ClearWrite (vector (word p.1 2 1 2 0 + 16 * p.2.2 + 4 * p.2.1) 1 0 2) 2
      (at2 (vector (word p.1 2 1 2 0 + 16 * p.2.2 + 4 * p.2.1) 1 0 2)) 0x100 (2 ^ p.2.2) ∧
    (let s := vector (word p.1 2 1 2 0 + 16 * p.2.2 + 4 * p.2.1) 1 0 2; let k := at2 s; let x := s.regsAt k
     isPair k.w = false ∧ wOp k.w = p.1 ∧ bits k.w 2 2 = p.2.1 ∧ bits k.w 4 2 = p.2.2 ∧ x.stores = [] ∧ x.vstart = 0 ∧ x.vl = 1 ∧
     (k.ra x).toNat = 0x100 ∧ x.elem (wRb k.w) (8 * 2 ^ p.2.2) 0 = 0) :=
  each₂ (fun _ => runs_of) (fun _ => clearWrite_of) (by decide +kernel)

/-- Thread `t` at the word `w`, a channel as given. -/
def chanState (t w ch : Nat) (c : Chan → Chan) : State :=
  let s := run t 0x0F [w] (regs [(1, 1023), (2, 8)])
  let s := { s with now := 40, sch := { s.sch with ft := 40 } }
  s.setChan ch (c (s.chan ch))

/-- The channel with one word or none; its write side free or held by thread 9. -/
def holding (b : Bool) (c : Chan) : Chan := { c with words := if b then [{ data := 7, fin := true, brk := false, at_ := 0, sched := false }] else [] }
def heldFor (free : Bool) (c : Chan) : Chan := { c with whold := if free then none else some (.thread 9) }

/-- One word in the channel; none. Channel 1 by its number and channel 1023 by a register; thread 0 and thread 2. -/
theorem witness_ChannelReads : ∀ p ∈ [(0, 0x38 * 2 ^ 21 + 2 * 2 ^ 16 + 1 * 2 ^ 4, 1, true), (2, word 0x39 2 1 0 1, 1023, true),
      (2, word 0x39 2 1 0 0, 1023, false), (2, 0x38 * 2 ^ 21 + 2 * 2 ^ 16 + 1 * 2 ^ 4 + 1, 1, false)],
    Runs (chanState p.1 p.2.1 p.2.2.1 (holding p.2.2.2)) p.1
      (slotAt (chanState p.1 p.2.1 p.2.2.1 (holding p.2.2.2)) p.1) ∧
    (let s := chanState p.1 p.2.1 p.2.2.1 (holding p.2.2.2)
     let k := slotAt s p.1
     isPair k.w = false ∧ (wOp k.w = 0x38 ∨ wOp k.w = 0x39) ∧ bits k.w 0 4 ≤ 1 ∧
     (if wOp k.w = 0x38 then bits k.w 4 10 else (k.ra (s.regsAt k)).toNat % 2 ^ 10) = p.2.2.1 ∧ s.chanForbidden p.2.2.1 = false ∧
     (s.atSlot k).chanReadable p.2.2.1 p.1 = p.2.2.2) :=
  each (fun _ => runs_of) (by decide +kernel)

theorem witness_ChannelWrites : ∀ p ∈ [(0, 0x38 * 2 ^ 21 + 2 * 2 ^ 16 + 2, 0, true), (2, word 0x39 2 1 0 3, 1023, true),
      (2, word 0x39 2 1 0 4, 1023, true), (2, 0x38 * 2 ^ 21 + 2 * 2 ^ 16 + 5, 0, true), (2, word 0x39 2 1 0 4, 1023, false),
      (2, 0x38 * 2 ^ 21 + 2 * 2 ^ 16 + 2, 0, false)],
    Runs (chanState p.1 p.2.1 p.2.2.1 (heldFor p.2.2.2)) p.1
      (slotAt (chanState p.1 p.2.1 p.2.2.1 (heldFor p.2.2.2)) p.1) ∧
    (let s := chanState p.1 p.2.1 p.2.2.1 (heldFor p.2.2.2)
     let k := slotAt s p.1
     isPair k.w = false ∧ (wOp k.w = 0x38 ∨ wOp k.w = 0x39) ∧ k.w = p.2.1 ∧
     (if wOp k.w = 0x38 then bits k.w 4 10 else (k.ra (s.regsAt k)).toNat % 2 ^ 10) = p.2.2.1 ∧ (s.chan p.2.2.1).dropping = false ∧
     (s.atSlot k).chanWritable p.2.2.1 p.1 = p.2.2.2) :=
  each (fun _ => runs_of) (by decide +kernel)

/-- Thread 2 at the word `w`, lamp 3 owned and waited for as given, event 600 pending and routed to it in wait set 1. -/
def lampState (w : Nat) (owner : Option Nat) (waiters : List Nat) (event : Bool) : State :=
  let s := run 2 0x0F [w] (regs [(1, 4095), (2, 8)])
  let s := (s.setLamp 3 { owner := owner, waiters := waiters }).modThread 9 fun x => { x with st := TST.blocked, wait := .lamp 3 }
  if event then (((s.raise 600).setF (F.EVT_ROUTEn_DEST 600) 1).setF (F.EVT_ROUTEn_THREAD 600) 2).setF (F.EVT_ROUTEn_WSET 600) 1 else s

def chl (fn n : Nat) : Nat := 0x38 * 2 ^ 21 + n * 2 ^ 4 + fn

theorem witness_LampsAndEvents :
    (∀ s ∈ [lampState (chl 6 3) none [] false, lampState (chl 7 3) none [] false, lampState (chl 7 3) (some 9) [] false,
        lampState (chl 6 3) (some 9) [] false, lampState (chl 8 3) (some 2) [] false, lampState (chl 8 3) (some 2) [9] false],
      Runs s 2 (at2 s) ∧ (let k := at2 s
       isPair k.w = false ∧ wOp k.w = 0x38 ∧ bits k.w 4 12 = 3 ∧
       ((bits k.w 0 4 ∈ [6, 7] ∧ (s.lamp 3).owner ∈ [none, some 9]) ∨ (bits k.w 0 4 = 8 ∧ (s.lamp 3).owner = some 2 ∧
         ((s.lamp 3).waiters = [] ∨ (s.lamp 3).waiters = [9] ∧ (s.thread 9).wait = .lamp 3 ∧ (s.thread 9).st = TST.blocked))))) ∧
    (∀ s ∈ [lampState (chl 6 3) (some 2) [] false, lampState (chl 7 3) (some 2) [] false, lampState (chl 8 3) (some 9) [] false,
        lampState (chl 8 3) none [] false, lampState (chl 0xA 511) none [] false],
      Runs s 2 (at2 s) ∧ FaultStops s 2 (s.regsAt (at2 s)) ∧ (let k := at2 s
       isPair k.w = false ∧ wOp k.w = 0x38 ∧ ((bits k.w 0 4 ∈ [6, 7] ∧ (s.lamp 3).owner = some 2) ∨
         (bits k.w 0 4 = 8 ∧ (s.lamp 3).owner ≠ some 2) ∨ (bits k.w 0 4 = 0xA ∧ bits k.w 4 12 < 512)))) ∧
    (∀ s ∈ [lampState (word 0x38 2 0 0 9 + 0 * 16) none [] true, lampState (word 0x38 2 0 0 9 + 1 * 16) none [] true,
        lampState (word 0x38 2 0 0 9 + 2 * 16) none [] true],
      Runs s 2 (at2 s) ∧ (let k := at2 s; let n := bits k.w 4 2
       isPair k.w = false ∧ bits k.w 0 4 = 9 ∧ s.threadEvent 2 (if n = 0 then none else some n) = if n = 2 then none else some 600)) ∧
    (∀ p ∈ [(chl 0xA 512, 512), (word 0x39 0 1 0 0xA, 4095)], Runs (lampState p.1 none [] false) 2 (at2 (lampState p.1 none [] false)) ∧
      (let s := lampState p.1 none [] false; let k := at2 s
       isPair k.w = false ∧ bits k.w 0 4 = 0xA ∧ s.crp.mainUp = true ∧
       (if wOp k.w = 0x38 then bits k.w 4 12 else (k.ra (s.regsAt k)).toNat % 2 ^ 12) = p.2)) :=
  ⟨each (fun _ => runs_of) (by decide +kernel), each₂ (fun _ => runs_of) (fun _ => faultStops_of) (by decide +kernel),
    each (fun _ => runs_of) (by decide +kernel), each (fun _ => runs_of) (by decide +kernel)⟩

/-- Thread 2 at RETA in an alert. -/
def returning : State := (bare (word 0x3E 0 0 0 1)).modThread 2 fun x => { x with sr := 0x600, sp := 0x200 }

/-- NOP, FENCE with no write and with one outstanding, RETA in an alert, BREAK with and without a debugger. -/
theorem witness_SystemRows :
    (∀ s ∈ [bare (word 0x3E 0 0 0 0), bare (word 0x3E 0 0 0 4), (bare (word 0x3E 0 0 0 4)).modThread 2 fun x => { x with pendingWr := 1 },
        returning, (bare (word 0x3E 0 0 0 3)).setB F.DBG_CTRL_ATTACH true],
      Runs s 2 (at2 s) ∧ (let k := at2 s
       isPair k.w = false ∧ wOp k.w = 0x3E ∧ (wFn k.w = 0 ∨ wFn k.w = 4 ∨
         (wFn k.w = 1 ∧ (s.regsAt k).stores = [] ∧ (s.regsAt k).sp = 0x200) ∨ (wFn k.w = 3 ∧ s.attached = true)))) ∧
    (∀ j < 8, Clear returning 2 (at2 returning) (0x200 + 8 * j) 8) ∧
    (∀ s ∈ [bare (word 0x3E 0 0 0 3)], Runs s 2 (at2 s) ∧ FaultStops s 2 (s.regsAt (at2 s)) ∧
      (isPair (at2 s).w = false ∧ wOp (at2 s).w = 0x3E ∧ wFn (at2 s).w = 3 ∧ s.attached = false)) :=
  ⟨each (fun _ => runs_of) (by decide +kernel), 
    fun _ h => clear_of ((by decide +kernel : ∀ j < 8, clearB returning 2 (at2 returning) (0x200 + 8 * j) 8 = true) _ h),
    each₂ (fun _ => runs_of) (fun _ => faultStops_of) (by decide +kernel)⟩

/-- Thread 2 at SPILL or FILL with the window pointers given. -/
def spilling (fn cwp wbot : Nat) : State :=
  run 2 0x0F [word 0x3E 0 31 0 fn] fun x => { regs [(31, 0x200)] x with cwp := cwp, wbot := wbot }

theorem witness_SpillAndFill :
    (∀ p ∈ [(5, 0, 14), (5, 3, 0), (6, 0, 14), (6, 14, 3)], Runs (spilling p.1 p.2.1 p.2.2) 2 (at2 (spilling p.1 p.2.1 p.2.2)) ∧
      (let s := spilling p.1 p.2.1 p.2.2; let k := at2 s; let x := s.regsAt k
       isPair k.w = false ∧ wOp k.w = 0x3E ∧ wFn k.w = p.1 ∧ x.stores = [] ∧ (k.ra x).toNat = 0x200 ∧
       (wFn k.w = 5 → x.wbot ≠ x.cwp) ∧ (wFn k.w = 6 → (x.cwp + 3) % 15 ≠ x.wbot))) ∧
    (∀ j < 8, ClearWrite (spilling 5 0 14) 2 (at2 (spilling 5 0 14)) (0x200 + 8 * j) 8) ∧
    (∀ j < 8, Clear (spilling 6 0 14) 2 (at2 (spilling 6 0 14)) (0x200 + 8 * j) 8) ∧
    (∀ p ∈ [(5, 14, 14), (6, 12, 0)], Runs (spilling p.1 p.2.1 p.2.2) 2 (at2 (spilling p.1 p.2.1 p.2.2)) ∧
      FaultStops (spilling p.1 p.2.1 p.2.2) 2 ((spilling p.1 p.2.1 p.2.2).regsAt (at2 (spilling p.1 p.2.1 p.2.2))) ∧
      (let s := spilling p.1 p.2.1 p.2.2; let k := at2 s; let x := s.regsAt k
       isPair k.w = false ∧ wOp k.w = 0x3E ∧ ((wFn k.w = 5 ∧ x.wbot = x.cwp) ∨ (wFn k.w = 6 ∧ (x.cwp + 3) % 15 = x.wbot)))) :=
  ⟨each (fun _ => runs_of) (by decide +kernel),
    fun _ h => clearWrite_of ((by decide +kernel : ∀ j < 8, clearWriteB (spilling 5 0 14) 2 (at2 (spilling 5 0 14)) (0x200 + 8 * j) 8 = true) _ h),
    fun _ h => clear_of ((by decide +kernel : ∀ j < 8, clearB (spilling 6 0 14) 2 (at2 (spilling 6 0 14)) (0x200 + 8 * j) 8 = true) _ h),
    each₂ (fun _ => runs_of) (fun _ => faultStops_of) (by decide +kernel)⟩

/-- An offset at each end of the aperture, and one that is no multiple of 4. -/
theorem witness_RegisterInstructions :
    (∀ p ∈ [(word 0x3F 2 1 0 0, 0), (word 0x3F 2 1 0 1, 0xFFFFFC), (word 0x3F 2 1 31 62, 4), (word 0x3F 2 1 31 63, 4)],
      Runs (atAddr p.1 p.2 0x400 []) 2 (at2 (atAddr p.1 p.2 0x400 [])) ∧ (let s := atAddr p.1 p.2 0x400 []; let k := at2 s
       isPair k.w = false ∧ wOp k.w = 0x3F ∧
       ((k.ra (s.regsAt k)) + (BitVec.ofNat 10 (k.w / 2)).signExtend 64 * 4).toNat % 2 ^ 24 % 4 = 0)) ∧
    (∀ w ∈ [word 0x3F 2 1 0 0, word 0x3F 2 1 0 1], Runs (atAddr w 2 0x400 []) 2 (at2 (atAddr w 2 0x400 [])) ∧
      FaultStops (atAddr w 2 0x400 []) 2 ((atAddr w 2 0x400 []).regsAt (at2 (atAddr w 2 0x400 []))) ∧
      (let s := atAddr w 2 0x400 []; let k := at2 s
       isPair k.w = false ∧ wOp k.w = 0x3F ∧
       ((k.ra (s.regsAt k)) + (BitVec.ofNat 10 (k.w / 2)).signExtend 64 * 4).toNat % 2 ^ 24 % 4 = 2)) :=
  ⟨each (fun _ => runs_of) (by decide +kernel), each₂ (fun _ => runs_of) (fun _ => faultStops_of) (by decide +kernel)⟩

/-- Each operation in the first and in the second position, the conditions P and not P among them, shifts of 1 and of 16. -/
theorem witness_ShortOperations :
    (∀ op ∈ [0x00, 0x01, 0x02, 0x03, 0x04, 0x05, 0x06, 0x07, 0x08, 0x09, 0x0A, 0x0B, 0x0C, 0x11, 0x12, 0x13, 0x14, 0x15, 0x17, 0x18],
      Runs (one (pair (short 0 op 0 0) 0)) 2 (at2 (one (pair (short 0 op 0 0) 0))) ∧ (let k := at2 (one (pair (short 0 op 0 0) 0))
       isPair k.w = true ∧ bits k.w 24 5 = op ∧ bits k.w 29 2 = 0 ∧ bits k.w 9 5 = 0)) ∧
    (∀ p ∈ [(0x0A, 2, 15), (0x0B, 2, 15), (0x0C, 2, 15), (0x02, 1, 0)], Runs (one (pair 0 (short p.2.1 p.1 0 p.2.2))) 2
        (at2 (one (pair 0 (short p.2.1 p.1 0 p.2.2)))) ∧ (let s := one (pair 0 (short p.2.1 p.1 0 p.2.2)); let k := at2 s
       isPair k.w = true ∧ bits k.w 9 5 = p.1 ∧ bits k.w 14 2 = p.2.1 ∧ bits k.w 24 5 = 0 ∧ (s.regsAt k).srb SR.p = false)) :=
  ⟨each (fun _ => runs_of) (by decide +kernel), each (fun _ => runs_of) (by decide +kernel)⟩

theorem witness_ShortMemoryAndPairs :
    (∀ p ∈ [(0x0D, false), (0x0F, false), (0x0E, true), (0x10, true)],
      Runs (atAddr (if p.2 then pair 0 (short 0 p.1 2 1) else pair (short 0 p.1 2 1) 0) 0x3BFFF8 0x400 []) 2
        (at2 (atAddr (if p.2 then pair 0 (short 0 p.1 2 1) else pair (short 0 p.1 2 1) 0) 0x3BFFF8 0x400 [])) ∧
      ClearWrite (atAddr (if p.2 then pair 0 (short 0 p.1 2 1) else pair (short 0 p.1 2 1) 0) 0x3BFFF8 0x400 []) 2
        (at2 (atAddr (if p.2 then pair 0 (short 0 p.1 2 1) else pair (short 0 p.1 2 1) 0) 0x3BFFF8 0x400 [])) 0x3BFFF8 8 ∧
      (let s := atAddr (if p.2 then pair 0 (short 0 p.1 2 1) else pair (short 0 p.1 2 1) 0) 0x3BFFF8 0x400 []; let k := at2 s
       isPair k.w = true ∧ bits k.w (if p.2 then 9 else 24) 5 = p.1 ∧ bits k.w (if p.2 then 24 else 9) 5 = 0 ∧ (s.regsAt k).stores = [])) ∧
    (∀ w ∈ [pair 0 (short 0 0x16 7 15), pair 0 (short 0 0x16 8 0), pair (short 0 1 1 2) (short 0 1 2 1), pair (short 0 1 15 0) (short 0 1 0 15)],
      Runs (one w) 2 (at2 (one w)) ∧ (let k := at2 (one w)
       isPair k.w = true ∧ k.w = w ∧ (bits k.w 9 5 = 0x16 ∧ bits k.w 24 5 = 0 ∨
         (bits k.w 24 7 = 1 ∧ bits k.w 9 7 = 1 ∧ bits k.w 20 4 = bits k.w 1 4 ∧ bits k.w 5 4 = bits k.w 16 4)))) :=
  ⟨each₂ (fun _ => runs_of) (fun _ => clearWrite_of) (by decide +kernel), each (fun _ => runs_of) (by decide +kernel)⟩

/-! ## Hypotheses of the statements on the block's units -/

def servedB (s : State) (src : RegSrc) (off : Nat) : Bool := s.crp.headOn && (s.crp.mainUp || headServed off) && !s.dbgBarred src &&
  !s.yields src off && s.cfg.late.isEmpty

theorem served_of {s : State} {src : RegSrc} {off : Nat} (h : servedB s src off = true) : Served s src off := by
  constructor <;> simp_all [servedB]

def reachesB (s : State) (src : RegSrc) (off : Nat) : Bool := servedB s src off && (!dbgRegion off || decide (src = .debug))

theorem reaches_of {s : State} {src : RegSrc} {off : Nat} (h : reachesB s src off = true) : Reaches s src off := by
  simp only [reachesB, Bool.and_eq_true, Bool.or_eq_true, Bool.not_eq_true', decide_eq_true_eq] at h
  exact { served_of h.1 with own := fun h' => by cases h.2 with | inl k => simp [h'] at k | inr k => exact k }

def unlockedB (s : State) : Bool := match s.cfg.expert with
  | .unlocked c => decide (c ≠ s.ctlCyc)
  | _ => false

theorem unlocked_of {s : State} (h : unlockedB s = true) : s.unlocked := by
  unfold unlockedB at h
  split at h
  next c hc => exact ⟨c, hc, by simpa using h⟩
  next => cases h

/-- A write of `src` at `off` with expert access open. -/
theorem open_of {s : State} {src : RegSrc} {off : Nat} (h : (reachesB s src off && unlockedB s) = true) : Reaches s src off ∧ s.unlocked :=
  have h' := Bool.and_eq_true_iff.1 h
  ⟨reaches_of h'.1, unlocked_of h'.2⟩

/-- The block in RUN with an empty image, and the same with expert access open. -/
def base : State := up { hdr := none, sects := [] }
def opened : State := { base with cfg := { base.cfg with expert := .unlocked 7 } }

/-- The fields of `l` set. -/
def fields (l : List (Fld × Nat)) (s : State) : State := l.foldl (fun s p => s.setF p.1 p.2) s

/-- The table's register at `off` has the properties of `P`. -/
def tableHas (off : Nat) (P : RegDef → Bool) : Bool := match regAt off with
  | some d => P d
  | none => false

/-- Port words of engine `n`. -/
def caught (n : Nat) (ws : List Word) : State := { base with sbd := { base.sbd with pe := kset PinEngine.init base.sbd.pe n { PinEngine.init with catch_ := ws } } }

theorem witness_RegisterAccesses :
    (∀ p ∈ [(RegSrc.csp, R.EVT_IRQ_EN_LO), (.thread 0, R.TMm_LOAD 15), (.debug, R.DBG_WPj_ADDR 3)], Served base p.1 p.2 ∧
      (p.2 % 4 = 0 ∧ p.2 < 2 ^ 24 ∧ tableHas p.2 (fun d => !d.expert) = true ∧ actionReg p.2 = false ∧ calmReg p.2 = true ∧
       (dbgRegion p.2 = true → p.1 = .debug) ∧ famOf (R.PEn_CATCH 0) 64 8 p.2 = none ∧ famOf (R.TMm_CAP 0) 32 16 p.2 = none)) ∧
    (∀ p ∈ [(RegSrc.csp, R.SCH_TL_CFG), (.thread 127, R.PEn_PROG 7 511)], Served base p.1 p.2 ∧
      (p.2 % 4 = 0 ∧ p.2 < 2 ^ 24 ∧ tableHas p.2 (fun d => d.expert) = true ∧ base.cfg.expert = .locked)) ∧
    (∀ o ∈ [0x3FFFFC, 0x900], Served base .csp o ∧ (o % 4 = 0 ∧ regAt o = none ∧ o < 0x400000)) ∧
    (∀ o ∈ [R.TMm_LOAD 0, R.DBG_WPj_ADDR 3], Served base .debug o ∧
      (o % 4 = 0 ∧ base.crp.mainUp = true ∧ tableHas o (fun d => !d.expert) = true ∧ calmReg o = true ∧ actionReg o = false ∧
       famOf (R.PEn_CATCH 0) 64 8 o = none ∧ famOf (R.TMm_CAP 0) 32 16 o = none)) ∧
    (∀ n ∈ [0, 7], Served (caught n [5, 7]) .csp (R.PEn_CATCH n) ∧
      (R.PEn_CATCH n % 4 = 0 ∧ ((caught n [5, 7]).pe n).catch_ = [5, 7] ∧ ((caught n [5, 7]).pe n).caught = none ∧
       ((caught n []).pe n).catch_ = [] ∧
       (let s := (caught n [5]).modPe n fun x => { x with caught := some (caught n []).sbCyc }
        servedB s .csp (R.PEn_CATCH n) = true ∧ (s.pe n).caught = some s.sbCyc))) ∧
    (∀ m ∈ [0, 15], Served base .csp (R.TMm_CAP m) ∧ (R.TMm_CAP m % 4 = 0 ∧ (base.tm m).capAt = none ∧
      (let s := base.modTm m fun x => { x with capAt := some (base.ctlCyc, 3, true) }
       servedB s .csp (R.TMm_CAP m) = true ∧ (s.tm m).capAt = some (s.ctlCyc, 3, true)))) ∧
    (Served base .csp R.GLB_CTRL ∧ R.GLB_CTRL % 4 = 0 ∧ base.writeClash .csp = false ∧ base.cfg.expert = .locked ∧
      (let s : State := { base with cfg := { base.cfg with expert := .first 0 }, sch := { base.sch with ft := 25600 } }
       s.cfg.expert = .first 0 ∧ s.ctlCyc ≤ 256 ∧ servedB s .csp R.GLB_CTRL = true ∧ s.writeClash .csp = false)) :=
  ⟨each (fun _ => served_of) (by decide +kernel), each (fun _ => served_of) (by decide +kernel),
    each (fun _ => served_of) (by decide +kernel), each (fun _ => served_of) (by decide +kernel),
    each (fun _ => served_of) (by decide +kernel), each (fun _ => served_of) (by decide +kernel),
    served_of (by decide +kernel), by decide +kernel⟩

theorem witness_AccessesOfOneCycle : ∀ p ∈ [(RegSrc.thread 0, RegSrc.csp, R.EVT_IRQ_EN_LO), (.debug, .csp, R.TMm_LOAD 15),
      (.thread 0, .debug, R.TMm_LOAD 0)],
    let off := BitVec.ofNat 24 p.2.2
    let s : State := { base with pending := [.registerWrite p.2.1 off 2 7] }
    let o := off.toNat
    tableHas o (fun d => !d.expert) = true ∧ actionReg o = false ∧ calmReg o = true ∧ dbgRegion o = false ∧ o % 4 = 0 ∧
    s.pending = [.registerWrite p.2.1 off 2 7] ∧ p.2.1.rank < p.1.rank ∧ s.crp.headOn = true ∧ s.crp.mainUp = true ∧
    s.dbgBarred p.1 = false ∧ s.dbgBarred p.2.1 = false ∧ s.cfg.late = [] := by decide +kernel

/-- Engine 7 with EN and HOTSWAP, `fed` words in its feed FIFO, and a held copy. -/
def engine (en hot fed : Nat) (held : Bool) : State :=
  let x : PinEngine := { PinEngine.init with feed := List.replicate fed 5, held := if held then some ([(1, 77)], 9) else none }
  fields [(F.PEn_CTRL_EN 7, en), (F.PEn_CTRL_HOTSWAP 7, hot)]
    { opened with sbd := { opened.sbd with pe := kset PinEngine.init opened.sbd.pe 7 x } }

theorem witness_PinEngineRegisters :
    (∀ s ∈ [engine 0 0 0 false, engine 1 0 0 false, engine 1 1 0 true, engine 0 0 1 false],
      (Reaches s .csp (R.SBD_PINSELi 7) ∧ s.unlocked) ∧ (Reaches s .csp (R.PEn_CTRL 7) ∧ s.unlocked) ∧
      (reachesB s .csp (R.PEn_FEED 7) = true ∧ (s.pe 7).feed.length < s.feedDepth 7)) ∧
    (∀ s ∈ [engine 0 0 4 false], Reaches s .csp (R.PEn_FEED 7) ∧ s.feedDepth 7 ≤ (s.pe 7).feed.length) ∧
    (∀ p ∈ [(engine 0 0 0 false, false, false), (engine 1 1 0 false, true, true), (engine 1 1 0 true, true, true), (engine 1 0 0 false, true, false)],
      (Reaches p.1 .csp (R.PEn_PROG 7 511) ∧ p.1.unlocked) ∧ (Reaches p.1 .csp (R.PEn_BASE 7) ∧ p.1.unlocked) ∧
      (p.1.flag (F.PEn_CTRL_EN 7) = p.2.1 ∧ p.1.flag (F.PEn_CTRL_HOTSWAP 7) = p.2.2)) ∧
    (∀ s ∈ [engine 0 0 0 false, engine 1 0 0 false], (Reaches s .csp (R.PEn_PINMAP_LO 7) ∧ s.unlocked) ∧
      (Reaches s .csp (R.PEn_PINMAP_HI 7) ∧ s.unlocked) ∧ (reachesB s .csp (R.PEn_DEPTH 7) = true)) ∧
    (let s := engine 0 0 0 false
     let others := (((List.range 8).filter fun i => i != 7).map fun i => s.feedDepth i + s.catchDepth i).sum
     s.flag (F.PEn_CTRL_EN 7) = false ∧ (s.pe 7).feed = [] ∧ (s.pe 7).catch_ = [] ∧ others + 4 + 4 ≤ 64 ∧ 64 < others + 12 + 12 ∧
     ((engine 0 0 1 false).pe 7).feed ≠ []) :=
  ⟨each₂ (fun _ => open_of) (fun _ => open_of) (by decide +kernel), each (fun _ => reaches_of) (by decide +kernel),
    each₂ (fun _ => open_of) (fun _ => open_of) (by decide +kernel), each₂ (fun _ => open_of) (fun _ => open_of) (by decide +kernel),
    by decide +kernel⟩

/-- Engine 7 at the entry `e`, its last one, with `fed` words to feed. -/
def entry (e : BitVec 64) (fed : Nat) : State :=
  fields [(F.PEn_CTRL_EN 7, 1)] { base with sbd := { base.sbd with
    pe := kset PinEngine.init base.sbd.pe 7 { PinEngine.init with prog := [(255, e)], s := 255, feed := List.replicate fed 5 } } }

/-- A reserved entry, one that stalls, one that runs. -/
theorem witness_PinEngineEntries : ∀ p ∈ [((0xF <<< 40 : BitVec 64), 0, true), (1 <<< 35, 0, false), (1 <<< 35, 1, false)],
    let s := entry p.1 p.2.1
    let e := (kget 0 (s.pe 7).prog (s.pe 7).s.toNat : BitVec 64).toNat
    s.crp.mainUp = true ∧ s.flag (F.PEn_CTRL_EN 7) = true ∧ peBad e = p.2.2 ∧
    (p.2.2 = false → bits e 35 3 = 1 ∧ ((s.pe 7).feedSeen (s.passFt (s.nextEdge 64 (s.pe 7).last)).sbCyc = 0 ↔ p.2.1 = 0)) := by decide +kernel

/-- Timer 15 enabled, its count at `count`. -/
def timer (clk count lap laps edge : Nat) (pin : Bool) : State :=
  let s := fields [(F.TMm_CTRL_EN 15, 1), (F.TMm_CTRL_CLKSEL 15, clk), (F.TMm_CTRL_LAPS 15, laps), (F.TMm_CTRL_CAP_EDGE 15, edge),
    (F.TMm_STAT_LAP 15, lap)] (base.setReg (R.TMm_COUNT 15) (BitVec.ofNat 32 count))
  { s with sbd := { s.sbd with tm := kset Timer.init s.sbd.tm 15 { Timer.init with cmp := 4, pin := pin } } }

theorem witness_Timers :
    (∀ p ∈ [(0, 0, 0, 255), (0, 0, 255, 255), (1, 0, 0, 0), (1, 5, 0, 0), (0, 0xFFFFFFFF, 0, 0)],
      let s := timer p.1 p.2.1 p.2.2.1 p.2.2.2 0 false
      s.tmRuns 15 = true ∧ s.tmGate 15 = true ∧ (s.tmWait 15 1).tmGate 15 = true ∧ s.f (F.TMm_CTRL_CLKSEL 15) = p.1 ∧
      (s.reg (R.TMm_COUNT 15)).toNat = p.2.1 ∧ s.f (F.TMm_STAT_LAP 15) = p.2.2.1 ∧ s.f (F.TMm_CTRL_LAPS 15) = p.2.2.2) ∧
    (∀ c ∈ [0, 5], let s := fields [(F.TMm_CTRL_EN 14, 1)] (timer 2 c 0 0 0 false)
      s.tmRuns 14 = true ∧ (s.tmWait 14 1).tmGate 14 = true ∧ s.f (F.TMm_CTRL_CLKSEL 14) = 0 ∧ (s.reg (R.TMm_COUNT 14)).toNat = 0 ∧
      s.f (F.TMm_STAT_LAP 14) = s.f (F.TMm_CTRL_LAPS 14) ∧ s.f (F.TMm_CTRL_CLKSEL 15) = 2 ∧ s.tmRuns 15 = true ∧
      (s.tmWait 14 1).tmGate 15 = true ∧ (s.reg (R.TMm_COUNT 15)).toNat = c) ∧
    (∀ s ∈ [base, timer 0 5 0 0 0 false], Reaches s .csp (R.TMm_CTRL 15) ∧ s.crp.mainUp = true) ∧
    (∀ p ∈ [(1, false, true), (2, true, false), (3, false, true)],
      let s := timer 0 5 0 0 p.1 p.2.1
      s.crp.mainUp = true ∧ ((!(s.tm 15).pin && p.2.2 && Nat.testBit (s.f (F.TMm_CTRL_CAP_EDGE 15)) 0) ||
        ((s.tm 15).pin && !p.2.2 && Nat.testBit (s.f (F.TMm_CTRL_CAP_EDGE 15)) 1)) = true) :=
  ⟨by decide +kernel, by decide +kernel, each (fun _ => reaches_of) (by decide +kernel), by decide +kernel⟩

/-- A frame with its check byte. -/
def frame (dst src cmd len data : Nat) : VwkFrame :=
  let f : VwkFrame := { dst := BitVec.ofNat 12 dst, srcT := BitVec.ofNat 12 src, cmd := BitVec.ofNat 4 cmd, len := BitVec.ofNat 4 len,
                        data := BitVec.ofNat 64 data, crc := 0, stop := true }
  { f with crc := BitVec.ofNat 8 (vwkCrc f) }

/-- The tally 77 held, `q` frames received, the chain key 0x1122. -/
def tallied (bcast q : Nat) : State :=
  (fields [(F.VWK_STAT_TSTATE, 2), (F.VWK_STAT_TALLY, 77), (F.VWK_CFG_RX_BCAST, bcast), (F.VWK_CFG_CHAIN_BCAST, bcast),
    (F.VWK_CFG_CHAIN_EN, 1), (F.VWK_CHAIN_KEY, 0x1122)] base).modVwk fun x => { x with rxq := List.replicate q (frame 1 2 8 0 0) }

/-- Each command to the tally, and those that a broadcast carries, the FIFO empty, with one place left, and full; frames that fail. -/
theorem witness_VowickFrames :
    (∀ p ∈ [(0, 0, 77, 0), (1, 0, 77, 0), (2, 0, 77, 7), (2, 1, 0, 8), (5, 0, 77, 7), (5, 1, 0, 8), (8, 0, 77, 8), (14, 1, 0, 7)],
      let s := tallied p.2.1 p.2.2.2
      let f := frame p.2.2.1 5 p.1 8 9
      s.crp.mainUp = true ∧ s.vwkOff = false ∧ s.vwkState = 2 ∧ f.cmd.toNat = p.1 ∧ f.stop = true ∧ f.len.toNat ≤ 8 ∧
      f.crc.toNat = vwkCrc f ∧ f.srcT ≠ 0 ∧ f.srcT.toNat ≠ s.tally ∧ s.vwk.tx = none ∧ s.vwk.txq = [] ∧
      ((f.dst ≠ 0 ∧ f.dst.toNat = s.tally) ∨ (f.dst = 0 ∧ s.flag F.VWK_CFG_RX_BCAST = true)) ∧
      (s.vwk.rxq.length = 0 ∨ s.vwk.rxq.length = 7 ∨ s.vwk.rxq.length = 8)) ∧
    (let s := tallied 0 0
     let f := frame 0 0 3 8 77
     f.cmd = 3 ∧ f.stop = true ∧ f.len.toNat ≤ 8 ∧ f.crc.toNat = vwkCrc f ∧ f.srcT.toNat ≠ s.tally ∧ f.data.toNat % 2 ^ 12 = s.tally) ∧
    (∀ p ∈ [(0, 77, 0x2211), (1, 0, 0x2211), (0, 77, 0x2212)],
      let s := tallied p.1 0
      let f := frame p.2.1 5 6 2 p.2.2
      f.cmd = 6 ∧ f.stop = true ∧ f.crc.toNat = vwkCrc f ∧ f.srcT ≠ 0 ∧ f.srcT.toNat ≠ s.tally ∧ f.len = 2 ∧ s.crp.seq = none ∧
      (f.dst.toNat = s.tally ∨ (f.dst = 0 ∧ s.flag F.VWK_CFG_CHAIN_BCAST = true)) ∧ s.flag F.VWK_CFG_CHAIN_EN = true ∧
      f.data.toNat / 256 % 256 = s.f F.VWK_CHAIN_KEY % 256 ∧ (f.data.toNat % 256 = s.f F.VWK_CHAIN_KEY / 256 ↔ p.2.2 = 0x2211)) ∧
    (∀ c ∈ [0, 1, 2, 3, 5, 8, 14],
      let s := tallied 0 0
      let f := frame 0 77 c 0 0
      s.vwkState = 2 ∧ f.cmd.toNat = c ∧ f.stop = true ∧ f.len.toNat ≤ 8 ∧ f.crc.toNat = vwkCrc f ∧ f.srcT ≠ 0 ∧ f.srcT.toNat = s.tally) ∧
    (let f := frame 77 5 0 0 0
     ({ f with stop := false }).stop = false ∧ 8 < (frame 77 5 8 9 0).len.toNat ∧ ({ f with crc := f.crc + 1 }).crc.toNat ≠ vwkCrc f ∧
     (frame 77 0 0 0 0).srcT = 0 ∧ (frame 77 0 0 0 0).cmd ≠ 3) := by decide +kernel

/-- The VWK in state `st`, sending `tx`, a claim tried `tried` times. -/
def vowick (st attn hdr : Nat) (tx : Option (VwkFrame × VwkJob)) (tried : Nat) (seen : Bool) : State :=
  (fields [(F.VWK_STAT_TSTATE, st), (F.VWK_CTRL_ATTN, attn), (F.VWK_CFG_AUTO_CLAIM, 1)] (base.setReg R.VWK_TX_HDR (BitVec.ofNat 32 hdr))).modVwk
    fun x => { x with tx := tx, tried := tried, attnSeen := seen }

theorem witness_VowickControl :
    (∀ s ∈ [vowick 0 0 0 none 0 false, vowick 2 0 0x18005 none 0 false, vowick 3 0 0 none 0 true], Reaches s .csp R.VWK_CTRL ∧
      (s.crp.mainUp = true ∧ s.vwkOff = false ∧ s.vwk.tx = none ∧ s.vwk.txq = [] ∧
       (s.vwkState = 0 ∧ s.flag F.VWK_CFG_AUTO_CLAIM = true ∨ s.vwkState = 2 ∨ s.vwkState = 3) ∧
       ∀ b < 4, ∀ i < 4, ((1 : Word) <<< b).getLsbD i = if i = 3 then b == 3 || s.flag F.VWK_CTRL_ATTN else i == b)) ∧
    (∀ p ∈ [(0x18005, true), (0x8F008, false), (0x80008, true), (0x98008, false), (0x3008, false)],
      let s := vowick 2 0 p.1 none 0 false
      let hdr := (s.reg R.VWK_TX_HDR).toNat
      s.flag F.VWK_STAT_TX_BUSY = false ∧ (decide (bits hdr 12 4 ∉ [3, 4, 5, 7, 15]) && decide (bits hdr 16 4 ≤ 8)) = p.2) ∧
    (∀ j ∈ [VwkJob.user, .release], let s := vowick 2 0 0 (some (frame 5 77 8 0 0, j)) 0 false
      s.vwk.tx = some (frame 5 77 8 0 0, j) ∧ s.vwk.txq = [] ∧ (VwkTxEnd.acked ≠ .lostArbitration ∧ VwkTxEnd.notAcked ≠ .lostArbitration) ∧
      (frame 5 77 8 0 0).dst ≠ 0) ∧
    (∀ n ∈ [0, 4093, 4094], let s := vowick 1 0 0 (some (frame 0 0 3 8 5, .claim)) n false
      s.vwk.tx = some (frame 0 0 3 8 5, .claim) ∧ s.vwk.txq = [] ∧ (s.vwk.tried < 4094 ∨ s.vwk.tried = 4094)) ∧
    (4 ≤ 4 ∧ 4 ≤ 32 ∧ 32 ≤ 32) ∧ (∀ b ∈ [false, true], (vowick 0 0 0 none 0 b).vwk.attnSeen = b) ∧
    Reaches base .csp R.VWK_RX_POP :=
  ⟨each (fun _ => reaches_of) (by decide +kernel), by decide +kernel, by decide +kernel, by decide +kernel, by decide, by decide +kernel,
    reaches_of (by decide +kernel)⟩

/-- A data word with the fields of `l`. -/
def data (l : List (Fld × Nat)) : Word := l.foldl (fun w p => wput w p.1 p.2) 0

/-- In mode `m`, the reset sequence as given, with the PLL locked, the domains acknowledged or not, and `words` lifecycle words. -/
def resetting (m : Nat) (k : Option (SeqKind × Nat)) (pll ack : Nat) (words : Nat) : State :=
  fields [(F.CRP_MODE_MODE, m), (F.CRP_PWR_STAT_PLL_LOCK, pll), (F.CRP_PWR_STAT_MAIN_ACK, ack), (F.CRP_PWR_STAT_RET_ACK, ack)]
    { base with crp := { base.crp with seq := k.map fun x => { kind := x.1, step := x.2, at_ := 3 }, lcWords := words } }

theorem witness_ResetSequences :
    (∀ p ∈ [(resetting 6 none 1 1 0, none), (resetting 1 (some (.hard, 3)) 1 0 0, some (SeqKind.hard, 3)),
        (resetting 1 (some (.por, 1)) 0 0 0, some (.por, 1)), (resetting 1 (some (.por, 2)) 0 0 0, some (.por, 2)),
        (resetting 1 (some (.por, 2)) 0 0 47, some (.por, 2)), (resetting 1 (some (.por, 2)) 0 0 48, some (.por, 2)),
        (resetting 1 (some (.por, 3)) 0 0 48, some (.por, 3)), (resetting 1 (some (.bor, 4)) 0 0 0, some (.bor, 4)),
        (resetting 1 (some (.bor, 5)) 0 1 0, some (.bor, 5)), (resetting 1 (some (.wake, 6)) 1 1 0, some (.wake, 6)),
        (resetting 1 (some (.por, 6)) 1 1 0, some (.por, 6)), (resetting 1 (some (.soft, 6)) 1 1 0, some (.soft, 6)),
        (resetting 1 (some (.hard, 6)) 1 1 0, some (.hard, 6)), (resetting 1 (some (.por, 7)) 1 1 0, some (.por, 7)),
        (resetting 1 (some (.bor, 7)) 1 1 0, some (.bor, 7)), (resetting 1 (some (.soft, 9)) 1 1 0, some (.soft, 9)),
        (resetting 1 (some (.debug, 9)) 1 1 0, some (.debug, 9)), (resetting 1 (some (.wake, 10)) 1 1 0, some (.wake, 10))],
      p.1.crp.headOn = true ∧ p.1.crp.mainUp = true ∧ p.1.crp.seq.map (fun q => (q.kind, q.step)) = p.2 ∧ p.1.crp.fatalOwed = false ∧
      p.1.mem.wakeT = none ∧ p.1.mem.wakeS = none) ∧
    ((resetting 6 none 1 1 0).crp.seq.all (fun q => q.kind != .por) = true ∧ (resetting 1 (some (.por, 2)) 0 0 47).crp.lcWords < 48 ∧
      (resetting 1 (some (.por, 2)) 0 0 48).crp.lcWords = 48 ∧ (resetting 1 (some (.por, 2)) 0 0 48).flag F.CRP_PWR_STAT_RET_ACK = false ∧
      (resetting 1 (some (.por, 3)) 0 0 48).flag F.CRP_PWR_STAT_MAIN_ACK = false ∧
      (resetting 6 none 1 1 0).flag F.CRP_PWR_STAT_PLL_LOCK = true ∧ (resetting 6 none 1 1 0).flag F.CRP_PWR_STAT_MAIN_ACK = true ∧
      (resetting 1 (some (.wake, 10)) 1 1 0).flag F.CRP_PWR_STAT_PLL_LOCK = true ∧
      ({ base with crp := { base.crp with retaining := true } } : State).crp.retaining = true) ∧
    (∀ w ∈ [data [(F.CRP_RST_CTRL_KEY, 0x7E57), (F.CRP_RST_CTRL_HARD, 1)], data [(F.CRP_RST_CTRL_KEY, 0x7E57), (F.CRP_RST_CTRL_SOFT, 1)]],
      Reaches base .csp R.CRP_RST_CTRL ∧ (base.crp.seq = none ∧ wf w F.CRP_RST_CTRL_KEY = 0x7E57 ∧
        wb w F.CRP_RST_CTRL_HARD = !wb w F.CRP_RST_CTRL_SOFT)) ∧
    (∀ w ∈ [data [(F.DBG_CTRL_KEY, 0xDB60), (F.DBG_CTRL_DBG_RST, 1)]], Reaches base .debug R.DBG_CTRL ∧
      (wb w F.DBG_CTRL_DBG_RST = true ∧ wf w F.DBG_CTRL_KEY = 0xDB60 ∧ wb w F.DBG_CTRL_HALT = false ∧ wb w F.DBG_CTRL_RESUME = false)) :=
  ⟨by decide +kernel, by decide +kernel, each (fun _ => reaches_of) (by decide +kernel), each (fun _ => reaches_of) (by decide +kernel)⟩

/-- In mode `m` with no group enabled and the servo in WINDER. -/
def inMode (m : Nat) : State :=
  let s := (fields [(F.CRP_MODE_MODE, m), (F.CRP_DRAIN_TMO, 5), (F.CRP_WAKE_ATTN_EN, 1)] base).setServo TL.winder
  { s with crp := { s.crp with haltMode := 6, wake14 := true, wake15 := true, mainUp := decide (m ≠ 9) } }

theorem witness_OperatingModes :
    (∀ p ∈ [(4, 3), (5, 3), (3, 4), (4, 5), (6, 5), (7, 5), (5, 6), (6, 8), (7, 8), (3, 9), (2, 11), (10, 11)],
      Reaches (inMode p.1) .csp R.CRP_MODE_CTRL ∧ (wf (data [(F.CRP_MODE_CTRL_REQ, p.2)]) F.CRP_MODE_CTRL_REQ = p.2 ∧
        (inMode p.1).mode = p.1 ∧ (inMode p.1).mayRequest p.2 = true ∧ (inMode p.1).crp.headOn = true ∧ (inMode p.1).crp.mainUp = true ∧
        (inMode p.1).flag F.CRP_MODE_BUSY = false)) ∧
    (∀ p ∈ [(2, 3), (6, 3), (3, 6), (11, 11), (1, 9), (6, 15)],
      Reaches (inMode p.1) .csp R.CRP_MODE_CTRL ∧ (wf (data [(F.CRP_MODE_CTRL_REQ, p.2)]) F.CRP_MODE_CTRL_REQ = p.2 ∧ p.2 ≠ 0 ∧
        (inMode p.1).mayRequest p.2 = false ∧ (p.2 ≠ 3 ∨ (inMode p.1).mode ≠ 9))) ∧
    (∀ s ∈ [inMode 9], Reaches s .csp R.CRP_MODE_CTRL ∧ (s.mode = 9 ∧ s.crp.seq = none ∧ s.flag F.CRP_MODE_BUSY = false ∧
      s.crp.wake14 = true ∧ s.crp.wake15 = true ∧ s.flag F.CRP_WAKE_ATTN_EN = true)) ∧
    ((inMode 8).mode = 8 ∧ (inMode 8).drained = true ∧ (inMode 8).f F.CRP_DRAIN_TMO ≠ 0) ∧
    (∀ m ∈ [3, 8, 11, 10], Reaches (inMode m) .debug R.DBG_CTRL ∧
      ((inMode m).mode = m ∧ (inMode m).crp.headOn = true ∧ (inMode m).crp.haltMode.toNat ∈ [3, 4, 5, 6, 7, 8, 11] ∧
        wb (data [(F.DBG_CTRL_HALT, 1)]) F.DBG_CTRL_HALT = true ∧ wb (data [(F.DBG_CTRL_HALT, 1)]) F.DBG_CTRL_RESUME = false ∧
        wb (data [(F.DBG_CTRL_HALT, 1)]) F.DBG_CTRL_DBG_RST = false ∧ wb (data [(F.DBG_CTRL_RESUME, 1)]) F.DBG_CTRL_HALT = false ∧
        wb (data [(F.DBG_CTRL_RESUME, 1)]) F.DBG_CTRL_RESUME = true)) ∧
    (let s := (inMode 10).modThread 2 fun x => { x with st := TST.halted, modeHalt := true }
     (s.thread 2).modeHalt = true ∧ (s.thread 2).st = TST.halted) :=
  ⟨each (fun _ => reaches_of) (by decide +kernel), each (fun _ => reaches_of) (by decide +kernel),
    each (fun _ => reaches_of) (by decide +kernel), by decide +kernel, each (fun _ => reaches_of) (by decide +kernel), by decide +kernel⟩

/-- A droop hold that ends at `e`, or none, and a temperature of 19 below the trip of 20. -/
def drooping (e : Option Nat) : State :=
  let s := fields [(F.CRP_DROOP_STAT_HOLD, if e.isSome then 1 else 0), (F.SCH_SHIFT_CFG_DROOP_ALLOW, 1), (F.CRP_TEMP_T, 19), (F.CRP_TEMP_TRIP, 20)] base
  { s with crp := { s.crp with holdEnd := e, holdStart := e.map fun _ => 0 } }

theorem witness_DroopAndTemperature :
    (∀ e ∈ [none, some 0, some 1000000], let s := drooping e
      s.crp.headOn = true ∧ s.crp.mainUp = true ∧ s.flag F.CRP_DROOP_STAT_HOLD = e.isSome ∧ s.crp.holdEnd = e ∧
      s.flag F.SCH_CLS_STAT_DROOP = false ∧ s.fi F.CRP_TEMP_T < s.fi F.CRP_TEMP_TRIP ∧
      s.fi F.CRP_TEMP_TRIP ≤ (20 : BitVec 9).toInt ∧ ¬s.fi F.CRP_TEMP_TRIP ≤ (19 : BitVec 9).toInt ∧ ¬s.fi F.CRP_TEMP_TRIP ≤ (0x100 : BitVec 9).toInt) ∧
    (let s := drooping (some 1000000)
     s.now + (s.f F.SCH_SHIFT_CFG_DROOP_ALLOW * usCycles + 1 - s.droopNow) ≤ 1000000) := by decide +kernel

/-- An operand in space `sp` at `a`, and a command of one element of type `typ`, chain 0xFF. -/
def opnd (a typ sp : Nat) : Nat := a + 2 ^ 192 * (sp + 2 ^ 16 * typ)
def command (op a b c : Nat) : BitVec 1024 :=
  BitVec.ofNat 1024 (op + 2 ^ 8 * 0xFF + 2 ^ 48 * 77 + 2 ^ 128 * a + 2 ^ 384 * b + 2 ^ 640 * c)
def cmdOf (w : BitVec 1024) (ph : CmdPhase) (st : BitVec 8) : DCmd :=
  { words := w, malformed := false, src := .csp, commit := 5, phase := ph, since := 100, deferred := false, counted := false, run := none,
    status := st, resume := 6, record := 0, qe := none }

/-- Drift 15 holding `cs`, an image with the sections `sects`. -/
def drifting (sects : List Sect) (cs : List DCmd) : State :=
  let s := up { hdr := none, sects := sects }
  { s with str := { s.str with drifts := [(15, { Drift.init with held := cs })] } }

/-- The command of operation `op` on bytes at the start and end of staging memory. -/
def simple (op : Nat) : BitVec 1024 :=
  command op (opnd 0 0 1) (if usesB op then opnd (2 ^ 26 - 1) 0 1 else 0) (opnd (2 ^ 26 - 1) 0 1)

/-- Each operation as a command that starts, and as one of an operand space that R310 forbids. -/
theorem witness_StreamOperations_StreamResults : ∀ op ∈ List.range 14,
    let x := cmdOf (simple op) .waiting 0
    let y := cmdOf (command op (opnd 0 0 7) 0 (opnd 0 0 1)) .waiting 0
    let s := drifting [] [x]
    let c := x.cmd
    (s.drift 15).held = [x] ∧ x.phase = .waiting ∧ x.qe = none ∧ x.malformed = false ∧ c.chain = 0xFF ∧ s.cfg.imageActive = true ∧
    6 ≤ s.mode ∧ s.mode ≤ 8 ∧ c.classS = false ∧ y.cmd.classS = false ∧ s.flag F.CRP_DROOP_STAT_HOLD = false ∧ s.str.runs = [] ∧ s.str.used = [] ∧
    (∀ b < 512, 15 ∈ s.str.order b) ∧ s.crp.mainUp = true ∧
    c.op = op ∧ c.bad s.cfg.active 15 = false ∧ c.n = 1 ∧ c.start = 0 ∧
    c.fold = 0 ∧ c.traps = 0 ∧ (∀ o ∈ [c.a] ++ (if c.b.space = 0 then [] else [c.b]), o.space = 1 ∧ o.mode = 0 ∧ o.typ = c.c.typ ∧
      o.addr + c.c.size ≤ 2 ^ 26 ∧ s.peerTableWord (o.addr / 64) = none ∧ s.peerTableWord ((o.addr + c.c.size - 1) / 64) = none) ∧
    c.c.space = 1 ∧ c.c.mode = 0 ∧ c.c.addr + c.c.size ≤ 2 ^ 26 ∧ s.str.ecc = [] ∧ s.str.poison = [] ∧
    y.cmd.op = op ∧ y.cmd.chain = 0xFF ∧ y.cmd.bad s.cfg.active 15 = true := by decide +kernel

/-- The same drift with `ws` in its command channel, 1023, END on the last word. -/
def filled (taken ws : List (BitVec 64)) : State :=
  let s := (drifting [] []).setF (F.STR_Dd_CFG_CMD_CH 15) 1023
  { s with
    str := { s.str with drifts := [(15, { Drift.init with taken := taken })] }
    btp := { s.btp with chans := [(1023, { Chan.init with words := (List.range ws.length).map fun i =>
      { data := ws.getD i 0, fin := i + 1 == ws.length, brk := false, at_ := 0, sched := false } })] } }

/-- Landing slot 9 of a program with one slot at the end of staging memory, a flit of its tag on link group 7, and entry `id`. -/
def landingPlan (hole : Bool) (cur : Option (Nat × Nat)) : State :=
  let s := drifting [{ idx := 0, typ := 5, inst := 0, dest := 0, bytes := natLe 0x40 10 ++
      (List.range 10).flatMap fun i => natLe 8 (if i = 9 then 2 + 4 * (2 ^ 18 - 1) + 2 ^ 20 * 1 else 0) },
    { idx := 0, typ := 9, inst := 0, dest := 0, bytes := natLe 64 1 ++ natLe 32 77 }] []
  let s := ((s.setF F.STR_RED_SEL_RED_ID 77).setB F.STR_CFG_SCRUB_EN true).modLg 7 fun x => { x with
    sLand := [{ tag := 9, hole := hole, csv := false, pay := 5, due := 7, k := 0 }] }
  s.setRed 77 { RedEntry.init with cur := cur }

/-- The same drift as it executes its command. -/
def executing : State :=
  let x := { cmdOf (simple 1) .running 0 with run := some 7 }
  let s := drifting [] [x]
  { s with str := { s.str with nextRun := 8, runs := [
    { id := 7, ms := [Member.init 15 x.cmd 0 0 false 9], io := { bytes := [], rdErr := [], wrErr := [], poison := [], lat := 0 }
      ctx := { term := 15, beat := 1, start := 0, count := 1, path := 10, feeds := [], seed := 0, stuck := false }
      beat := 0, enter := 9, stop := none, closed := false }] } }

theorem witness_StreamControl :
    (∀ n ∈ [0, 15], let w := simple 1
      let ws := (List.range 16).map fun i => BitVec.ofNat 64 (w.toNat / 2 ^ (64 * i))
      let s := filled (ws.take n) (ws.drop n)
      let C := s.chan (s.f (F.STR_Dd_CFG_CMD_CH 15))
      (s.drift 15).held = [] ∧ s.cfg.imageActive = true ∧ C.hw = [] ∧ C.rhold = none ∧ s.storeFaults = [] ∧ C.words ≠ [] ∧
      ((s.drift 15).taken ++ C.words.map fun w => w.data).length = 16 ∧ (∀ w ∈ C.words, w.brk = false) ∧
      (∀ w ∈ C.words.dropLast, w.fin = false) ∧ (C.words.getLast?.map fun w => w.fin) = some true ∧
      (SCmd.ofWords (BitVec.ofNat 1024 (((s.drift 15).taken ++ C.words.map fun w => w.data).foldr (fun w a => w.toNat + 2 ^ 64 * a) 0))).chain = 0xFF ∧
      s.str.runs = []) ∧
    (∀ s ∈ [(drifting [] []).setReg (R.STR_CMD_Wi 0) 0xFF00, (drifting [] (List.replicate 3 (cmdOf (simple 0) .running 0))).setReg (R.STR_CMD_Wi 0) 0xFF00,
        drifting [] (List.replicate 4 (cmdOf (simple 0) .running 0)), base],
      Reaches s .csp R.STR_CMD_GO ∧ (let w := data [(F.STR_CMD_GO_DRIFT, 15), (F.STR_CMD_GO_GO, 1)];
        wf w F.STR_CMD_GO_DRIFT = 15 ∧ wb w F.STR_CMD_GO_GO = true ∧ (∀ y ∈ (s.drift 15).held, y.phase ≠ .recordWait) ∧
        (((s.drift 15).held.length < 4 ∧ (s.reg (R.STR_CMD_Wi 0)).toNat / 256 % 256 = 0xFF) ∨ 4 ≤ (s.drift 15).held.length ∨
          (s.reg (R.STR_CMD_Wi 0)).toNat = 0))) ∧
    (∀ x ∈ [cmdOf (simple 1) .running 0, cmdOf (simple 1 + (1 <<< 43)) .running 7], let s := drifting [] [x]
      (s.drift 15).held = [x] ∧ x.phase = .running ∧ x.run = none ∧ x.qe = none ∧ x.cmd.cplEn = false ∧ s.str.runs = [] ∧
      s.crp.mainUp = true) ∧
    (∀ x ∈ [cmdOf (simple 1) .chainWait 0, cmdOf (simple 1) .running 0, cmdOf (simple 1) .waiting 0],
      Reaches (drifting [] [x]) .csp (R.STR_Dd_CTRL 15) ∧ (let s := drifting [] [x];
        (s.drift 15).held = [x] ∧ (x.phase = .chainWait ∨ x.phase = .running ∨ x.phase = .waiting) ∧ x.run = none ∧ s.str.runs = [] ∧
        (∀ y ∈ s.str.drifts, y.1 = 15) ∧ wb (data [(F.STR_Dd_CTRL_ABORT 15, 1)]) (F.STR_Dd_CTRL_ABORT 15) = true ∧
        wb (data [(F.STR_Dd_CTRL_ABORT 15, 1)]) (F.STR_Dd_CTRL_FLUSH 15) = false ∧
        wb (data [(F.STR_Dd_CTRL_FLUSH 15, 1)]) (F.STR_Dd_CTRL_ABORT 15) = false ∧
        wb (data [(F.STR_Dd_CTRL_FLUSH 15, 1)]) (F.STR_Dd_CTRL_FLUSH 15) = true)) ∧
    (Reaches executing .csp (R.STR_Dd_CTRL 15) ∧ (∃ x r, (executing.drift 15).held = [x] ∧ x.phase = .running ∧ x.run = some 7 ∧
      executing.run 7 = some r ∧ r.stop = none ∧ r.closed = false ∧ ∀ y ∈ executing.str.drifts, y.1 = 15)) ∧
    (∀ b ∈ [false, true], let s := landingPlan b none
      ((s.lg 7).sLand.map fun f => (f.tag, f.hole)) = [(9, b)] ∧ s.cfg.active.tagKind 9 = .landing (2 ^ 18 - 1) 1 ∧ s.str.ecc = [] ∧
      s.str.runs = [] ∧ s.crp.mainUp = true ∧ s.flag (F.LNK_LGn_CFG_PROT 7) = false ∧ s.flag F.STR_CFG_SCRUB_EN = true) ∧
    (∀ s ∈ [landingPlan false none, landingPlan false (some (1, 2)), base], Reaches s .csp R.STR_RED_CMD ∧
      (let id := s.f F.STR_RED_SEL_RED_ID;
        wb (data [(F.STR_RED_CMD_RESET, 1)]) F.STR_RED_CMD_RESET = true ∧ ((s.red id).held = [] ∧ (((s.red id).cur = none ∧ (s.cfg.active.redEnt id).isSome = true) ∨ (s.red id).cur.isSome = true ∨
          s.cfg.active.redEnt id = none)))) :=
  ⟨by decide +kernel, each (fun _ => reaches_of) (by decide +kernel), by decide +kernel, each (fun _ => reaches_of) (by decide +kernel),
    ⟨reaches_of (by decide +kernel), _, _, rfl, rfl, rfl, rfl, rfl, rfl, by decide +kernel⟩, by decide +kernel, each (fun _ => reaches_of) (by decide +kernel)⟩

/-- Link group 1 in training state `ts`, the servo in `servo`, the role `role`, link group `up` upstream. -/
def locking (servo role up ts : Nat) : State :=
  let s := (fields [(F.LNK_LGn_STAT_TSTATE 1, ts), (F.LNK_LGn_CTRL_EN 1, 1), (F.LNK_LGn_CFG_ACTIVE 1, 1), (F.LNK_LGn_STAT_WIDTH 1, 2),
    (F.SCH_TL_CFG_ROLE, role), (F.SCH_TL_CFG_HOLD_EPOCHS, 3), (F.SCH_TL_CFG_UP_LG, up)] opened).setServo servo
  { s with sch := { s.sch with ft := 50001, good := 15, missRun := 1, standbyExpired := true } }

/-- A mark that locks, of epoch 11, that arrives on time. -/
def mark11 : BitVec 64 := BitVec.ofNat 64 (11 + 2 ^ 33 * 31 + 2 ^ 38 * 3)

theorem witness_TimeLock :
    (∀ s ∈ [locking 3 0 1 7, { locking 3 0 1 7 with sch := { (locking 3 0 1 7).sch with ft := 49152, lastEpoch := some 49152 } }],
      s.crp.mainUp = true ∧ s.sch.ft.toNat + 2 ^ 40 < 2 ^ 64 ∧ s.tstate 1 = 7 ∧ (∀ h < 8, h ≠ 1 → s.tstate h < 4) ∧ (s.lg 1).egSlot = 0 ∧
      (s.lg 1).remap = none ∧ (s.lg 1).width = none ∧ s.flag (F.LNK_LGn_STAT_DEGRADED 1) = false ∧ s.spe 1 ≠ 0 ∧
      (s.lg 1).resend ≤ (s.lg 1).replay.length ∧ (s.sch.lastEpoch = none ∨ s.sch.lastEpoch = some s.sch.ft)) ∧
    (∀ p ∈ [(3, 4), (3, 7), (2, 7)], let s := locking p.1 0 1 p.2
      4 ≤ s.tstate 1 ∧ s.foreignWinder 1 = false ∧ bits mark11.toNat 0 3 ≠ 7 ∧ 1 = s.upstream ∧ s.f F.SCH_TL_CFG_ROLE = 0 ∧
      (64 * (11 * 4096)) / 64 + 112 ≤ s.sch.ft.toNat ∧ s.servo = p.1) ∧
    ((locking 4 0 1 7).servo = 4 ∧ (locking 4 0 1 7).f F.SCH_TL_CFG_ROLE ≠ 1 ∧ (locking 1 0 1 7).servo = 1 ∧
      (locking 1 0 1 7).f F.SCH_TL_CFG_ROLE ≠ 1) ∧
    (let s := locking 0 2 1 7
     s.servo = 0 ∧ s.f F.SCH_TL_CFG_ROLE = 2 ∧ s.sch.standbyExpired = true ∧ s.upstream ≠ 8) ∧
    (∀ s ∈ [locking 3 0 1 7, locking 5 1 1 7], (Reaches s .csp R.SCH_TL_CTRL ∧ s.unlocked) ∧
      (wb (data [(F.SCH_TL_CTRL_RELOCK, 1)]) F.SCH_TL_CTRL_RELOCK = true ∧ s.upstream ≠ 8)) :=
  ⟨by decide +kernel, by decide +kernel, by decide +kernel, by decide +kernel, each (fun _ => open_of) (by decide +kernel)⟩

/-- A header of shifts of 2¹² cycles. -/
def header : ImgHdr := { planId := 99, imageLen := 0, nSect := 0, flags := 0, endpoint := 7, k := 12, svn := 0, keySlot := 0, actShift := 0, sigOff := 8 }

/-- The staged half in state `st`, armed for shift `arm`. -/
def staged (st pend : Nat) (arm : Option Nat) : State :=
  let s := fields [(F.CFG_STAT_STAGED, st), (F.SCH_BSTAT_SWAP_PEND, pend), (F.SCH_RPT_STAT_FILLING, 1)] base
  { s with
    cfg := { s.cfg with staged := { hdr := some header, sects := [] }, armedFor := arm }
    sch := { s.sch with lastBoundary := some 0, shadowHdr := List.replicate 16 9 } }

theorem witness_ShiftsAndSwaps :
    (∀ st ∈ [3, 4], ∀ pend ∈ [0, 1], let s := staged st pend none
      let t := staged st pend (some s.nextDecision)
      t.crp.mainUp = true ∧ t.sch.ft.toNat + t.shiftLen < 2 ^ 64 ∧ t.nextDecision * t.shiftLen < 2 ^ 64 ∧ t.cfg.armedFor = some t.nextDecision ∧
      s.cfg.armedFor ≠ some s.nextDecision ∧ t.f F.CFG_STAT_STAGED = st ∧ t.pairReady = true ∧
      t.flag F.SCH_BSTAT_SWAP_PEND = (pend == 1) ∧ t.tnd? ≠ 3 ∧ t.cfg.staged.hdr.isSome = true ∧ t.sch.lastBoundary = some 0 ∧
      t.flag F.SCH_RPT_STAT_FILLING = true ∧ t.sch.shadowHdr.length = 16) ∧
    (let n := (staged 4 1 none).nextBoundary / (staged 4 1 none).shiftLen
     (staged 4 1 (some n)).swapsAt n = true ∧ (staged 4 1 none).swapsAt n = false ∧ (staged 4 1 none).str.runs = [] ∧
     Cnt.que 0 ≠ Cnt.sch 6 ∧ ¬(Cnt.drift 0 0 ≤ Cnt.que 0 ∧ Cnt.que 0 < Cnt.smem 0) ∧ ∀ p < 8, Cnt.que 0 ≠ Cnt.hmp p 7) := by decide +kernel

/-- An image with thread 0 alone, which the cross checks pass. -/
def section_ (typ inst : Nat) (bytes : List Byte) : Sect := { idx := 0, typ := typ, inst := inst, dest := 0, bytes := bytes }
def sound : Half :=
  { hdr := none, sects := [section_ 1 0 (natLe 4 0x103), section_ 2 0 [], section_ 2 1 (List.replicate 256 [1, 0]).flatten, section_ 5 0 [],
      section_ 6 0 [], section_ 7 0 [], section_ 8 0 [], section_ 11 0 [], section_ 12 0 [], section_ 13 0 [],
      section_ 14 0 (List.replicate 1024 0)] }

/-- The slots of a roster of POOL entries. -/
theorem pool_get (i : Nat) : ∀ n, i < n → ((List.replicate n ([1, 0] : List Byte)).flatten.getD (2 * i) 0 = 1) ∧
    ((List.replicate n ([1, 0] : List Byte)).flatten.getD (2 * i + 1) 0 = 0) := by
  induction i with
  | zero => intro n h; obtain ⟨m, rfl⟩ : ∃ m, n = m + 1 := ⟨n - 1, by omega⟩; exact ⟨rfl, rfl⟩
  | succ i ih => intro n h; obtain ⟨m, rfl⟩ : ∃ m, n = m + 1 := ⟨n - 1, by omega⟩; exact ih m (by omega)

theorem sound_pool : sound.rosterBad 1 = false := by
  refine List.any_eq_false.2 fun i hi => ?_
  have h : sound.rosterEnt 1 i = leNat [((List.replicate 256 ([1, 0] : List Byte)).flatten.getD (2 * i) 0),
      ((List.replicate 256 ([1, 0] : List Byte)).flatten.getD (2 * i + 1) 0)] := rfl
  obtain ⟨h1, h2⟩ := pool_get i 256 (List.mem_range.1 hi)
  rw [h1, h2] at h
  rw [Half.rosterThread, h]
  decide

/-- The directory of the image whose sections a half holds. -/
def directory (h : Half) : List DirEnt :=
  h.sects.map fun x => { idx := x.idx, typ := x.typ, inst := x.inst, off := 0, len := x.bytes.length, dest := 0, scrc := 0, clean := true }

/-- The cross checks of the image without its rosters. -/
theorem sound_rest : sound.missing (directory sound) = [] ∧ sound.threadsBad = false ∧ sound.rosterBad 0 = false ∧ sound.calendarFaults = [] ∧
    sound.fallbackFaults = [] ∧ sound.routeBad = false ∧ sound.slotsBad = false ∧ sound.banksBad = false ∧ sound.chainFormat = false ∧
    sound.chains.any chainBad = false ∧ sound.queuesBad = false ∧ sound.tandemFaults (directory sound) = [] := by decide +kernel

theorem sound_passes : worst (sound.crossFaults (directory sound) none) = none := by
  obtain ⟨h1, h2, h3, h4, h5, h6, h7, h8, h9, h10, h11, h12⟩ := sound_rest
  unfold Half.crossFaults
  simp only [h1, h2, h3, h4, h5, h6, h7, h8, h9, h10, h11, h12, sound_pool]
  rfl

/-- A load whose staged half is `h` in state `st`, its checks begun when `waits`. -/
def loading (st : Nat) (h : Half) (host received waits crossOk sigOk : Bool) (mode : Nat) (active : Bool) (arm : Option Nat) : State :=
  let s := fields [(F.CFG_STAT_STAGED, st), (F.CRP_MODE_MODE, mode), (F.MEM_LC_STAT_STATE, LC.blank)] base
  { s with cfg := { s.cfg with
      staged := h, dir := directory h, fromHost := host, received := received, crossOk := crossOk, sigOk := sigOk, imageActive := active, armedFor := arm, rx := [5, 0]
      crossStart := if waits then some 5 else none, sigStart := if waits then some 6 else none } }

/-- The four bits of CFG_CTRL, each alone. -/
theorem only_bits : ∀ x ∈ [F.CFG_CTRL_START, F.CFG_CTRL_ABORT, F.CFG_CTRL_DISARM, F.CFG_CTRL_ACTIVATE],
    ∀ y ∈ [F.CFG_CTRL_START, F.CFG_CTRL_ABORT, F.CFG_CTRL_DISARM, F.CFG_CTRL_ACTIVATE], wb (data [(x, 1)]) y = (x == y) := by decide +kernel

theorem witness_ImageLoading :
    (∀ s ∈ [base, loading 3 Half.empty false true false true true 2 false none, loading 4 Half.empty false true false true true 6 true (some 9),
        loading 1 Half.empty false false false false false 2 false none, loading 2 Half.empty true true true false false 2 false none,
        loading 5 Half.empty false true false true true 6 true (some 9)],
      Reaches s .csp R.CFG_CTRL ∧ Reaches s .csp R.CFG_ARM_LO ∧ (s.crp.mainUp = true ∧ s.f F.CFG_STAT_STAGED ≤ 5 ∧
        s.flag F.SCH_BSTAT_SWAP_PEND = false ∧ s.cfg.hdrArms = false)) ∧
    (let s := loading 3 Half.empty false true false true true 2 false none
     s.cfg.imageActive = false ∧ s.f F.CFG_STAT_STAGED = 3 ∧ s.mode = 2 ∧ s.decisionPast 1000 = false ∧ s.decisionPast 0 = true) ∧
    (let s := loading 1 Half.empty false false false false false 2 false none
     s.f F.CFG_STAT_STAGED = 1 ∧ s.cfg.fromHost = false ∧ s.cfg.received = false) ∧
    (∀ sig, (loading 2 sound false true true false sig 6 true none).crossResult none = none) ∧
    (∀ s ∈ [loading 2 sound false true true false false 6 true none, loading 2 sound false true true false true 6 true none],
      s.crossWaits = true ∧ s.cfg.received = true ∧ s.cfg.armedFor = none) ∧
    (let s := loading 2 Half.empty false true true false true 6 true none
     s.crossWaits = true ∧ (s.crossResult none).map (·.1) = some 0x12 ∧ s.sigWaits = false) ∧
    (∀ p ∈ [(loading 2 sound false true true false false 6 true none, none), (loading 2 sound false true true true false 6 true none, none),
        (loading 2 { sound with hdr := some header } false true true true false 6 true none, some 0x10)],
      p.1.sigWaits = true ∧ p.1.sigResult.map (·.1) = p.2 ∧ p.1.cfg.armedFor = none ∧ (p.2 = none ∨ p.1.crossWaits = false)) ∧
    ({ base with cfg := { base.cfg with hdrArms := true } } : State).cfg.hdrArms = true :=
  ⟨each₂ (fun _ => reaches_of) (fun _ => reaches_of) (by decide +kernel), by decide +kernel, by decide +kernel, fun _ => sound_passes,
    by decide +kernel, by decide +kernel, by decide +kernel, rfl⟩

/-! Codewords: one that opens, its data the scrambler's, and one with seventeen wrong symbols at its end. -/

def symbols (l : List Nat) : Nat := l.foldr (fun x a => a * 2 ^ 10 + x) 0
def goodCodeword : Nat := symbols ([52, 512] ++ List.replicate 512 0 ++ [858, 820, 735, 561, 990, 409, 408, 230, 803, 675, 636, 437, 914, 583, 59,
  237, 479, 777, 212, 791, 516, 399, 976, 734, 907, 442, 971, 666, 854, 353])
/-- The polynomial whose roots are the first sixteen of the code's thirty. -/
def tail17 : List Nat := [1, 568, 550, 748, 724, 650, 1005, 744, 27, 204, 617, 218, 595, 461, 746, 960, 888]
def badCodeword : Nat := symbols (List.replicate 527 0 ++ tail17)

theorem good_opens : (codewordOpen false goodCodeword).map (fun r => r.1) = some 524340 := by decide +kernel

theorem gfMul_zero (x : Nat) : gfMul 0 x = 0 := by
  have h : ∀ n b, gfMulN n 0 b 0 = 0 := by
    intro n
    induction n with
    | zero => intro b; rfl
    | succ n ih => intro b; rw [gfMulN]; simpa using ih (b / 2)
  exact h 10 x

theorem gfEvalHi_zeros (x : Nat) (t : List Nat) : ∀ n, gfEvalHi (List.replicate n 0 ++ t) x = gfEvalHi t x
  | 0 => rfl
  | n + 1 => by
    show (List.replicate n 0 ++ t).foldl (fun a c => gfMul a x ^^^ c) (gfMul 0 x ^^^ 0) = _
    rw [gfMul_zero]
    exact gfEvalHi_zeros x t n

theorem bad_syndromes : (rsSyndromes tail17).all (fun x => x == 0) = false ∧
    ((List.range 30).foldl (rsBmStep (rsSyndromes tail17)) { c := [1], b := [1], l := 0, m := 1, bd := 1 }).l = 17 := by decide +kernel

theorem open_none (d : Bool) (cw : Nat) (h : rsCorrect ((List.range 544).map fun j => bits cw (10 * j) 10) = none) :
    codewordOpen d cw = none := by
  unfold codewordOpen
  simp [h]

theorem bad_symbols : ((List.range 544).map fun j => bits badCodeword (10 * j) 10) = List.replicate 527 0 ++ tail17 := by decide +kernel

theorem bad_uncorrected : rsCorrect (List.replicate 527 0 ++ tail17) = none := by
  obtain ⟨a, b⟩ := bad_syndromes
  rw [← (by simp only [rsSyndromes, gfEvalHi_zeros] : rsSyndromes (List.replicate 527 0 ++ tail17) = rsSyndromes tail17)] at a b
  generalize List.replicate 527 0 ++ tail17 = l at a b ⊢
  unfold rsCorrect
  generalize rsSyndromes l = syn at a b ⊢
  simp [a, b]

theorem bad_fails : codewordOpen false badCodeword = none :=
  open_none _ _ (by rw [bad_symbols]; exact bad_uncorrected)

/-- A flit with its CRC. -/
def flit (typ vc num ext pay : Nat) : Flit := (mkFlit typ vc false false false num ext (BitVec.ofNat 1920 pay)).sealCrc

/-- Link group 1 on lanes 4 to 7 in training state `ts`, the mode `m`, the lanes of `sigs` with a signal. -/
def group (ts m : Nat) (sigs : List Nat) : State :=
  let s := fields ([(F.LNK_LGn_STAT_TSTATE 1, ts), (F.LNK_LGn_CTRL_EN 1, 1), (F.LNK_LGn_CFG_ACTIVE 1, 1), (F.LNK_LGn_CFG_WIDTH 1, 2),
    (F.LNK_LGn_STAT_WIDTH 1, 2), (F.LNK_LGn_CFG_BASE 1, 4), (F.LNK_LGn_CFG_RATE 1, 2),
    (F.CRP_MODE_MODE, m), (F.LNK_LGn_PARM_REPLAY_LIMIT 1, 3)] ++
    sigs.map fun k => (F.LNK_Ln_STAT_SIG k, 1)) opened
  { s with sch := { s.sch with ft := 50000 } }

/-- The same with what `f` makes of its state outside its registers. -/
def groupX (ts : Nat) (f : LinkGroup → LinkGroup) (s : State := group ts 6 []) : State := s.modLg 1 f

/-- A PARAM or PARAM_ACK whose parameters the group shares, and one whose do not. -/
def params (cmd width : Nat) : Flit := flit 4 0 0 0 (cmd + 2 ^ 16 * 9 + 2 ^ 64 * width + 2 ^ 73 + 2 ^ 128 * 0x500040003)

/-- Every key slot loaded, slot 0 in use in TX and slot 1 in RX. -/
def keyed (valid prot rx : Nat) : State :=
  (fields [(F.LNK_LGn_STAT_PROT_ON 1, prot), (F.LNK_LGn_GCM_CTRL_SLOT_VALID 1, valid)] (group 7 6 [])).modLg 1 fun x => { x with
    rxOn := rx == 1, rxKp := rx == 1 }

theorem key_data : ∀ b ∈ [true, false], ∀ d ∈ [0, 1], ∀ k ∈ [0, 1],
    let w := data [(if b then F.LNK_LGn_KEY_CMD_LOAD 1 else F.LNK_LGn_KEY_CMD_ERASE 1, 1), (F.LNK_LGn_KEY_CMD_DIR 1, d), (F.LNK_LGn_KEY_CMD_SLOT 1, k)]
    wb w (F.LNK_LGn_KEY_CMD_LOAD 1) = b ∧ wb w (F.LNK_LGn_KEY_CMD_ERASE 1) = !b ∧ wf w (F.LNK_LGn_KEY_CMD_DIR 1) = d ∧
    wf w (F.LNK_LGn_KEY_CMD_SLOT 1) = k := by decide +kernel

/-- The lanes that group 1's LINKS entry gives it. -/
def lanesOf (s : State) : List Nat := (List.range (2 ^ s.f (F.LNK_LGn_CFG_WIDTH 1))).map fun i => s.f (F.LNK_LGn_CFG_BASE 1) + i

/-- The group of four lane sets in training state `ts`: every set but `set` has given good codewords, or in DESKEW its place. -/
def aligning (ts set : Nat) : State := groupX ts fun x => { x with goodCw :=
  if ts = 3 then (if set = 0 then [(0, 2), (1, 2), (2, 3), (3, 4)] else [(0, 2), (1, 3), (2, 4), (3, 2)])
  else [(0, 3), (1, 3), (2, 3), (3, 3)] }

theorem witness_LinkTraining :
    -- a lane's RX valid
    (∀ s ∈ [group 1 6 [5, 6, 7], fields [(F.LNK_Ln_STAT_IN_USE 4, 1)] (group 7 6 [4])], s.crp.mainUp = true) ∧
    (let s := group 1 6 [5, 6, 7]
     s.tstate 1 = 1 ∧ 4 ≤ s.mode ∧ s.mode ≤ 7 ∧ s.flag (F.LNK_LGn_CFG_ACTIVE 1) = true ∧
     (lanesOf s).map (s.rxPhys 1) = [4, 5, 6, 7] ∧ (∀ k ∈ (lanesOf s).map (s.rxPhys 1), k ≠ 4 → s.flag (F.LNK_Ln_STAT_SIG k) = true)) ∧
    (group 7 6 [4]).flag (F.LNK_Ln_STAT_SIG 4) = true ∧
    -- the enable and RETRAIN
    (∀ s ∈ [group 0 4 [4, 5, 6, 7], group 0 7 [], group 5 6 [4, 5], group 7 6 [4, 5, 6, 7]],
      Reaches s .csp (R.LNK_LGn_CTRL 1) ∧ (s.crp.mainUp = true ∧ s.flag (F.LNK_LGn_CFG_ACTIVE 1) = true ∧ 4 ≤ s.mode ∧ s.mode ≤ 7 ∧
        s.tandemTrains = true ∧ (∀ k ∈ lanesOf s, k < 16) ∧ ∀ h : Fin 8, h ≠ 1 → s.tstate h = 0)) ∧
    (∀ p ∈ [(1, 0), (0, 0), (1, 1)], let w := data [(F.LNK_LGn_CTRL_EN 1, p.1), (F.LNK_LGn_CTRL_RETRAIN 1, p.2)]
      wb w (F.LNK_LGn_CTRL_EN 1) = (p.1 == 1) ∧ wb w (F.LNK_LGn_CTRL_RETRAIN 1) = (p.2 == 1)) ∧
    -- codewords
    (∀ ts ∈ [2, 3, 6], ∀ set ∈ [0, 3], let s := aligning ts set
      2 ≤ s.tstate 1 ∧ s.f (F.LNK_LGn_CFG_BASE 1) + 2 ^ s.f (F.LNK_LGn_CFG_WIDTH 1) ≤ 16 ∧
      set ∈ List.range (2 ^ s.f (F.LNK_LGn_CFG_WIDTH 1) / s.setLanes 1) ∧ s.setPhys 1 set = [4 + set] ∧
      (s.f (F.LNK_LGn_PARM_FEC_MODE 1) == 1) = false ∧ (∀ w ∈ [badCodeword, goodCodeword], s.orderOf 1 set 1 false [w] = [0]) ∧ s.trainedSet 1 set = some set ∧
      ((s.logicalOf (4 + set)).all fun q => q.1 == 1) = true ∧
      (ts = 2 → 2 ≤ kget 0 (s.lg 1).goodCw set ∧ ∀ j ∈ List.range 4, j ≠ set → 3 ≤ kget 0 (s.lg 1).goodCw j) ∧
      (ts = 3 → ∀ i ∈ List.range 4, ∃ j ∈ List.range 4,
        (if j = set then fuLane 524340 % 2 ^ s.f (F.LNK_LGn_CFG_WIDTH 1) / 1 + 1 else kget 0 (s.lg 1).goodCw j) = i + 1) ∧
      (∀ k ∈ [4, 5, 6, 7], s.f (F.LNK_Ln_STAT_SKEW k) ≤ 256) ∧ s.f (F.LNK_LGn_CFG_SPARE_OK 1) = 0) ∧
    (aligning 2 0).setPhys 1 16 = [16] ∧
    openOrder false 1 [(BitVec.ofNat 5440 badCodeword).toNat] [0] = none ∧
    (∃ d pos, openOrder false 1 [(BitVec.ofNat 5440 goodCodeword).toNat] [0] = some (524340, d, pos)) ∧
    fuGood 524340 = true ∧
    -- TRAIN messages
    (∀ p ∈ [(params 0x10 2, 0x10), (params 0x11 2, 0x11), (params 0x10 3, 0x10), (params 0x11 3, 0x11), (params 0x12 2, 0x12), (params 0x13 2, 0x13)],
      p.1.typ = 4 ∧ p.1.crc = p.1.crcOf ∧ p.1.reserved = false ∧ p.1.ext = 0 ∧ p.1.cmd = p.2) ∧
    (∀ c ∈ [0x10, 0x11], (group 4 6 []).paramMatch 1 (params c 3) = false ∧ (group 4 6 []).paramMatch 1 (params c 2) = true) ∧
    (∀ s ∈ [groupX 4 fun x => { x with ackSeen := true }, groupX 4 fun x => { x with paramSeen := true }, group 4 6 []],
      s.tstate 1 = 4 ∧ (s.lg 1).seqKeep = false) ∧
    (∀ ts ∈ [5, 6, 7], (group ts 6 []).tstate 1 = ts ∧ (group ts 6 []).crp.mainUp = true) ∧
    (∀ n ∈ [0, 15], ((groupX 5 fun x => { x with dlyCount := n, dlyAnswered := 16 }).lg 1).dlyCount = n) ∧
    -- keys
    (∀ s ∈ [keyed 15 1 1, keyed 15 0 0, keyed 0 0 0], Reaches s .csp (R.LNK_LGn_KEY_CMD 1) ∧ Reaches s .csp (R.LNK_LGn_GCM_ARM_LO 1) ∧
      s.crp.mainUp = true) ∧
    (let s := keyed 15 1 1
     s.flag (F.LNK_LGn_STAT_PROT_ON 1) = true ∧ s.f (F.LNK_LGn_GCM_CTRL_TX_KP 1) = 0 ∧ (s.lg 1).rxOn = true ∧ b2n (s.lg 1).rxKp = 1 ∧
     s.f (F.LNK_LGn_GCM_CTRL_SLOT_VALID 1) = 15 ∧ ¬(100 * s.shiftLen < s.sch.ft.toNat + 4096) ∧ 0 * s.shiftLen < s.sch.ft.toNat + 4096) ∧
    ((keyed 0 0 0).f (F.LNK_LGn_GCM_CTRL_SLOT_VALID 1) = 0 ∧ (keyed 0 0 0).flag (F.LNK_LGn_STAT_PROT_ON 1) = false ∧ ((keyed 0 0 0).lg 1).rxOn = false) ∧
    -- LINK reset
    (∀ ts ∈ [0, 5, 7], Reaches (group ts 6 []) .csp R.CRP_LINK_RST ∧ (group ts 6 []).crp.mainUp = true) ∧
    (2#32).toNat.testBit 1 = true := by
  refine ⟨by decide +kernel, by decide +kernel, by decide +kernel, each (fun _ => reaches_of) (by decide +kernel), by decide +kernel,
    by decide +kernel, by decide +kernel, ?_, ?_, by decide +kernel, by decide +kernel, by decide +kernel, by decide +kernel, by decide +kernel, by decide +kernel,
    each₂ (fun _ => reaches_of) (fun _ => reaches_of) (by decide +kernel), by decide +kernel, by decide +kernel,
    ?_, by decide⟩
  · rw [openOrder, (by decide +kernel : setSymbols 1 ([0].map fun j => [(BitVec.ofNat 5440 badCodeword).toNat].getD j 0) = badCodeword)]
    exact bad_fails
  · rw [openOrder, (by decide +kernel : setSymbols 1 ([0].map fun j => [(BitVec.ofNat 5440 goodCodeword).toNat].getD j 0) = goodCodeword)]
    have h := good_opens
    cases hc : codewordOpen false goodCodeword with
    | none => rw [hc] at h; cases h
    | some r =>
      obtain ⟨a, d, pos⟩ := r
      rw [hc] at h
      obtain rfl : a = 524340 := Option.some.inj h
      exact ⟨d, pos, rfl⟩
  · intro ts h
    have h' : (reachesB (group ts 6 []) .csp R.CRP_LINK_RST && (group ts 6 []).crp.mainUp) = true :=
      List.all_eq_true.1 (by decide +kernel : [0, 5, 7].all (fun ts => reachesB (group ts 6 []) .csp R.CRP_LINK_RST && (group ts 6 []).crp.mainUp) = true) ts h
    exact ⟨reaches_of (Bool.and_eq_true_iff.1 h').1, (Bool.and_eq_true_iff.1 h').2⟩

/-- Group 1 UP with the calendars' first runs `e` and `i` and the SLOTS entry `tag` for every tag, the block in RUN. -/
def scheduledTo (tag e i ft : Nat) : State :=
  let s := group 7 6 []
  { s with
    cfg := { s.cfg with active := { hdr := none, sects := [section_ 3 2 (natLe 4 e), section_ 3 3 (natLe 4 i), section_ 5 0 (natLe 64 16 ++
      (List.range 16).flatMap fun _ => natLe 8 tag)] } }
    sch := { s.sch with ft := BitVec.ofNat 64 ft } }

/-- The same where every tag lands. -/
def scheduled (e i ft : Nat) : State := scheduledTo (2 + 4 * 100 + 2 ^ 20 * 10) e i ft

/-- Class S in both directions, tag 7 leaving and tag 9 arriving; and class B. -/
def classS : State := scheduled (4095 + 2 ^ 15 * 7) (4095 + 2 ^ 15 * 9) 0
def classB : State := group 7 6 []

/-- Class S in transit: every tag is forwarded to group 3. -/
def forwards : State := scheduledTo (3 + 4 * 3) (4095 + 2 ^ 15 * 7) (4095 + 2 ^ 15 * 9) 0

/-- A buffered flit. -/
def kept (n v : Nat) : BFlit := { num := BitVec.ofNat 17 n, vc := BitVec.ofNat 3 v, sh := false }

/-- Class B with sequence number 5 next, three flits unacknowledged and two of them to be sent again. -/
def replaying : State := (fields [(F.LNK_LGn_SEQ_TX_NEXT 1, 5)] classB).modLg 1 fun x => { x with
  replay := [kept 2 1, kept 3 1, kept 4 1], resend := 2, peerPool := [(2, 9)] }

/-- Class B that expects sequence number 7 and has four credits out on channel 3. -/
def expecting : State := fields [(F.LNK_LGn_CREDv_RX_POOL 1 3, 4), (F.LNK_LGn_RSEQ_RX_NEXT 1, 7)] classB

/-- A segment of its own that the queue engine holds for group 1, in HALT. -/
def injecting (bq : KMap (List BWait)) : State :=
  let s := group 7 10 []
  ({ s with
    cfg := { s.cfg with active := { hdr := none, sects := [section_ 8 0 ((List.range 8).flatMap fun _ => natLe 8 3)] } }
    que := { s.que with inject := [{ vc := 2, sched := none, q := none, msg := none, pay := 5 }] } } : State).modLg 1
      fun x => { x with bq := bq }

/-- A flit `f` arrives early in an epoch: in a slot of class S, tag 9, when `tagged`, and what opening it gives is `f` itself. -/
def arrives (s : State) (f : Flit) (tagged : Bool) : Bool :=
  let a := (s.passPhase 0).arrivalSlot 1 none (some f) 0
  let ci := calAt (s.liveCalendar 1 1) (s.slotInShift (s.spe 1) a)
  s.crp.mainUp && s.tstate 1 == 7 && s.str.runs.isEmpty && (s.lg 1).rxq.isEmpty && f.crc == f.crcOf && decide (s.openFlit 1 a f = some f) && !f.reserved && f.ext < 2 ^ 32 &&
    (if tagged then ci == (0, 9) else ci.1 != 0)

/-- The line at tag 7 and at tag 9 of class S, and of the transit. -/
theorem transit_to : forwards.cfg.active.tagKind 7 = .forward 3 ∧ forwards.cfg.active.tagKind 9 = .forward 3 := by decide +kernel

theorem no_forward : ∀ og, classS.cfg.active.tagKind 9 ≠ .forward og ∧ classS.cfg.active.tagKind 7 ≠ .forward og := by
  have h : classS.cfg.active.tagKind 9 = .landing 100 10 ∧ classS.cfg.active.tagKind 7 = .landing 100 10 := by decide +kernel
  simp [h.1, h.2]

theorem witness_LinkFlits :
    -- a flit leaves
    (∀ s ∈ [group 1 6 [], group 4 6 [], groupX 6 (fun x => { x with ctrlQ := [flit 4 0 0 0 18] }), classS, classB, group 7 10 [],
        scheduled (4095 + 2 ^ 15 * 7) (4095 + 2 ^ 15 * 9) (2 ^ 64 - 1)],
      s.crp.mainUp = true ∧ 1 ≤ s.tstate 1 ∧ s.flag (F.LNK_LGn_STAT_PROT_ON 1) = false ∧ s.que.inject = [] ∧ s.str.runs = []) ∧
    ((group 1 6 []).tstate 1 ≤ 6 ∧ ((group 1 6 []).lg 1).ctrlQ = [] ∧ (group 4 6 []).tstate 1 = 4 ∧ ((group 4 6 []).lg 1).ctrlQ = [] ∧
      (flit 4 0 0 0 18).mk? = false ∧ (group 7 10 []).mode = 10) ∧
    (∀ e ∈ [[], [{ tag := 7, hole := false, csv := false, pay := 5, due := 0, k := 0 }], [{ tag := 7, hole := true, csv := false, pay := 5, due := 0, k := 0 }]],
      let s := groupX 7 (fun x => { x with egress := e }) classS
      s.tstate 1 = 7 ∧ s.mode = 6 ∧ s.fenced = false ∧ calAt (s.liveCalendar 1 0) (s.slotInShift (s.spe 1) (s.nextSlot 1)) = (0, 7) ∧
      ∀ x ∈ (s.lg 1).egress, x.tag.toNat = 7 ∧ x.due.toNat ≤ slotCycle (s.spe 1) (s.nextSlot 1)) ∧
    (∀ e ∈ [[], [{ tag := 7, hole := false, csv := false, pay := 5, due := 0, k := 0 }], [{ tag := 7, hole := true, csv := false, pay := 5, due := 0, k := 0 }]],
      let s := groupX 7 (fun x => { x with fwd := e }) forwards
      s.tstate 1 = 7 ∧ s.mode = 6 ∧ s.fenced = false ∧ calAt (s.liveCalendar 1 0) (s.slotInShift (s.spe 1) (s.nextSlot 1)) = (0, 7) ∧
      s.flag (F.LNK_LGn_STAT_PROT_ON 1) = false ∧ s.que.inject = [] ∧
      ∀ x ∈ (s.lg 1).fwd, x.tag.toNat = 7 ∧ x.due.toNat ≤ slotCycle (s.spe 1) (s.nextSlot 1)) ∧
    (forwards.cfg.active.tagKind 7 = .forward 3 ∧ forwards.cfg.active.tagKind 9 = .forward 3 ∧ (forwards.lg 3).fwd = [] ∧
      forwards.noWidth 3 = false) ∧
    (∀ og, classS.cfg.active.tagKind 7 ≠ .forward og) ∧
    (∀ s ∈ [classB, groupX 7 (fun x => { x with ctrlQ := [flit 3 0 0 0 18] }), groupX 7 (fun x => { x with resend := 0 }) replaying, replaying,
        groupX 7 (fun x => { x with bq := [(1, [{ pay := 9, origin := none, msg := some (3, 4) }])] }) (fields [(F.LNK_LGn_CREDv_TX_AVAIL 1 1, 3)] classB)],
      s.tstate 1 = 7 ∧ s.mode = 6 ∧ s.fenced = false ∧
      (let c := calAt (s.liveCalendar 1 0) (s.slotInShift (s.spe 1) (s.nextSlot 1))
       c.1 ≠ 0 ∧ c.1 < 8 ∧ c.2 < 2 ^ 17) ∧ (s.lg 1).replay.length < 8192 ∧ s.str.runs = [] ∧ s.que.inject = []) ∧
    ((replaying.lg 1).ctrlQ = [] ∧ 0 < (replaying.lg 1).resend ∧
      (replaying.lg 1).replay[(replaying.lg 1).replay.length - (replaying.lg 1).resend]? = some (kept 3 1) ∧
      replaying.str.ecc = [] ∧ replaying.str.poison = [] ∧ replaying.f F.QUE_PEER_CFG_MAX = 0 ∧ replaying.storeFault 7 1 = false ∧ (classB.lg 1).resend = 0 ∧
      (classB.lg 1).bq = [] ∧ (flit 3 0 0 0 18).mk? = false ∧ 0 < (fields [(F.LNK_LGn_CREDv_TX_AVAIL 1 1, 3)] classB).txAvail 1 1) ∧
    (calAt (classB.liveCalendar 1 0) (classB.slotInShift (classB.spe 1) (classB.nextSlot 1))).1 = 1 ∧
    (∀ p ∈ [([], 0), ([(2, [{ pay := 9, origin := some (1, 2, 3), msg := none }])], 1)], let s := injecting p.1
      s.crp.mainUp = true ∧ s.tstate 1 = 7 ∧ s.mode = 10 ∧ (s.que.inject.map fun y => (y.vc, y.sched)) = [(2, none)] ∧
      s.flag F.CRP_DROOP_STAT_HOLD = false ∧ (∀ y ∈ s.que.inject, segDst y.pay ≠ s.epid ∧ s.routeGroup (segDst y.pay) = some 1) ∧
      (kget [] (s.lg 1).bq 2).length = p.2 ∧ ∀ b ∈ kget [] (s.lg 1).bq 2, b.origin ≠ none) ∧
    -- a flit arrives
    (∀ p ∈ [(flit 1 0 9 0 99, true), (flit 2 0 9 0 99, true), (flit 1 0 8 0 0, true), (flit 2 3 9 0 0, true), (flit 3 0 9 0 0, true)],
      arrives classS p.1 p.2 = true ∧ arrives forwards p.1 p.2 = true) ∧
    (∀ og, classS.cfg.active.tagKind 9 ≠ .forward og) ∧
    (∀ f ∈ [flit 1 0 9 0 0, flit 2 1 9 0 0, flit 4 0 0 0 0], arrives classB f false = true) ∧
    (∀ f ∈ [flit 1 3 7 0 8, flit 1 3 6 0 0, flit 1 3 8 0 0, flit 1 3 (2 ^ 16 + 7) 0 0, flit 1 3 (2 ^ 16 + 6) 0 0],
      arrives expecting f false = true) ∧
    (∀ f ∈ [flit 0 0 0 (3 + 2 ^ 17) 0, flit 0 0 0 (3 + 2 ^ 17 + 2 ^ 18) 0, flit 0 0 0 (5 + 2 ^ 17) 0, flit 0 0 0 (2 ^ 19 * 2 + 2 ^ 22 * 9) 0,
        flit 0 0 0 (2 ^ 19 * 2 + 2 ^ 22 * 10) 0], arrives replaying f false = true) ∧
    (let f := flit 1 3 7 0 8
     let rx := expecting.f (F.LNK_LGn_RSEQ_RX_NEXT 1)
     f.num = rx ∧ f.ext = 0 ∧ f.mk? = false ∧ f.sh = false ∧ 0 < expecting.rxFree 1 3 ∧ expecting.rxFree 1 4 = 0 ∧ (expecting.lg 1).landQ = [] ∧
     (expecting.lg 1).nakOut = false ∧ (rx + 2 ^ 17 - 6) % 2 ^ 17 = 1 ∧ (rx + 2 ^ 17 - 8) % 2 ^ 17 = 2 ^ 17 - 1 ∧
     (rx + 2 ^ 17 - (2 ^ 16 + 7)) % 2 ^ 17 = 2 ^ 16 ∧ (rx + 2 ^ 17 - (2 ^ 16 + 6)) % 2 ^ 17 = 2 ^ 16 + 1) ∧
    ((groupX 7 (fun x => { x with landQ := List.replicate 128 (flit 1 3 7 0 8) }) expecting).lg 1).landQ.length = 128 ∧
    (let n := replaying.f (F.LNK_LGn_SEQ_TX_NEXT 1)
     let k (ack : Nat) := (ack + 1 + 2 ^ 17 - (n + 2 ^ 17 - (replaying.lg 1).replay.length) % 2 ^ 17) % 2 ^ 17
     k 3 = 2 ∧ (replaying.lg 1).replay.length = 3 ∧ k 5 = 4 ∧ kget 0 (replaying.lg 1).peerPool 2 = 9 ∧ replaying.txAvail 1 2 = 0 ∧
     (flit 0 0 0 (3 + 2 ^ 17) 0).ext = 3 + 2 ^ 17 ∧ (flit 0 0 0 (3 + 2 ^ 17) 0).mk? = false) ∧
    -- timers
    (∀ n ∈ [1, 2], let s := groupX 7 (fun x => { x with freed := [(2, 3)], accepted := 2, timeouts := n }) replaying
      s.str.runs = [] ∧ (s.lg 1).freed ≠ [] ∧ (s.lg 1).accepted ≠ 0 ∧ s.tstate 1 = 7 ∧ (s.lg 1).replay ≠ [] ∧ (s.lg 1).remap = none ∧ (s.lg 1).width = none ∧
      ((s.lg 1).timeouts + 1 < s.f (F.LNK_LGn_PARM_REPLAY_LIMIT 1) ↔ n = 1)) :=
  ⟨by decide +kernel, by decide +kernel, by decide +kernel, by decide +kernel, by decide +kernel, fun og => (no_forward og).2, by decide +kernel, by decide +kernel,
    by decide +kernel, by decide +kernel, by decide +kernel, fun og => (no_forward og).1, by decide +kernel, by decide +kernel, by decide +kernel, by decide +kernel, by decide +kernel,
    by decide +kernel, by decide +kernel⟩

/-- A CTRL flit of transaction 9. -/
def ctl (cmd args : Nat) : Flit := (mkFlit 3 0 false false false 0 0 (ctrlPay cmd 9 args)).sealCrc

/-- Group 1 UP with its spares allowed, degrade enabled, and what `f` makes of it. -/
def dealing (txLane spareOk degrade : Nat) (f : LinkGroup → LinkGroup) : State :=
  groupX 7 f (fields [(F.LNK_SPARE_STAT_TX16_LANE, txLane), (F.LNK_LGn_CFG_SPARE_OK 1, spareOk), (F.LNK_LGn_CTRL_DEGRADE_EN 1, degrade)] (group 7 6 []))

def remapOf (receiver : Bool) : Remap := { lane := 1, spare := 16, receiver := receiver, epoch := none, valid := 0, done := false }
def answer : CtrlReq := { txn := 9, pay := ctrlPay 2 9 77, sent := 100 }

theorem ctl_sound : ∀ p ∈ [(1, 1 + 2 ^ 8 * 16), (2, 1 + 2 ^ 8 * 16 + 2 ^ 32 * 20), (3, 1 + 2 ^ 8 * 16), (4, 1), (4, 2), (5, 1 + 2 ^ 32 * 20), (6, 0),
    (6, 2 ^ 32 * 4000), (7, 0), (7, 2 ^ 32 * 4000), (8, 1), (8, 4), (8, 6), (8, 7)], let f := ctl p.1 p.2
    f.typ = 3 ∧ f.crc = f.crcOf ∧ f.reserved = false ∧ f.ext = 0 ∧ f.cmd = p.1 ∧ f.txn = 9 ∧ f.byte 4 = p.2 % 2 ^ 8 ∧ f.byte 5 = p.2 / 2 ^ 8 % 2 ^ 8 ∧ f.le 8 4 = p.2 / 2 ^ 32 ∧
    f.le 8 8 = p.2 / 2 ^ 32 := by decide +kernel

theorem witness_LinkControl :
    (∀ s ∈ [dealing 0x1F 1 1 id, dealing 4 1 1 id, dealing 0x1F 0 0 id, dealing 0x1F 1 1 fun x => { x with ctrlAns := [answer] },
        dealing 0x1F 1 1 fun x => { x with remap := some (remapOf true) }], s.crp.mainUp = true ∧ s.tstate 1 = 7) ∧
    (∀ p ∈ [(0x1F, 1), (4, 1), (0x1F, 0)], let s := dealing p.1 p.2 1 id
      s.answered 1 9 = none ∧ s.f F.LNK_SPARE_STAT_TX16_LANE = p.1 ∧ (s.lg 1).remap = none ∧
      (s.f (F.LNK_LGn_CFG_SPARE_OK 1)).testBit (16 - 16) = (p.2 == 1)) ∧
    (dealing 0x1F 1 1 fun x => { x with ctrlAns := [answer] }).answered 1 9 = some answer ∧
    (∀ b, ((dealing 0x1F 1 1 fun x => { x with remap := some (remapOf b) }).lg 1).remap = some (remapOf b) ∧ (remapOf b).lane = (1 + 2 ^ 8 * 16) % 2 ^ 8 ∧
      (remapOf b).spare = (1 + 2 ^ 8 * 16) / 2 ^ 8 ∧ (remapOf b).receiver = b) ∧
    (∀ d ∈ [0, 1], ∀ l ∈ [1, 2], let s := dealing 0x1F 1 d id
      (s.flag (F.LNK_LGn_CTRL_DEGRADE_EN 1) = (d == 1)) ∧ s.setLanes 1 = 1 ∧ (s.f (F.LNK_LGn_STAT_WIDTH 1) ≤ l ↔ l = 2) ∧
      ¬2 ^ s.f (F.LNK_LGn_CFG_WIDTH 1) / 2 ^ 1 ≤ 0) ∧
    ((dealing 0x1F 1 1 fun x => { x with width := some { code := 1, block := 0, epoch := none } }).lg 1).width = some { code := 1, block := 0, epoch := none } ∧
    (let s := dealing 0x1F 1 1 id
     0 * s.shiftLen ≤ s.sch.ft.toNat + 16384 ∧ ¬4000 * s.shiftLen ≤ s.sch.ft.toNat + 16384) ∧
    (∀ n ∈ [0, 4000], ((dealing 0x1F 1 1 fun x => { x with restore := some n }).lg 1).restore = some n) ∧
    ((dealing 0x1F 1 1 fun x => { x with ctrlOut := [answer] }).lg 1).ctrlOut.find? (fun r => r.txn == 9) = some answer :=
  ⟨by decide +kernel, by decide +kernel, by decide +kernel, fun b => by cases b <;> decide +kernel, by decide +kernel, by decide +kernel, by decide +kernel,
    by decide +kernel, by decide +kernel⟩

/-- An image that routes endpoints 5 and 6 to link group 1, with reduction list entry 77 and the header `h`. -/
def routing (hdr : Option ImgHdr) : Half :=
  { hdr := hdr, sects := [section_ 8 0 ((List.range 2048).flatMap fun i => natLe 8 (if i == 5 || i == 6 then 3 else 0)),
      section_ 9 0 (natLe 64 1 ++ natLe 32 (77 + 2 ^ 16 * 5 + 2 ^ 32 * 3 + 2 ^ 48 * 9 + 2 ^ 64 * 64 + 2 ^ 128 * 16 + 2 ^ 160 * 96 + 2 ^ 192 * 600) ++
        natLe 4 5 ++ natLe 4 6 ++ natLe 4 8)] }

def peer5 : Peer := { Peer.init with valid := true, id := 5, txNext := 10, ackLow := 10, rxH := 20 }

/-- Queue 9 enabled with its rings, peer 5 in slot 3, and the fields of `qs`. -/
def queued (qs : List (QFld × Nat)) : State :=
  let s := fields [(F.QUE_CTX_SEL_Q, 9), (F.QUE_PEER_SEL_SLOT, 3), (F.QUE_PEER_CFG_MAX, 4)] { group 7 6 [] with
    cfg := { (group 7 6 []).cfg with active := routing none, imageActive := true } }
  (([(QC.en, 1), (QC.owner, 1), (QC.cls, 2), (QC.recv, 1), (QC.winBase, 65536), (QC.winLen, 1000), (QC.sqLog2, 4), (QC.cqLog2, 4), (QC.rqLog2, 4),
    (QC.sqCons, 65535), (QC.sqProd, 1), (QC.rqCons, 65535), (QC.rqProd, 1), (QC.cqProd, 2), (QC.cqCons, 65535), (QC.retryLimit, 3),
    (QC.cplChan, 1)] ++ qs).foldl (fun (s : State) (p : QFld × Nat) => s.setQf 9 p.1 p.2) s).setPeer 3 peer5

/-- Queue 9 alone, without its image. -/
def bareQueue (en owner : Nat) : State := ([(QC.en, en), (QC.owner, owner), (QC.sqLog2, 4), (QC.rqLog2, 4), (QC.cqLog2, 4), (QC.sqCons, 65530),
  (QC.rqCons, 3), (QC.cqProd, 2)]).foldl (fun (s : State) (p : QFld × Nat) => s.setQf 9 p.1 p.2) (fields [(F.QUE_CTX_SEL_Q, 9), (F.QUE_PEER_SEL_SLOT, 3),
    (F.QUE_PEER_CFG_MAX, 4)] base)

theorem only_ctx : ∀ x ∈ [F.QUE_CTX_CMD_READ, F.QUE_CTX_CMD_WRITE, F.QUE_CTX_CMD_FLUSH],
    ∀ y ∈ [F.QUE_CTX_CMD_READ, F.QUE_CTX_CMD_WRITE, F.QUE_CTX_CMD_FLUSH], wb (data [(x, 1)]) y = (x == y) := by decide +kernel

theorem only_peer : ∀ x ∈ [F.QUE_PEER_CMD_READ, F.QUE_PEER_CMD_ADD, F.QUE_PEER_CMD_REMOVE],
    ∀ y ∈ [F.QUE_PEER_CMD_READ, F.QUE_PEER_CMD_ADD, F.QUE_PEER_CMD_REMOVE], wb (data [(x, 1)]) y = (x == y) := by decide +kernel

theorem witness_QueueRegisters :
    (∀ s ∈ [bareQueue 1 1, bareQueue 1 2, bareQueue 0 1, bareQueue 0 0, queued []], s.crp.headOn = true ∧ s.crp.mainUp = true ∧
      s.dbgBarred .csp = false ∧ s.storeFaults = [] ∧ s.str.ecc = [] ∧ s.str.runs = [] ∧ s.cfg.late = [] ∧ s.f F.QUE_CTX_SEL_Q = 9 ∧ s.f F.QUE_PEER_SEL_SLOT = 3) ∧
    (∀ off, (bareQueue 1 1).yields .csp off = false) ∧
    -- doorbells at both ends of what the rings hold
    ((bareQueue 1 1).qflag 9 QC.en = true ∧ (bareQueue 1 1).qf 9 QC.owner = 1 ∧ (bareQueue 1 2).qf 9 QC.owner = 2 ∧
      (bareQueue 0 1).qflag 9 QC.en = false) ∧
    (let s := bareQueue 1 1
     let used (prod cons : Nat) : Nat := (prod + 65536 - cons) % 65536
     used 10 (s.qf 9 QC.sqCons) = 16 ∧ used 11 (s.qf 9 QC.sqCons) = 17 ∧ used 19 (s.qf 9 QC.rqCons) = 16 ∧ used 20 (s.qf 9 QC.rqCons) = 17 ∧
     used (s.qf 9 QC.cqProd) 65522 = 16 ∧ used (s.qf 9 QC.cqProd) 65521 = 17 ∧ s.qf 9 QC.sqLog2 = 4 ∧ s.qf 9 QC.rqLog2 = 4 ∧
     s.qf 9 QC.cqLog2 = 4) ∧
    -- a context write that takes, and the two refused
    ((bareQueue 0 1).qflag 9 QC.en = false ∧ (bareQueue 0 1).qf 9 QC.owner ≠ 0 ∧ (bareQueue 0 0).qf 9 QC.owner = 0) ∧
    ((bareQueue 1 1).que.out = [] ∧ (bareQueue 1 1).que.cpl = []) ∧
    -- barriers
    (∀ c ∈ [1, 2], ∀ st ∈ [0, 15], ∀ b ∈ [0, 4095], let w := data [(F.QUE_BAR_CMD_CMD, c), (F.QUE_BAR_CMD_STATUS, st), (F.QUE_BAR_CMD_BAR_ID, b)]
      wf w F.QUE_BAR_CMD_CMD = c ∧ wf w F.QUE_BAR_CMD_STATUS = st ∧ wf w F.QUE_BAR_CMD_BAR_ID = b) ∧
    (let s := (queued []).modQue fun x => { x with bars := kset Barrier.init x.bars 5 { Barrier.init with arrived := 1, held := [(5, 7, 2)] } }
     (s.bar 5).held = [(5, 7, 2)] ∧ 5 ≠ s.epid ∧ s.routeGroup 5 = some 1 ∧ s.que.inject = [] ∧ (s.lg 1).bq = [] ∧
     s.flag F.CRP_DROOP_STAT_HOLD = false ∧ (s.responseSegs 5 7 0 6 0 0 []).length = 1) ∧
    -- peers
    (let s := bareQueue 1 1
     (s.peer 3).valid = false ∧ 3 < s.f F.QUE_PEER_CFG_MAX ∧ s.peerSlot (s.f F.QUE_PEER_D0_ID) = none ∧ s.tandemImage = false ∧ s.que.exec = []) ∧
    (let s := queued []
     (s.peer 3).valid = true ∧ (s.peer 3).outst = 0 ∧ s.que.exec = []) :=
  ⟨by decide +kernel, fun _ => rfl, by decide +kernel, by decide +kernel, by decide +kernel, by decide +kernel, by decide +kernel,
    by decide +kernel, by decide +kernel, by decide +kernel⟩

/-- A descriptor of operation `op` to `dst` of `len` bytes, its flags `fl`. -/
def descriptor (op dst len fl : Nat) : BitVec 512 := BitVec.ofNat 512 (op + fl + 2 ^ 32 * dst + 2 ^ 64 * 4096 + 2 ^ 128 * 8192 + 2 ^ 192 * len)

/-- A message in flight of queue 9 to endpoint 5, request 7. -/
def message (op len : Nat) : OutMsg :=
  { dst := 5, reqId := 7, q := 9, slot := 3, desc := descriptor op 5 len 0, order := 1, nextSeg := 0, timer := some 5, resends := 0, retx := false, rd := [],
    pendingRd := 0, rdFail := none, injected := true, sent := true, final := false, status := 0, got := 0, rspData := 0, pendingWr := 0, wrFail := false,
    sched := false }

/-- A segment on link group 1. -/
def segment (src id seg : Nat) (rsp last : Bool) (b : Nat) : Seg :=
  { bytes := segPay (group 7 6 []).epid src 3 id seg rsp last false (natLe 224 b), g := 1, vc := 2, pool := 8, slot := 0, tag := none, fromPartner := false }

theorem witness_QueueRequester :
    -- descriptors
    (∀ p ∈ [(7, descriptor 3 5 16 0), (0xB, descriptor 3 5 16 0), (0, descriptor 0 5 0 0), (0, descriptor 3 6 16 0), (0, descriptor 7 5 0 0),
        (0, descriptor 3 5 16 32), (0, descriptor 4 5 8 0), (0, descriptor 2 5 16 0)],
      let s := (queued []).modQue fun x => { x with fetched := [(9, 15, p.1, p.2)], order := 4 }
      s.crp.mainUp = true ∧ s.storeFaults = [] ∧ s.str.ecc = [] ∧ s.str.poison = [] ∧ s.str.runs = [] ∧ s.que.inject = [] ∧ s.mayStart 9 = true ∧ s.qf 9 QC.sqCons % 2 ^ s.qf 9 QC.sqLog2 = 15 ∧
      s.que.fetched.find? (fun e => e.1 == 9 && e.2.1 == 15) = some (9, 15, p.1, p.2) ∧ s.qf 9 QC.outst = 0) ∧
    (let s := queued []
     s.descBad 9 (descriptor 0 5 0 0) = true ∧ s.descBad 9 (descriptor 3 6 16 0) = false ∧ s.peerSlot 6 = none ∧ s.peerSlot 5 = some 3 ∧
     s.descBad 9 (descriptor 7 5 0 0) = false ∧ s.descBad 9 (descriptor 3 5 16 32) = false ∧ s.descBad 9 (descriptor 4 5 8 0) = false ∧
     s.descBad 9 (descriptor 2 5 16 0) = false ∧ (s.peer 3).id = 5 ∧ (s.peer 3).outst = 0 ∧ s.tandemImage = false ∧ s.qf 9 QC.owner ≠ 3 ∧
     s.que.out = [] ∧ s.routeGroup 5 = some 1 ∧ 5 ≠ s.epid ∧ (s.lg 1).bq = [] ∧ s.flag F.CRP_DROOP_STAT_HOLD = false) ∧
    (∀ op < 8, dOp (descriptor op 5 16 32) = op ∧ dFence (descriptor op 5 16 32) = true ∧ dDst (descriptor op 5 16 32) = 5) ∧
    -- responses
    (∀ p ∈ [(2, 2), (2, 3), (2, 0), (2, 6), (3, 0)],
      let g := segment 5 7 0 true true (p.2 + 2 ^ 32 * 16)
      let s := ((queued [(QC.outst, 1)]).modQue fun x => { x with rxq := [g], out := [message p.1 16] })
      segRsp g.bytes = true ∧ s.queTakes = true ∧ s.tandemImage = false ∧ s.findMsg (segSrc g.bytes) (segReqId g.bytes) = some (message p.1 16) ∧
      segNo g.bytes = 0 ∧ segLast g.bytes = true ∧ segLe g.bytes 16 1 = p.2 ∧ dOp (message p.1 16).desc = p.1 ∧
      min (min (segLe g.bytes 20 4) (dLength (message p.1 16).desc)) 192 = 16) ∧
    (let g := segment 6 7 0 true true (5 + 2 ^ 32 * 16)
     let s := (queued [(QC.outst, 1)]).modQue fun x => { x with rxq := [g], out := [message 2 16] }
     segLe g.bytes 16 1 = 5 ∧ segSrc g.bytes ≠ (message 2 16).dst ∧ (s.que.out.filter fun y => y.reqId == segReqId g.bytes) = [message 2 16]) ∧
    -- timeouts
    (∀ limit ∈ [0, 3], let s := (queued [(QC.retryLimit, limit)]).modQue fun x => { x with out := [message 3 16] }
      s.findMsg 5 7 = some (message 3 16) ∧ (message 3 16).timer = some 5 ∧ s.msgTimersRun = true ∧ s.qf 9 QC.retryLimit = limit ∧
      (s.que.out.filter fun y => y.dst == 5 && y.reqId == 7) = [message 3 16]) ∧
    (let s := (queued []).setPeer 3 { peer5 with ackSent := 4 }
     s.peerSlot 5 = some 3 ∧ (s.peer 3).valid = true ∧ (s.peer 3).id = 5 ∧ s.sentAckLow (s.peer 3) ≠ (s.peer 3).ackSent.toNat ∧ s.queTimersRun = true ∧
     s.fenced = false) :=
  ⟨by decide +kernel, by decide +kernel, by decide +kernel, by decide +kernel, by decide +kernel, by decide +kernel, by decide +kernel⟩

/-- A request's header in segment 0: queue 9, `len` bytes at `raddr`. -/
def request (op len raddr arg opnd red : Nat) : Nat :=
  op + 2 ^ 8 * arg + 2 ^ 16 * 9 + 2 ^ 32 * len + 2 ^ 64 * raddr + 2 ^ 128 * opnd + 2 ^ 256 * red + 2 ^ 288 * 3 + 2 ^ 384 * 99

/-- Queue 9 with `segs` received, its first receive descriptor fetched when `recv`. -/
def receiving (qs : List (QFld × Nat)) (segs : List Seg) (recv : Option (Nat × Nat)) : State :=
  (queued qs).modQue fun x => { x with
    rxq := segs, rfetched := (recv.map fun p => (9, 15, p.1, BitVec.ofNat 128 (8192 + 2 ^ 64 * p.2 + 2 ^ 96 * 77))).toList }

/-- What a landed flit carries. -/
def landed (dst hops seg : Nat) (rsp : Bool) (op : Nat) (sh : Bool) : Flit :=
  (mkFlit 1 2 false false sh 3 0 (segPay dst 5 hops 7 seg rsp true false (natLe 224 op))).sealCrc

def landedAt (f : Flit) : State := (queued []).modLg 1 fun x => { x with landQ := [f], rxUsed := [(0, 1), (2, 3)] }

/-- How the front request of `s` is classified. -/
def classed (s : State) (g : Seg) (op : Nat) : ReqClass :=
  let e := mkExec g op s.que.msgClock
  let t := (s.takeFront g).2.freeCache e.src (segLe g.bytes 52 4)
  t.classify e.src e.reqId op (!segLast g.bytes) (op == 5 && t.redShort e) (s.mode == 8)

/-- What every clause on the request `g` of operation `op` in `s` needs, classified as `cls`. -/
def fresh (s : State) (g : Seg) (op : Nat) (cls : ReqClass) : Bool :=
  let e := mkExec g op s.que.msgClock
  s.crp.mainUp && s.storeFaults.isEmpty && s.str.ecc.isEmpty && s.str.poison.isEmpty && s.str.runs.isEmpty && s.que.inject.isEmpty && s.queTakes && s.tnd? != 3 && s.mode != 11 && decide (s.que.rxq = [g]) &&
    g.tag.isNone && isRequest g op && (op != 1 || s.dqBad e.dq || decide (s.recvDesc e.dq ≠ some none)) && decide (classed s g op = cls) &&
    (s.findExec e.src e.reqId).isNone && s.str.red.all fun r => decide (r.2.cur ≠ some (e.src, e.reqId))

/-- The same with the queue engine's drift holding four commands. -/
def full (s : State) : State := { s with str := { s.str with drifts := [(15, { Drift.init with held := List.replicate 4 (cmdOf 0 .running 0) })] } }

/-- A request of endpoint 5, ID 21. -/
def asked (b : Nat) : Seg := segment 5 21 0 false true b

theorem witness_QueueResponder :
    -- landed flits
    (∀ p ∈ [((group 7 6 []).epid, 3, true, 0), ((group 7 6 []).epid, 3, false, 7), (6, 1, false, 8), (6, 0, false, 2), (7, 3, false, 2)],
      let f := landed p.1 p.2.1 0 p.2.2.1 p.2.2.2 false
      let s := landedAt f
      (s.crp.mainUp = true ∧ s.storeFaults = [] ∧ s.str.ecc = [] ∧ s.str.poison = [] ∧ s.str.runs = [] ∧ s.que.inject = [] ∧ s.queTakes = true ∧ s.tnd? ≠ 3 ∧ s.fenced = false) ∧ (s.lg 1).landQ = [f] ∧
      segDst f.pay = p.1 ∧ segHops f.pay = p.2.1 ∧ segRsp f.pay = p.2.2.1 ∧ segNo f.pay = 0 ∧ bits f.pay.toNat 128 4 = p.2.2.2) ∧
    (let s := queued []
     s.routeGroup 6 = some 1 ∧ s.routeGroup 7 = none ∧ s.routeGroup 5 = some 1 ∧ 6 ≠ s.epid ∧ 7 ≠ s.epid) ∧
    -- segment 0 of a request, by its classification
    (∀ p ∈ [(segment 7 21 0 false true (request 2 16 8 0 0 0), ReqClass.noPeer),
        (segment 5 (2 ^ 32 - 4096 + 20) 0 false true (request 2 16 8 0 0 0), .stale), (segment 5 21 0 false true (request 2 16 8 0 0 0), .fresh)],
      fresh (receiving [] [p.1] none) p.1 2 p.2 = true) ∧
    (let g := segment 5 20 0 false true (request 2 16 8 0 0 0)
     let s := (receiving [] [g] none).setPeer 3 { peer5 with seen := BitVec.allOnes 4096 }
     fresh s g 2 .discard = true ∧
     fresh (s.modQue fun x => { x with cache := [{ src := 5, reqId := 20, done := true, status := 6, op := 2, bytes := 9, data := 0, slot := 0 }] }) g 2
       (.cached { src := 5, reqId := 20, done := true, status := 6, op := 2, bytes := 9, data := 0, slot := 0 }) = true ∧
     fresh (s.modQue fun x => { x with cache := [{ src := 5, reqId := 20, done := false, status := 6, op := 2, bytes := 9, data := 0, slot := 0 }] }) g 2
       .ignore = true) ∧
    (let g := asked (request 2 16 8 0 0 0)
     fresh ((receiving [] [g] none).setF F.CRP_MODE_MODE 8) g 2 .busy = true) ∧
    -- new requests by their operation
    (∀ p ∈ [(2, 0, 8, 0), (2, 16, 8, 0), (2, 16, 984, 0), (3, 16, 8, 0), (2, 16, 990, 0), (4, 8, 8, 0), (5, 16, 64, 77), (5, 16, 64, 78), (6, 0, 8, 0)],
      ∀ space ∈ [0, 1], let g := asked (request p.1 p.2.1 p.2.2.1 (if p.1 = 4 then 1 else 5) (5 + 2 ^ 32 * 2) p.2.2.2)
      let s := full (fields [(F.STR_RED_CFG_HOLD_SIZE, 1)] (receiving [(QC.winSpace, space)] [g] none))
      let e := mkExec g p.1 s.que.msgClock
      fresh s g p.1 .fresh = true ∧ e.length = p.2.1 ∧ e.raddr = p.2.2.1 ∧ e.dq = 9 ∧ (p.1 = 6 ∨ s.dqBad e.dq = false) ∧ s.que.flushing = [] ∧
      segLast g.bytes = true ∧ Nat.testBit (segLe g.bytes 16 1) 4 = false ∧ s.qflag e.dq QC.winSpace = (space == 1) ∧
      (p.1 = 6 ∨ (s.windowFault e).isNone = (p.2.2.1 != 990)) ∧ s.pickDrift = none ∧ s.storeFaults = [] ∧ s.str.poison = [] ∧
      (p.1 = 5 → s.redRefused e = (p.2.2.2 == 78) ∧ (p.2.2.2 = 77 → (s.cfg.active.redEnt (redId e)).isSome = true)) ∧
      (p.1 = 6 → bits e.opnd0 0 12 = 5 ∧ bits e.opnd0 16 16 = 0 ∧ bits e.opnd0 32 20 = 2)) ∧
    (let s := fields [(F.STR_RED_CFG_HOLD_SIZE, 1)] (receiving [(QC.winSpace, 1)] [asked (request 5 16 64 5 0 77)] none)
     let e := mkExec (asked (request 5 16 64 5 0 77)) 5 s.que.msgClock
     redPos e = 0 ∧ (s.red 77).next = 0 ∧ (s.red 77).held = [] ∧ (s.red 77).work = [] ∧
     ∀ r, s.cfg.active.redEnt (redId e) = some r → 1 < reContribs r ∧ s.qflag (reDq r) QC.winSpace = true ∧ reDq r = 9 ∧
       s.qf (reDq r) QC.winBase + reRaddr r + 16 ≤ 2 ^ 26) ∧
    (let s := receiving [(QC.winSpace, 1)] [asked (request 4 8 8 1 5 0)] none
     let a := s.qf 9 QC.winBase + 8
     a + 8 ≤ 2 ^ 26 ∧ a % 8 = 0 ∧ s.peerTableWord (a / 64) = none ∧ (atomicOp 1 64 (leNat (Memory.read s.str.mem a 8)) 5 0).isSome = true) ∧
    -- SEND, with and without a receive descriptor, and on a queue that is closed
    (∀ p ∈ [(16, some (0, 16)), (16, some (0, 10)), (0, some (0, 10))], let g := asked (request 1 p.1 8 0 0 0)
      let s := receiving [] [g] p.2
      fresh s g 1 .fresh = true ∧ s.dqBad 9 = false ∧ (match s.recvDesc 9 with
        | some (some x) => x.2.1 == 0 && bits x.2.2.toNat 64 32 == (p.2.getD (0, 0)).2
        | _ => false) = true ∧ s.qflag 9 QC.cplHost = false) ∧
    (let g := asked (request 1 16 8 0 0 0)
     fresh (receiving [(QC.rqProd, 65535)] [g] none) g 1 .fresh = true ∧ (receiving [(QC.rqProd, 65535)] [g] none).recvDesc 9 = none ∧
     fresh (receiving [(QC.en, 0)] [g] none) g 1 .fresh = true ∧ (receiving [(QC.en, 0)] [g] none).dqBad 9 = true) ∧
    -- BARRIER: a wrong generation or count, and the last arrival
    (∀ p ∈ [(5 + 2 ^ 16 + 2 ^ 32 * 2, 1, 2), (5 + 2 ^ 32 * 3, 0, 3), (5 + 2 ^ 32 * 2, 0, 2)], let g := asked (request 6 0 8 0 p.1 0)
      let s := (receiving [] [g] none).modQue fun x => { x with
        bars := kset Barrier.init x.bars 5 { Barrier.init with count := 2, arrived := 1, held := [(6, 3, 1)] } }
      let e := mkExec g 6 s.que.msgClock
      fresh s g 6 .fresh = true ∧ (s.bar 5).arrived = 1 ∧ (s.bar 5).count.toNat = 2 ∧ (s.bar 5).g.toNat = 0 ∧ bits e.opnd0 0 12 = 5 ∧
      bits e.opnd0 16 16 = p.2.1 ∧ bits e.opnd0 32 20 = p.2.2) ∧
    -- ACKONLY, later segments, and the timers
    (∀ src ∈ [5, 7], let g := segment src 21 0 false true (request 7 0 0 0 0 0)
      isRequest g 7 = true ∧ segSrc g.bytes = src ∧ ((receiving [] [g] none).peerSlot src).isSome = (src == 5)) ∧
    (∀ last rctx gated, ∀ n ∈ [1, 2], let g := segment 5 21 n false last 99
      let e := { mkExec (segment 5 21 0 false false (request 2 300 8 0 0 0)) 2 0 with rctx := rctx, gated := gated }
      let s := (receiving [] [g] none).modQue fun x => { x with exec := [e] }
      s.que.rxq = [g] ∧ segRsp g.bytes = false ∧ segNo g.bytes = n ∧ s.findExec (segSrc g.bytes) (segReqId g.bytes) = some e ∧ e.nextSeg = 1 ∧
      segLast g.bytes = last ∧ e.op = 2) ∧
    (∀ op ∈ [1, 2], let e := { mkExec (segment 5 21 0 false false (request op 300 8 0 0 0)) op 0 with buf := [] }
      let s := (receiving [] [] none).modQue fun x => { x with exec := [e] }
      s.findExec 5 21 = some e ∧ e.rctx = true ∧ s.msgTimersRun = true ∧ e.op = op ∧ e.gated = false ∧ e.pendingWr = 0 ∧ e.sched = none ∧
      e.failAt = none ∧ e.status = 0) ∧
    (let s := (queued []).modQue fun x => { x with bars := kset Barrier.init x.bars 4095 { Barrier.init with arrived := 1 } }
     (s.bar 4095).arrived ≠ 0 ∧ (s.bar 4095).timedOut = false ∧ s.queTimersRun = true) :=
  ⟨by decide +kernel, by decide +kernel, by decide +kernel, by decide +kernel, by decide +kernel, by decide +kernel, by decide +kernel, by decide +kernel,
    by decide +kernel, by decide +kernel, by decide +kernel, by decide +kernel, by decide +kernel, by decide +kernel, by decide +kernel⟩

/-- A word of the tandem port with its CRC. -/
def portWord (kind d : Nat) : TndWord := { kind := BitVec.ofNat 3 kind, data := BitVec.ofNat 4096 d, crc := BitVec.ofNat 32 (tndCrc kind d) }

def pairImage : Half :=
  { hdr := some { header with flags := 1 }, sects := [section_ 17 0 (natLe 4 257 ++ natLe 4 (2 ^ 16 * 100) ++ natLe 4 7 ++ natLe 4 0)] }

/-- The port in state `st` under a tandem image, its partner live; the second of the pair when `role` is 1. -/
def paired (st role : Nat) : State :=
  let s := fields [(F.GLB_TND_STAT_STATE, st), (F.GLB_TND_STAT_LIVE_IN, 1), (F.GLB_TND_STAT_ROLE, role), (F.GLB_TND_LAT_TX_DECL, 20),
    (F.GLB_TND_LAT_RX_DECL, 20)] opened
  { s with
    cfg := { s.cfg with imageActive := true, active := pairImage }
    sch := { s.sch with ft := 50000 } }

/-- The same, its own TRAIN word sent `r` cycles of round trip ago. -/
def echoed (r : Nat) : State := { (paired 1 0).waitTo 900000 with tnd := { (paired 1 0).tnd with sent := some (900000 - 30 - r) } }

/-- What a partner says of itself as it joins. -/
def joining (solo agree : Nat) (plan role : Nat) : Nat :=
  1 + 2 ^ 64 * (plan + 2 ^ 64 * (paired 2 0).k + 2 ^ 72 * (paired 2 0).epid + 2 ^ 96 * 20 + 2 ^ 104 * 20 + 2 ^ 112 * role + 2 ^ 113 * solo + 2 ^ 114 * agree)

def agrees (s : State) (a : Nat) : Bool :=
  bits a 0 64 == s.planId && bits a 64 8 == s.k && bits a 72 20 == s.epid && bits a 96 8 == s.f F.GLB_TND_LAT_RX_DECL &&
    bits a 104 8 == s.f F.GLB_TND_LAT_TX_DECL && bits a 112 1 != b2n (s.flag F.GLB_TND_STAT_ROLE)

theorem witness_TandemRows :
    -- the enable and TAKEOVER
    (∀ s ∈ [paired 0 0, paired 1 0, paired 2 0, paired 3 0, paired 5 1, paired 5 0], Reaches s .csp R.GLB_TND_CTRL ∧ (s.crp.mainUp = true ∧
      s.tandemImage = true)) ∧
    ((paired 0 0).f F.GLB_TND_STAT_STATE = 0 ∧ (paired 5 1).f F.GLB_TND_STAT_STATE = 5 ∧ (paired 5 1).secondary = true ∧ (paired 5 0).secondary = false) ∧
    (∀ p ∈ [(0, 0, 0), (1, 0, 0), (1, 1, 0x5A17), (1, 1, 0x5A16)], let w := data [(F.GLB_TND_CTRL_EN, p.1), (F.GLB_TND_CTRL_TAKEOVER, p.2.1), (F.GLB_TND_CTRL_KEY, p.2.2)]
      wb w F.GLB_TND_CTRL_EN = (p.1 == 1) ∧ wb w F.GLB_TND_CTRL_TAKEOVER = (p.2.1 == 1) ∧ wf w F.GLB_TND_CTRL_KEY = p.2.2) ∧
    -- words of each kind
    (∀ p ∈ [(1, 1), (1, 2), (1, 258), (3, 2), (3, 3), (3, 4 + 2 ^ 64 * (5 + 2 ^ 32 * 88)), (3, 5 + 2 ^ 64 * (5 + 2 ^ 32 * 88)), (2, 0x123 + 2 ^ 64 * 9)],
      let w := portWord p.1 p.2
      w.crc.toNat = tndCrc w.kind.toNat w.data.toNat ∧ w.kind.toNat = p.1 ∧ w.data.toNat = p.2) ∧
    (∀ p ∈ [(joining 1 0 0 1, true), (joining 0 0 0 1, true), (joining 0 1 0 1, true), (joining 0 1 98 1, false), (joining 0 1 0 0, false)],
      let w := portWord 3 p.1
      (w.crc.toNat == tndCrc w.kind.toNat w.data.toNat && w.kind.toNat == 3 && w.data.toNat % 256 == 1) = true ∧
      agrees (paired 2 0) (w.data.toNat / 2 ^ 64) = p.2) ∧
    ((joining 1 0 0 1 / 2 ^ 64).testBit 113 = true ∧ (joining 0 1 0 1 / 2 ^ 64).testBit 113 = false ∧ (joining 0 1 0 1 / 2 ^ 64).testBit 114 = true ∧
      (joining 0 0 0 1 / 2 ^ 64).testBit 114 = false) ∧
    (let d := (segPay 7 6 3 4 1 false true false []).toNat + 2 ^ 1920 * 3
     let w := portWord 4 d
     w.crc.toNat = tndCrc w.kind.toNat w.data.toNat ∧ w.kind.toNat = 4 ∧ segNo (BitVec.ofNat 1920 w.data.toNat) = 1) ∧
    (let w : TndWord := { kind := 1, data := 7, crc := 1 }
     ¬w.crc.toNat = tndCrc w.kind.toNat w.data.toNat) ∧
    ((portWord 5 7).kind.toNat = 5) ∧
    (∀ st ∈ [1, 2, 3], (paired st 0).flag F.GLB_TND_STAT_LIVE_IN = true ∧ (paired st 0).f F.GLB_TND_STAT_STATE = st) ∧
    ((paired 1 0).tnd.measured = false ∧ (paired 1 0).tnd.pMeasured = false) ∧
    (∀ r ∈ [38, 39, 41, 42], let s := echoed r
      s.tnd.sent = some (900000 - 30 - r) ∧ s.now - (900000 - 30 - r) - 30 = r ∧ s.f F.GLB_TND_LAT_TX_DECL + s.f F.GLB_TND_LAT_RX_DECL = 40) ∧
    ((fields [(F.SCH_BSTAT_SWAP_PEND, 1)] (paired 3 0)).flag F.SCH_BSTAT_SWAP_PEND = true ∧ ((paired 3 0).setPeer 2 { Peer.init with valid := true, id := 5 }).peerSlot 5 = some 2) ∧
    -- the partner lost, its readiness, its liveness, and the takeover delay
    (∀ r ∈ [0, 1], (paired 3 r).secondary = (r == 1) ∧ (paired 3 r).takeDue = none) ∧
    (∀ st ∈ [3, 4, 6], (paired st 0).tandemImage = true) ∧
    (∀ v, ∃ s ∈ [paired 3 0, fields [(F.GLB_TND_STAT_LIVE_IN, 0)] (paired 3 0)], v ≠ s.flag F.GLB_TND_STAT_LIVE_IN) ∧
    (let s := { paired 5 1 with tnd := { (paired 5 1).tnd with fell := some 500000 } }
     s.takeDue.isSome = true ∧ s.f F.GLB_TND_STAT_STATE = 5) := by
  refine ⟨each (fun _ => reaches_of) (by decide +kernel), by decide +kernel, by decide +kernel, by decide +kernel, by decide +kernel, by decide +kernel,
    by decide +kernel, by decide +kernel, by decide +kernel, by decide +kernel, by decide +kernel, by decide +kernel, by decide +kernel,
    by decide +kernel, by decide +kernel, ?_, by decide +kernel⟩
  · intro v
    cases v
    · exact ⟨paired 3 0, by simp, by decide +kernel⟩
    · exact ⟨fields [(F.GLB_TND_STAT_LIVE_IN, 0)] (paired 3 0), by simp, by decide +kernel⟩

/-- Thread 2 selected in state `st`, with a handler and a frame at its stack pointer. -/
def selected (st flags : Nat) : State :=
  fields [(F.BTP_TH_SEL_T, 2), (F.BTP_LAMP_SEL_LAMP, 3), (F.BTP_LAMP_SEL_SCAN_T, 1)] (run 2 flags [0x02000000] fun x => { x with
    st := BitVec.ofNat 3 st, prev := 2, wait := .lamp 3 })

/-- Lamp 3 with what owns it and what waits for it, lamp 4095 owned by thread 1. -/
def lit (owner : Option Nat) (waiters : List Nat) : State :=
  let s := selected 2 1
  { s with btp := { s.btp with lamps := [(3, { owner := owner, waiters := waiters }), (4095, { owner := some 1, waiters := [] })] } }

theorem witness_ThreadCommands :
    (∀ s ∈ [selected 0 1, selected 1 1, selected 2 17, selected 3 1, selected 4 1, selected 5 17, selected 6 1, selected 7 1, selected 5 0],
      Reaches s .csp R.BTP_TH_CMD ∧ Reaches s .csp R.BTP_FLOG_POP ∧ (s.crp.mainUp = true ∧ s.f F.BTP_TH_SEL_T = 2)) ∧
    (∀ n < 8, (selected n 17).tflag 2 TF.exists_ = true ∧ ((selected n 17).thread 2).st.toNat = n) ∧
    ((selected 5 17).tflag 2 TF.handler = true ∧ (selected 5 1).tflag 2 TF.handler = false ∧ (selected 5 0).tflag 2 TF.exists_ = false) ∧
    (let s := selected 5 17
     s.mem.ecc = [] ∧ s.mem.poison = [] ∧ (s.thread 2).sp.toNat % 2 ^ 22 + 64 ≤ 2 ^ 22) ∧
    (∀ u, (RegSrc.csp : RegSrc) ≠ .thread u) ∧
    (∀ s ∈ [lit none [], lit (some 1) [], lit (some 1) [2, 3]], Reaches s .csp R.BTP_LAMP_CMD ∧ (s.crp.mainUp = true ∧ s.f F.BTP_LAMP_SEL_LAMP = 3)) ∧
    ((lit none []).lamp 3 = { owner := none, waiters := [] } ∧ (lit (some 1) []).lamp 3 = { owner := some 1, waiters := [] } ∧
      (lit (some 1) [2, 3]).lamp 3 = { owner := some 1, waiters := [2, 3] } ∧ ((lit (some 1) [2, 3]).thread 2).wait = .lamp 3 ∧
      ((lit (some 1) [2, 3]).thread 2).st = 2) ∧
    (let s := { selected 2 1 with btp := { (selected 2 1).btp with blockedSince := some 4, allArmed := true } }
     s.btp.blockedSince = some 4 ∧ s.btp.allArmed = true) :=
  ⟨each₂ (fun _ => reaches_of) (fun _ => reaches_of) (by decide +kernel), by decide +kernel, by decide +kernel, by decide +kernel, nofun,
    each (fun _ => reaches_of) (by decide +kernel), by decide +kernel, by decide +kernel⟩

/-- Threads 0 to 5 of pool entries, thread 4 of pipe 0 ready or not; every slot of pipe 0 a pool slot. -/
def pooled (flags : Nat) (ready : Bool) (f : Thread → Thread) : State :=
  let h := textImage 4 flags [0x02000000]
  let s := up { h with sects := [{ idx := 0, typ := 1, inst := 0, dest := 0, bytes := (List.replicate 8 (natLe 2 flags ++ natLe 2 1 ++ natLe 4 0 ++
    natLe 4 0x100 ++ natLe 4 0x1000 ++ natLe 4 0x200 ++ natLe 4 0x2000 ++ natLe 2 0x80 ++ natLe 2 2 ++ natLe 4 0)).flatten },
    { idx := 0, typ := 2, inst := 0, dest := 0, bytes := (List.replicate 256 [1, 0]).flatten }] ++ h.sects.filter fun x => x.typ == 14 }
  (s.modThread 4 fun x => f { x with st := if ready then TST.ready else 4, started := true, sp := 0x1000, sr := 0x400 }).wait 2000

/-- Event `n` latched for thread `t`, in its wait set 2. -/
def routed (n t : Nat) (s : State) : State :=
  (fields [(F.EVT_ROUTEn_DEST n, 1), (F.EVT_ROUTEn_THREAD n, t), (F.EVT_ROUTEn_WSET n, 2)] s).raise n

/-- Channel 5 with the words `ws`, thread `t` waiting at it. -/
def channelled (t : Nat) (ws : List Nat) (s : State) : State := { s with btp := { s.btp with chans := [(5, { Chan.init with
  words := ws.map fun w => { data := BitVec.ofNat 64 w, fin := true, brk := false, at_ := 0, sched := false }, waiters := [t] })] } }

/-- Thread 2, scheduled, waiting as `wt` for the word `w`. -/
def waiting (w : Nat) (wt : Wait) : State :=
  (routed 700 2 (channelled 2 [4, 5] (run 2 0x1F [w] fun x => { x with st := 2, wait := wt }))).wait 2000

/-- The same ready, and its next slot. -/
def readied (w : Nat) (wt : Wait) : State := (waiting w wt).modThread 2 fun x => { x with st := 1 }

theorem ready_for : lawfulB (readied (word 0x38 3 0 0 0x50) (.chanRead 5 3)) 2 (at2 (readied (word 0x38 3 0 0 0x50) (.chanRead 5 3))) = true ∧
    lawfulB (readied (word 0x38 3 0 0 0x29) (.event 2 3)) 2 (at2 (readied (word 0x38 3 0 0 0x29) (.event 2 3))) = true ∧
    lawfulB (readied (word 0x38 3 0 0 0x09) (.event 0 3)) 2 (at2 (readied (word 0x38 3 0 0 0x09) (.event 0 3))) = true := by decide +kernel

theorem witness_ThreadWaits :
    (∀ s ∈ [pooled 1 true id, pooled 1 false id, pooled 1 true fun x => { x with earliest := 2000 }], s.crp.mainUp = true ∧
      s.flag F.DBG_TR_CFG_EN = false ∧ s.planLive = true ∧ s.mode = 6 ∧ s.poolCyc 0 = some 1000) ∧
    ((pooled 1 true id).poolPick 0 = some 4 ∧ (pooled 1 true id).alertDue 4 = false ∧ (pooled 1 false id).poolPick 0 = none) ∧
    (∀ n ∈ [0, 3, 7, 1023], let s := routed n 2 (run 2 0x1F [0x02000000] fun x => x.setSrb SR.ae true)
      s.threadsRun 2 = true ∧ s.alertDue 2 = true ∧ (s.thread 2).st = 1 ∧ (s.thread 2).wait = .none ∧ s.threadEvent 2 none = some n) ∧
    (let s := routed 700 2 (run 2 0x1F [0x02000000] fun x => x.setSrb SR.ae true)
     HandlerReady s 2 (s.thread 2)) ∧
    (∀ p ∈ [(Wait.chanRead 5 3, [4]), (.chanWrite 5 3 true, []), (.event 2 3, []), (.event 0 3, [])],
      let s := routed 700 4 (channelled 4 p.2 (pooled 1 true fun x => { x with st := 2, wait := p.1 }))
      s.threadsRun 4 = true ∧ (s.thread 4).st = 2 ∧ (s.thread 4).wait = p.1 ∧ s.isSched 4 = false ∧ s.chanReadable 5 4 = !p.2.isEmpty ∧
      s.chanWritable 5 4 = true ∧ (s.threadEvent 4 (some 2)).isSome = true ∧ (s.threadEvent 4 none).isSome = true) ∧
    (let s := waiting (word 0x38 3 0 0 0x50) (.chanRead 5 3)
     let k := at2 (readied (word 0x38 3 0 0 0x50) (.chanRead 5 3))
     Lawful (s.modThread 2 fun x => { x with st := 1 }) 2 k ∧ ((s.thread 2).st = 2 ∧ s.isSched 2 = true ∧ isPair k.w = false ∧
       (s.thread 2).executes k.w = true ∧ wOp k.w = 0x38 ∧ bits k.w 0 4 = 0 ∧ bits k.w 4 10 = 5 ∧ wRd k.w = 3 ∧ s.chanForbidden 5 = false ∧
       s.chanReadable 5 2 = true ∧ ((s.modThread 2 fun x => { x with st := 1 }).atSlot k).chanReadable 5 2 = true ∧ (s.chan 5).words ≠ [] ∧
       (s.chan 5).hw = [])) ∧
    (∀ ws ∈ [0, 2], let s := waiting (word 0x38 3 0 0 (9 + 16 * ws)) (.event ws 3)
     let k := at2 (readied (word 0x38 3 0 0 (9 + 16 * ws)) (.event ws 3))
     (s.thread 2).st = 2 ∧ s.isSched 2 = true ∧ isPair k.w = false ∧ (s.thread 2).executes k.w = true ∧ wOp k.w = 0x38 ∧ bits k.w 0 4 = 9 ∧
     bits k.w 4 2 = ws ∧ wRd k.w = 3 ∧ s.threadEvent 2 (if ws = 0 then none else some ws) = some 700) ∧
    Lawful (readied (word 0x38 3 0 0 0x29) (.event 2 3)) 2 (at2 (readied (word 0x38 3 0 0 0x29) (.event 2 3))) ∧
    Lawful (readied (word 0x38 3 0 0 0x09) (.event 0 3)) 2 (at2 (readied (word 0x38 3 0 0 0x09) (.event 0 3))) :=
  ⟨by decide +kernel, by decide +kernel, by decide +kernel, handlerReady_of (by decide +kernel), by decide +kernel,
    ⟨lawful_of ready_for.1, by decide +kernel⟩, by decide +kernel, lawful_of ready_for.2.1, lawful_of ready_for.2.2⟩

/-- Memories awake and sound, with bytes at the start of the secure partition and at the end of staging memory. -/
def memories (l : List (Fld × Nat)) : State :=
  let s := fields l base
  { s with
    mem := { s.mem with mem := Memory.write [] 0x3BFFF0 (List.replicate 64 7) }
    str := { s.str with mem := Memory.write [] 0x3FFFFF0 (List.replicate 16 9) } }

def window (a size : Nat) (w : Option Nat) : WinAccess := { addr := BitVec.ofNat 22 a, size := BitVec.ofNat 2 size, wr := w.map fun v => BitVec.ofNat 32 v }

theorem witness_MemoriesAndProtection :
    -- windows
    (∀ p ∈ [(0, 0), (15, 0x3FFFFC)], ∀ w ∈ [none, some 7], let s := memories [(F.STR_SWIN_BASE, p.1)]
      let acc := window p.2 2 w
      s.crp.headOn = true ∧ s.dbgBarred .csp = false ∧ acc.size = 2 ∧ acc.addr.toNat % 4 = 0 ∧ s.crp.mainUp = true ∧
      s.flag F.MEM_STAT_WAKE_S = false ∧ s.str.ecc = [] ∧ s.str.poison = [] ∧
      s.peerTableWord ((s.f F.STR_SWIN_BASE * 2 ^ 22 + acc.addr.toNat) % 2 ^ 26 / 64) = none ∧ acc.wr = w.map fun v => BitVec.ofNat 32 v) ∧
    (∀ a ∈ [0, 0x3BFFFC], ∀ w ∈ [none, some 7], let s := memories []
      let acc := window a 2 w
      s.flag F.MEM_STAT_WAKE_T = false ∧ acc.addr.toNat < 0x3C0000 ∧ acc.addr.toNat % 4 = 0 ∧ acc.size = 2 ∧ s.mem.ecc = [] ∧ s.mem.poison = [] ∧
      acc.wr = w.map fun v => BitVec.ofNat 32 v) ∧
    ((window 4 1 none).size ≠ 2 ∧ (window 2 2 none).addr.toNat % 4 ≠ 0 ∧ 0x3C0000 ≤ (window 0x3C0000 2 none).addr.toNat ∧
      (memories [(F.MEM_STAT_WAKE_T, 1)]).flag F.MEM_STAT_WAKE_T = true) ∧
    (let s := { memories [] with crp := { (memories []).crp with mainUp := false } }
     s.crp.headOn = true ∧ s.dbgBarred .csp = false ∧ s.crp.mainUp = false) ∧
    -- thread memory by itself
    (let s := memories [(F.MEM_CFG_SCRUB_EN, 1)]
     s.crp.mainUp = true ∧ s.flag F.MEM_CFG_SCRUB_EN = true ∧ s.flag F.MEM_STAT_WAKE_T = false ∧ s.mem.ecc = []) ∧
    (∀ p ∈ [(some 50, some 60), (none, some 60)], let s := { memories [] with mem := { (memories []).mem with wakeT := p.1, wakeS := p.2 } }
     s.mem.wakeT = p.1 ∧ s.mem.wakeS = p.2 ∧ s.crp.headOn = true) ∧
    -- tamper and lifecycle
    ((memories []).flag F.MEM_SEC_STAT_TAMPER_IN = false) ∧
    (let s := memories [(F.MEM_SEC_STAT_TAMPER_IN, 1), (F.MEM_SEC_STAT_ACTIVE, 1)]
     s.flag F.MEM_SEC_STAT_TAMPER_IN = true ∧ s.crp.mainUp = true ∧ s.flag F.MEM_SEC_STAT_ACTIVE = true) ∧
    (({ memories [] with mem := { (memories []).mem with wipeEnd := some 900 } } : State).mem.wipeEnd = some 900) ∧
    (∃ q : Seq, ({ memories [] with crp := { (memories []).crp with seq := some { kind := .por, step := 2, at_ := 0 } } } : State).crp.seq = some q ∧
      q.kind = .por ∧ q.step ≤ 2) ∧
    (let s := memories [(F.MEM_LC_STAT_STATE, 1)]
     s.crp.seq = none ∧ s.f F.CFG_STAT_STAGED ≠ 1 ∧ s.f F.CFG_STAT_STAGED ≠ 2 ∧ s.f F.MEM_LC_STAT_STATE = 1 ∧ lcForward 1 2 = true ∧
     lcForward 1 0 = false ∧ s.crp.mainUp = true) ∧
    -- scan and memory test
    (∀ scan, let s := { memories [] with crp := { (memories []).crp with scan := scan } }
     s.crp.mainUp = true ∧ s.f F.MEM_LC_STAT_STATE ≠ 2 ∧ s.f F.MEM_LC_STAT_STATE ≠ 4 ∧ s.flag F.MEM_LC_STAT_FORCED_END = false ∧
     s.crp.scan = scan ∧ s.crp.mbist = false) ∧
    (({ memories [] with crp := { (memories []).crp with mbist := true } } : State).crp.mbist = true) :=
  ⟨by decide +kernel, by decide +kernel, by decide +kernel, by decide +kernel, by decide +kernel, by decide +kernel, by decide +kernel,
    by decide +kernel, rfl, ⟨_, rfl, rfl, by decide⟩, by decide +kernel, fun b => by cases b <;> decide +kernel, rfl⟩

/-- A request of a host port, and a transaction of it. -/
def hostReq (opc : Nat) : HmpReq :=
  { opc := BitVec.ofNat 2 opc, arg := 0, addr := 0x1010, len := 64, data := List.replicate 8 5, poison := false, src := 3, intr := true, who := .msi 3 4 }
def hostTxn (opc id : Nat) (held : Bool) : HmpTxn :=
  { tid := BitVec.ofNat 10 id, req := hostReq opc, at_ := 5, got := [], beats := 0, bad := false, poison := false, heldOver := held }

/-- Port 3 with a request queued and transactions 0 and `id` out in both directions. -/
def ported (opc id : Nat) (held : Bool) : State :=
  let reads := [hostTxn 0 0 false, hostTxn 0 id held]
  let writes := [hostTxn 1 0 false, hostTxn 1 id held]
  (fields [(F.GLB_HMP_CFG_TMO, 4)] base).setHmp 3 { reqs := [hostReq opc], validAt := 7, reads := reads, writes := writes }

theorem witness_HostPortsAndEvents :
    (∀ opc ∈ [0, 1], let s := ported opc 1023 false
      s.crp.mainUp = true ∧ (s.hmpPort 3).reqs = [hostReq opc] ∧ s.flag F.CRP_PWR_STAT_HMP_FLUSH = false ∧ freeTid (s.hmpPort 3).reads = some 1 ∧
      freeTid (s.hmpPort 3).writes = some 1) ∧
    (∀ id ∈ [1, 1023], ∀ held, ∀ wr, let s := ported 0 id held
      ((s.hmpPort 3).find wr (BitVec.ofNat 10 id)).map (fun t => (t.tid, t.heldOver)) = some (BitVec.ofNat 10 id, held) ∧
      s.f F.GLB_HMP_CFG_TMO ≠ 0) ∧
    (hostReq 1).who = .msi 3 4 ∧
    (∀ s ∈ [base], Reaches s .csp R.EVT_RAISE ∧ Reaches s .csp (R.EVT_PENDk 0) ∧ s.crp.mainUp = true) ∧
    (∀ s ∈ [base], Reaches s .csp (R.EVT_PENDk 127) ∧ s.crp.mainUp = true) ∧
    (∀ u, RegSrc.csp ≠ .thread u) ∧
    (∀ n ∈ [0, 511, 512, 4095], wf (data [(F.EVT_RAISE_EV, n)]) F.EVT_RAISE_EV = n) :=
  ⟨by decide +kernel, by decide +kernel, rfl, each₂ (fun _ => reaches_of) (fun _ => reaches_of) (by decide +kernel), each (fun _ => reaches_of) (by decide +kernel),
    nofun, by decide +kernel⟩

/-! ## The machine as a whole -/

theorem witness_StepRunsTheFront :
    ({ State.reset with pending := [.tandemLost, .takeDelayExpiry] } : State).pending = .tandemLost :: [.takeDelayExpiry] ∧ State.reset.pending = [] :=
  ⟨rfl, rfl⟩

theorem witness_ResetState : (regAt R.EVT_STAT).isSome = true ∧ R.EVT_STAT ∉ [R.EVT_ROUTEn 16, R.EVT_ROUTEn 17, R.EVT_ROUTEn 18] := by decide +kernel

/-- The block in RUN, its classes clear and its liveness output high. -/
def healthy : State := { base with tnd := { base.tnd with live := true } }

theorem witness_InvariantKept : ∃ s : State, s.Inv ∧ s.mode = 6 :=
  ⟨fields [(F.CRP_MODE_MODE, 6), (F.SCH_CLS_STAT_MODE, 0)] healthy, ⟨by decide +kernel, by decide +kernel, by decide +kernel, by decide +kernel,
    by decide +kernel, by decide +kernel, by decide +kernel, by decide +kernel, by decide +kernel, by decide +kernel, by decide +kernel, by decide +kernel, by decide +kernel⟩,
    by decide +kernel⟩

/-! ## Well-formedness: each check refuses an ill-formed command -/

def refuses (l : List Instr) : Bool := l.all fun i => !i.wellFormed

def answersOf (bytes : List (Nat × Byte)) (rdErr wrErr poison : List Nat) : StreamIo :=
  { bytes := bytes, rdErr := rdErr, wrErr := wrErr, poison := poison, lat := 0 }
def frameOf (cmd len : Nat) : VwkFrame :=
  { dst := 1, srcT := 2, cmd := BitVec.ofNat 4 cmd, len := BitVec.ofNat 4 len, data := 0, crc := 0, stop := true }

/-- Writes without the bits of their row. -/
theorem test_ill_writes_refused : refuses (
  [.relock .csp 0, .loadStart .csp 0, .loadAbort .csp 0, .disarm .csp 0, .activate .csp 0, .expertUnlock .csp 0,
    .expertLock .csp 0x5A5A5A5A, .linkReset .csp 0, .queueContextRead .csp 0, .queueContextWrite .csp 0, .queueFlush .csp 0,
    .barrierRelease .csp 0, .barrierReset .csp 0, .peerRead .csp 0, .peerAdd .csp 0, .peerRemove .csp 0,
    .streamCommandGo .csp 0, .reduceEntryReset .csp 0, .tandemEnable .csp 0, .takeover .csp 0, .threadStop .csp 0,
    .threadStart .csp 0, .threadResume .csp 0] ++
  [.resumeAlert .csp 0, .threadReset .csp 0, .threadHalt .csp 0, .threadRun .csp 0, .faultLogPop .csp 0, .forceReturn .csp 0,
    .lampScan .csp 0, .vwkSend .csp 0, .vwkDetach .csp 0, .vwkAttn .csp 0, .vwkRxPop .csp 0, .hardReset .csp 0,
    .softReset .csp 0, .debugHalt .csp 0, .debugResume .csp 0, .debugReset .csp 0, .modeReqStandby .csp 0,
    .modeReqTrain .csp 0, .modeReqLock .csp 0, .modeReqRun .csp 0, .modeReqDrain .csp 0, .modeReqRetain .csp 0,
    .modeReqSafe .csp 0]) = true := by decide +kernel
theorem test_ill_indexed_writes_refused : refuses (
  [.linkGroupEnable .csp 3 0, .retrain .csp 3 0, .keyLoad .csp 3 0, .keyErase .csp 3 0, .driftAbort .csp 3 0,
    .driftFlush .csp 3 0, .peEnable .csp 3 0, .peDisable .csp 3 1, .peFlush .csp 3 0, .peDiscard .csp 3 0,
    .timerEnable .csp 3 0, .timerDisable .csp 3 1, .reloadNow .csp 3 0]) = true := by decide +kernel
/-- Messages with another command code. -/
theorem test_ill_flits_refused : (let f := mkFlit 3 0 false false false 0 0 (ctrlPay 0x20 0 0); refuses (
  [.param 3 f, .paramAck 3 f, .delayReq 3 f 0, .delayRsp 3 f 0, .remapReq 3 f, .remapGo 3 f, .remapDone 3 f, .widthReq 3 f,
    .widthAck 3 f, .restoreReq 3 f, .restoreAck 3 f, .refuse 3 f])) = true := by decide +kernel
/-- Commands of a drift with what the host answered out of its form. -/
theorem test_ill_answers_refused : ∀ io ∈ [answersOf [(4, 1), (3, 1)] [] [] [], answersOf [(4, 0)] [] [] [], answersOf [] [2, 2] [] [],
    answersOf [] [] [5, 4] [], answersOf [] [] [] [7, 7]], refuses (
  [.streamCopy 15 io, .streamAdd 15 io, .streamSub 15 io, .streamMul 15 io, .streamFma 15 io, .streamAxpy 15 io,
    .streamScale 15 io, .streamMin 15 io, .streamMax 15 io, .streamAbs 15 io, .streamNeg 15 io, .streamAnd 15 io,
    .streamOr 15 io, .streamXor 15 io]) = true := by decide +kernel
/-- Frames of another command, or with more than eight bytes. -/
theorem test_ill_frames_refused : (∀ f ∈ [frameOf 15 0], refuses (
  [.vwkPing f, .vwkIdentReq f, .vwkIdent f, .vwkClaim f, .vwkRelease f, .vwkChain f, .vwkUser f]) = true) ∧ refuses [.vwkPing (frameOf 0 9), .vwkUser (frameOf 8 9), .vwkUser (frameOf 7 8), .vwkClaim (frameOf 3 15)] = true := by decide +kernel
theorem test_ill_accesses_refused : refuses [.registerWrite .csp 0x40 1 0, .registerWrite .csp 0x42 2 0, .rcFieldRead .csp 0x40 3, .rcFieldRead .csp 0x41 2,
    .stagingWindowAccess .csp (window 4 1 none), .stagingWindowAccess .csp (window 6 2 none), .tmemWindowAccess .csp (window 4 0 none),
    .tmemWindowAccess .csp (window 5 2 (some 1)), .vwkClaimStart (.write .csp 0), .wakeRequest (.csp 0), .dbgacc (2 ^ 32),
    .codewordReceive 3 0 [] [], .codewordReceive 3 0 [0, 0, 0] [0, 0, 0], .codewordReceive 3 0 [0, 0] [0]] = true := by decide +kernel
theorem test_ill_keys_refused : refuses [.hardReset .csp (data [(F.CRP_RST_CTRL_HARD, 1), (F.CRP_RST_CTRL_KEY, 0x7E56)]),
    .softReset .csp (data [(F.CRP_RST_CTRL_KEY, 0x7E57)]), .debugReset .debug (data [(F.DBG_CTRL_DBG_RST, 1)]),
    .expertUnlock .csp (data [(F.GLB_CTRL_EXPERT, 0x3C5B)])] = true := by decide +kernel
theorem test_well_formed_admitted : [Instr.registerWrite .csp 0x40 2 7, .hardReset .csp (data [(F.CRP_RST_CTRL_HARD, 1), (F.CRP_RST_CTRL_KEY, 0x7E57)]),
    .vwkUser (frameOf 14 8), .remapReq 3 (ctl 1 0), .streamCopy 3 (answersOf [(3, 1), (4, 2)] [1, 2] [] [9]), .threadStop .csp 1].all
      (fun i => i.wellFormed) = true := by decide +kernel

/-! ## Examples of the spec, and single commands -/

/-- 07, order decides the bits: 2,048 + 1 in binary16 rounds to even, 2,048, inexact. -/
theorem test_half_sum_rounds_to_even : combineBytes 0 (0x1B * 2 ^ 16) 1 0 [0x00, 0x68] [0x00, 0x3C] = ([0x00, 0x68], 16) := by decide +kernel

/-- 07, the other order: 1 + 1 is 2, and 2 + 2,048 is 2,050. -/
theorem test_half_sum_of_small_first : combineBytes 0 (0x1B * 2 ^ 16) 2 0 [0x00, 0x40] [0x00, 0x68] = ([0x01, 0x68], 0) := by decide +kernel

/-- 05, an atomic whose response is lost: request 7,210 after 7,209 is new, and again once it is recorded and cached it is answered from the cache. -/
theorem test_next_request_is_new :
    let s := base.setPeer 3 { Peer.init with valid := true, id := 5, rxH := 7209 }
    s.classify 5 7210 4 false false false = .fresh ∧
    (let c : CacheEntry := { src := 5, reqId := 7210, done := true, status := 0, op := 4, bytes := 8, data := 41, slot := 0 }
     ((s.recordNew 5 7210 4).modQue fun x => { x with cache := [c] }).classify 5 7210 4 false false false = .cached c) := by decide +kernel

/-- The CRC-32 of the digits 1 to 9 is its published check value. -/
theorem test_crc32_check_value : crc32 [0x31, 0x32, 0x33, 0x34, 0x35, 0x36, 0x37, 0x38, 0x39] = 0xCBF43926 := by decide +kernel

/-- The state after a command. -/
def after (o : Host.Outcome State Fault Refusal) : State := match o with
  | .next s => s
  | _ => State.reset

/-- Engine 7 at entry 0 of the example, a byte in its feed FIFO. -/
def fedWith : State := fields [(F.PEn_CTRL_EN 7, 1)] { base with sbd := { base.sbd with
  pe := kset PinEngine.init base.sbd.pe 7 { PinEngine.init with prog := [(0, 0x0080004801030003)], feed := [0xA5000000] } } }

/-- 12, sending one byte per transmit word: entry 0 drives P0 and P1 low, takes a feed word and loads BC with 8. -/
theorem test_pin_engine_entry :
    (let s := after (exec (.peEntry 7) fedWith)
     (s.pe 7).bc = 8 ∧ (s.pe 7).sr = 0xA5000000 ∧ (s.pe 7).feed = [] ∧ (s.pe 7).out.toNat % 4 = 0 ∧ (s.pe 7).oe.toNat % 4 = 3) := by decide +kernel

/-- ADD of -1 and 1: zero, with carry and without overflow. -/
theorem test_add_wraps :
    let s := run 2 0x1F [word 1 3 4 5 0] (regs [(4, 2 ^ 64 - 1), (5, 1)])
    let t := after (exec (.aluAdd 2) s)
    (t.thread 2).gpr = kset 0 (s.thread 2).gpr ((s.thread 2).idx true 3) 0 ∧ (t.thread 2).pc = (s.thread 2).pc + 1 := by decide +kernel

/-- A doorbell of a queue that is not enabled sets DB_ERR and moves nothing. -/
theorem test_doorbell_refused : let t := after (exec (.doorbellSq .csp 9 5) base)
    t.flag F.QUE_STAT_DB_ERR = true ∧ t.qf 9 QC.sqProd = 0 := by decide +kernel

/-- The table gives no row any bits. -/
theorem test_no_word_spells_a_command (n w : Nat) : decodeTableWord n w = none := rfl

/-- A step with nothing waiting lets one cycle pass. -/
theorem test_idle_step : (after (step State.reset)).now = State.reset.now + 1 := by decide +kernel

/-- R594: in RESET the transmitters are in electrical idle and the engines' pins high-impedance; in operation the block drives them. -/
theorem test_port_values :
    State.reset.portValue false .txEidle = some 1 ∧ State.reset.portValue false .sbEnable = some 0 ∧
    base.portValue false .txEidle = none := by decide +kernel

end Sys2Proof.Tests
end

section
/-! Registers, outputs and frames: what a field reads as after a write, that the end of a command takes back no output, and what an
operation leaves as it was. -/

namespace Sys2Proof.Machine

/-! ## Fields -/

theorem testBit_putBits (v lo w x i : Nat) :
    (putBits v lo w x).testBit i = if lo ≤ i ∧ i < lo + w then x.testBit (i - lo) else v.testBit i := by
  have e : putBits v lo w x = 2 ^ lo * (2 ^ w * (v >>> (lo + w)) + x % 2 ^ w) + v % 2 ^ lo := by
    
    have hhigh : (v >>> (lo + w)) * 2 ^ (lo + w) = 2 ^ lo * (2 ^ w * (v >>> (lo + w))) := by
      rw [Nat.pow_add, Nat.mul_comm, Nat.mul_assoc]
    have hfield : x % 2 ^ w * 2 ^ lo = 2 ^ lo * (x % 2 ^ w) := Nat.mul_comm _ _
    rw [putBits, hhigh, hfield, Nat.mul_add]; omega
  rw [e, Nat.testBit_two_pow_mul_add _ (Nat.mod_lt _ (Nat.two_pow_pos _)), Nat.testBit_two_pow_mul_add _ (Nat.mod_lt _ (Nat.two_pow_pos _))]
  by_cases h1 : i < lo
  · simp [h1, Nat.not_le.2 h1]
  · by_cases h2 : i - lo < w
    · rw [if_neg h1, if_pos h2, if_pos (by omega), Nat.testBit_mod_two_pow]; simp [h2]
    · rw [if_neg h1, if_neg h2, if_neg (by omega), Nat.testBit_shiftRight]; congr 1; omega

theorem testBit_bits (v lo w i : Nat) : (bits v lo w).testBit i = (decide (i < w) && v.testBit (lo + i)) := by
  unfold bits; rw [Nat.testBit_mod_two_pow, Nat.testBit_shiftRight]

theorem testBit_ofNat_toNat (v i : Nat) : (BitVec.ofNat 32 v).toNat.testBit i = (decide (i < 32) && v.testBit i) := by
  rw [BitVec.toNat_ofNat, Nat.testBit_mod_two_pow]

/-- A field that lies in its register reads as written, cut to its width. -/
theorem State.f_setF_same (s : State) (x : Fld) (v : Nat) (h : x.lo + x.w ≤ 32) : (s.setF x v).f x = v % 2 ^ x.w := by
  unfold State.f State.setF
  rw [State.reg_setReg_same]
  refine Nat.eq_of_testBit_eq fun i => ?_
  rw [testBit_bits, testBit_ofNat_toNat, testBit_putBits, Nat.testBit_mod_two_pow]
  by_cases hi : i < x.w
  · rw [if_pos (by omega)]; simp [show x.lo + i < 32 by omega]
  · simp [hi]

/-- A field written leaves the fields beside it in the register as they were. -/
theorem State.f_setF_beside (s : State) (x y : Fld) (v : Nat) (hoff : y.off = x.off) (h : y.lo + y.w ≤ x.lo ∨ x.lo + x.w ≤ y.lo) :
    (s.setF x v).f y = s.f y := by
  unfold State.f State.setF
  rw [hoff, State.reg_setReg_same]
  refine Nat.eq_of_testBit_eq fun i => ?_
  rw [testBit_bits, testBit_bits, testBit_ofNat_toNat, testBit_putBits]
  by_cases hi : i < y.w
  · rw [if_neg (by omega)]
    by_cases hb : y.lo + i < 32
    · simp [hb]
    · have h32 : (s.reg x.off).toNat < 2 ^ (y.lo + i) :=
        Nat.lt_of_lt_of_le (s.reg x.off).isLt (Nat.pow_le_pow_right (by decide) (by omega))
      simp [hb, Nat.testBit_lt_two_pow h32]
  · simp [hi]

theorem State.flag_setB_same (s : State) (x : Fld) (b : Bool) (h : x.lo + x.w ≤ 32) (hw : x.w = 1) : (s.setB x b).flag x = b := by
  unfold State.flag State.setB; rw [s.f_setF_same x _ h, hw]; cases b <;> rfl

theorem State.flag_hit_same (s : State) (x : Fld) (h : x.lo + x.w ≤ 32) (hw : x.w = 1) : (s.hit x).flag x = true :=
  (s.mark x 1).flag_setB_same x true h hw

/-! ## Outputs -/

theorem State.updateIrq_out (s : State) : s.out <+: s.updateIrq.out := by
  unfold State.updateIrq; extract_lets; split
  · exact List.prefix_rfl
  · exact List.prefix_append _ _

theorem State.raise_out (s : State) (n : Nat) : s.out <+: (s.raise n).out := by
  unfold State.raise; extract_lets s1 s2 s3
  split
  · exact List.prefix_rfl
  · split
    · exact List.prefix_rfl
    · have h : s3.out = s.out := by
        show State.out (if _ then _ else _) = _
        split <;> rfl
      rw [← h]; exact s3.updateIrq_out

theorem State.setCls_out (s : State) (v : Nat) : s.out <+: (s.setCls v).out := by
  unfold State.setCls; extract_lets; split
  · refine List.IsPrefix.trans ?_ (State.raise_out _ _)
    exact List.prefix_rfl
  · exact List.prefix_rfl

theorem State.setCause_out (s : State) (x : Fld) (b : Bool) : s.out <+: (s.setCause x b).out := s.setCls_out _

theorem State.refreshVoid_out (s : State) : s.out <+: s.refreshVoid.out := by
  unfold State.refreshVoid; extract_lets _ s1
  have h : s1.out = s.out := foldl_keep State.out (fun a g => a.setB (F.SCH_LGn_PEER_VOIDED g) (s.groupVoid g)) (fun _ _ => rfl) _ s
  rw [← h]; exact s1.setCls_out _

theorem State.setMode_out (s : State) (m : Nat) : s.out <+: (s.setMode m).out := by
  have h (t : State) (ht : t.out = s.out) : s.out <+: (t.raise EV.mode).out := ht ▸ t.raise_out _
  unfold State.setMode; dsimp only; split
  · exact List.prefix_rfl
  · split
    · exact h _ rfl
    · refine List.IsPrefix.trans ?_ (State.setCause_out _ _ _)
      exact h _ rfl

theorem State.lockCause_out (s old : State) : s.out <+: (s.lockCause old).out := by
  unfold State.lockCause; split
  · exact s.setCause_out _ _
  · exact List.prefix_rfl

theorem State.setSteer_out (s : State) (v : Int) : s.out <+: (s.setSteer v).out := by
  unfold State.setSteer; extract_lets w
  rw [State.emit, State.setF_out]; exact List.prefix_append _ _

theorem State.setServo_out (s : State) (t : Nat) : s.out <+: (s.setServo t).out := by
  unfold State.setServo; extract_lets s1 s2 s3
  have h2 : s2.out = s.out := rfl
  have hf (x : Fld) (v : Nat) : s.out <+: (s2.setF x v).out := h2 ▸ List.prefix_rfl
  have hb (x : Fld) (b : Bool) : s.out <+: (s2.setB x b).out := h2 ▸ List.prefix_rfl
  split
  · exact List.prefix_rfl
  · split
    · split
      · exact hf _ _
      · exact (hf _ _).trans (State.setSteer_out _ _)
    · split
      · exact hb _ _
      · split
        · exact hb _ _
        · exact h2 ▸ List.prefix_rfl

theorem State.settleServo_out (s : State) : s.out <+: s.settleServo.out := by
  unfold State.settleServo; repeat' split
  · exact s.setServo_out _
  · exact (s.setServo_out _).trans (State.lockCause_out _ _)
  · exact s.setServo_out _
  · exact List.prefix_rfl

theorem State.settleMode_out (s : State) : s.out <+: s.settleMode.out := by
  unfold State.settleMode; repeat' split
  · exact s.setMode_out _
  · exact s.setMode_out _
  · exact s.setMode_out _
  · exact List.prefix_rfl

theorem State.settleLive_out (s : State) : s.out <+: s.settleLive.out := by
  unfold State.settleLive; extract_lets; split
  · exact List.prefix_rfl
  · exact List.prefix_append _ _

theorem State.settleBlocked_out (s : State) : s.settleBlocked.out = s.out := by
  unfold State.settleBlocked; extract_lets; repeat' split
  all_goals rfl

theorem State.settleCauses_out (s : State) : s.out <+: s.settleCauses.out := by
  unfold State.settleCauses; extract_lets s1 s2
  have h1 : s.out <+: s1.out := s.refreshVoid_out
  have h2 : s1.out <+: s2.out := by
    show _ <+: State.out (if _ then _ else _)
    split
    · exact List.prefix_rfl
    · exact s1.setCause_out _ _
  split
  · exact (h1.trans h2).trans (s2.setCause_out _ _)
  · exact h1.trans h2

/-- The end of a command takes back no output. -/
theorem State.settle_out (s : State) : s.out <+: s.settle.out := by
  have h1 : s.out <+: s.settleServo.settleMode.settleLive.settleBlocked.out := by
    rw [State.settleBlocked_out]
    exact (s.settleServo_out.trans (State.settleMode_out _)).trans (State.settleLive_out _)
  unfold State.settle
  exact (h1.trans (State.settleCauses_out _)).trans (State.updateIrq_out (State.settleSticky _))

theorem State.still_part {α : Type} {a b : State} (f : State → α) (hf : ∀ s : State, f s.still = f s) (h : a.still = b.still) : f a = f b := by
  rw [← hf a, h, hf b]

/-- The end of a command changes nothing of the tandem port but the liveness output (R399). -/
theorem State.settle_tnd (s : State) : s.settle.tnd = { s.tnd with live := s.settle.tnd.live } := by
  have still (a b : State) (h : a.still = b.still) : a.tnd = b.tnd := State.still_part State.tnd (fun _ => rfl) h
  have h1 : s.settle.tnd = s.settleServo.settleMode.settleLive.settleBlocked.tnd :=
    still _ _ (by simp [State.settle, State.settleSticky, State.settleCauses_still])
  have h2 (a : State) : a.settleBlocked.tnd = a.tnd := by
    unfold State.settleBlocked; extract_lets; repeat' split
    all_goals rfl
  have h3 (a : State) : a.settleLive.tnd = { a.tnd with live := a.settleLive.tnd.live } := by
    unfold State.settleLive; extract_lets; split <;> rfl
  have h4 : s.settleServo.settleMode.tnd = s.tnd := still _ _ (by rw [State.settleMode_still, State.settleServo_still])
  rw [h1, h2, h3, h4]

/-! ## Frames -/

/-- `x` is `s` but for the parts `but`, the registers `regs` and those that follow the block's state, the ports, time and counts; and it
has taken back no output. -/
structure Frame (s x : State) (but : List Part) (regs : Nat → Bool) : Prop where
  queue : x.pending = s.pending
  parts : ∀ p, p ∉ but → p ≠ .ports → p.same s x
  regs : ∀ off, calmReg off = true → regs off = false → x.reg off = s.reg off
  out : s.out <+: x.out

theorem Part.same_of_still {s x : State} (h : x.still = s.still) (p : Part) (hp : p ≠ .ports) : p.same s x := by
  have hcfg : x.cfg = s.cfg := State.still_part State.cfg (fun _ => rfl) h
  have hque : x.que = s.que := State.still_part State.que (fun _ => rfl) h
  have htnd : x.tnd = s.tnd := State.still_part State.tnd (fun _ => rfl) h
  have hbtp : x.btp = s.btp := State.still_part State.btp (fun _ => rfl) h
  have hdbg : x.dbg = s.dbg := State.still_part State.dbg (fun _ => rfl) h
  cases p with
  | image => simp [Part.same, hcfg]
  | links => exact State.still_part State.lnk (fun _ => rfl) h
  | queues => simp [Part.same, hque]
  | streams => exact State.still_part State.str (fun _ => rfl) h
  | tandem => simp [Part.same, htnd]
  | threads => simp [Part.same, hbtp]
  | memory => exact State.still_part State.mem (fun _ => rfl) h
  | vowick => exact State.still_part State.vwk (fun _ => rfl) h
  | pins => exact State.still_part State.sbd (fun _ => rfl) h
  | ports => exact absurd rfl hp
  | reset => exact State.still_part State.crp (fun _ => rfl) h
  | debug => simp [Part.same, hdbg]

theorem Part.same_trans {a b c : State} {p : Part} (h1 : p.same a b) (h2 : p.same b c) : p.same a c := by
  cases p with
  | image => exact h2.trans (by rw [h1])
  | queues => exact h2.trans (by rw [h1])
  | tandem => exact h2.trans (by rw [h1])
  | debug => exact h2.trans (by rw [h1])
  | threads =>
    obtain ⟨t1, c1, l1, f1⟩ := h1
    obtain ⟨t2, c2, l2, f2⟩ := h2
    exact ⟨t2.trans t1, c2.trans c1, l2.trans l1, f2.trans f1⟩
  | _ => exact Eq.trans h2 h1

theorem Part.same_settle (s : State) (p : Part) (hp : p ≠ .ports) : p.same s s.settle := by
  cases p with
  | tandem => exact s.settle_tnd
  | ports => exact absurd rfl hp
  | _ => simp [Part.same]

namespace Frame

variable {s x y : State} {but : List Part} {regs : Nat → Bool}

theorem of_still (h : x.still = s.still) (hr : ∀ off, calmReg off = true → regs off = false → x.reg off = s.reg off)
    (ho : s.out <+: x.out) : Frame s x but regs where
  queue := State.still_part State.pending (fun _ => rfl) h
  parts p _ hp := Part.same_of_still h p hp
  regs := hr
  out := ho

theorem refl (s : State) (but : List Part) (regs : Nat → Bool) : Frame s s but regs := of_still rfl (fun _ _ _ => rfl) List.prefix_rfl

theorem trans (h1 : Frame s x but regs) (h2 : Frame x y but regs) : Frame s y but regs where
  queue := h2.queue.trans h1.queue
  parts p hp hq := Part.same_trans (h1.parts p hp hq) (h2.parts p hp hq)
  regs off hc hr := (h2.regs off hc hr).trans (h1.regs off hc hr)
  out := h1.out.trans h2.out

theorem setReg (s : State) (off : Nat) (v : Word) (h : regs off = true) : Frame s (s.setReg off v) but regs :=
  of_still rfl (fun o _ ho => s.reg_setReg_ne v fun e => by simp [e, h] at ho) List.prefix_rfl

theorem setB (s : State) (f : Fld) (b : Bool) (h : regs f.off = true) : Frame s (s.setB f b) but regs := setReg s f.off _ h

theorem hit (s : State) (f : Fld) (h : regs f.off = true) : Frame s (s.hit f) but regs :=
  (of_still rfl (fun _ _ _ => rfl) List.prefix_rfl : Frame s (s.mark f 1) but regs).trans (setB _ f true h)

theorem emit (s : State) (o : Out) : Frame s (s.emit o) but regs := of_still rfl (fun _ _ _ => rfl) (List.prefix_append _ _)

/-- The expert lock and the note of the last write may move. -/
theorem lock (s : State) (e : ExpertLock) (w : Option (RegSrc × Nat)) :
    Frame s { s with cfg := { s.cfg with expert := e, wrAt := w } } but regs where
  queue := rfl
  parts p _ _ := by
    cases p with
    | threads => exact ⟨rfl, rfl, rfl, rfl⟩
    | _ => rfl
  regs _ _ _ := rfl
  out := List.prefix_rfl

/-- The end of a debug access may be noted. -/
theorem dbgEnd (s : State) (v : Word) (e : Bool) : Frame s { s with dbg := { s.dbg with rdata := v, accErr := e } } but regs where
  queue := rfl
  parts p _ _ := by
    cases p with
    | threads => exact ⟨rfl, rfl, rfl, rfl⟩
    | _ => rfl
  regs _ _ _ := rfl
  out := List.prefix_rfl

theorem dbg (s : State) (d : DbgState) (h : Part.debug ∈ but) : Frame s { s with dbg := d } but regs where
  queue := rfl
  parts p hp _ := by
    cases p with
    | threads => exact ⟨rfl, rfl, rfl, rfl⟩
    | debug => exact absurd h hp
    | _ => rfl
  regs _ _ _ := rfl
  out := List.prefix_rfl

theorem sbd (s : State) (b : SbdState) (h : Part.pins ∈ but) : Frame s { s with sbd := b } but regs where
  queue := rfl
  parts p hp _ := by
    cases p with
    | threads => exact ⟨rfl, rfl, rfl, rfl⟩
    | pins => exact absurd h hp
    | _ => rfl
  regs _ _ _ := rfl
  out := List.prefix_rfl

theorem settle (h : Frame s x but regs) : Frame s x.settle but regs :=
  h.trans {
    queue := x.settle_pending
    parts := fun p _ hp => Part.same_settle x p hp
    regs := fun _ hc _ => x.settle_reg hc
    out := x.settle_out }

/-- A command whose effect has a frame acts within it. -/
theorem acts {P : State → Prop} (h : Frame s x but regs) (hP : P x.settle) : Acts (done x) s but regs P :=
  ⟨x.settle, rfl, hP, h.settle.queue, fun p hp hq _ => h.settle.parts p hp hq, fun off hc hr _ => h.settle.regs off hc hr⟩

end Frame

end Sys2Proof.Machine
end

section
/-! Accesses of registers: an access that is served is its register's own operation and its end at its source. -/

namespace Sys2Proof.Machine

/-! ## The end of an access -/

theorem Frame.endAcc {but : List Part} {regs : Nat → Bool} (x : State) (src : RegSrc) (v : Word) (e : Bool)
    (h : e = true → regs R.GLB_PORT_STAT = true ∧ regs R.DBG_STAT = true) : Frame x (x.endAcc src v e) but regs := by
  cases src with
  | thread t => exact .refl x but regs
  | csp =>
    unfold State.endAcc; dsimp only; split
    · rename_i he
      exact (Frame.hit x _ (h (Bool.and_eq_true_iff.1 he).1).1).trans (.emit _ _)
    · exact .emit x _
  | debug =>
    unfold State.endAcc; dsimp only; split
    · rename_i he
      exact (Frame.dbgEnd x v e).trans (.hit _ _ (h he).2)
    · exact .dbgEnd x v e

/-- An access that ends with error status sets a status bit of its source and changes no other register. -/
theorem State.endAcc_settle_reg (x : State) (src : RegSrc) (v : Word) (e : Bool) {off : Nat} (hc : calmReg off = true)
    (h : e = true → off ≠ R.GLB_PORT_STAT ∧ off ≠ R.DBG_STAT) : (x.endAcc src v e).settle.reg off = x.reg off :=
  (Frame.endAcc (but := []) (regs := fun o => e && (o == R.GLB_PORT_STAT || o == R.DBG_STAT)) x src v e
    (fun he => by simp [he])).settle.regs off hc (by cases e <;> simp_all)

@[simp] theorem State.endAcc_sbd (x : State) (src : RegSrc) (v : Word) (e : Bool) : (x.endAcc src v e).sbd = x.sbd := by
  unfold State.endAcc; split
  · split <;> rfl
  · dsimp only; split <;> rfl
  · rfl

@[simp] theorem State.endAcc_cfg (x : State) (src : RegSrc) (v : Word) (e : Bool) : (x.endAcc src v e).cfg = x.cfg := by
  unfold State.endAcc; split
  · split <;> rfl
  · dsimp only; split <;> rfl
  · rfl

@[simp] theorem State.endAcc_debug_dbg (x : State) (v : Word) (e : Bool) :
    (x.endAcc .debug v e).dbg = { x.dbg with rdata := v, accErr := e } := by
  unfold State.endAcc; dsimp only; split <;> rfl

theorem Emits.of_prefix {s y : State} {l : List Out} {o : Out} (h1 : s.out <+: l) (h2 : l ++ [o] <+: y.out) : Emits s y o := by
  obtain ⟨l1, rfl⟩ := h1
  obtain ⟨l2, h2⟩ := h2
  exact ⟨l1 ++ [o] ++ l2, by rw [← h2]; simp, by simp⟩

theorem State.endAcc_csp_out (x : State) (v : Word) (e : Bool) : (x.endAcc .csp v e).out = x.out ++ [.cspAck v e] := by
  unfold State.endAcc State.emit; dsimp only; split <;> rfl

/-- An access of the CSP is answered at its port. -/
theorem Frame.emits_cspAck {s x : State} {but : List Part} {regs : Nat → Bool} (h : Frame s x but regs) (v : Word) (e : Bool) :
    Emits s (x.endAcc .csp v e).settle (.cspAck v e) :=
  .of_prefix h.out (by rw [← State.endAcc_csp_out]; exact State.settle_out _)

/-! ## Accesses that are served -/

theorem State.modCfg_late_nil {x : State} (h : x.cfg.late = []) : (x.modCfg fun c => { c with late := [] }) = x := by
  unfold State.modCfg; rw [← h]

/-- An access that is served ends at once, and no other waits for it. -/
theorem State.access_served {s : State} {a : LateAcc} (h : Served s a.src a.off) (hl : (s.doAcc a).cfg.late = []) :
    s.access a = s.doAcc a := by
  unfold State.access; rw [if_neg (by simp [h.first])]; dsimp only
  rw [State.modCfg_late_nil hl, hl]; rfl

theorem State.csrWrite_served {s : State} {src : RegSrc} {off : Nat} {data : Word} {a : Acc} (h : Served s src off)
    (ha : s.writeAcc src off 2 data = a) (hl : a.s.cfg.late = []) : s.csrWrite src off 2 data = a.s.endAcc src a.data a.err := by
  have e : s.doAcc { src := src, off := off, size := 2, wr := some data, reg := none } = a.s.endAcc src a.data a.err := by
    unfold State.doAcc; simp [h.head, h.notBarred, ha]
  unfold State.csrWrite
  rw [State.access_served h (by rw [e, State.endAcc_cfg, hl]), e]

theorem State.csrRead_served {s : State} {src : RegSrc} {off : Nat} {a : Acc} (h : Served s src off)
    (ha : s.readAcc off 2 = a) (hl : a.s.cfg.late = []) : s.csrRead src off 2 = a.s.endAcc src a.data a.err := by
  have e : s.doAcc { src := src, off := off, size := 2, wr := none, reg := none } = a.s.endAcc src a.data a.err := by
    unfold State.doAcc; simp [h.head, h.notBarred, ha]
  unfold State.csrRead
  rw [State.access_served h (by rw [e, State.endAcc_cfg, hl]), e]

/-- The end of an access within a frame of `s`: what it does, and that its error status is noted in registers of the frame. -/
theorem Frame.acts_endAcc {s x : State} {but : List Part} {regs : Nat → Bool} {src : RegSrc} {v : Word} {e : Bool} {P : State → Prop}
    (h : Frame s x but regs) (he : e = true → regs R.GLB_PORT_STAT = true ∧ regs R.DBG_STAT = true)
    (hP : P (x.endAcc src v e).settle) : Acts (done (x.endAcc src v e)) s but regs P :=
  (h.trans (.endAcc x src v e he)).acts hP

/-! ## The register table -/

theorem regAt_mem {off : Nat} {d : RegDef} (h : regAt off = some d) : d ∈ regTable := List.mem_of_find?_eq_some h

theorem regAt_lt {off : Nat} {d : RegDef} (h : regAt off = some d) : off < d.base + d.s1 * d.n1 := by
  have hh : d.has off = true := List.find?_some (p := fun e : RegDef => e.has off) h
  simp only [RegDef.has, Bool.and_eq_true, decide_eq_true_eq] at hh
  obtain ⟨⟨⟨hb, hn⟩, -⟩, -⟩ := hh
  have hs : 0 < d.s1 := (by decide +kernel : ∀ d ∈ regTable, 0 < d.s1) d (regAt_mem h)
  have := (Nat.div_lt_iff_lt_mul hs).1 hn
  rw [Nat.mul_comm] at this; omega

/-- Registers lie below the memory windows (R15). -/
theorem regAt_lt_windows {off : Nat} {d : RegDef} (h : regAt off = some d) : off < 0x400000 :=
  Nat.lt_of_lt_of_le (regAt_lt h) ((by decide +kernel : ∀ d ∈ regTable, d.base + d.s1 * d.n1 ≤ 0x400000) d (regAt_mem h))

/-- No expert register lies in the DBG region. -/
theorem regAt_expert_region {off : Nat} {d : RegDef} (h : regAt off = some d) (he : d.expert = true) : dbgRegion off = false := by
  have := regAt_lt h
  have := (by decide +kernel : ∀ d ∈ regTable, d.expert = true → d.base + d.s1 * d.n1 ≤ 0x3F0000) d (regAt_mem h) he
  simp [dbgRegion]; omega

/-- No bit is both RW and W1C. -/
theorem regAt_rw_w1c {off : Nat} {d : RegDef} (h : regAt off = some d) (i : Nat) (hr : d.rw.testBit i = true) : d.w1c.testBit i = false := by
  have := congrArg (fun n => n.testBit i) ((by decide +kernel : ∀ d ∈ regTable, d.rw &&& d.w1c = 0) d (regAt_mem h))
  simpa [Nat.testBit_and, hr] using this

/-! ## Writes -/

theorem State.expertOn_noteWrite {s : State} (src : RegSrc) (h : s.cfg.expert = .locked) : (s.noteWrite src).expertOn = false := by
  unfold State.expertOn State.noteWrite; simp [h]

theorem State.noteWrite_reg (s : State) (src : RegSrc) (off : Nat) : (s.noteWrite src).reg off = s.reg off := rfl

theorem Frame.noteWrite {but : List Part} {regs : Nat → Bool} (s : State) (src : RegSrc) : Frame s (s.noteWrite src) but regs :=
  .lock s _ _

theorem Served.mainUp {s : State} {src : RegSrc} {off : Nat} (h : Served s src off) : (!s.crp.mainUp && !headServed off) = false := by
  cases h.main with
  | inl h => simp [h]
  | inr h => simp [h]

theorem State.writeAcc_reg {s : State} {src : RegSrc} {off : Nat} (h : Served s src off) (h4 : off % 4 = 0) (hlt : off < 0x400000)
    (hg : off ≠ R.GLB_CTRL) (data : Word) : s.writeAcc src off 2 data = (s.noteWrite src).regWrite src off data := by
  have hm : (!(s.noteWrite src).crp.mainUp && !headServed off) = false := h.mainUp
  unfold State.writeAcc; simp [badSize, h4, hg, hlt, hm]

theorem State.readAcc_reg {s : State} {src : RegSrc} {off : Nat} (h : Served s src off) (h4 : off % 4 = 0) (hlt : off < 0x400000) :
    s.readAcc off 2 = s.regRead off := by
  unfold State.readAcc; simp [badSize, h4, hlt, h.mainUp]

/-- A register whose write has no action is none of the registers that the units' writes single out. -/
theorem actionReg_eq_false {off : Nat} (ha : actionReg off = false) :
    (∀ r, actionReg r = true → off ≠ r) ∧ famOf (R.STR_Dd_CTRL 0) 64 16 off = none ∧ famOf (R.PEn_CTRL 0) 64 8 off = none ∧
      famOf (R.PEn_FEED 0) 64 8 off = none ∧ famOf (R.TMm_CTRL 0) 32 16 off = none := by
  refine ⟨fun r hr e => absurd (e ▸ ha) (by simp [hr]), ?_⟩
  simp only [actionReg, Bool.or_eq_false_iff, Option.isSome_eq_false_iff, Option.isNone_iff_eq_none] at ha
  obtain ⟨⟨⟨⟨-, hd⟩, hp⟩, hf⟩, ht⟩ := ha
  exact ⟨hd, hp, hf, ht⟩

theorem State.writeLow_plain (s : State) (d : RegDef) {off : Nat} (data : Word) (ha : actionReg off = false) :
    s.writeLow d off data = s.setReg off (d.merge (s.reg off) data) := by
  have hne := (actionReg_eq_false ha).1
  unfold State.writeLow
  simp [hne R.GLB_TND_CTRL (by decide), hne R.CRP_MODE_CTRL (by decide), hne R.CRP_RST_CTRL (by decide), hne R.CRP_LINK_RST (by decide),
    hne R.CFG_CTRL (by decide), hne R.CFG_ARM_LO (by decide), hne R.CFG_ARM_HI (by decide), hne R.SCH_RPT_CTRL (by decide)]

theorem State.writeLnk_plain (s : State) (d : RegDef) {off : Nat} (data : Word) (ha : actionReg off = false) (hlt : off < 0x100000) :
    s.writeLnk d off data = s.setReg off (d.merge (s.reg off) data) := by
  by_cases hg : off < R.LNK_LGn_CFG 0
  · unfold State.writeLnk; simp [hg]
  · simp only [actionReg, Bool.or_eq_false_iff] at ha
    obtain ⟨⟨⟨⟨⟨-, hk⟩, -⟩, -⟩, -⟩, -⟩ := ha
    simp only [Nat.not_lt.1 hg, hlt, decide_true, Bool.true_and, Bool.or_eq_false_iff, beq_eq_false_iff_ne] at hk
    obtain ⟨⟨⟨h04, h44⟩, h4c⟩, hkey⟩ := hk
    unfold State.writeLnk; dsimp only
    rw [if_neg hg, if_neg h04, if_neg h44, if_neg h4c, if_neg (by simpa using hkey)]

theorem State.writeEngines_plain (s : State) (d : RegDef) {off : Nat} (data : Word) (ha : actionReg off = false) :
    s.writeEngines d off data = s.setReg off (d.merge (s.reg off) data) := by
  obtain ⟨hne, hd, -, -, -⟩ := actionReg_eq_false ha
  unfold State.writeEngines
  simp [hne R.QUE_BAR_CMD (by decide), hne R.QUE_CTX_CMD (by decide), hne R.QUE_PEER_CMD (by decide), hne R.STR_CMD_GO (by decide),
    hne R.STR_RED_CMD (by decide), hd]

theorem State.writeSide_plain (s : State) (d : RegDef) {off : Nat} (data : Word) (ha : actionReg off = false) :
    s.writeSide d off data = s.setReg off (d.merge (s.reg off) data) := by
  obtain ⟨hne, -, hp, hf, ht⟩ := actionReg_eq_false ha
  unfold State.writeSide
  simp [hne R.VWK_CTRL (by decide), hne R.VWK_RX_POP (by decide), hne R.SBD_GPIO_OUT (by decide), hne R.SBD_GPIO_OE (by decide), hp, hf, ht]

theorem State.writeHigh_plain (s : State) (src : RegSrc) (d : RegDef) {off : Nat} (data : Word) (ha : actionReg off = false)
    (hc : calmReg off = true) : s.writeHigh src d off data = s.setReg off (d.merge (s.reg off) data) := by
  have hne := (actionReg_eq_false ha).1
  have hpend : ¬(R.EVT_PENDk 0 ≤ off ∧ off < R.EVT_PENDk 128) := by
    simp only [calmReg, Bool.and_eq_true, Bool.not_eq_true', Bool.and_eq_false_iff, decide_eq_false_iff_not] at hc
    simp only [R.EVT_PENDk]; omega
  unfold State.writeHigh
  simp [hne R.BTP_TH_CMD (by decide), hne R.BTP_FLOG_POP (by decide), hne R.BTP_LAMP_CMD (by decide), hne R.EVT_RAISE (by decide), hpend,
    hne R.DBG_CTRL (by decide), hne R.DBG_TR_CFG (by decide), hne R.DBG_TR_RING (by decide)]

/-- A register without an action of its own takes the word by its access codes (R14). -/
theorem State.bWrite_plain (s : State) (src : RegSrc) (d : RegDef) {off : Nat} (data : Word) (ha : actionReg off = false)
    (hc : calmReg off = true) : s.bWrite src d off data = s.setReg off (d.merge (s.reg off) data) := by
  unfold State.bWrite; repeat' split
  · exact s.writeLow_plain d data ha
  · rename_i hlt; exact s.writeLnk_plain d data ha hlt
  · exact s.writeEngines_plain d data ha
  · exact s.writeSide_plain d data ha
  · exact s.writeHigh_plain src d data ha hc

/-- A served write of a register without an action of its own, short of its end. -/
def State.plainWrite (s : State) (src : RegSrc) (d : RegDef) (off : Nat) (data : Word) : State :=
  ((s.noteWrite src).setReg off (d.merge (s.reg off) data)).keepHits d off

theorem State.keepHits_reg (s : State) (d : RegDef) (off : Nat) :
    (s.keepHits d off).reg off = s.reg off ||| ((s.hitsAt off).1 &&& BitVec.ofNat 32 d.w1c) := by
  unfold State.keepHits; extract_lets h; split
  · rename_i h0; rw [show (s.hitsAt off).1 &&& BitVec.ofNat 32 d.w1c = 0 from h0]; simp
  · exact State.reg_setReg_same _ _ _

theorem State.keepHits_cfg (s : State) (d : RegDef) (off : Nat) : (s.keepHits d off).cfg = s.cfg := by
  unfold State.keepHits; extract_lets; split <;> rfl

theorem State.keepHits_dbg (s : State) (d : RegDef) (off : Nat) : (s.keepHits d off).dbg = s.dbg := by
  unfold State.keepHits; extract_lets; split <;> rfl

theorem Frame.keepHits {but : List Part} {regs : Nat → Bool} (s : State) (d : RegDef) (off : Nat) (h : regs off = true) :
    Frame s (s.keepHits d off) but regs := by
  unfold State.keepHits; extract_lets; split
  · exact .refl s but regs
  · exact .setReg s off _ h

theorem State.plainWrite_cfg (s : State) (src : RegSrc) (d : RegDef) (off : Nat) (data : Word) :
    (s.plainWrite src d off data).cfg = (s.noteWrite src).cfg := State.keepHits_cfg _ d off

theorem State.plainWrite_dbg (s : State) (src : RegSrc) (d : RegDef) (off : Nat) (data : Word) :
    (s.plainWrite src d off data).dbg = s.dbg := State.keepHits_dbg _ d off

theorem Frame.plainWrite {but : List Part} {regs : Nat → Bool} (s : State) (src : RegSrc) (d : RegDef) (off : Nat) (data : Word)
    (h : regs off = true) : Frame s (s.plainWrite src d off data) but regs :=
  ((Frame.noteWrite s src).trans (.setReg _ off _ h)).trans (.keepHits _ d off h)

/-- RW bits take the data, W1C bits written 1 clear but for those set in the same CK_CTL cycle (R14, R15). -/
theorem State.plainWrite_getLsbD (s : State) (src : RegSrc) {d : RegDef} {off : Nat} (data : Word) (hd : regAt off = some d) {i : Nat}
    (hi : i < 32) : ((s.plainWrite src d off data).reg off).getLsbD i =
      if d.w1c.testBit i && data.getLsbD i then (s.hitsAt off).1.getLsbD i
      else if d.rw.testBit i then data.getLsbD i else (s.reg off).getLsbD i || (d.w1c.testBit i && (s.hitsAt off).1.getLsbD i) := by
  have hh : ((s.noteWrite src).setReg off (d.merge (s.reg off) data)).hitsAt off = s.hitsAt off := rfl
  have hrw := regAt_rw_w1c hd i
  unfold State.plainWrite
  rw [State.keepHits_reg, State.reg_setReg_same, hh]
  simp only [RegDef.merge, BitVec.getLsbD_or, BitVec.getLsbD_and, BitVec.getLsbD_not, BitVec.getLsbD_ofNat, hi, decide_true, Bool.true_and]
  cases hw : d.w1c.testBit i <;> cases hr : d.rw.testBit i <;> cases data.getLsbD i <;> simp_all

theorem State.csrWrite_plain {s : State} {src : RegSrc} {off : Nat} {d : RegDef} (h : Served s src off) (h4 : off % 4 = 0)
    (hd : regAt off = some d) (he : d.expert = false) (ha : actionReg off = false) (hc : calmReg off = true)
    (hr : dbgRegion off = true → src = .debug) (data : Word) :
    s.csrWrite src off 2 data = (s.plainWrite src d off data).endAcc src 0 false := by
  have hne := (actionReg_eq_false ha).1
  have hv := hne R.VWK_CTRL (by decide)
  have hl := hne R.CRP_LINK_RST (by decide)
  have hreg : (dbgRegion off && src != .debug) = false := by
    cases hb : dbgRegion off with
    | false => rfl
    | true => simp [hr hb]
  have hw : s.writeAcc src off 2 data = { data := 0, err := false, s := s.plainWrite src d off data } := by
    rw [State.writeAcc_reg h h4 (regAt_lt_windows hd) (hne R.GLB_CTRL (by decide))]
    unfold State.regWrite State.plainWrite
    simp [hd, hreg, he, hv, hl, State.bWrite_plain _ src d data ha hc, State.noteWrite_reg]
  rw [State.csrWrite_served h hw (by rw [State.plainWrite_cfg]; exact h.alone)]

/-- A write of an expert register while access is locked (R140). -/
theorem State.csrWrite_locked {s : State} {src : RegSrc} {off : Nat} {d : RegDef} (h : Served s src off) (h4 : off % 4 = 0)
    (hd : regAt off = some d) (he : d.expert = true) (hx : s.cfg.expert = .locked) (data : Word) :
    s.csrWrite src off 2 data = ((s.noteWrite src).hit F.CONTRACT_STAT_LOCKED_WR).endAcc src 0 true := by
  have hne : ∀ r, (regAt r).any (fun d => !d.expert) = true → off ≠ r := fun r hr e => by rw [← e, hd] at hr; simp [he] at hr
  have hw : s.writeAcc src off 2 data = { data := 0, err := true, s := (s.noteWrite src).hit F.CONTRACT_STAT_LOCKED_WR } := by
    rw [State.writeAcc_reg h h4 (regAt_lt_windows hd) (hne R.GLB_CTRL (by decide))]
    unfold State.regWrite State.xWrite; dsimp only
    simp [hd, he, regAt_expert_region hd he, hne R.VWK_CTRL (by decide), hne R.CRP_LINK_RST (by decide), State.expertOn_noteWrite src hx,
      refusedAcc]
  exact State.csrWrite_served h hw h.alone

/-- A write where no region table assigns a register (R21). -/
theorem State.csrWrite_unassigned {s : State} {src : RegSrc} {off : Nat} (h : Served s src off) (h4 : off % 4 = 0) (hlt : off < 0x400000)
    (hd : regAt off = none) (data : Word) : s.csrWrite src off 2 data = (s.noteWrite src).endAcc src 0 true := by
  have hw : s.writeAcc src off 2 data = { data := 0, err := true, s := s.noteWrite src } := by
    rw [State.writeAcc_reg h h4 hlt fun e => absurd (e ▸ hd) (by decide)]
    unfold State.regWrite; simp [hd, refusedAcc]
  exact State.csrWrite_served h hw h.alone

/-! ## Reads -/

/-- A served read of a register without a unit's own answer: what it shows, and the state short of its end. -/
def State.plainRead (s : State) (d : RegDef) (off : Nat) : Word × State :=
  if d.rc = 0 then (s.regView d off, s) else s.readClear d off (s.regView d off)

theorem State.csrRead_plain {s : State} {src : RegSrc} {off : Nat} {d : RegDef} (h : Served s src off) (h4 : off % 4 = 0)
    (hd : regAt off = some d) (hp : famOf (R.PEn_CATCH 0) 64 8 off = none) (ht : famOf (R.TMm_CAP 0) 32 16 off = none) :
    s.csrRead src off 2 = (s.plainRead d off).2.endAcc src (s.plainRead d off).1 false := by
  have hw : s.readAcc off 2 = { data := (s.plainRead d off).1, err := false, s := (s.plainRead d off).2 } := by
    rw [State.readAcc_reg h h4 (regAt_lt_windows hd)]
    unfold State.regRead; simp only [hd, hp, ht]; rfl
  refine State.csrRead_served h hw ?_
  unfold State.plainRead State.readClear; dsimp only; repeat' split
  all_goals exact h.alone

/-! ## What a read shows and leaves -/

theorem State.plainRead_fst (s : State) (d : RegDef) (off : Nat) : (s.plainRead d off).1 =
    if (s.hitsAt off).1 = 0 then s.regView d off
    else (s.regView d off &&& ~~~(BitVec.ofNat 32 d.rc)) ||| ((s.hitsAt off).2 &&& BitVec.ofNat 32 d.rc) := by
  unfold State.plainRead; split
  · rename_i h
    simp only [h, BitVec.ofNat_eq_ofNat, BitVec.not_zero, BitVec.and_allOnes, BitVec.and_zero, BitVec.or_zero, ite_self]
  · unfold State.readClear; dsimp only; split <;> rfl

theorem Frame.plainRead {but : List Part} {regs : Nat → Bool} (s : State) (d : RegDef) (off : Nat) (h : regs off = true) :
    Frame s (s.plainRead d off).2 but regs := by
  unfold State.plainRead; split
  · exact .refl s but regs
  · unfold State.readClear; dsimp only; split
    · exact .setReg s off _ h
    · exact (Frame.setReg s off _ h).trans (.of_still rfl (fun _ _ _ => rfl) List.prefix_rfl)

/-- A read clears the RC bits, what was counted in its cycle kept (R16). -/
theorem State.plainRead_getLsbD (s : State) (d : RegDef) (off : Nat) {i : Nat} (hi : i < 32) :
    ((s.plainRead d off).2.reg off).getLsbD i = if d.rc.testBit i then (s.hitsAt off).1.getLsbD i else (s.reg off).getLsbD i := by
  unfold State.plainRead; split
  · rename_i h; simp [h]
  · have e : ((s.reg off &&& ~~~(BitVec.ofNat 32 d.rc)) ||| ((s.hitsAt off).1 &&& BitVec.ofNat 32 d.rc)).getLsbD i =
        if d.rc.testBit i then (s.hitsAt off).1.getLsbD i else (s.reg off).getLsbD i := by
      simp only [BitVec.getLsbD_or, BitVec.getLsbD_and, BitVec.getLsbD_not, BitVec.getLsbD_ofNat, hi, decide_true, Bool.true_and]
      cases d.rc.testBit i <;> simp
    rw [← e]
    unfold State.readClear; dsimp only; split
    · rw [State.reg_setReg_same]
    · exact congrArg (fun w : Word => w.getLsbD i) (State.reg_setReg_same s off _)

theorem State.plainRead_dbg (s : State) (d : RegDef) (off : Nat) : (s.plainRead d off).2.dbg = s.dbg := by
  unfold State.plainRead State.readClear; dsimp only; repeat' split
  all_goals rfl

/-! ## The debug module's access (R684) -/

/-- The scan of DBGACC before its update: the instruction register holds DBGACC, and what it captures has left. -/
def State.scanned (s : State) : State := (s.tapLoad .dbgacc).tapScan

theorem Frame.scanned {regs : Nat → Bool} (s : State) : Frame s s.scanned [.debug] regs :=
  (Frame.dbg s _ (List.mem_singleton.2 rfl)).trans (.emit _ _)

theorem Served.scanned {s : State} {src : RegSrc} {off : Nat} (h : Served s src off) : Served s.scanned src off :=
  ⟨h.head, h.main, h.notBarred, h.first, h.alone⟩

/-- The record of command `c` of drift `d` has entered its channel (R340). -/
def State.recordSent (s : State) (d : Nat) (c : DCmd) : Bool :=
  decide (c.phase = .recordWait) && !s.hwWaits c.cmd.cplCh (.drift (Fin.ofNat 16 d))

theorem State.heldBy_eq (s : State) (d : Nat) : s.heldBy d =
    if (s.drift d).held.any (s.recordSent d) then (s.drift d).held.filter fun c => !s.recordSent d c else (s.drift d).held := by
  have h (x : Drift) : ((s.setDrift d x).drift d).held = x.held := by
    unfold State.setDrift State.drift; dsimp only; rw [kget_kset_same]
  unfold State.heldBy State.settleRecords; extract_lets x sent
  split
  · rename_i hs; rw [h]; exact (if_pos hs).symm
  · rename_i hs; exact (if_neg hs).symm

theorem State.scanned_heldBy (s : State) (d : Nat) : s.scanned.heldBy d = s.heldBy d := by
  rw [State.heldBy_eq, State.heldBy_eq]; rfl

theorem State.scanned_viewEngines (s : State) (off : Nat) (w : Word) : s.scanned.viewEngines off w = s.viewEngines off w := by
  unfold State.viewEngines; simp only [State.scanned_heldBy]; rfl

/-- The scan changes no register as a read shows it. -/
theorem State.scanned_regView (s : State) (d : RegDef) (off : Nat) : s.scanned.regView d off = s.regView d off := by
  unfold State.regView; simp only [State.scanned_viewEngines]; rfl

theorem State.scanned_emits {s x : State} (h : s.scanned.out <+: x.out) : Emits s x (.tapScan 58 (s.tapCapture .dbgacc)) :=
  .of_prefix List.prefix_rfl h

/-- The value of DBGACC that asks for a write of `data`, or a read, at `off`. -/
def dbgRequest (data : Word) (off : Nat) (wr : Bool) : BitVec 58 := BitVec.ofNat 58 (data.toNat + 2 ^ 32 * off + 2 ^ 56 * b2n wr + 2 ^ 57)

theorem State.dbgUpdate_request (s : State) (data : Word) {off : Nat} (ho : off < 2 ^ 24) (wr : Bool) (hl : s.cfg.late = []) :
    s.dbgUpdate (dbgRequest data off wr) = if wr then s.csrWrite .debug off 2 data else s.csrRead .debug off 2 := by
  have hd := data.isLt
  have hb : b2n wr ≤ 1 := by cases wr <;> decide
  have hn : (dbgRequest data off wr).toNat = data.toNat + 2 ^ 32 * off + 2 ^ 56 * b2n wr + 2 ^ 57 := by
    rw [dbgRequest, BitVec.toNat_ofNat, Nat.mod_eq_of_lt (by omega)]
  have h57 : (dbgRequest data off wr).toNat.testBit 57 = true := by
    rw [hn, Nat.testBit_eq_decide_div_mod_eq, decide_eq_true_eq]; omega
  have h56 : (dbgRequest data off wr).toNat.testBit 56 = wr := by
    rw [hn, Nat.testBit_eq_decide_div_mod_eq]; cases wr <;> simp [b2n] <;> omega
  have hoff : bits (dbgRequest data off wr).toNat 32 24 = off := by
    rw [hn, bits, Nat.shiftRight_eq_div_pow]; omega
  have hdata : BitVec.ofNat 32 (dbgRequest data off wr).toNat = data := by
    refine BitVec.eq_of_toNat_eq ?_
    rw [hn, BitVec.toNat_ofNat]; omega
  unfold State.dbgUpdate; dsimp only
  rw [h57, h56, hoff, hdata, hl]; rfl

/-! ## Registers that a unit answers for -/

theorem State.csrRead_peCatch {s : State} {src : RegSrc} {n : Fin 8} (h : Served s src (R.PEn_CATCH n))
    (hl : (s.peCatch n).2.cfg.late = []) :
    s.csrRead src (R.PEn_CATCH n) 2 = (s.peCatch n).2.endAcc src (s.peCatch n).1 false := by
  obtain ⟨h4, hlt, hd, hf⟩ := (by decide +kernel : ∀ n : Fin 8, R.PEn_CATCH n % 4 = 0 ∧ R.PEn_CATCH n < 0x400000 ∧
    (regAt (R.PEn_CATCH n)).isSome = true ∧ famOf (R.PEn_CATCH 0) 64 8 (R.PEn_CATCH n) = some n.val) n
  obtain ⟨d, hd⟩ := Option.isSome_iff_exists.1 hd
  have hw : s.readAcc (R.PEn_CATCH n) 2 = { data := (s.peCatch n).1, err := false, s := (s.peCatch n).2 } := by
    rw [State.readAcc_reg h h4 hlt]
    unfold State.regRead; simp only [hd, hf]
  exact State.csrRead_served h hw hl

theorem State.csrRead_tmCap {s : State} {src : RegSrc} {m : Fin 16} (h : Served s src (R.TMm_CAP m))
    (hl : (s.tmCapRead m).2.cfg.late = []) :
    s.csrRead src (R.TMm_CAP m) 2 = (s.tmCapRead m).2.endAcc src (s.tmCapRead m).1 false := by
  obtain ⟨h4, hlt, hd, hp, hf⟩ := (by decide +kernel : ∀ m : Fin 16, R.TMm_CAP m % 4 = 0 ∧ R.TMm_CAP m < 0x400000 ∧
    (regAt (R.TMm_CAP m)).isSome = true ∧ famOf (R.PEn_CATCH 0) 64 8 (R.TMm_CAP m) = none ∧
    famOf (R.TMm_CAP 0) 32 16 (R.TMm_CAP m) = some m.val) m
  obtain ⟨d, hd⟩ := Option.isSome_iff_exists.1 hd
  have hw : s.readAcc (R.TMm_CAP m) 2 = { data := (s.tmCapRead m).1, err := false, s := (s.tmCapRead m).2 } := by
    rw [State.readAcc_reg h h4 hlt]
    unfold State.regRead; simp only [hd, hp, hf]
  exact State.csrRead_served h hw hl

theorem State.peCatch_cons {s : State} {n : Nat} {w : Word} {ws : List Word} (hc : (s.pe n).catch_ = w :: ws)
    (hs : (s.pe n).caught ≠ some s.sbCyc) :
    s.peCatch n = (w, s.modPe n fun x => { x.touched s.sbCyc with catch_ := ws }) := by
  unfold State.peCatch; simp [hc, hs]

theorem State.peCatch_empty {s : State} {n : Nat} (h : (s.pe n).catch_ = [] ∨ (s.pe n).caught = some s.sbCyc) :
    s.peCatch n = (0, s.hit (F.PEn_STAT_EMPTY_RD n)) := by
  unfold State.peCatch; split
  · rfl
  · rename_i w ws hc
    rw [if_pos (h.resolve_left (by simp [hc]))]

theorem State.tmCapRead_old {s : State} {m : Nat} (h : ((s.tm m).capAt.map fun p => p.1) ≠ some s.ctlCyc) :
    s.tmCapRead m = (s.reg (R.TMm_CAP m), s.setB (F.TMm_STAT_CAPV m) false) := by
  unfold State.tmCapRead; split
  · rename_i c old ovr hc
    rw [if_neg fun e => h (by rw [hc, e]; rfl)]
  · rfl

theorem State.tmCapRead_now {s : State} {m : Nat} {p : Nat × Word × Bool} (h : (s.tm m).capAt = some p) (hp : p.1 = s.ctlCyc) :
    s.tmCapRead m = (p.2.1, (s.setB (F.TMm_STAT_OVR m) p.2.2).modTm m fun x => { x with capAt := none }) := by
  unfold State.tmCapRead; simp [h, hp]

theorem State.pe_modPe_same (s : State) (n : Nat) (f : PinEngine → PinEngine) : (s.modPe n f).pe n = f (s.pe n) := by
  unfold State.modPe State.setPe State.pe; exact kget_kset_same ..

theorem Frame.modPe {regs : Nat → Bool} (s : State) (n : Nat) (f : PinEngine → PinEngine) : Frame s (s.modPe n f) [.pins] regs :=
  .sbd s _ (List.mem_singleton.2 rfl)

theorem Frame.modTm {regs : Nat → Bool} (s : State) (m : Nat) (f : Timer → Timer) : Frame s (s.modTm m f) [.pins] regs :=
  .sbd s _ (List.mem_singleton.2 rfl)

/-! ## The expert lock (R138, R139) -/

theorem State.csrWrite_expert {s : State} {src : RegSrc} (h : Served s src R.GLB_CTRL) (data : Word) :
    s.csrWrite src R.GLB_CTRL 2 data = (s.expertWrite src (bits data.toNat 0 16)).endAcc src 0 false := by
  have hm : s.crp.mainUp = true := h.main.resolve_right (by decide +kernel)
  have hw : s.writeAcc src R.GLB_CTRL 2 data = { data := 0, err := false, s := s.expertWrite src (bits data.toNat 0 16) } := by
    unfold State.writeAcc; simp only [hm]; rfl
  exact State.csrWrite_served h hw h.alone

theorem Frame.expertWrite {but : List Part} {regs : Nat → Bool} (s : State) (src : RegSrc) (v : Nat) :
    Frame s (s.expertWrite src v) but regs := .lock s _ _

theorem State.expertWrite_begins {s : State} {src : RegSrc} (hc : s.writeClash src = false) (hx : s.cfg.expert = .locked) :
    (s.expertWrite src 0x3C5A).cfg.expert = .first s.ctlCyc := by
  unfold State.expertWrite; simp [hc, hx]

theorem State.expertWrite_unlocks {s : State} {src : RegSrc} {c : Nat} (hc : s.writeClash src = false) (hx : s.cfg.expert = .first c)
    (ht : s.ctlCyc ≤ c + 256) : (s.expertWrite src 0xA5C3).cfg.expert = .unlocked s.ctlCyc := by
  unfold State.expertWrite; simp [hc, hx, ht]

theorem State.expertWrite_locks (s : State) (src : RegSrc) : (s.expertWrite src 0).cfg.expert = .locked := by
  unfold State.expertWrite; cases s.cfg.expert <;> simp

end Sys2Proof.Machine
end

section
/-! What the accesses of the statement come to, clause by clause. -/

namespace Sys2Proof.Machine

theorem State.endAcc_settle_flag (x : State) (src : RegSrc) (v : Word) (e : Bool) (f : Fld) (hc : calmReg f.off = true)
    (h : e = true → f.off ≠ R.GLB_PORT_STAT ∧ f.off ≠ R.DBG_STAT) : (x.endAcc src v e).settle.flag f = x.flag f := by
  unfold State.flag State.f; rw [x.endAcc_settle_reg src v e hc h]

theorem State.endAcc_settle_pe (x : State) (src : RegSrc) (v : Word) (e : Bool) (n : Nat) : (x.endAcc src v e).settle.pe n = x.pe n := by
  unfold State.pe; rw [State.settle_sbd, State.endAcc_sbd]

/-- What the access codes make of the register at `off`, which `d` describes, on a write of `data` (R14, R15). -/
def Merged (s : State) (d : RegDef) (off : Nat) (data : Word) (s' : State) : Prop := ∀ i < 32, (s'.reg off).getLsbD i =
  if d.w1c.testBit i && data.getLsbD i then (s.hitsAt off).1.getLsbD i
  else if d.rw.testBit i then data.getLsbD i else (s.reg off).getLsbD i || (d.w1c.testBit i && (s.hitsAt off).1.getLsbD i)

/-- What a read leaves of the register at `off` (R16). -/
def Cleared (s : State) (d : RegDef) (off : Nat) (s' : State) : Prop := ∀ i < 32, (s'.reg off).getLsbD i =
  if d.rc.testBit i then (s.hitsAt off).1.getLsbD i else (s.reg off).getLsbD i

section
variable {s : State} {src : RegSrc} {off : Nat} {d : RegDef}

theorem acts_write_plain (h : Served s src off) (h4 : off % 4 = 0) (hd : regAt off = some d) (data : Word) (he : d.expert = false)
    (ha : actionReg off = false) (hc : calmReg off = true) (hr : dbgRegion off = true → src = .debug) :
    Acts (done (s.csrWrite src off 2 data)) s [] (fun x => x == off) fun s' =>
      Merged s d off data s' ∧ (src = .csp → Emits s s' (.cspAck 0 false)) := by
  have hf : Frame s (s.plainWrite src d off data) [] (fun x => x == off) := .plainWrite s src d off data (beq_self_eq_true off)
  rw [State.csrWrite_plain h h4 hd he ha hc hr]
  refine hf.acts_endAcc (fun h => by cases h) ⟨fun i hi => ?_, ?_⟩
  · rw [State.endAcc_settle_reg _ _ _ _ hc (fun h => by cases h)]
    exact s.plainWrite_getLsbD src data hd hi
  · rintro rfl
    exact hf.emits_cspAck 0 false

theorem acts_write_locked (h : Served s src off) (h4 : off % 4 = 0) (hd : regAt off = some d) (data : Word) (he : d.expert = true)
    (hx : s.cfg.expert = .locked) :
    Acts (done (s.csrWrite src off 2 data)) s [] (fun x => x == R.CONTRACT_STAT || x == R.GLB_PORT_STAT || x == R.DBG_STAT) fun s' =>
      s'.flag F.CONTRACT_STAT_LOCKED_WR = true ∧ (src = .csp → Emits s s' (.cspAck 0 true)) := by
  have hf : Frame s ((s.noteWrite src).hit F.CONTRACT_STAT_LOCKED_WR) []
      (fun x => x == R.CONTRACT_STAT || x == R.GLB_PORT_STAT || x == R.DBG_STAT) := (Frame.noteWrite s src).trans (.hit _ _ (by decide))
  rw [State.csrWrite_locked h h4 hd he hx]
  refine hf.acts_endAcc (fun _ => by decide) ⟨?_, ?_⟩
  · rw [State.endAcc_settle_flag _ _ _ _ _ (by decide) fun _ => by decide]
    exact State.flag_hit_same _ _ (by decide) rfl
  · rintro rfl
    exact hf.emits_cspAck 0 true

theorem acts_read_plain (h : Served s src off) (h4 : off % 4 = 0) (hd : regAt off = some d) (hp : famOf (R.PEn_CATCH 0) 64 8 off = none)
    (ht : famOf (R.TMm_CAP 0) 32 16 off = none) (hc : calmReg off = true) :
    Acts (done (s.csrRead src off 2)) s [] (fun x => x == off) fun s' =>
      Cleared s d off s' ∧ (src = .csp → Emits s s' (.cspAck (s.plainRead d off).1 false)) := by
  have hf : Frame s (s.plainRead d off).2 [] (fun x => x == off) := .plainRead s d off (beq_self_eq_true off)
  rw [State.csrRead_plain h h4 hd hp ht]
  refine hf.acts_endAcc (fun h => by cases h) ⟨fun i hi => ?_, ?_⟩
  · rw [State.endAcc_settle_reg _ _ _ _ hc (fun h => by cases h)]
    exact s.plainRead_getLsbD d off hi
  · rintro rfl
    exact hf.emits_cspAck _ false

theorem acts_write_unassigned (h : Served s src off) (h4 : off % 4 = 0) (hlt : off < 0x400000) (hd : regAt off = none) (data : Word) :
    Acts (done (s.csrWrite src off 2 data)) s [] (fun x => x == R.GLB_PORT_STAT || x == R.DBG_STAT) fun s' =>
      src = .csp → Emits s s' (.cspAck 0 true) ∧ (s.crp.mainUp = true → s'.flag F.GLB_PORT_STAT_CSP_ERR = true) := by
  have hf : Frame s (s.noteWrite src) [] (fun x => x == R.GLB_PORT_STAT || x == R.DBG_STAT) := .noteWrite s src
  rw [State.csrWrite_unassigned h h4 hlt hd]
  refine hf.acts_endAcc (fun _ => by decide) ?_
  rintro rfl
  refine ⟨hf.emits_cspAck 0 true, fun hm => ?_⟩
  have hm' : (s.noteWrite .csp).crp.mainUp = true := hm
  have he : (s.noteWrite .csp).endAcc .csp 0 true = ((s.noteWrite .csp).hit F.GLB_PORT_STAT_CSP_ERR).emit (.cspAck 0 true) := by
    unfold State.endAcc; simp [hm']
  rw [State.settle_flag _ _ (by decide), he]
  exact State.flag_hit_same _ F.GLB_PORT_STAT_CSP_ERR (by decide) rfl

theorem acts_dbgacc_write (h : Served s .debug off) (h4 : off % 4 = 0) (hm : s.crp.mainUp = true) (hd : regAt off = some d) (data : Word)
    (he : d.expert = false) (ha : actionReg off = false) (hc : calmReg off = true) :
    Acts (exec (.dbgacc (dbgRequest data off true)) s) s [.debug] (fun x => x == off) fun s' =>
      Merged s d off data s' ∧ s'.dbg = { s.dbg with ir := TapInstr.dbgacc.code, rdata := s'.dbg.rdata, accErr := false } ∧
      Emits s s' (.tapScan 58 (s.tapCapture .dbgacc)) := by
  have hw : Frame s.scanned (s.scanned.plainWrite .debug d off data) [.debug] (fun x => x == off) :=
    .plainWrite _ _ d off data (beq_self_eq_true off)
  have ho : off < 2 ^ 24 := Nat.lt_of_lt_of_le (regAt_lt_windows hd) (by decide)
  have hx : exec (.dbgacc (dbgRequest data off true)) s = done ((s.scanned.plainWrite .debug d off data).endAcc .debug 0 false) := by
    have hu := s.scanned.dbgUpdate_request data ho true h.alone
    rw [if_pos rfl, State.csrWrite_plain h.scanned h4 hd he ha hc fun _ => rfl] at hu
    rw [← hu]
    show execDbgacc _ s = _
    unfold execDbgacc; rw [hm]; rfl
  rw [hx]
  refine ((Frame.scanned s).trans hw).acts_endAcc (fun h => by cases h) ⟨fun i hi => ?_, ?_, ?_⟩
  · rw [State.endAcc_settle_reg _ _ _ _ hc (fun h => by cases h)]
    exact s.scanned.plainWrite_getLsbD .debug data hd hi
  · rw [State.settle_dbg, State.endAcc_debug_dbg, State.plainWrite_dbg]; rfl
  · exact State.scanned_emits (hw.trans (.endAcc _ _ _ _ fun h => by cases h)).settle.out

theorem acts_dbgacc_read (h : Served s .debug off) (h4 : off % 4 = 0) (hm : s.crp.mainUp = true) (hd : regAt off = some d) (data : Word)
    (hp : famOf (R.PEn_CATCH 0) 64 8 off = none) (ht : famOf (R.TMm_CAP 0) 32 16 off = none) (hc : calmReg off = true) :
    Acts (exec (.dbgacc (dbgRequest data off false)) s) s [.debug] (fun x => x == off) fun s' =>
      Cleared s d off s' ∧ s'.dbg.rdata = (s.plainRead d off).1 ∧
      s'.dbg = { s.dbg with ir := TapInstr.dbgacc.code, rdata := s'.dbg.rdata, accErr := false } := by
  have hw : Frame s.scanned (s.scanned.plainRead d off).2 [.debug] (fun x => x == off) := .plainRead _ d off (beq_self_eq_true off)
  have ho : off < 2 ^ 24 := Nat.lt_of_lt_of_le (regAt_lt_windows hd) (by decide)
  have hv : (s.scanned.plainRead d off).1 = (s.plainRead d off).1 := by
    rw [State.plainRead_fst, State.plainRead_fst, State.scanned_regView]; rfl
  have hx : exec (.dbgacc (dbgRequest data off false)) s =
      done ((s.scanned.plainRead d off).2.endAcc .debug (s.scanned.plainRead d off).1 false) := by
    have hu := s.scanned.dbgUpdate_request data ho false h.alone
    rw [if_neg (by decide), State.csrRead_plain h.scanned h4 hd hp ht] at hu
    rw [← hu]
    show execDbgacc _ s = _
    unfold execDbgacc; rw [hm]; rfl
  rw [hx]
  refine ((Frame.scanned s).trans hw).acts_endAcc (fun h => by cases h) ⟨fun i hi => ?_, ?_, ?_⟩
  · rw [State.endAcc_settle_reg _ _ _ _ hc (fun h => by cases h)]
    exact s.scanned.plainRead_getLsbD d off hi
  · rw [State.settle_dbg, State.endAcc_debug_dbg, hv]
  · rw [State.settle_dbg, State.endAcc_debug_dbg, State.plainRead_dbg]; rfl

theorem acts_peCatch_word {n : Fin 8} {w : Word} {ws : List Word} (h : Served s src (R.PEn_CATCH n)) (hc : (s.pe n).catch_ = w :: ws)
    (hs : (s.pe n).caught ≠ some s.sbCyc) :
    Acts (done (s.csrRead src (R.PEn_CATCH n) 2)) s [.pins] (fun _ => false) fun s' =>
      s'.pe n = { (s.pe n).touched s.sbCyc with catch_ := ws } ∧ (src = .csp → Emits s s' (.cspAck w false)) := by
  have hf : Frame s (s.modPe n fun x => { x.touched s.sbCyc with catch_ := ws }) [.pins] (fun _ => false) := .modPe s _ _
  have hp := s.peCatch_cons hc hs
  rw [State.csrRead_peCatch h (by rw [hp]; exact h.alone), hp]
  refine hf.acts_endAcc (fun h => by cases h) ⟨?_, ?_⟩
  · rw [State.endAcc_settle_pe, State.pe_modPe_same]
  · rintro rfl
    exact hf.emits_cspAck w false

theorem acts_peCatch_empty {n : Fin 8} (h : Served s src (R.PEn_CATCH n)) (he : (s.pe n).catch_ = [] ∨ (s.pe n).caught = some s.sbCyc) :
    Acts (done (s.csrRead src (R.PEn_CATCH n) 2)) s [] (fun x => x == R.PEn_STAT n) fun s' =>
      s'.flag (F.PEn_STAT_EMPTY_RD n) = true ∧ (src = .csp → Emits s s' (.cspAck 0 false)) := by
  have hf : Frame s (s.hit (F.PEn_STAT_EMPTY_RD n)) [] (fun x => x == R.PEn_STAT n) := .hit s _ (beq_self_eq_true (R.PEn_STAT n))
  have hc : calmReg (F.PEn_STAT_EMPTY_RD n).off = true := (by decide : ∀ n : Fin 8, calmReg (F.PEn_STAT_EMPTY_RD n).off = true) n
  have hp := State.peCatch_empty he
  rw [State.csrRead_peCatch h (by rw [hp]; exact h.alone), hp]
  refine hf.acts_endAcc (fun h => by cases h) ⟨?_, ?_⟩
  · rw [State.endAcc_settle_flag _ _ _ _ _ hc fun h => by cases h]
    exact State.flag_hit_same _ _ (show 4 + 1 ≤ 32 by decide) rfl
  · rintro rfl
    exact hf.emits_cspAck 0 false

theorem calmReg_TMm_STAT (m : Fin 16) : calmReg (R.TMm_STAT m) = true := by revert m; decide

theorem acts_tmCap_old {m : Fin 16} (h : Served s src (R.TMm_CAP m)) (ht : ((s.tm m).capAt.map fun p => p.1) ≠ some s.ctlCyc) :
    Acts (done (s.csrRead src (R.TMm_CAP m) 2)) s [] (fun x => x == R.TMm_STAT m) fun s' =>
      s'.flag (F.TMm_STAT_CAPV m) = false ∧ (src = .csp → Emits s s' (.cspAck (s.reg (R.TMm_CAP m)) false)) := by
  have hf : Frame s (s.setB (F.TMm_STAT_CAPV m) false) [] (fun x => x == R.TMm_STAT m) := .setB s _ _ (beq_self_eq_true (R.TMm_STAT m))
  have hp := s.tmCapRead_old ht
  rw [State.csrRead_tmCap h (by rw [hp]; exact h.alone), hp]
  refine hf.acts_endAcc (fun h => by cases h) ⟨?_, ?_⟩
  · rw [State.endAcc_settle_flag _ _ _ _ _ (calmReg_TMm_STAT m) fun h => by cases h]
    exact State.flag_setB_same _ _ _ (show 1 + 1 ≤ 32 by decide) rfl
  · rintro rfl
    exact hf.emits_cspAck _ false

theorem acts_tmCap_now {m : Fin 16} {p : Nat × Word × Bool} (h : Served s src (R.TMm_CAP m)) (hc : (s.tm m).capAt = some p)
    (ht : p.1 = s.ctlCyc) :
    Acts (done (s.csrRead src (R.TMm_CAP m) 2)) s [.pins] (fun x => x == R.TMm_STAT m) fun s' =>
      s'.flag (F.TMm_STAT_CAPV m) = s.flag (F.TMm_STAT_CAPV m) ∧ s'.flag (F.TMm_STAT_OVR m) = p.2.2 ∧
      (src = .csp → Emits s s' (.cspAck p.2.1 false)) := by
  have hf : Frame s ((s.setB (F.TMm_STAT_OVR m) p.2.2).modTm m fun x => { x with capAt := none }) [.pins] (fun x => x == R.TMm_STAT m) :=
    (Frame.setB s _ _ (beq_self_eq_true (R.TMm_STAT m))).trans (.modTm _ _ _)
  have hp := s.tmCapRead_now hc ht
  have hflag (f : Fld) (hx : f.off = R.TMm_STAT m) :
      (((s.setB (F.TMm_STAT_OVR m) p.2.2).modTm m fun x => { x with capAt := none }).endAcc src p.2.1 false).settle.flag f =
        (s.setB (F.TMm_STAT_OVR m) p.2.2).flag f :=
    State.endAcc_settle_flag _ _ _ _ _ (hx ▸ calmReg_TMm_STAT m) fun h => by cases h
  rw [State.csrRead_tmCap h (by rw [hp]; exact h.alone), hp]
  refine hf.acts_endAcc (fun h => by cases h) ⟨?_, ?_, ?_⟩
  · have hbeside := s.f_setF_beside (F.TMm_STAT_OVR m) (F.TMm_STAT_CAPV m) (b2n p.2.2) rfl (.inl (show 1 + 1 ≤ 2 by decide))
    rw [hflag _ rfl, State.flag, State.setB, hbeside]; rfl
  · rw [hflag _ rfl, State.flag_setB_same _ _ _ (show 2 + 1 ≤ 32 by decide) rfl]
  · rintro rfl
    exact hf.emits_cspAck _ false

/-- A write of GLB_CTRL.EXPERT moves the expert lock alone. -/
theorem acts_expertWrite {data : Word} {v : Nat} {e : ExpertLock} (h : Served s src R.GLB_CTRL) (hv : bits data.toNat 0 16 = v)
    (he : (s.expertWrite src v).cfg.expert = e) :
    Acts (done (s.csrWrite src R.GLB_CTRL 2 data)) s [] (fun _ => false) fun s' => s'.cfg.expert = e := by
  rw [State.csrWrite_expert h, hv]
  refine (Frame.expertWrite s src _).acts_endAcc (fun h => by cases h) ?_
  rw [State.settle_cfg, State.endAcc_cfg, he]

end

/-- Settles O4: an access that is served is its register's own operation and its end, each within its frame. -/
theorem registerAccesses : Obligations.RegisterAccesses := by
  intro s src off h h4 o hits merged cleared shown toReg
  have hshown (d : RegDef) : (s.plainRead d o).1 = shown d := s.plainRead_fst d o
  refine ⟨?_, ?_, ?_, ?_, ?_, ?_, ?_, ?_⟩
  · exact fun d hd data he ha hc hr => acts_write_plain h h4 hd data he ha hc hr
  · exact fun d hd data he hx => acts_write_locked h h4 hd data he hx
  · exact fun d hd hp ht hc => hshown d ▸ acts_read_plain h h4 hd hp ht hc
  · exact fun data hd hlt => acts_write_unassigned h h4 hlt hd data
  · rintro rfl hm d hd hc data
    exact ⟨fun he ha => acts_dbgacc_write h h4 hm hd data he ha hc,
      fun hp ht => hshown d ▸ acts_dbgacc_read h h4 hm hd data hp ht hc⟩
  · intro n hn
    have hs : Served s src (R.PEn_CATCH n) := hn ▸ h
    exact ⟨fun w ws hc ht => acts_peCatch_word hs hc ht, fun he => acts_peCatch_empty hs he⟩
  · intro m hm
    have hs : Served s src (R.TMm_CAP m) := hm ▸ h
    exact ⟨fun ht => hm ▸ acts_tmCap_old hs ht, fun p hc ht => acts_tmCap_now hs hc ht⟩
  · intro data hg hc v
    have hs : Served s src R.GLB_CTRL := hg ▸ h
    exact ⟨fun hv hx => acts_expertWrite hs hv (State.expertWrite_begins hc hx),
      fun hv c hx ht => acts_expertWrite hs hv (State.expertWrite_unlocks hc hx ht),
      fun hv => acts_expertWrite hs hv (s.expertWrite_locks src)⟩

end Sys2Proof.Machine
end

section
/-! Loading an image: the statement fails, because a phase that reports a fault in the CK_CTL cycle of an abort gives the load its
lower code (R126). -/

namespace Sys2Proof.Machine

/-- A load whose image holds no section is being checked, and its cross phase, begun in the present CK_CTL cycle, reports in it. -/
def crossReportsNow : State :=
  let s : State := { State.reset with
    crp := { State.reset.crp with mainUp := true, headOn := true, seq := none }
    cfg := { State.reset.cfg with received := true, crossStart := some 0 } }
  s.setStaged SG.checking

/-- A write of CFG_CTRL with ABORT alone (R128). -/
def abortWord : Word := 4

theorem crossReportsNow_reaches : Reaches crossReportsNow .csp R.CFG_CTRL where
  head := rfl
  main := .inl rfl
  notBarred := rfl
  first := rfl
  alone := rfl
  own := by decide

/-- The abort finds the phase's report of a missing section, 0x12, in its own cycle, and the load ends with the lower code (R126). -/
theorem crossReportsNow_abort_code : (crossReportsNow.csrWrite .csp R.CFG_CTRL 2 abortWord).f F.CFG_STAT_CODE = 0x12 := by decide +kernel

/-- Refutes O16: an abort in the CK_CTL cycle in which the cross phase reports a fault of a lower code ends the load with that code (R126),
not with 0x1E. -/
theorem not_imageLoading : ¬ Obligations.ImageLoading := by
  intro h
  obtain ⟨-, -, -, -, -, hctl, -⟩ := h crossReportsNow .csp abortWord 0 none rfl
  obtain ⟨habort, -⟩ := hctl crossReportsNow_reaches
  obtain ⟨s', hs', ⟨-, hcode, -⟩, -⟩ := habort (by decide) (.inr (by decide +kernel))
  have hs : s' = (crossReportsNow.csrWrite .csp R.CFG_CTRL 2 abortWord).settle := (Host.Outcome.next.inj hs').symm
  rw [hs, State.settle_f _ _ (by decide), crossReportsNow_abort_code] at hcode
  exact absurd hcode (by decide)

end Sys2Proof.Machine
end

section
/-! Integer operations: the sums and flags of each class as the rules give them, and what a row of the ALU comes to. -/

namespace Sys2Proof.Machine

/-! ## Sums and their flags (R488) -/

theorem addVal_eq (a b : BitVec 64) (n : Nat) : addVal a b n = a + b + BitVec.ofNat 64 n := by
  refine BitVec.eq_of_toNat_eq ?_
  simp [addVal, BitVec.toNat_add]

theorem addVal_zero (a b : BitVec 64) : addVal a b 0 = a + b := by rw [addVal_eq]; exact BitVec.add_zero _

/-- A difference is the sum with the complement and a carry in (R488). -/
theorem addVal_not (a b : BitVec 64) : addVal a (~~~b) 1 = a - b := by
  rw [addVal_eq, BitVec.sub_eq_add_neg, BitVec.neg_eq_not_add, BitVec.add_assoc]

/-- The signs of the operands and of the sum tell a signed overflow. -/
theorem addVal_overflow (a b : BitVec 64) {n : Nat} (hn : n ≤ 1) :
    (a.msb == b.msb && (addVal a b n).msb != a.msb) = decide ((addVal a b n).toInt ≠ a.toInt + b.toInt + n) := by
  have hr : (addVal a b n).toNat = (a.toNat + b.toNat + n) % 2 ^ 64 := BitVec.toNat_ofNat ..
  have ha := a.isLt
  have hb := b.isLt
  rw [Bool.eq_iff_iff]
  simp only [Bool.and_eq_true, beq_iff_eq, bne_iff_ne, BitVec.msb_eq_decide, BitVec.toInt_eq_toNat_cond, hr, decide_eq_true_eq,
    decide_eq_decide, ne_eq]
  omega

/-- Class A: Z and N of the sum, C its carry, V signed overflow. -/
theorem addFlags_eq (a b : BitVec 64) {n : Nat} (hn : n ≤ 1) :
    addFlags a b n = flagBits (decide (addVal a b n = 0)) (addVal a b n).msb (decide (2 ^ 64 ≤ a.toNat + b.toNat + n))
      (decide ((addVal a b n).toInt ≠ a.toInt + b.toInt + n)) := by
  rw [← addVal_overflow a b hn]; rfl

theorem addFlags_zero (a b : BitVec 64) : addFlags a b 0 = flagBits (decide (a + b = 0)) (a + b).msb
    (decide (2 ^ 64 ≤ a.toNat + b.toNat)) (decide ((a + b).toInt ≠ a.toInt + b.toInt)) := by
  have h := addFlags_eq a b (Nat.zero_le 1)
  rwa [addVal_zero, Nat.add_zero, Int.natCast_zero, Int.add_zero] at h

theorem toInt_not (b : BitVec 64) : (~~~b).toInt = -b.toInt - 1 := by
  have hb := b.isLt
  rw [BitVec.toInt_eq_toNat_cond, BitVec.toInt_eq_toNat_cond, BitVec.toNat_not]; omega

/-- The flags of a difference: C is no borrow. -/
theorem addFlags_not (a b : BitVec 64) : addFlags a (~~~b) 1 = flagBits (decide (a - b = 0)) (a - b).msb
    (decide (b.toNat ≤ a.toNat)) (decide ((a - b).toInt ≠ a.toInt - b.toInt)) := by
  have hb := b.isLt
  rw [addFlags_eq a _ (Nat.le_refl 1), addVal_not, toInt_not, BitVec.toNat_not]
  congr 2
  · exact propext (by omega)
  · exact propext (by omega)

/-- Bit C of the flags, as the operations take it. -/
theorem Thread.testBit_flags_c (x : Thread) : x.flags.testBit 2 = x.srb SR.c := by
  rw [Thread.flags, Thread.srf, testBit_bits]; rfl
theorem Thread.bits_flags_c (x : Thread) : bits x.flags 2 1 = if x.srb SR.c then 1 else 0 := by
  have h : bits x.flags 2 1 = (x.flags.testBit 2).toNat := by
    show x.flags >>> 2 % 2 = _
    rw [Nat.toNat_testBit, Nat.shiftRight_eq_div_pow]
  rw [h, x.testBit_flags_c]; cases x.srb SR.c <;> rfl

/-! ## What a row comes to -/

/-- A long word's row, whose word writes registers of the thread alone. -/
theorem Runs.completes_long {s : State} {t : Nat} {k : Issue} (h : Runs s t k) (hp : isPair k.w = false) {key : Nat × Nat}
    {f : Issue → Thread → Thread} {y : Thread} (hk : longKey k.w = key) (he : effOf key = some (regEff f)) (hy : f k (s.regsAt k) = y)
    (hw : y.wait = (s.regsAt k).wait) : Completes (done (s.issue t key)) s s t k y := by
  subst hy
  exact h.completes_reg (wordOps_long hp hk he) (wordEff_long hp hk he) (hw.trans h.regsAt_wait)

@[simp] theorem Issue.putRd_wait (k : Issue) (x : Thread) (v : BitVec 64) : (k.putRd x v).wait = x.wait := rfl
@[simp] theorem Thread.outcome_wait (x : Thread) (d : Nat) (o : AluOut) : (x.outcome d o).wait = x.wait := by
  unfold Thread.outcome; cases o.val <;> cases o.fl <;> rfl

/-- A row of the ALU: its operation on ra, rb and the flags (R487). -/
theorem Runs.completes_alu {s : State} {t : Nat} {k : Issue} (h : Runs s t k) (hp : isPair k.w = false) (ho : wOp k.w = 0x01) {n : Nat}
    (hn : wFn k.w = n) {op : AluOp} (he : aluOps[n]? = some (aluEff op)) {o : AluOut}
    (hy : op (k.ra (s.regsAt k)) (k.rb (s.regsAt k)) (s.regsAt k).flags = o) :
    Completes (done (s.issue t (0x01, n))) s s t k ((s.regsAt k).outcome ((s.regsAt k).idx k.full (wRd k.w)) o) :=
  h.completes_long hp (longKey_fn ho (by decide) hn) he (by rw [hy]) (Thread.outcome_wait ..)

/-! ## Outcomes of the classes (R487, R488) -/

/-- What CMP and TST keep of an outcome: the flags. -/
def AluOut.flagsOnly (o : AluOut) : AluOut := { o with val := none }

theorem AluOut.classA_eq (a b : BitVec 64) {n : Nat} (hn : n ≤ 1) :
    let r := a + b + BitVec.ofNat 64 n
    AluOut.classA a b n = ⟨some r, some (flagBits (decide (r = 0)) r.msb (decide (2 ^ 64 ≤ a.toNat + b.toNat + n))
      (decide (r.toInt ≠ a.toInt + b.toInt + n)))⟩ := by
  rw [AluOut.classA, addFlags_eq a b hn, addVal_eq]

theorem AluOut.classA_zero (a b : BitVec 64) : AluOut.classA a b 0 = ⟨some (a + b), some (flagBits (decide (a + b = 0)) (a + b).msb
    (decide (2 ^ 64 ≤ a.toNat + b.toNat)) (decide ((a + b).toInt ≠ a.toInt + b.toInt)))⟩ := by
  rw [AluOut.classA, addVal_zero, addFlags_zero]

theorem AluOut.classA_not (a b : BitVec 64) : AluOut.classA a (~~~b) 1 = ⟨some (a - b), some (flagBits (decide (a - b = 0)) (a - b).msb
    (decide (b.toNat ≤ a.toNat)) (decide ((a - b).toInt ≠ a.toInt - b.toInt)))⟩ := by
  rw [AluOut.classA, addVal_not, addFlags_not]

/-- NEG is 0 − ra: it borrows unless ra is 0. -/
theorem AluOut.classA_neg (a : BitVec 64) : AluOut.classA 0 (~~~a) 1 = ⟨some (0 - a), some (flagBits (decide (0 - a = 0)) (0 - a).msb
    (decide (a = 0)) (decide ((0 - a).toInt ≠ -a.toInt)))⟩ := by
  have hc : decide (a.toNat ≤ (0 : BitVec 64).toNat) = decide (a = 0) := decide_eq_decide.2 (by
    rw [← BitVec.toNat_inj]; exact Nat.le_zero)
  have h0 : (0 : BitVec 64).toInt - a.toInt = -a.toInt := Int.zero_sub _
  rw [classA_not, hc, h0]

/-- A sum or difference with the carry of the flags. -/
theorem AluOut.classA_carry (x : Thread) (a b : BitVec 64) :
    let c : Nat := if x.srb SR.c then 1 else 0
    let r := a + b + BitVec.ofNat 64 c
    AluOut.classA a b (bits x.flags 2 1) = ⟨some r, some (flagBits (decide (r = 0)) r.msb (decide (2 ^ 64 ≤ a.toNat + b.toNat + c))
      (decide (r.toInt ≠ a.toInt + b.toInt + c)))⟩ := by
  rw [x.bits_flags_c]
  exact classA_eq a b (by split <;> decide)

theorem AluOut.classA_borrow (x : Thread) (a b : BitVec 64) :
    let c : Nat := if x.srb SR.c then 1 else 0
    let r := a + ~~~b + BitVec.ofNat 64 c
    AluOut.classA a (~~~b) (bits x.flags 2 1) = ⟨some r, some (flagBits (decide (r = 0)) r.msb
      (decide (2 ^ 64 ≤ a.toNat + (~~~b).toNat + c)) (decide (r.toInt ≠ a.toInt - b.toInt - 1 + c)))⟩ := by
  have hi : a.toInt + (~~~b).toInt = a.toInt - b.toInt - 1 := by rw [toInt_not]; omega
  rw [classA_carry, hi]

theorem AluOut.classL_eq (x : Thread) (r : BitVec 64) :
    AluOut.classL r x.flags = ⟨some r, some (flagBits (decide (r = 0)) r.msb (x.srb SR.c) false)⟩ := by
  rw [← x.testBit_flags_c]; rfl

/-- Settles O31: each operation is the sum, difference or word of its class, and completes as a row of the ALU. -/
theorem aluSumsAndLogic : Obligations.AluSumsAndLogic := by
  refine ⟨fun s t k h hp ho => ⟨fun hn => ?_, fun hn => ?_, fun hn => ?_, fun hn => ?_, fun hn => ?_, fun hn => ?_⟩,
    fun s t k h hp ho => ?_⟩
  · exact h.completes_alu hp ho hn rfl (AluOut.classA_zero ..)
  · exact h.completes_alu hp ho hn rfl (AluOut.classA_not ..)
  · exact h.completes_alu hp ho hn rfl (AluOut.classA_carry ..)
  · exact h.completes_alu hp ho hn rfl (AluOut.classA_borrow ..)
  · exact h.completes_alu hp ho hn rfl (congrArg AluOut.flagsOnly (AluOut.classA_not ..))
  · exact h.completes_alu hp ho hn rfl (AluOut.classA_neg ..)
  · have logic {n : Nat} {op : AluOp} (hn : wFn k.w = n) (he : aluOps[n]? = some (aluEff op)) (r : BitVec 64)
        (hr : op (k.ra (s.regsAt k)) (k.rb (s.regsAt k)) (s.regsAt k).flags = .classL r (s.regsAt k).flags) :=
      h.completes_alu hp ho hn he (hr.trans (AluOut.classL_eq (s.regsAt k) r))
    exact ⟨fun hn => logic hn rfl _ rfl, fun hn => logic hn rfl _ rfl, fun hn => logic hn rfl _ rfl, fun hn => logic hn rfl _ rfl,
      fun hn => logic hn rfl _ rfl,
      fun hn => h.completes_alu hp ho hn rfl (congrArg AluOut.flagsOnly (AluOut.classL_eq (s.regsAt k) _))⟩

end Sys2Proof.Machine
end

section
/-! Immediate and field forms: sign-extended fields, the bits of a field taken out or put in, and what their rows come to. -/

namespace Sys2Proof.Machine

/-! ## Fields of a number -/

/-- The number that `w` bits spell in two's complement is that of the bit vector. -/
theorem sext_eq_toInt (v w : Nat) : sext v w = (BitVec.ofNat w v).toInt := by
  rw [BitVec.toInt_eq_toNat_cond, BitVec.toNat_ofNat, sext]
  cases w with
  | zero => simp [Nat.mod_one]
  | succ w =>
    rw [Nat.add_sub_cancel, Nat.pow_succ, Nat.mul_comm]
    simp only [Nat.mul_lt_mul_left (show 0 < 2 by decide)]

/-- A field of an instruction word, sign-extended (R489). -/
theorem ofInt_sext_bits (v w : Nat) : BitVec.ofInt 64 (sext (bits v 0 w) w) = (BitVec.ofNat w v).signExtend 64 := by
  have e : BitVec.ofNat w (bits v 0 w) = BitVec.ofNat w v := BitVec.eq_of_toNat_eq (by simp [bits])
  rw [sext_eq_toInt, e]; rfl

theorem getLsbD_ofNat_bits (a : BitVec 64) (pos n : Nat) {i : Nat} (hi : i < 64) :
    (BitVec.ofNat 64 (bits a.toNat pos n)).getLsbD i = if i < n then a.getLsbD (pos + i) else false := by
  rw [BitVec.getLsbD_ofNat, testBit_bits, BitVec.testBit_toNat]; simp [hi]

/-- A field sign-extended repeats its highest bit (R490). -/
theorem getLsbD_ofInt_sext_bits (a : BitVec 64) (pos : Nat) {n i : Nat} (hn : 0 < n) (hi : i < 64) :
    (BitVec.ofInt 64 (sext (bits a.toNat pos n) n)).getLsbD i = a.getLsbD (pos + min i (n - 1)) := by
  have hb {j : Nat} (hj : j < n) : (BitVec.ofNat n (bits a.toNat pos n)).getLsbD j = a.getLsbD (pos + j) := by
    rw [BitVec.getLsbD_ofNat, testBit_bits, BitVec.testBit_toNat]; simp [hj]
  have e : BitVec.ofInt 64 (sext (bits a.toNat pos n) n) = (BitVec.ofNat n (bits a.toNat pos n)).signExtend 64 := by
    rw [sext_eq_toInt]; rfl
  rw [e, BitVec.getLsbD_signExtend]
  by_cases h : i < n
  · rw [if_pos h, hb h, Nat.min_eq_left (by omega)]; simp [hi]
  · rw [if_neg h, BitVec.msb_eq_getLsbD_last, hb (by omega), Nat.min_eq_right (by omega)]; simp [hi]

/-- A field replaced: its bits are the value's, the others as before (R489, R490). -/
theorem getLsbD_ofNat_putBits (v : BitVec 64) (lo n x : Nat) {i : Nat} (hi : i < 64) :
    (BitVec.ofNat 64 (putBits v.toNat lo n x)).getLsbD i = if lo ≤ i ∧ i < lo + n then x.testBit (i - lo) else v.getLsbD i := by
  rw [BitVec.getLsbD_ofNat, testBit_putBits, BitVec.testBit_toNat]; simp [hi]

/-! ## What the rows come to -/

/-- A row with imm11: its operation on ra, the immediate and the flags (R489). -/
theorem Runs.completes_imm {s : State} {t : Nat} {k : Issue} (h : Runs s t k) (hp : isPair k.w = false) {key : Nat × Nat}
    (hk : longKey k.w = key) {op : AluOp} (he : effOf key = some (immEff op)) {o : AluOut}
    (hy : op (k.ra (s.regsAt k)) ((BitVec.ofNat 11 k.w).signExtend 64) (s.regsAt k).flags = o) :
    Completes (done (s.issue t key)) s s t k ((s.regsAt k).outcome ((s.regsAt k).idx k.full (wRd k.w)) o) :=
  h.completes_long hp hk he (by rw [ofInt_sext_bits, hy]) (Thread.outcome_wait ..)

/-- A row that writes one value to rd. -/
theorem Runs.completes_putRd {s : State} {t : Nat} {k : Issue} (h : Runs s t k) (hp : isPair k.w = false) {key : Nat × Nat}
    {f : Issue → Thread → BitVec 64} (hk : longKey k.w = key) (he : effOf key = some (regEff fun k x => k.putRd x (f k x))) :
    Completes (done (s.issue t key)) s s t k (k.putRd (s.regsAt k) (f k (s.regsAt k))) :=
  h.completes_long hp hk he rfl (Issue.putRd_wait ..)

/-- A long word that runs is legal in its own layout (R519). -/
theorem Runs.legalLong {s : State} {t : Nat} {k : Issue} (h : Runs s t k) (hp : isPair k.w = false) :
    legalLong (s.wordCtx t) k.w = true := by
  have hl := h.legal
  rwa [legalWord, if_neg (by simp [hp])] at hl

/-- Field positions past bit 63 are not legal (R490). -/
theorem legalLong_field {c : WordCtx} {w : Nat} (ho : 0x0D ≤ wOp w ∧ wOp w ≤ 0x0F) (h : legalLong c w = true) :
    bits w 5 6 + (bits w 0 5 + 1) ≤ 64 := by
  obtain ho | ho | ho : wOp w = 0x0D ∨ wOp w = 0x0E ∨ wOp w = 0x0F := by omega
  all_goals
    simp only [legalLong, ho, Bool.and_eq_true, decide_eq_true_eq] at h
    omega

/-- Conditions 0 and 12 to 15 are not legal in CMPP (R491). -/
theorem legalLong_cmpp {c : WordCtx} {w : Nat} (ho : wOp w = 0x14) (h : legalLong c w = true) :
    1 ≤ bits w 15 4 ∧ bits w 15 4 < 0xC := by
  simp only [legalLong, ho, legalCmpp, Bool.and_eq_true, decide_eq_true_eq, bne_iff_ne] at h
  omega

/-- The flags of a compare: Z where the operands are equal (R491, R499). -/
theorem addFlags_compare (u v : BitVec 64) : addFlags u (~~~v) 1 = flagBits (decide (u = v)) (u - v).msb
    (decide (v.toNat ≤ u.toNat)) (decide ((u - v).toInt ≠ u.toInt - v.toInt)) := by
  have hz : u - v = 0 ↔ u = v := ⟨fun h => by bv_omega, fun h => h ▸ BitVec.sub_self u⟩
  rw [addFlags_not, decide_eq_decide.2 hz]

/-- MOVK replaces the quarter of rd that its opcode names (R489). -/
theorem getLsbD_movk (v : BitVec 64) (w : Nat) {q i : Nat} (hi : i < 64) :
    (BitVec.ofNat 64 (putBits v.toNat (16 * q) 16 (bits w 0 16))).getLsbD i =
      if i / 16 = q then w.testBit (i % 16) else v.getLsbD i := by
  rw [getLsbD_ofNat_putBits v _ _ _ hi, testBit_bits]
  by_cases h : i / 16 = q
  · have hq : i - 16 * q = i % 16 := by omega
    rw [if_pos (by omega), if_pos h, hq, Nat.zero_add]; simp [Nat.mod_lt]
  · rw [if_neg (by omega), if_neg h]

/-- Settles O34: the immediate forms are the ALU's operations on a sign-extended field; the field forms and CMPP write the bits that
their layout names, and legality bounds their fields. -/
theorem immediatesFieldsAndPredicates : Obligations.ImmediatesFieldsAndPredicates := by
  refine ⟨fun s t k h hp => ?_, fun s t k h hp => ?_⟩
  · have logic (r : BitVec 64) := AluOut.classL_eq (s.regsAt k) r
    refine ⟨fun ho => ?_, fun ho => ?_, fun ho => ?_, fun ho => ?_, fun ho => ?_, fun ho => ?_, fun ho => ?_⟩
    · exact h.completes_imm hp (longKey_op ho (by decide)) rfl (AluOut.classA_zero ..)
    · exact h.completes_imm hp (longKey_op ho (by decide)) rfl (logic _)
    · exact h.completes_imm hp (longKey_op ho (by decide)) rfl (logic _)
    · exact h.completes_imm hp (longKey_op ho (by decide)) rfl (logic _)
    · exact h.completes_imm hp (longKey_op ho (by decide)) rfl (congrArg AluOut.flagsOnly (AluOut.classA_not ..))
    · rw [← ofInt_sext_bits]
      exact h.completes_putRd hp (longKey_op ho (by decide)) rfl
    · exact ⟨_, h.completes_putRd hp (longKey_movk ho) rfl, fun i hi => getLsbD_movk _ _ hi⟩
  · refine ⟨fun ho => ?_, fun ho => ?_, fun ho => ?_, fun ho => ?_, fun ho => legalLong_field ho (h.legalLong hp)⟩
    · exact ⟨_, h.completes_putRd hp (longKey_op ho (by decide)) rfl, fun i hi => getLsbD_ofNat_bits _ _ _ hi⟩
    · exact ⟨_, h.completes_putRd hp (longKey_op ho (by decide)) rfl, fun i hi => getLsbD_ofInt_sext_bits _ _ (Nat.succ_pos _) hi⟩
    · exact ⟨_, h.completes_putRd hp (longKey_op ho (by decide)) rfl, fun i hi => by
        rw [getLsbD_ofNat_putBits _ _ _ _ hi, BitVec.testBit_toNat]; rfl⟩
    · intro u v fl
      have hfl : addFlags u (~~~v) 1 = fl := addFlags_compare u v
      exact ⟨h.completes_long hp (longKey_op ho (by decide)) rfl (by rw [← hfl]) rfl, legalLong_cmpp ho (h.legalLong hp)⟩

end Sys2Proof.Machine
end

section
/-! Reads of memory that meet no error, no other access and no drift: the bytes that they give, and what they leave alone. -/

namespace Sys2Proof.Machine

/-! ## Bytes of a memory -/

theorem Memory.read_eq_map (m : List Host.Cell) (n : Nat) : ∀ a, Memory.read m a n = (List.range n).map fun i => Memory.get m (a + i) := by
  induction n with
  | zero => intro a; rfl
  | succ n ih =>
    intro a
    rw [Memory.read, ih, List.range_succ_eq_map, List.map_cons, List.map_map]
    congr 2
    exact funext fun i => by rw [Function.comp, Nat.add_assoc, Nat.add_comm 1]

theorem Memory.read_append (m : List Host.Cell) (n j : Nat) : ∀ a, Memory.read m a n ++ Memory.read m (a + n) j = Memory.read m a (n + j) := by
  induction n with
  | zero => intro a; rw [Nat.zero_add]; rfl
  | succ n ih => intro a; rw [Nat.succ_add, Memory.read, Memory.read, ← ih, List.cons_append, Nat.add_assoc, Nat.add_comm 1]

/-- Bytes within a word that is read. -/
theorem Memory.read_slice (m : List Host.Cell) (a : Nat) {n i j : Nat} (h : i + j ≤ n) :
    ((Memory.read m a n).drop i).take j = Memory.read m (a + i) j := by
  obtain ⟨r, rfl⟩ := Nat.exists_eq_add_of_le h
  rw [← Memory.read_append, ← Memory.read_append, List.append_assoc, List.drop_left' (Memory.read_length ..),
    List.take_left' (Memory.read_length ..)]

@[simp] theorem corrected_nil (m : List Host.Cell) (l n : Nat) : corrected m [] l n = m := by
  unfold corrected
  induction List.range n with
  | nil => rfl
  | cons i is ih => exact ih

/-! ## What a read leaves alone -/

/-- `s1` is `s` after reads by a thread of pipe `p`: its port's record of accesses, the banks' service, the count of corrected errors
and the report's counters may differ. -/
structure ReadFrom (p : Nat) (s s1 : State) : Prop where
  rest : { s1.still3 with mem := MemState.init } = { s.still3 with mem := MemState.init }
  lnk : s1.lnk = s.lnk
  mem : s1.mem = { s.mem with lastAcc := s1.mem.lastAcc }
  port : kget [] s1.mem.lastAcc (1 - p) = kget [] s.mem.lastAcc (1 - p)
  str : s1.str = { s.str with used := s1.str.used, lost := s1.str.lost, rr := s1.str.rr }
  regs : ∀ off, off ≠ R.MEM_ECC_CNT → eventReg off = false → driftReg off = false → s1.reg off = s.reg off

namespace ReadFrom

variable {p : Nat} {s x y : State}

theorem refl (p : Nat) (s : State) : ReadFrom p s s := ⟨rfl, rfl, rfl, rfl, rfl, fun _ _ _ _ => rfl⟩

theorem trans (h1 : ReadFrom p s x) (h2 : ReadFrom p x y) : ReadFrom p s y where
  rest := h2.rest.trans h1.rest
  lnk := h2.lnk.trans h1.lnk
  mem := by rw [h2.mem, h1.mem]
  port := h2.port.trans h1.port
  str := by rw [h2.str, h1.str]
  regs off h he hd := (h2.regs off h he hd).trans (h1.regs off h he hd)

theorem f (h : ReadFrom p s x) (fd : Fld) (hn : fd.off ≠ R.MEM_ECC_CNT) (he : eventReg fd.off = false) (hd : driftReg fd.off = false) :
    x.f fd = s.f fd := by unfold State.f; rw [h.regs _ hn he hd]

/-- A part of the state that reads leave alone. -/
theorem part {α : Type} (h : ReadFrom p s x) (g : State → α) (hg : ∀ a : State, g { a.still3 with mem := MemState.init } = g a) :
    g x = g s := by
  rw [← hg x, h.rest, hg s]

theorem count (s : State) (o n : Nat) : ReadFrom p s (s.count o n) := ⟨rfl, rfl, rfl, rfl, rfl, fun _ _ _ _ => rfl⟩

/-- The count of corrected errors may move. -/
theorem satF (s : State) (n : Nat) : ReadFrom p s (s.satF F.MEM_ECC_CNT_CORR n) where
  rest := rfl
  lnk := rfl
  mem := rfl
  port := rfl
  str := rfl
  regs _ h _ _ := (s.mark F.MEM_ECC_CNT_CORR n).setF_reg_ne _ _ h

theorem noteAcc (s : State) (hp : p < 2) (a : PortAcc) : ReadFrom p s (s.noteAcc p a) where
  rest := rfl
  lnk := rfl
  mem := rfl
  port := kget_kset_ne _ _ _ _ (by omega)
  str := rfl
  regs _ _ _ _ := rfl

end ReadFrom

/-! ## Thread memory -/

/-- No word of thread memory has an error, and the other pipe makes no access in cycle `c`. -/
structure TmemQuiet (s : State) (t c : Nat) : Prop where
  ecc : s.mem.ecc = []
  poison : s.mem.poison = []
  alone : ∀ e ∈ kget [] s.mem.lastAcc (1 - pipeOf t), e.cyc ≠ c

theorem TmemQuiet.read {s x : State} {t c : Nat} (h : TmemQuiet s t c) (hr : ReadFrom (pipeOf t) s x) : TmemQuiet x t c where
  ecc := by rw [hr.mem]; exact h.ecc
  poison := by rw [hr.mem]; exact h.poison
  alone := by rw [hr.port]; exact h.alone

theorem pipeOf_lt (t : Nat) : pipeOf t < 2 := by unfold pipeOf; split <;> decide

theorem State.tmemWord_clean {s : State} {p : Nat} (he : s.mem.ecc = []) (hp : s.mem.poison = []) (w : Nat) :
    ∃ x, s.tmemWord w = (Memory.read s.mem.mem (8 * w) 8, false, x) ∧ ReadFrom p s x := by
  unfold State.tmemWord; dsimp only
  rw [he, hp, corrected_nil]
  split
  · exact ⟨_, rfl, .refl p s⟩
  · exact ⟨_, rfl, .satF s _⟩

theorem State.thrRead_clean {s : State} {t c : Nat} (h : TmemQuiet s t c) (w : Nat) :
    ∃ x, s.thrRead t c w = (Memory.read s.mem.mem (8 * w) 8, false, x) ∧ ReadFrom (pipeOf t) s x := by
  obtain ⟨x, hx, hr⟩ := State.tmemWord_clean (p := pipeOf t) h.ecc h.poison w
  have hm : s.metBy (pipeOf t) c w = [] := List.filter_eq_nil_iff.2 fun e he => by simp [h.alone e he]
  unfold State.thrRead; dsimp only
  rw [hx, hm]
  exact ⟨_, rfl, hr.trans (.noteAcc x (pipeOf_lt t) _)⟩

theorem State.readHalf_clean {s : State} {k : Accessor} (h : TmemQuiet s k.t k.c) {a n : Nat} (hn : a % 8 + n ≤ 8) :
    ∃ x, s.readHalf k a n = (Memory.read s.mem.mem a n, false, x) ∧ ReadFrom (pipeOf k.t) s x := by
  obtain ⟨x, hx, hr⟩ := State.thrRead_clean h (a / 8)
  refine ⟨x, ?_, hr⟩
  unfold State.readHalf; rw [hx]; dsimp only
  rw [Memory.read_slice _ _ hn, Nat.div_add_mod]

/-- A read of thread memory gives the bytes at its address, aligned or not (R431). -/
theorem State.readHalves_clean {s : State} {k : Accessor} (h : TmemQuiet s k.t k.c) (a : Nat) {n : Nat} (hn : n ∈ [1, 2, 4, 8]) :
    ∃ x, s.readHalves k (halves a n) = (Memory.read s.mem.mem a n, false, x) ∧ ReadFrom (pipeOf k.t) s x := by
  have hn' : n = 1 ∨ n = 2 ∨ n = 4 ∨ n = 8 := by simpa using hn
  unfold halves; split
  · obtain ⟨x, hx, hr⟩ := State.readHalf_clean h (a := a) (n := n) (by rcases hn' with rfl | rfl | rfl | rfl <;> omega)
    refine ⟨x, ?_, hr⟩
    simp [State.readHalves, hx]
  · obtain ⟨x, hx, hr⟩ := State.readHalf_clean h (a := a) (n := n - a % n) (by rcases hn' with rfl | rfl | rfl | rfl <;> omega)
    obtain ⟨y, hy, hr'⟩ := State.readHalf_clean (h.read hr) (a := a + n - a % n) (n := a % n)
      (by rcases hn' with rfl | rfl | rfl | rfl <;> omega)
    refine ⟨y, ?_, hr.trans hr'⟩
    have hlt : a % n < n := Nat.mod_lt _ (by omega)
    have e : Memory.read s.mem.mem a (n - a % n) ++ Memory.read x.mem.mem (a + n - a % n) (a % n) = Memory.read s.mem.mem a n := by
      rw [hr.mem, Nat.add_sub_assoc (by omega), Memory.read_append, Nat.sub_add_cancel (by omega)]
    simp [State.readHalves, hx, hy, e]

/-! ## Staging memory -/

/-- No word of staging memory has an error, no drift executes a command, and there is no peer table. -/
structure SmemQuiet (s : State) : Prop where
  ecc : s.str.ecc = []
  poison : s.str.poison = []
  idle : s.str.runs = []
  noTable : s.f F.QUE_PEER_CFG_MAX = 0

theorem SmemQuiet.read {s x : State} {p : Nat} (h : SmemQuiet s) (hr : ReadFrom p s x) : SmemQuiet x where
  ecc := by rw [hr.str]; exact h.ecc
  poison := by rw [hr.str]; exact h.poison
  idle := by rw [hr.str]; exact h.idle
  noTable := by rw [hr.f _ (by decide) (by decide) (by decide)]; exact h.noTable

/-- A bank's service moves nothing but the record of its cycles. -/
theorem State.serveFrom_str (n : Nat) (s : State) (who : SmemWho) (b c : Nat) : ∃ u l r,
    (State.serveFrom n s who b c).str = { s.str with used := u, lost := l, rr := r } := by
  induction n generalizing s c with
  | zero => exact ⟨_, _, _, rfl⟩
  | succ n ih =>
    unfold State.serveFrom; split
    · obtain ⟨l, hl⟩ := s.loseBank_str c b
      obtain ⟨u, l', r, h⟩ := ih (s.loseBank c b) (c + 1)
      exact ⟨u, l', r, by rw [h, hl]⟩
    · dsimp only; split <;> exact ⟨_, _, _, rfl⟩

theorem State.serve_str {s : State} (h : s.str.runs = []) (who : SmemWho) (b : Nat) : ∃ u l r,
    (s.serve who b).str = { s.str with used := u, lost := l, rr := r } := by
  unfold State.serve; rw [State.meet_idle h]; split
  · exact ⟨_, _, _, rfl⟩
  · dsimp only
    obtain ⟨u, l, r, e⟩ := State.serveFrom_str _ _ _ _ _
    exact ⟨u, l, r, e⟩

theorem State.reg_of_apart {a b : State} (h : a.apart = b.apart) {off : Nat} (he : eventReg off = false) (hd : driftReg off = false) :
    a.reg off = b.reg off := by simpa [State.apart, he, hd] using congrArg (fun x => x.2 off) h

theorem ReadFrom.serve {s : State} {p : Nat} (h : s.str.runs = []) (who : SmemWho) (b : Nat) : ReadFrom p s (s.serve who b) where
  rest := congrArg (fun x : State => { x with mem := MemState.init }) (State.still3_of_apart (s.serve_apart who b))
  lnk := (State.serve_idle h who b).1
  mem := by
    have e : (s.serve who b).mem = s.mem := congrArg (fun x => x.1.mem) (s.serve_apart who b)
    rw [e]
  port := congrArg (fun x => kget [] x.1.mem.lastAcc (1 - p)) (s.serve_apart who b)
  str := by
    obtain ⟨u, l, r, e⟩ := State.serve_str h who b
    rw [e]
  regs _ _ he hd := State.reg_of_apart (s.serve_apart who b) he hd

theorem State.peerTableWord_none {s : State} (h : s.f F.QUE_PEER_CFG_MAX = 0) (w : Nat) : s.peerTableWord w = none := by
  unfold State.peerTableWord; dsimp only
  rw [h, if_neg (by omega)]

theorem State.smemAccess_clean {s : State} {p : Nat} (h : SmemQuiet s) (w : Nat) (who : SmemWho) :
    ∃ x, s.smemAccess w who = (Memory.read s.str.mem (64 * w) 64, false, x) ∧ ReadFrom p s x := by
  unfold State.smemAccess; dsimp only
  rw [State.peerTableWord_none h.noTable, h.ecc, h.poison, corrected_nil]; dsimp only
  split
  · exact ⟨_, rfl, .count s _ _⟩
  · exact ⟨_, rfl, (ReadFrom.count s _ _).trans (.count _ _ _)⟩

theorem State.smemWord_clean {s : State} {p : Nat} (h : SmemQuiet s) (w : Nat) (who : SmemWho) :
    ∃ x, s.smemWord w who = (Memory.read s.str.mem (64 * w) 64, false, x) ∧ ReadFrom p s x := by
  have hs : ReadFrom p s (s.serve who (w % 512)) := .serve h.idle who _
  obtain ⟨x, hx, hr⟩ := State.smemAccess_clean (p := p) (h.read hs) w who
  rw [hs.str] at hx
  exact ⟨x, hx, hs.trans hr⟩

/-- A read of staging memory gives the bytes at its address, whatever words they lie in. -/
theorem State.smemSpan_clean {p : Nat} (who : SmemWho) (fuel : Nat) : ∀ {s : State} {a n : Nat}, SmemQuiet s → a + n ≤ 2 ^ 26 →
    n = 0 ∨ a % 64 + n ≤ 64 * fuel →
    ∃ x, State.smemSpan fuel s a n who = (Memory.read s.str.mem a n, false, x) ∧ ReadFrom p s x := by
  induction fuel with
  | zero =>
    intro s a n _ _ hf
    obtain rfl : n = 0 := by omega
    exact ⟨s, rfl, .refl p s⟩
  | succ fuel ih =>
    intro s a n h ha hf
    unfold State.smemSpan
    by_cases hn : n = 0
    · subst hn; exact ⟨s, rfl, .refl p s⟩
    · rw [if_neg hn]; dsimp only
      obtain ⟨x, hx, hr⟩ := State.smemWord_clean (p := p) h (a / 64) who
      have hw : a / 64 % 2 ^ 20 = a / 64 := Nat.mod_eq_of_lt (by omega)
      obtain ⟨y, hy, hr'⟩ := ih (a := a + min n (64 - a % 64)) (n := n - min n (64 - a % 64)) (h.read hr) (by omega) (by omega)
      refine ⟨y, ?_, hr.trans hr'⟩
      have hb : ((Memory.read s.str.mem (64 * (a / 64)) 64).drop (a % 64)).take (min n (64 - a % 64)) =
          Memory.read s.str.mem a (min n (64 - a % 64)) := by rw [Memory.read_slice _ _ (by omega), Nat.div_add_mod]
      have hm : x.str.mem = s.str.mem := by rw [hr.str]
      rw [hw, hx]; dsimp only
      rw [hy]; dsimp only
      rw [hb, hm, Memory.read_append, Nat.add_sub_cancel' (Nat.min_le_left ..)]; rfl

theorem State.smemGet_clean {s : State} {p : Nat} (h : SmemQuiet s) {a n : Nat} (ha : a + n ≤ 2 ^ 26) (who : SmemWho) :
    ∃ x, s.smemGet a n who = (Memory.read s.str.mem a n, false, x) ∧ ReadFrom p s x :=
  State.smemSpan_clean who _ h ha (by omega)

end Sys2Proof.Machine
end

section
/-! Data accesses of a thread in its slot: what the time up to the slot leaves of the conditions on an access, what a load that is clear
gives, and the rows that read memory. -/

namespace Sys2Proof.Machine

/-! ## The state of the slot -/

theorem State.permits_congr {a b : State} (h : a.cfg = b.cfg) (k : Accessor) (wr : Bool) (x n : Nat) :
    a.permits k wr x n = b.permits k wr x n := by
  unfold State.permits State.guarded State.tflag; rw [h]

/-- Landed products change nothing that an access reads of its thread. -/
theorem Thread.landTo_access (x : Thread) (i : Nat) : (x.landTo i).sr = x.sr ∧ (x.landTo i).stores = x.stores ∧
    (x.landTo i).skipMatch = x.skipMatch := by
  obtain ⟨m, l, h⟩ := x.landTo_eq i
  rw [h]; exact ⟨rfl, rfl, rfl⟩

theorem State.acc_atSlot (s : State) (k : Issue) : k.acc (s.atSlot k) = k.acc s := by
  unfold Issue.acc Thread.srb; rw [s.atSlot_thread, (Thread.landTo_access _ _).1]

theorem State.watchHit_atSlot (s : State) (k : Issue) (t : Nat) (wr : Bool) (a : Nat) {j : Nat} (hj : j < 4) :
    (s.atSlot k).watchHit t wr a j = s.watchHit t wr a j := by
  obtain ⟨hc, hd, hc', hd'⟩ := (by decide : ∀ j < 4, calmReg (R.DBG_WPj_CFG j) = true ∧ driftReg (R.DBG_WPj_CFG j) = false ∧
    calmReg (R.DBG_WPj_ADDR j) = true ∧ driftReg (R.DBG_WPj_ADDR j) = false) j hj
  have hf (x : Fld) (h : x.off = R.DBG_WPj_CFG j) : (s.atSlot k).f x = s.f x := s.atSlot_f k x (h ▸ hc) (h ▸ hd)
  unfold State.watchHit State.flag
  rw [hf (F.DBG_WPj_CFG_EN j) rfl, hf (F.DBG_WPj_CFG_WR j) rfl, hf (F.DBG_WPj_CFG_RD j) rfl, hf (F.DBG_WPj_CFG_ANY j) rfl,
    hf (F.DBG_WPj_CFG_THREAD j) rfl, hf (F.DBG_WPj_CFG_IGN j) rfl, s.atSlot_f k (F.DBG_WPj_ADDR_ADDR j) hc' hd']

/-- A search depends on its test of the members alone. -/
theorem find?_eq_of_forall_mem {α : Type} {q r : α → Bool} (l : List α) (h : ∀ a ∈ l, q a = r a) : l.find? q = l.find? r := by
  induction l with
  | nil => rfl
  | cons a l ih =>
    rw [List.find?_cons, List.find?_cons, h a List.mem_cons_self, ih fun b hb => h b (List.mem_cons_of_mem a hb)]

theorem State.watched_atSlot (s : State) (k : Issue) (wr : Bool) (a n : Nat) :
    (s.atSlot k).watched k.t wr a n = s.watched k.t wr a n := by
  unfold State.watched
  rw [s.atSlot_attached, s.atSlot_thread, (Thread.landTo_access _ _).2.2]
  have e : (List.range 4).find? (fun j => (halves a n).any fun h => (s.atSlot k).watchHit k.t wr h.1 j) =
      (List.range 4).find? (fun j => (halves a n).any fun h => s.watchHit k.t wr h.1 j) := by
    refine find?_eq_of_forall_mem _ fun j hj => ?_
    simp only [s.watchHit_atSlot k _ _ _ (List.mem_range.1 hj)]
  rw [e]

theorem State.secHeld_atSlot (s : State) (k : Issue) : (s.atSlot k).secHeld = s.secHeld := by
  unfold State.secHeld State.lifecycle
  rw [s.atSlot_flag k _ (by decide) (by decide), s.atSlot_flag k _ (by decide) (by decide), s.atSlot_f k _ (by decide) (by decide)]

/-- Where no drift executes a command, staging memory is as before in the slot. -/
theorem State.atSlot_str {s : State} (h : s.str.runs = []) (k : Issue) : (s.atSlot k).str = s.str := by
  unfold State.atSlot; split
  · rw [State.passFt_idle h]; rfl
  · rfl

theorem State.dataByte_atSlot {s : State} (h : s.str.runs = []) (k : Issue) (a : Nat) : (s.atSlot k).dataByte a = s.dataByte a := by
  unfold State.dataByte; rw [s.atSlot_mem, State.atSlot_str h]

/-- An access that is clear before the slot is clear in it. -/
theorem Clear.atSlot {s : State} {k : Issue} {a n : Nat} (h : Clear s k.t k a n) : Clear (s.atSlot k) k.t k a n where
  read := by rw [s.acc_atSlot, State.permits_congr (s.atSlot_cfg k)]; exact h.read
  noWatch := by rw [s.watched_atSlot]; exact h.noWatch
  noOverlap := by
    unfold Thread.overlaps; rw [s.atSlot_thread, (Thread.landTo_access _ _).2.1]; exact h.noOverlap
  onBlock := h.onBlock
  noWipe := by rw [s.secHeld_atSlot]; exact h.noWipe
  noErrors := by rw [s.atSlot_mem, State.atSlot_str h.noDrift]; exact h.noErrors
  alone := by rw [s.atSlot_mem]; exact h.alone
  noTable := by rw [s.atSlot_f k _ (by decide) (by decide)]; exact h.noTable
  noDrift := by rw [State.atSlot_str h.noDrift]; exact h.noDrift

/-! ## Loads -/

theorem Clear.tmemQuiet {s : State} {t : Nat} {k : Issue} {a n : Nat} (h : Clear s t k a n) : TmemQuiet s t k.c :=
  ⟨h.noErrors.1, h.noErrors.2.2.1, h.alone⟩

theorem Clear.smemQuiet {s : State} {t : Nat} {k : Issue} {a n : Nat} (h : Clear s t k a n) : SmemQuiet s :=
  ⟨h.noErrors.2.1, h.noErrors.2.2.2, h.noDrift, h.noTable⟩

/-- An access that is clear lies in one of the three ranges on the block (R428). -/
theorem Clear.target_cases {s : State} {t : Nat} {k : Issue} {a n : Nat} (h : Clear s t k a n) :
    (a + n ≤ 0x400000 ∧ (target a n = some (.tmem a) ∨ target a n = some (.sec a))) ∨
    (2 ^ 32 ≤ a ∧ a + n ≤ 2 ^ 32 + 2 ^ 26 ∧ target a n = some (.smem (a - 2 ^ 32))) := by
  have hp := h.read
  have hb := h.onBlock
  unfold State.permits at hp
  unfold target at hp ⊢; dsimp only at hp ⊢
  by_cases h1 : a + n ≤ secBase
  · exact .inl ⟨Nat.le_trans h1 (by decide), .inl (if_pos h1)⟩
  · rw [if_neg h1] at hp ⊢
    by_cases h2 : secBase ≤ a ∧ a + n ≤ 0x400000
    · exact .inl ⟨h2.2, .inr (if_pos h2)⟩
    · rw [if_neg h2] at hp ⊢
      by_cases h3 : 2 ^ 32 ≤ a ∧ a + n ≤ 2 ^ 32 + 2 ^ 26
      · exact .inr ⟨h3.1, h3.2, if_pos h3⟩
      · rw [if_neg h3, if_neg (by omega)] at hp
        cases hp

/-- A load that is clear gives the bytes at its address (R428, R431). -/
theorem Clear.load {s : State} {k : Issue} {a n : Nat} (h : Clear s k.t k a n) (hn : n ∈ [1, 2, 4, 8]) (ans : List HostAns) :
    ∃ x, s.load (k.acc s) ans a n = .ok x ((List.range n).map fun i => s.dataByte (a + i)) ans ∧ ReadFrom (pipeOf k.t) s x := by
  unfold State.load
  rw [h.read, show (k.acc s).t = k.t from rfl, h.noWatch, h.noOverlap]
  rcases h.target_cases with ⟨ha, ht⟩ | ⟨ha, ha', ht⟩
  · obtain ⟨x, hx, hr⟩ := State.readHalves_clean (k := k.acc s) h.tmemQuiet a hn
    have hb : (List.range n).map (fun i => s.dataByte (a + i)) = Memory.read s.mem.mem a n := by
      rw [Memory.read_eq_map]
      refine List.map_congr_left fun i hi => ?_
      have := List.mem_range.1 hi
      exact if_pos (by omega)
    refine ⟨x, ?_, hr⟩
    rcases ht with ht | ht
    · simp [ht, hx, hb]
    · simp [ht, hx, hb, h.noWipe]
  · obtain ⟨x, hx, hr⟩ := State.smemGet_clean (p := pipeOf k.t) h.smemQuiet (a := a - 2 ^ 32) (n := n) (by omega) .thread
    have hb : (List.range n).map (fun i => s.dataByte (a + i)) = Memory.read s.str.mem (a - 2 ^ 32) n := by
      rw [Memory.read_eq_map]
      refine List.map_congr_left fun i _ => ?_
      rw [State.dataByte, if_neg (by omega), Nat.sub_add_comm ha]
    exact ⟨x, by simp only [ht, hx, hb]; rfl, hr⟩

/-! ## Rows that read memory -/

/-- A row whose word reads memory in its slot and then writes registers of the thread. -/
theorem Runs.reads {s : State} {t : Nat} {k : Issue} (h : Runs s t k) {key : Nat × Nat} (hk : key ∈ wordOps k.w) {x : State}
    {f : Thread → Thread} (he : wordEff k.w k (s.atSlot k) = .go (x.modThread k.t f)) {p : Nat} (hr : ReadFrom p (s.atSlot k) x)
    (hd : s.str.runs = []) (hw : (f (s.regsAt k)).wait = .none) : Reads (done (s.issue t key)) s t k (f (s.regsAt k)) := by
  have ht := h.t_eq
  subst ht
  have hbtp : x.btp = (s.atSlot k).btp := hr.part State.btp fun _ => rfl
  have hth (u : Nat) : x.thread u = (s.atSlot k).thread u := by unfold State.thread; rw [hbtp]
  have hcfg : x.cfg = (s.atSlot k).cfg := hr.part State.cfg fun _ => rfl
  have ha := OnlyThread.atSlot s k
  have hstr : x.str.mem = s.str.mem ∧ x.str.runs = [] := by rw [hr.str, State.atSlot_str hd]; exact ⟨rfl, hd⟩
  obtain ⟨s', e, hy, ho⟩ := h.completes hk he (s0 := x) (y := f (s.regsAt k))
    (by rw [State.thread_modThread_same, hth, s.atSlot_thread]; rfl) hw (hcfg.trans (s.atSlot_cfg k)) (.modThread ..)
  refine ⟨s', e, hy, ?_, fun hf _ => ?_, ?_⟩
  · rw [ho.mem, hr.mem, s.atSlot_mem]
  · have hf' : x.flag F.DBG_TR_CFG_EN = false := by
      unfold State.flag at *; rw [hr.f _ (by decide) (by decide) (by decide), s.atSlot_f k _ (by decide) (by decide)]; exact hf
    rw [ho.staging hf' hstr.2, hstr.1]
  · exact {
      others := fun u hu => (ho.others u hu).trans ((hth u).trans (ha.others u hu))
      chans := by rw [ho.chans, hbtp, ha.chans]
      lamps := by rw [ho.lamps, hbtp, ha.lamps]
      flog := by rw [ho.flog, hbtp, ha.flog]
      cfg := by rw [ho.cfg, hcfg, ha.cfg]
      lnk := fun _ => by rw [ho.lnk hstr.2, hr.lnk, ha.lnk hd]
      vwk := by rw [ho.vwk, hr.part State.vwk fun _ => rfl, ha.vwk]
      sbd := by rw [ho.sbd, hr.part State.sbd fun _ => rfl, ha.sbd]
      crp := by rw [ho.crp, hr.part State.crp fun _ => rfl, ha.crp] }

@[simp] theorem Thread.usableFrom_wait (x : Thread) (i c : Nat) : (x.usableFrom i c).wait = x.wait := rfl

/-- What ADDM, SUBM and CMPM leave of thread `x` with outcome `o`: their results follow the load timing (R499). -/
def Issue.loadedOutcome (k : Issue) (x : Thread) (o : AluOut) : Thread :=
  let i := x.idx k.full (wRd k.w)
  let y := (x.outcome i o).usableFrom 512 (k.c + 3)
  if o.val.isSome then y.usableFrom i (k.c + 3) else y

theorem Issue.loadedOutcome_wait (k : Issue) (x : Thread) (o : AluOut) : (k.loadedOutcome x o).wait = x.wait := by
  unfold Issue.loadedOutcome; dsimp only; split <;> simp

/-- A row with a memory operand, of an access that is clear: its operation on rd, the word at the effective address and the flags. -/
theorem Runs.reads_memAlu {s : State} {t : Nat} {k : Issue} (h : Runs s t k) (hp : isPair k.w = false) {key : Nat × Nat}
    (hk : longKey k.w = key) {op : AluOp} (he : effOf key = some (memAluEff op))
    (hc : Clear s t k (k.ea (s.regsAt k) 8).1.toNat 8) {o : AluOut}
    (hy : op (k.rd (s.regsAt k)) (BitVec.ofNat 64 (s.dataNat (k.ea (s.regsAt k) 8).1.toNat 8)) (s.regsAt k).flags = o) :
    Reads (done (s.issue t key)) s t k (k.loadedOutcome (s.regsAt k) o) := by
  have ht := h.t_eq
  subst ht hy
  obtain ⟨x, hx, hr⟩ := hc.atSlot.load (by decide) (s.regsAt k).ans
  simp only [State.dataByte_atSlot hc.noDrift] at hx
  refine h.reads (wordOps_long hp hk he) (f := fun z => k.loadedOutcome z
    (op (k.rd z) (BitVec.ofNat 64 (s.dataNat (k.ea (s.regsAt k) 8).1.toNat 8)) z.flags)) ?_ hr hc.noDrift
    ((k.loadedOutcome_wait ..).trans h.regsAt_wait)
  rw [wordEff_long hp hk he]
  unfold memAluEff; dsimp only
  rw [s.atSlot_thread, ← State.regsAt, hx]; rfl

/-- ADDM, SUBM and CMPM have the address modes 0 and 6 alone (R499). -/
theorem legalLong_memAlu {c : WordCtx} {w : Nat} (ho : 0x2D ≤ wOp w ∧ wOp w ≤ 0x2F) (h : legalLong c w = true) :
    wMode w = 0 ∨ wMode w = 6 := by
  have hm : legalMem c.full (wOp w) w = true := by
    obtain ho | ho | ho : wOp w = 0x2D ∨ wOp w = 0x2E ∨ wOp w = 0x2F := by omega
    all_goals simpa [legalLong, ho] using h
  simp only [legalMem, Bool.and_eq_true, Bool.or_eq_true, decide_eq_true_eq, beq_iff_eq] at hm
  omega

/-- Settles O46: each row is a load of the word at its effective address, and its operation on rd and that word. -/
theorem memoryOperandArithmetic : Obligations.MemoryOperandArithmetic := by
  intro s t k h hp x a m d i late diff sum hc
  have hdiff : AluOut.classA d (~~~m) 1 = ⟨some (d - m), some diff⟩ := by
    rw [AluOut.classA, addVal_not, addFlags_compare]
  refine ⟨fun ho => ?_, fun ho => ?_, fun ho => ?_, fun ho => legalLong_memAlu ho (h.legalLong hp)⟩
  · exact h.reads_memAlu hp (longKey_op ho (by decide)) rfl hc (o := ⟨some (d + m), some sum⟩) (AluOut.classA_zero d m)
  · exact h.reads_memAlu hp (longKey_op ho (by decide)) rfl hc (o := ⟨some (d - m), some diff⟩) hdiff
  · exact h.reads_memAlu hp (longKey_op ho (by decide)) rfl hc (o := ⟨none, some diff⟩) (congrArg AluOut.flagsOnly hdiff)

end Sys2Proof.Machine
end

section
/-! What the sideband shows after a command: what the end of a command and of an access leaves of it, what time leaves of it, and that
the pins follow their owners. -/

namespace Sys2Proof.Machine

/-! ## Events and fabric time -/

/-- Registers of pending bits. -/
def pendReg (off : Nat) : Bool := decide (R.EVT_PENDk 0 ≤ off) && decide (off < R.EVT_PENDk 128)

theorem pendReg_pendFld {n : Nat} (hn : n < 4096) : pendReg (pendFld n).off = true := by
  have h : n / 32 < 128 := by omega
  simp only [pendReg, Bool.and_eq_true, decide_eq_true_eq]
  simp only [pendFld_off, R.EVT_PENDk]; omega

/-- Fabric time is as it was, and every source that was pending is. -/
structure Onward (s x : State) : Prop where
  ft : x.sch.ft = s.sch.ft
  events : ∀ n < 4096, s.evPending n = true → x.evPending n = true

namespace Onward

variable {s x y : State}

theorem of_regs (hf : x.sch.ft = s.sch.ft) (h : ∀ off, pendReg off = true → x.reg off = s.reg off) : Onward s x where
  ft := hf
  events n hn hp := by
    unfold State.evPending State.flag State.f at *
    rw [h _ (pendReg_pendFld hn)]; exact hp

theorem refl (s : State) : Onward s s := ⟨rfl, fun _ _ h => h⟩

theorem trans (h1 : Onward s x) (h2 : Onward x y) : Onward s y :=
  ⟨h2.ft.trans h1.ft, fun n hn hp => h2.events n hn (h1.events n hn hp)⟩

theorem setReg (s : State) {off : Nat} (v : Word) (h : pendReg off = false) : Onward s (s.setReg off v) :=
  of_regs rfl fun o ho => s.reg_setReg_ne v fun e => by simp [e, h] at ho

theorem setF (s : State) (f : Fld) (v : Nat) (h : pendReg f.off = false) : Onward s (s.setF f v) := setReg s _ h

theorem hit (s : State) (f : Fld) (h : pendReg f.off = false) : Onward s (s.hit f) :=
  (of_regs rfl fun _ _ => rfl : Onward s (s.mark f 1)).trans (setF _ f 1 h)

theorem hitPend (s : State) (k : Nat) : Onward s (s.hit (pendFld k)) where
  ft := rfl
  events n _ hp := by
    have h32 (i : Nat) : i % 32 + 1 ≤ 32 := Nat.mod_lt i (by decide)
    by_cases ho : (pendFld n).off = (pendFld k).off
    · by_cases hb : n % 32 = k % 32
      · have e : pendFld n = pendFld k := by
          have hd : n / 32 = k / 32 := by rw [pendFld_off, pendFld_off] at ho; omega
          unfold pendFld; rw [hd, hb]
        unfold State.evPending; rw [e]
        exact s.flag_hit_same _ (h32 k) rfl
      · have hne : n % 32 + 1 ≤ k % 32 ∨ k % 32 + 1 ≤ n % 32 := by omega
        have e : (s.hit (pendFld k)).f (pendFld n) = s.f (pendFld n) := (s.mark _ 1).f_setF_beside (pendFld k) (pendFld n) 1 ho hne
        unfold State.evPending State.flag at *; rw [e]; exact hp
    · unfold State.evPending State.flag State.f at *
      rw [s.hit_reg_ne _ ho]; exact hp

theorem sendMsi (s : State) (v n : Nat) : Onward s (s.sendMsi v n) := of_regs rfl fun _ _ => rfl

theorem count (s : State) (o n : Nat) : Onward s (s.count o n) := of_regs rfl fun _ _ => rfl

theorem emit (s : State) (o : Out) : Onward s (s.emit o) := of_regs rfl fun _ _ => rfl

theorem setReg64 (s : State) {lo hi : Nat} (v : Nat) (hl : pendReg lo = false) (hh : pendReg hi = false) :
    Onward s (s.setReg64 lo hi v) := (setReg s _ hl).trans (setReg _ _ hh)

theorem updateIrq (s : State) : Onward s s.updateIrq := by
  unfold State.updateIrq; extract_lets; split
  · exact refl s
  · exact ((setReg64 s _ (by decide) (by decide)).trans (count _ _ _)).trans (emit _ _)

theorem mark (s : State) (f : Fld) (n : Nat) : Onward s (s.mark f n) := of_regs rfl fun _ _ => rfl

theorem raise (s : State) (n : Nat) : Onward s (s.raise n) := by
  unfold State.raise; extract_lets s1 s2 s3
  have h1 : Onward s s1 := count s _ _
  split
  · exact refl s
  · split
    · exact (h1.trans (count _ _ _)).trans (mark _ _ _)
    · have h3 : Onward s2 s3 := by
        show Onward s2 (if _ then _ else _)
        split
        · exact sendMsi _ _ _
        · exact refl _
      exact ((h1.trans (hitPend s1 n)).trans h3).trans (updateIrq s3)

theorem setCls (s : State) (v : Nat) : Onward s (s.setCls v) := by
  have h1 (w u : Word) (n : Nat) : Onward s (((s.mark ⟨R.SCH_CLS_CAUSE, 0, 16⟩ n).setReg R.SCH_CLS_STAT w).setReg R.SCH_CLS_CAUSE u) :=
    ((mark s _ _).trans (setReg _ _ (by decide))).trans (setReg _ _ (by decide))
  unfold State.setCls; extract_lets; split
  · refine trans ?_ (raise _ _)
    exact (h1 _ _ _).trans (of_regs rfl fun _ _ => rfl)
  · exact (h1 _ _ _).trans (of_regs rfl fun _ _ => rfl)

theorem setCause (s : State) (f : Fld) (b : Bool) : Onward s (s.setCause f b) := setCls s _

theorem refreshVoid (s : State) : Onward s s.refreshVoid := by
  unfold State.refreshVoid; extract_lets _ s1
  have h1 : Onward s s1 := by
    refine List.foldlRecOn (motive := Onward s) _ _ (refl s) fun a ih g hg => ih.trans (setF a _ _ ?_)
    have := List.mem_range.1 hg
    simp only [pendReg, Bool.and_eq_false_iff, decide_eq_false_iff_not]
    simp only [F.SCH_LGn_PEER_VOIDED, R.SCH_LGn_PEER, R.EVT_PENDk]; omega
  exact h1.trans (setCls _ _)

theorem setMode (s : State) (m : Nat) : Onward s (s.setMode m) := by
  have h1 (t : State) (ht : Onward s t) : Onward s (((t.setF F.CRP_MODE_PREV s.mode).setF F.CRP_MODE_MODE m).raise EV.mode) :=
    ((ht.trans (setF _ _ _ (by decide))).trans (setF _ _ _ (by decide))).trans (raise _ _)
  have h0 (b : Bool) : Onward s { s with sch := { s.sch with far := b } } := of_regs rfl fun _ _ => rfl
  unfold State.setMode; dsimp only; split
  · exact refl s
  · split
    · exact h1 _ (h0 _)
    · exact (h1 _ (h0 _)).trans (setCause _ _ _)

theorem lockCause (s old : State) : Onward s (s.lockCause old) := by
  unfold State.lockCause; split
  · exact setCause _ _ _
  · exact refl s

theorem setServo (s : State) (t : Nat) : Onward s (s.setServo t) := by
  unfold State.setServo; extract_lets s1 s2 s3
  have h0 (a : State) (f : SchState → SchState) (hf : (f a.sch).ft = a.sch.ft) : Onward a (a.modSch f) := of_regs hf fun _ _ => rfl
  have h1 : Onward s s1 := ((setF s F.SCH_TL_STAT_STATE t (by decide)).trans (count _ (Cnt.sch 4) 1)).trans (h0 _ _ rfl)
  have h2 : Onward s s2 := h1.trans (setF _ _ _ (by decide))
  have h3 : Onward s s3 := h2.trans (setF _ _ _ (by decide))
  have h4 (a : State) (v : Int) : Onward a (a.setSteer v) := (setF a _ _ (by decide)).trans (emit _ _)
  have h5 (b : Bool) : Onward s (s2.setB F.SCH_TL_STAT_UP_SEL b) := h2.trans (setF _ _ _ (by decide))
  repeat' split
  · exact refl s
  · exact h3
  · exact h3.trans (h4 _ _)
  · exact h5 _
  · exact h5 _
  · exact h2

theorem settleServo (s : State) : Onward s s.settleServo := by
  unfold State.settleServo; repeat' split
  · exact setServo _ _
  · exact (setServo _ _).trans (lockCause _ _)
  · exact setServo _ _
  · exact refl s

theorem settleMode (s : State) : Onward s s.settleMode := by
  unfold State.settleMode; repeat' split
  · exact setMode _ _
  · exact setMode _ _
  · exact setMode _ _
  · exact refl s

theorem settleLive (s : State) : Onward s s.settleLive := by
  unfold State.settleLive; extract_lets; split
  · exact refl s
  · exact of_regs rfl fun _ _ => rfl

theorem settleBlocked (s : State) : Onward s s.settleBlocked := by
  unfold State.settleBlocked; extract_lets; repeat' split
  all_goals exact of_regs rfl fun _ _ => rfl

theorem settleCauses (s : State) : Onward s s.settleCauses := by
  unfold State.settleCauses; extract_lets s1 s2
  have h2 : Onward s s2 := by
    refine (refreshVoid s).trans ?_
    show Onward _ (if _ then _ else _)
    split
    · exact refl _
    · exact setCause _ _ _
  split
  · exact h2.trans (setCause _ _ _)
  · exact h2

/-- The end of a command moves no time and clears no event. -/
theorem settle (s : State) : Onward s s.settle := by
  have h1 : Onward s s.settleServo.settleMode.settleLive.settleBlocked :=
    (((settleServo s).trans (settleMode _)).trans (settleLive _)).trans (settleBlocked _)
  have h2 (a : State) : Onward a a.settleSticky := setReg a _ (by decide)
  exact ((h1.trans (settleCauses _)).trans (h2 _)).trans (updateIrq _)

end Onward

/-- A source raised while MAIN is up is pending (R676, R678). -/
theorem State.evPending_raise (s : State) {n : Nat} (hn : n < 4096) (h : s.crp.mainUp = true) : (s.raise n).evPending n = true := by
  have h32 : n % 32 + 1 ≤ 32 := Nat.mod_lt n (by decide)
  unfold State.raise; extract_lets s1 s2 s3
  rw [if_neg (by simp [h])]
  split
  · rename_i hp; exact hp
  · have h2 : s2.evPending n = true := s1.flag_hit_same _ h32 rfl
    have h3 : Onward s2 s3 := by
      show Onward s2 (if _ then _ else _)
      split
      · exact .sendMsi _ _ _
      · exact .refl _
    exact (h3.trans (.updateIrq s3)).events n hn h2

/-! ## The sideband's registers -/

/-- Registers of the sideband (R15). -/
def SideReg (off : Nat) : Prop := 0x3C0000 ≤ off ∧ off < 0x3E0000

namespace SideReg

variable {off : Nat}

theorem calm (h : SideReg off) : calmReg off = true := by
  obtain ⟨h1, h2⟩ := h; simp [calmReg]; omega

theorem notDrift (h : SideReg off) : driftReg off = false := by
  obtain ⟨h1, h2⟩ := h
  simp only [driftReg, R.STR_STAT, R.STR_ECC_ADDR, R.STR_Dd_DONE, Bool.or_eq_false_iff, beq_eq_false_iff_ne, List.any_eq_false,
    List.mem_range, beq_iff_eq]
  exact ⟨⟨by omega, by omega⟩, fun d hd => by omega⟩

theorem notPend (h : SideReg off) : pendReg off = false := by
  obtain ⟨h1, h2⟩ := h
  simp only [pendReg, Bool.and_eq_false_iff, decide_eq_false_iff_not]
  simp only [R.EVT_PENDk]; omega

end SideReg

/-- What the sideband shows is as it was: its own state, the power and reset state, and its registers. -/
structure SideSame (s x : State) : Prop where
  sbd : x.sbd = s.sbd
  crp : x.crp = s.crp
  regs : ∀ off, SideReg off → x.reg off = s.reg off

namespace SideSame

variable {s x y : State}

theorem refl (s : State) : SideSame s s := ⟨rfl, rfl, fun _ _ => rfl⟩

theorem trans (h1 : SideSame s x) (h2 : SideSame x y) : SideSame s y :=
  ⟨h2.sbd.trans h1.sbd, h2.crp.trans h1.crp, fun off h => (h2.regs off h).trans (h1.regs off h)⟩

theorem f (h : SideSame s x) {v : Fld} (hv : SideReg v.off) : x.f v = s.f v := by unfold State.f; rw [h.regs _ hv]

theorem flag (h : SideSame s x) {v : Fld} (hv : SideReg v.off) : x.flag v = s.flag v := by unfold State.flag; rw [h.f hv]

theorem pe (h : SideSame s x) (n : Nat) : x.pe n = s.pe n := by unfold State.pe; rw [h.sbd]

theorem tm (h : SideSame s x) (m : Nat) : x.tm m = s.tm m := by unfold State.tm; rw [h.sbd]

theorem settle (s : State) : SideSame s s.settle := ⟨s.settle_sbd, s.settle_crp, fun _ h => s.settle_reg h.calm⟩

theorem raise (s : State) {n : Nat} (hn : n < 4096) : SideSame s (s.raise n) :=
  ⟨s.raise_sbd n, s.raise_crp n, fun _ h => s.raise_reg hn h.calm⟩

theorem noteWrite (s : State) (src : RegSrc) : SideSame s (s.noteWrite src) := ⟨rfl, rfl, fun _ _ => rfl⟩

/-- Time leaves the sideband as it is: drifts write none of its registers. -/
theorem pass (s : State) (n : Nat) : SideSame s (s.pass n) where
  sbd := s.pass_sbd n
  crp := s.pass_crp n
  regs _ h := (s.wait n).catchUp_reg h.calm h.notDrift

theorem pinOwner (h : SideSame s x) {i : Nat} (hi : i < 32) : x.pinOwner i = s.pinOwner i := by
  unfold State.pinOwner; rw [h.regs _ (by simp only [SideReg, R.SBD_PINSELi]; omega)]

theorem pePin (h : SideSame s x) {n p : Nat} (hn : n < 8) (hp : p < 8) : x.pePin n p = s.pePin n p := by
  unfold State.pePin; rw [h.regs _ (by simp only [SideReg, R.PEn_PINMAP_LO]; omega)]

theorem pinDrive (h : SideSame s x) {i : Nat} (hi : i < 32) : x.pinDrive i = s.pinDrive i := by
  have hc : s.pinOwner i < 32 := Nat.mod_lt _ (by decide)
  unfold State.pinDrive; dsimp only
  rw [h.pinOwner hi, h.crp, h.regs R.SBD_GPIO_OUT ⟨by decide, by decide⟩, h.regs R.SBD_GPIO_OE ⟨by decide, by decide⟩]
  split
  · rfl
  split
  · rfl
  split
  · rename_i h16
    have e : (List.range 8).reverse.find? (fun p => x.pePin (s.pinOwner i - 8) p == some i) =
        (List.range 8).reverse.find? (fun p => s.pePin (s.pinOwner i - 8) p == some i) := by
      refine find?_eq_of_forall_mem _ fun p hp => ?_
      rw [h.pePin (by omega) (by simpa using hp)]
    rw [e, h.pe]
  · rw [h.flag (v := F.TMm_STAT_OUT _) (by simp only [SideReg, F.TMm_STAT_OUT, R.TMm_STAT]; omega),
      h.flag (v := F.TMm_CTRL_OUT_INV _) (by simp only [SideReg, F.TMm_CTRL_OUT_INV, R.TMm_CTRL]; omega)]

theorem pinsFollow (h : SideSame s x) (hs : s.pinsFollow) : x.pinsFollow := by
  intro i hi
  rw [h.sbd, h.pinDrive hi]; exact hs i hi

end SideSame

/-! ## Pins -/

/-- The number whose bits below `n` are those of `g`. -/
def bitSum (g : Nat → Bool) (n : Nat) : Nat := (List.range n).foldl (fun a i => a + 2 ^ i * b2n (g i)) 0

theorem bitSum_succ (g : Nat → Bool) (n : Nat) : bitSum g (n + 1) = bitSum g n + 2 ^ n * b2n (g n) := by
  unfold bitSum; rw [List.range_succ, List.foldl_append]; rfl

theorem bitSum_lt (g : Nat → Bool) (n : Nat) : bitSum g n < 2 ^ n := by
  induction n with
  | zero => exact Nat.one_pos
  | succ n ih =>
    rw [bitSum_succ, Nat.pow_succ]
    cases g n <;> simp [b2n] <;> omega

theorem testBit_bitSum (g : Nat → Bool) (n i : Nat) : (bitSum g n).testBit i = (decide (i < n) && g i) := by
  induction n with
  | zero => simp [bitSum]
  | succ n ih =>
    rw [bitSum_succ, Nat.add_comm, Nat.testBit_two_pow_mul_add _ (bitSum_lt g n), ih]
    by_cases h : i < n
    · simp [h, Nat.lt_succ_of_lt h]
    · rw [if_neg h]
      by_cases e : i = n
      · subst e; cases g i <;> simp [b2n]
      · have h0 : Nat.testBit 1 (i - n) = false := Nat.testBit_lt_two_pow (Nat.one_lt_two_pow (by omega))
        have h1 : ¬i < n + 1 := by omega
        cases g n <;> simp [b2n, h1, h0]

/-- The bits of a word that the block drives pin by pin. -/
theorem getLsbD_ofNat_bitSum (g : Nat → Bool) {i : Nat} (hi : i < 32) : (BitVec.ofNat 32 (bitSum g 32)).getLsbD i = g i := by
  rw [BitVec.getLsbD_ofNat, testBit_bitSum]; simp [hi]

theorem State.updatePinsIn_sbd (s : State) (lag : Nat) : ∃ drv, (s.updatePinsIn lag).sbd = { s.sbd with
    outLvl := BitVec.ofNat 32 (bitSum (fun i => (s.pinDrive i).1 && (s.pinDrive i).2) 32)
    outEn := BitVec.ofNat 32 (bitSum (fun i => (s.pinDrive i).2) 32), drv := drv } := by
  have e (g : Bool × Bool → Bool) : (((List.range 32).map fun i => (i, s.pinDrive i)).foldl (fun a p => a + 2 ^ p.1 * b2n (g p.2)) 0) =
      bitSum (fun i => g (s.pinDrive i)) 32 := by rw [List.foldl_map]; rfl
  unfold State.updatePinsIn; extract_lets ps lvl en new drv
  have hl : lvl = bitSum (fun i => (s.pinDrive i).1 && (s.pinDrive i).2) 32 := e fun p => p.1 && p.2
  have he : en = bitSum (fun i => (s.pinDrive i).2) 32 := e fun p => p.2
  rw [← hl, ← he]
  split
  · rename_i h
    refine ⟨s.sbd.drv, ?_⟩
    rw [h.1, h.2, BitVec.ofNat_toNat, BitVec.ofNat_toNat, BitVec.setWidth_eq, BitVec.setWidth_eq]
  · exact ⟨_, rfl⟩

@[simp] theorem State.updatePinsIn_crp (s : State) (lag : Nat) : (s.updatePinsIn lag).crp = s.crp := by
  unfold State.updatePinsIn; extract_lets; split <;> rfl

@[simp] theorem State.updatePinsIn_reg (s : State) (lag off : Nat) : (s.updatePinsIn lag).reg off = s.reg off := by
  unfold State.updatePinsIn; extract_lets; split <;> rfl

@[simp] theorem State.updatePins_crp (s : State) : s.updatePins.crp = s.crp := s.updatePinsIn_crp 0

@[simp] theorem State.updatePins_reg (s : State) (off : Nat) : s.updatePins.reg off = s.reg off := s.updatePinsIn_reg 0 off

@[simp] theorem State.updatePins_f (s : State) (x : Fld) : s.updatePins.f x = s.f x := by unfold State.f; rw [s.updatePins_reg]

@[simp] theorem State.updatePins_flag (s : State) (x : Fld) : s.updatePins.flag x = s.flag x := by unfold State.flag; rw [s.updatePins_f]

@[simp] theorem State.updatePins_pe (s : State) (n : Nat) : s.updatePins.pe n = s.pe n := by
  obtain ⟨drv, h⟩ := s.updatePinsIn_sbd 0
  unfold State.pe State.updatePins; rw [h]

@[simp] theorem State.updatePins_tm (s : State) (m : Nat) : s.updatePins.tm m = s.tm m := by
  obtain ⟨drv, h⟩ := s.updatePinsIn_sbd 0
  unfold State.tm State.updatePins; rw [h]

theorem State.updatePins_pinDrive (s : State) (i : Nat) : s.updatePins.pinDrive i = s.pinDrive i := by
  unfold State.pinDrive State.pinOwner State.pePin; simp

/-- The pins show what their owners drive (R541, R542). -/
theorem State.updatePins_pinsFollow (s : State) : s.updatePins.pinsFollow := by
  intro i hi
  obtain ⟨drv, h⟩ := s.updatePinsIn_sbd 0
  rw [s.updatePins_pinDrive, State.updatePins, h]
  exact ⟨getLsbD_ofNat_bitSum _ hi, getLsbD_ofNat_bitSum _ hi⟩

/-! ## Frames -/

theorem Frame.raise {but : List Part} {regs : Nat → Bool} (s : State) {n : Nat} (hn : n < 4096) : Frame s (s.raise n) but regs :=
  .of_still (s.raise_still n) (fun _ hc _ => s.raise_reg hn hc) (s.raise_out n)

theorem Frame.setF {but : List Part} {regs : Nat → Bool} (s : State) (f : Fld) (v : Nat) (h : regs f.off = true) :
    Frame s (s.setF f v) but regs := .setReg s f.off _ h

theorem Frame.updatePins {but : List Part} {regs : Nat → Bool} (s : State) (h : Part.pins ∈ but) : Frame s s.updatePins but regs := by
  unfold State.updatePins State.updatePinsIn; extract_lets; split
  · exact .refl s but regs
  · exact (Frame.sbd s _ h).trans (.emit _ _)

theorem Frame.untouched {s x : State} {but : List Part} {regs : Nat → Bool} (h : Frame s x but regs) : Untouched s x but regs :=
  ⟨h.queue, fun p hp hq _ => h.parts p hp hq, fun off hc hr _ => h.regs off hc hr⟩

namespace Untouched

variable {s x y : State} {but : List Part} {regs : Nat → Bool}

/-- Drifts that execute no command at the start execute none after what leaves the stream engine alone. -/
theorem trans (h1 : Untouched s x but regs) (h2 : Untouched x y but regs) (hs : Part.streams ∉ but) : Untouched s y but regs where
  queue := h2.queue.trans h1.queue
  parts p hp hq hd := by
    refine Part.same_trans (h1.parts p hp hq hd) (h2.parts p hp hq fun hp' => ?_)
    have hstr : x.str = s.str := h1.parts .streams hs (by decide) fun _ => hd hp'
    rw [hstr]; exact hd hp'
  regs off hc hr hd := by
    refine (h2.regs off hc hr fun hp' => ?_).trans (h1.regs off hc hr hd)
    have hstr : x.str = s.str := h1.parts .streams hs (by decide) fun _ => hd hp'
    rw [hstr]; exact hd hp'

theorem late (h : Untouched s x but regs) (hi : Part.image ∉ but) : x.cfg.late = s.cfg.late := by
  have hc : Part.same s x .image := h.parts .image hi (by decide) fun hd => by cases hd
  have hc : x.cfg = { s.cfg with expert := x.cfg.expert, wrAt := x.cfg.wrAt } := hc
  rw [hc]

/-- Time passes, the drifts at work in it. -/
theorem pass (s : State) (n : Nat) : Untouched s (s.pass n) but regs where
  queue := s.pass_pending n
  parts p _ hq hd := by
    cases p with
    | image => show _ = _; rw [s.pass_cfg]
    | links =>
      have hr := hd rfl
      show _ = _; rw [State.pass_idle hr, s.wait_lnk]
    | queues =>
      show (s.wait n).catchUp.que = { s.que with clock := (s.wait n).catchUp.que.clock, msgClock := (s.wait n).catchUp.que.msgClock }
      rw [(s.wait n).catchUp_que]; rfl
    | streams =>
      have hr := hd rfl
      show _ = _; rw [State.pass_idle hr, s.wait_str]
    | tandem => show _ = _; rw [s.pass_tnd]
    | threads => simp [Part.same]
    | memory => exact s.pass_mem n
    | vowick => exact s.pass_vwk n
    | pins => exact s.pass_sbd n
    | ports => exact absurd rfl hq
    | reset => exact s.pass_crp n
    | debug => show _ = _; rw [s.pass_dbg]
  regs off hc _ hd := by
    cases hdr : driftReg off with
    | false => exact (s.wait n).catchUp_reg hc hdr
    | true => rw [State.pass_idle (hd hdr), s.wait_reg]

/-- A command whose effect leaves the rest alone acts within its frame. -/
theorem acts {P : State → Prop} (h : Untouched s x but regs) (hs : Part.streams ∉ but) (hP : P x.settle) : Acts (done x) s but regs P :=
  ⟨x.settle, rfl, hP, h.trans (Frame.refl x but regs).settle.untouched hs⟩

end Untouched

end Sys2Proof.Machine
end

section
/-! Writes of the sideband's registers: what the register at hand takes of a word, the check of the guard, and the end at the source. -/

namespace Sys2Proof.Machine

/-! ## The end of an access -/

theorem Onward.endAcc (x : State) (src : RegSrc) (v : Word) (e : Bool) : Onward x (x.endAcc src v e) := by
  cases src with
  | thread t => exact .refl x
  | csp =>
    unfold State.endAcc; dsimp only; split
    · exact (Onward.hit x _ (by decide)).trans (.emit _ _)
    · exact .emit x _
  | debug =>
    unfold State.endAcc; dsimp only; split
    · exact (Onward.of_regs rfl fun _ _ => rfl : Onward x { x with dbg := { x.dbg with rdata := v, accErr := e } }).trans
        (.hit _ _ (by decide))
    · exact .of_regs rfl fun _ _ => rfl

theorem State.endAcc_crp (x : State) (src : RegSrc) (v : Word) (e : Bool) : (x.endAcc src v e).crp = x.crp := by
  unfold State.endAcc; split
  · split <;> rfl
  · dsimp only; split <;> rfl
  · rfl

/-- `y` is what becomes of `x` once its access of `src` has ended with data `v` and error status `e`. -/
structure AccEnd (x : State) (src : RegSrc) (v : Word) (e : Bool) (y : State) : Prop extends SideSame x y where
  ft : y.sch.ft = x.sch.ft
  ack : src = .csp → ∀ s : State, s.out <+: x.out → Emits s y (.cspAck v e)

theorem State.endAcc_accEnd (x : State) (src : RegSrc) (v : Word) (e : Bool) : AccEnd x src v e (x.endAcc src v e).settle where
  sbd := by rw [State.settle_sbd, State.endAcc_sbd]
  crp := by rw [State.settle_crp, State.endAcc_crp]
  regs off h := x.endAcc_settle_reg src v e h.calm fun _ => by
    obtain ⟨h1, h2⟩ := h; simp only [R.GLB_PORT_STAT, R.DBG_STAT]; omega
  ft := ((Onward.endAcc x src v e).trans (.settle _)).ft
  ack hsrc s hs := by
    subst hsrc
    exact .of_prefix hs (by rw [← State.endAcc_csp_out]; exact State.settle_out _)

/-- The end of an access whose effect leaves the rest alone. -/
theorem Untouched.acts_endAcc {s x : State} {but : List Part} {regs : Nat → Bool} {src : RegSrc} {v : Word} {e : Bool} {P : State → Prop}
    (h : Untouched s x but regs) (hs : Part.streams ∉ but) (he : e = true → regs R.GLB_PORT_STAT = true ∧ regs R.DBG_STAT = true)
    (hP : ∀ y, AccEnd x src v e y → P y) : Acts (done (x.endAcc src v e)) s but regs P :=
  (h.trans (Frame.endAcc x src v e he).untouched hs).acts hs (hP _ (x.endAcc_accEnd src v e))

/-! ## Basic registers of the sideband -/

/-- The table's register at `off` is basic, with no bits that a write clears. -/
def basicAt (off : Nat) : Bool := off % 4 == 0 && decide (0x3C0400 ≤ off) && decide (off < 0x3E0000) &&
  (regAt off).any fun d => !d.expert && d.w1c == 0

/-- The expert register at `off` takes the bits `rw` of a write and none besides, and none of them is cleared by a write. -/
def expertAt (off rw : Nat) : Bool := off % 4 == 0 && decide (0x3C0100 ≤ off) && decide (off < 0x3E0000) &&
  (regAt off).any fun d => d.expert && d.rw == rw && d.w1c == 0 && d.wo == 0

theorem State.csrWrite_basic {s : State} {src : RegSrc} {off : Nat} (h : Reaches s src off) (hb : basicAt off = true) (data : Word) {x : State}
    (hx : ∀ d, (s.noteWrite src).writeSide d off data = x) (hl : x.cfg.late = s.cfg.late) :
    s.csrWrite src off 2 data = x.endAcc src 0 false := by
  simp only [basicAt, Bool.and_eq_true, beq_iff_eq, decide_eq_true_eq, Option.any_eq_true, Bool.not_eq_true'] at hb
  obtain ⟨⟨⟨h4, hlo⟩, hhi⟩, d, hd, he, hw⟩ := hb
  have hk (y : State) : y.keepHits d off = y := by unfold State.keepHits; simp [hw]
  have hr : dbgRegion off = false := by simp [dbgRegion]; omega
  have hv : off ≠ R.VWK_CTRL := by simp only [R.VWK_CTRL]; omega
  have hc : off ≠ R.CRP_LINK_RST := by simp only [R.CRP_LINK_RST]; omega
  have hbw : (s.noteWrite src).bWrite src d off data = x := by
    unfold State.bWrite
    rw [if_neg (by omega), if_neg (by omega), if_neg (by omega), if_pos ⟨by omega, hhi⟩, hx]
  have hw' : s.writeAcc src off 2 data = { data := 0, err := false, s := x } := by
    rw [State.writeAcc_reg h.toServed h4 (by omega) (by simp only [R.GLB_CTRL]; omega)]
    unfold State.regWrite; simp [hd, hr, he, hv, hc, hbw, hk]
  exact State.csrWrite_served h.toServed hw' (hl.trans h.alone)

/-! ## Expert registers of the sideband -/

/-- The bits `rw` of `new` are those of `data`. -/
def Takes (rw : Nat) (data : Word) (new : Nat) : Prop := ∀ i < 32, rw.testBit i = true → new.testBit i = data.getLsbD i

/-- What a write of an expert register does beside the check of the guard. -/
def State.xTake (s : State) (off new act : Nat) : Bool × State := match famOf (R.SBD_PINSELi 0) 4 8 off with
  | some i => (false, s.ownerWrite i new)
  | none => s.xPut off new act

/-- A write that may have changed a guarded bit (R141). -/
def Guarded (off : Nat) (x y : State) : Prop := y = x ∨ y = x.voidContract off

theorem Frame.voidContract {but : List Part} {regs : Nat → Bool} (s : State) (off : Nat) (h : regs R.CONTRACT_STAT = true) :
    Frame s (s.voidContract off) but regs := by
  unfold State.voidContract; extract_lets s1
  have h1 : Frame s s1 but regs := by
    show Frame s (if _ then _ else _) but regs
    split
    · exact .refl s but regs
    · exact .setF s _ _ h
  exact (h1.trans (.setB _ _ _ h)).trans (.raise _ (by decide))

theorem Guarded.frame {but : List Part} {regs : Nat → Bool} {off : Nat} {x y : State} (h : Guarded off x y)
    (hc : regs R.CONTRACT_STAT = true) : Frame x y but regs := by
  obtain rfl | rfl := h
  · exact .refl _ but regs
  · exact .voidContract x off hc

theorem Onward.voidContract (s : State) (off : Nat) : Onward s (s.voidContract off) := by
  unfold State.voidContract; extract_lets s1
  have h1 : Onward s s1 := by
    show Onward s (if _ then _ else _)
    split
    · exact .refl s
    · exact .setF s _ _ (by decide)
  exact (h1.trans (.setF _ _ _ (by decide))).trans (.raise _ _)

theorem Guarded.onward {off : Nat} {x y : State} (h : Guarded off x y) : Onward x y := by
  obtain rfl | rfl := h
  · exact .refl _
  · exact .voidContract x off

theorem Guarded.sideSame {off : Nat} {x y : State} (h : Guarded off x y) : SideSame x y := by
  have hf : Frame x y [] (fun o => o == R.CONTRACT_STAT) := h.frame (by decide)
  exact ⟨hf.parts .pins (by decide) (by decide), hf.parts .reset (by decide) (by decide), fun o ho => hf.regs o ho.calm (by
    obtain ⟨h1, h2⟩ := ho; simp only [R.CONTRACT_STAT, beq_eq_false_iff_ne]; omega)⟩

theorem State.expertOn_of_unlocked {s : State} (src : RegSrc) (h : s.unlocked) : (s.noteWrite src).expertOn = true := by
  obtain ⟨c, hc, hn⟩ := h
  unfold State.expertOn State.noteWrite; simp [hc, hn]

theorem RegDef.merge_takes {d : RegDef} {rw : Nat} (hr : d.rw = rw) (hw : d.w1c = 0) (old data : Word) : Takes rw data (d.merge old data).toNat := by
  intro i hi hb
  rw [BitVec.testBit_toNat]
  unfold RegDef.merge
  simp only [BitVec.getLsbD_or, BitVec.getLsbD_and, BitVec.getLsbD_not, BitVec.getLsbD_ofNat, hi, decide_true, Bool.true_and, hr, hw, hb]
  simp

/-- A write of an expert register with access open: what its register takes, and the check of the guard (R18, R141). -/
theorem State.xWrite_open {s : State} (h : s.expertOn = true) (d : RegDef) (off : Nat) (data : Word) :
    let r := s.xTake off (d.merge (BitVec.ofNat 32 (s.xView off)) data).toNat (data.toNat &&& d.wo)
    ∃ y, Guarded off r.2 y ∧ s.xWrite d off data = { data := 0, err := r.1, s := y } := by
  intro r
  have hx : ∃ b : Bool, s.xWrite d off data = { data := 0, err := r.1, s := if b then r.2.voidContract off else r.2 } := by
    unfold State.xWrite; rw [if_neg (by simp [h])]; exact ⟨_, rfl⟩
  obtain ⟨b, hx⟩ := hx
  cases b with
  | true => exact ⟨_, .inr rfl, hx⟩
  | false => exact ⟨_, .inl rfl, hx⟩

/-- A write of an expert register with access open (R18, R138): what the register takes, the check of the guard, and the end. -/
theorem State.csrWrite_open {s : State} {src : RegSrc} {off rw : Nat} (h : Reaches s src off) (hx : s.unlocked) (hb : expertAt off rw = true)
    (data : Word) : ∃ new, Takes rw data new ∧ new < 2 ^ 32 ∧ ∀ e x, (s.noteWrite src).xTake off new 0 = (e, x) → x.cfg.late = s.cfg.late →
      ∃ y, Guarded off x y ∧ s.csrWrite src off 2 data = y.endAcc src 0 e := by
  simp only [expertAt, Bool.and_eq_true, beq_iff_eq, decide_eq_true_eq, Option.any_eq_true] at hb
  obtain ⟨⟨⟨h4, hlo⟩, hhi⟩, d, hd, ⟨⟨he, hr⟩, hw⟩, ho⟩ := hb
  refine ⟨(d.merge (BitVec.ofNat 32 ((s.noteWrite src).xView off)) data).toNat, RegDef.merge_takes hr hw _ _, BitVec.isLt _, fun e x ht hl => ?_⟩
  have hreg : dbgRegion off = false := by simp [dbgRegion]; omega
  have hv : off ≠ R.VWK_CTRL := by simp only [R.VWK_CTRL]; omega
  have hc : off ≠ R.CRP_LINK_RST := by simp only [R.CRP_LINK_RST]; omega
  obtain ⟨y, hy, hg⟩ := (s.noteWrite src).xWrite_open (State.expertOn_of_unlocked src hx) d off data
  rw [ho, Nat.and_zero, ht] at hy hg
  have hl' : y.cfg.late = s.cfg.late := by
    have hf : Frame x y [] (fun o => o == R.CONTRACT_STAT) := hy.frame (by decide)
    rw [hf.untouched.late (by decide), hl]
  have hw' : s.writeAcc src off 2 data = { data := 0, err := e, s := y } := by
    rw [State.writeAcc_reg h.toServed h4 (by omega) (by simp only [R.GLB_CTRL]; omega)]
    unfold State.regWrite; simp [hd, hreg, he, hv, hc, hg]
  exact ⟨y, hy, State.csrWrite_served h.toServed hw' (hl'.trans h.alone)⟩

/-- A write of an expert register with access open acts within the frame of what its register takes. -/
theorem acts_open {s : State} {src : RegSrc} {off rw : Nat} {but : List Part} {regs : Nat → Bool} {P : State → Prop}
    (h : Reaches s src off) (hx : s.unlocked) (hb : expertAt off rw = true) (data : Word) (hc : regs R.CONTRACT_STAT = true)
    (hs : Part.streams ∉ but) (hi : Part.image ∉ but)
    (ht : ∀ new, Takes rw data new → new < 2 ^ 32 → ∃ e x, (s.noteWrite src).xTake off new 0 = (e, x) ∧
      Untouched (s.noteWrite src) x but regs ∧ (e = true → regs R.GLB_PORT_STAT = true ∧ regs R.DBG_STAT = true) ∧
      ∀ y, AccEnd x src 0 e y → P y) : Acts (done (s.csrWrite src off 2 data)) s but regs P := by
  obtain ⟨new, hn, h32, hw⟩ := State.csrWrite_open h hx hb data
  obtain ⟨e, x, hx, hu, he, hP⟩ := ht new hn h32
  have hu' : Untouched s x but regs := (Frame.noteWrite s src).untouched.trans hu hs
  obtain ⟨y, hy, hw⟩ := hw e x hx (hu'.late hi)
  rw [hw]
  refine (hu'.trans (hy.frame hc).untouched hs).acts_endAcc hs he fun z hz => hP z ?_
  have hyo : Frame x y [] (fun o => o == R.CONTRACT_STAT) := hy.frame (by decide)
  exact { hy.sideSame.trans hz.toSideSame with
    ft := hz.ft.trans hy.onward.ft
    ack := fun hsrc s hs => hz.ack hsrc s (hs.trans hyo.out) }

end Sys2Proof.Machine
end

section
/-! The registers of the pins and of a pin engine: what owner fields, PEn_CTRL, the feed, the program store, PEn_BASE, the pin map and
the depths take of a write. -/

namespace Sys2Proof.Machine

theorem State.f_of_reg {a b : State} {x : Fld} (h : a.reg x.off = b.reg x.off) : a.f x = b.f x := by unfold State.f; rw [h]

theorem State.flag_of_reg {a b : State} {x : Fld} (h : a.reg x.off = b.reg x.off) : a.flag x = b.flag x := by
  unfold State.flag; rw [State.f_of_reg h]

theorem State.flag_setB_beside (s : State) (x y : Fld) (b : Bool) (hoff : y.off = x.off) (h : y.lo + y.w ≤ x.lo ∨ x.lo + x.w ≤ y.lo) :
    (s.setB x b).flag y = s.flag y := by
  unfold State.flag State.setB; rw [s.f_setF_beside x y _ hoff h]

/-! ## What a register takes of a word -/

/-- A field that lies in the bits taken is that of the data. -/
theorem Takes.bits {rw : Nat} {data : Word} {new lo w : Nat} (h : Takes rw data new) (hw : ∀ i < w, rw.testBit (lo + i) = true)
    (h32 : lo + w ≤ 32) : bits new lo w = bits data.toNat lo w := by
  refine Nat.eq_of_testBit_eq fun i => ?_
  rw [testBit_bits, testBit_bits]
  by_cases hi : i < w
  · rw [h (lo + i) (by omega) (hw i hi), BitVec.testBit_toNat]
  · simp [hi]

theorem Takes.ofNat {data : Word} {new : Nat} (h : Takes 0xFFFFFFFF data new) : BitVec.ofNat 32 new = data := by
  refine BitVec.eq_of_getLsbD_eq fun i hi => ?_
  rw [BitVec.getLsbD_ofNat, h i hi ((by decide : ∀ i < 32, Nat.testBit 0xFFFFFFFF i = true) i hi)]; simp [hi]

theorem Takes.and {rw : Nat} {data : Word} {new : Nat} (h : Takes rw data new) : BitVec.ofNat 32 (new &&& rw) = data &&& BitVec.ofNat 32 rw := by
  refine BitVec.eq_of_getLsbD_eq fun i hi => ?_
  rw [BitVec.getLsbD_ofNat, BitVec.getLsbD_and, BitVec.getLsbD_ofNat, Nat.testBit_and]
  cases hr : rw.testBit i with
  | true => simp [hi, h i hi hr]
  | false => simp

/-! ## Where the registers lie -/

theorem regAt_of_has {d : RegDef} {lo hi off : Nat} (hd : d ∈ regTable) (hall : ∀ e ∈ regTable, e.base + e.s1 * e.n1 ≤ lo ∨ hi ≤ e.base ∨ e = d)
    (h : d.has off = true) (hlo : lo ≤ off) (hhi : off < hi) : regAt off = some d := by
  cases hr : regAt off with
  | none => exact absurd h (List.find?_eq_none.1 hr d hd)
  | some e =>
    have hlt := regAt_lt hr
    have hb : e.has off = true := List.find?_some (p := fun e : RegDef => e.has off) hr
    simp only [RegDef.has, Bool.and_eq_true, decide_eq_true_eq] at hb
    obtain ⟨⟨⟨hb, -⟩, -⟩, -⟩ := hb
    obtain h1 | h1 | h1 := hall e (regAt_mem hr)
    · omega
    · omega
    · rw [h1]

theorem regAt_peProg (n : Fin 8) (w : Fin 512) :
    regAt (R.PEn_PROG n w) = some ⟨0x3C2000, 2048, 8, 4, 512, 0, true, 0xFFFFFFFF, 0, 0, 0, 0⟩ := by
  have hn := n.isLt
  have hw := w.isLt
  refine regAt_of_has (lo := 0x3C2000) (hi := 0x3C6000) (by decide +kernel) (by decide +kernel) ?_ ?_ ?_
  · simp only [RegDef.has, Bool.and_eq_true, decide_eq_true_eq, beq_iff_eq]
    simp only [R.PEn_PROG]; omega
  · simp only [R.PEn_PROG]; omega
  · simp only [R.PEn_PROG]; omega

theorem expertAt_peProg (n : Fin 8) (w : Fin 512) : expertAt (R.PEn_PROG n w) 0xFFFFFFFF = true := by
  have hn := n.isLt
  have hw := w.isLt
  simp only [expertAt, regAt_peProg, Bool.and_eq_true, decide_eq_true_eq, beq_iff_eq]
  simp only [R.PEn_PROG]
  exact ⟨⟨⟨by omega, by omega⟩, by omega⟩, by decide⟩

/-- The expert registers of the pins and of an engine, but for its program store, and the bits that they take. -/
theorem expertAt_engine (n : Fin 8) : expertAt (R.SBD_PINSELi n) 0x1F1F1F1F = true ∧ expertAt (R.PEn_BASE n) 0xFF = true ∧
    expertAt (R.PEn_PINMAP_LO n) 0x9F9F9F9F = true ∧ expertAt (R.PEn_PINMAP_HI n) 0x9F9F9F9F = true ∧
    expertAt (R.PEn_DEPTH n) 0xF0F = true := by
  revert n; decide +kernel

theorem basicAt_engine (n : Fin 8) : basicAt (R.PEn_CTRL n) = true ∧ basicAt (R.PEn_FEED n) = true := by
  revert n; decide +kernel

theorem State.xTake_pinsel (s : State) (n : Fin 8) (new act : Nat) : s.xTake (R.SBD_PINSELi n) new act = (false, s.ownerWrite n new) := by
  unfold State.xTake; rw [(by decide +kernel : ∀ n : Fin 8, famOf (R.SBD_PINSELi 0) 4 8 (R.SBD_PINSELi n) = some n.val) n]

theorem State.xTake_of_le (s : State) {off : Nat} (h : 0x3C1000 ≤ off) (new act : Nat) : s.xTake off new act = s.xPut off new act := by
  have hf : famOf (R.SBD_PINSELi 0) 4 8 off = none := by
    unfold famOf; rw [if_neg]; simp only [R.SBD_PINSELi]; omega
  unfold State.xTake; rw [hf]

theorem State.xTake_peProg (s : State) (n : Fin 8) (w : Fin 512) (new act : Nat) : s.xTake (R.PEn_PROG n w) new act = s.peProg n w new := by
  have hn := n.isLt
  have hw := w.isLt
  have hoff : R.PEn_PROG n w = 0x3C2000 + 2048 * n.val + 4 * w.val := rfl
  rw [s.xTake_of_le (by omega)]
  have h0 (r : Nat) (hr : r < 0x3C1000) : R.PEn_PROG n w ≠ r := by omega
  have hidx : famIdx (R.PEn_PROG 0 0) 2048 (R.PEn_PROG n w) = n.val := by simp only [famIdx, R.PEn_PROG]; omega
  have hword : (R.PEn_PROG n w - R.PEn_PROG n 0) / 4 = w.val := by simp only [R.PEn_PROG]; omega
  unfold State.xPut; dsimp only
  rw [if_neg (h0 _ (by decide)), if_neg (h0 _ (by decide)), if_neg (h0 _ (by decide)), if_neg (h0 _ (by decide)),
    if_neg (by simp only [R.LNK_Ln_CTRL]; omega), if_neg (by simp only [R.LNK_LGn_CFG]; omega), if_neg (by simp only [R.LNK_LGn_CFG]; omega),
    if_neg (by simp only [R.SBD_PINSELi]; omega), if_pos (by simp only [R.PEn_PROG]; omega), hidx, hword]

/-- The registers of an engine that an expert write reaches through its block. -/
theorem State.xTake_engine (s : State) (n : Fin 8) (new act : Nat) : s.xTake (R.PEn_BASE n) new act = s.peBase n new ∧
    s.xTake (R.PEn_PINMAP_LO n) new act = s.pePinmap n false new ∧ s.xTake (R.PEn_PINMAP_HI n) new act = s.pePinmap n true new ∧
    s.xTake (R.PEn_DEPTH n) new act = s.peDepth n new := by
  match n with
  | 0 | 1 | 2 | 3 | 4 | 5 | 6 | 7 => exact ⟨rfl, rfl, rfl, rfl⟩

/-! ## Owners (R541, R542) -/

theorem updatePins_sch (s : State) : s.updatePins.sch = s.sch := by
  unfold State.updatePins State.updatePinsIn; extract_lets; split <;> rfl

/-- The four owner fields of a register as they are put together. -/
theorem bits_owners (v : Nat → Nat) (hv : ∀ j, v j < 32) {j : Nat} (hj : j < 4) :
    bits (BitVec.ofNat 32 ((List.range 4).foldl (fun a j => a + 2 ^ (8 * j) * v j) 0)).toNat (8 * j) 5 = v j := by
  have e : (List.range 4).foldl (fun a j => a + 2 ^ (8 * j) * v j) 0 = v 0 + 2 ^ 8 * v 1 + 2 ^ 16 * v 2 + 2 ^ 24 * v 3 := by
    simp [List.range_succ]
  have h0 := hv 0
  have h1 := hv 1
  have h2 := hv 2
  have h3 := hv 3
  rw [e, bits, Nat.shiftRight_eq_div_pow, BitVec.toNat_ofNat]
  obtain rfl | rfl | rfl | rfl : j = 0 ∨ j = 1 ∨ j = 2 ∨ j = 3 := by omega
  all_goals omega

/-- An owner field takes its code, or keeps what it held where the code is reserved (R541). -/
theorem State.bits_ownerSet (s : State) (i d : Nat) {j : Nat} (hj : j < 4) :
    bits ((s.ownerSet i d).reg (R.SBD_PINSELi i)).toNat (8 * j) 5 =
      if ownerOk (bits d (8 * j) 5) then bits d (8 * j) 5 else bits (s.reg (R.SBD_PINSELi i)).toNat (8 * j) 5 := by
  have hb (x lo : Nat) : bits x lo 5 < 32 := Nat.mod_lt _ (by decide)
  unfold State.ownerSet; extract_lets old new
  rw [State.updatePins_reg, State.reg_setReg_same]
  exact bits_owners (fun j => if ownerOk (bits d (8 * j) 5) then bits d (8 * j) 5 else bits old (8 * j) 5)
    (fun j => by split <;> exact hb _ _) hj

/-- The next CK_SB cycle begins at a multiple of 64 (R64). -/
theorem State.passFt_nextEdge (s : State) (h : s.crp.mainUp = true) : (s.passFt (s.nextEdge 64 (some s.sch.ft))).sch.ft.toNat % 64 = 0 := by
  have hf : (s.passFt (s.nextEdge 64 (some s.sch.ft))).sch.ft =
      s.sch.ft + BitVec.ofNat 64 (s.nextEdge 64 (some s.sch.ft) - s.sch.ft.toNat) := by
    rw [State.passFt, State.catchUp_ft]
    unfold State.waitFt State.wait; dsimp only; rw [if_pos h]
  have he : s.nextEdge 64 (some s.sch.ft) = (s.sch.ft.toNat / 64 + 1) * 64 := by unfold State.nextEdge; simp
  have hlt := s.sch.ft.isLt
  rw [hf, he, BitVec.toNat_add, BitVec.toNat_ofNat]; omega

theorem acts_sbOwnerChange {s : State} {src : RegSrc} {n : Fin 8} (data : Word) (h : Reaches s src (R.SBD_PINSELi n)) (hx : s.unlocked) :
    Acts (exec (.sbOwnerChange src n data) s) s [.pins] (span (R.SBD_PINSELi n) 4) fun s' =>
      s'.sch.ft.toNat % 64 = 0 ∧ s'.pinsFollow ∧ ∀ j < 4, bits (s'.reg (R.SBD_PINSELi n)).toNat (8 * j) 5 =
        let c := bits data.toNat (8 * j) 5
        if c = 0 ∨ c = 1 ∨ 8 ≤ c then c else bits (s.reg (R.SBD_PINSELi n)).toNat (8 * j) 5 := by
  have hn := n.isLt
  have hspan : span (R.SBD_PINSELi n) 4 (R.SBD_PINSELi n) = true := by simp [span]
  have hside : SideReg (R.SBD_PINSELi n) := by simp only [SideReg, R.SBD_PINSELi]; omega
  have hup : s.crp.mainUp = true := h.main.resolve_right (by
    rw [(by decide +kernel : ∀ n : Fin 8, headServed (R.SBD_PINSELi n) = false) n]; decide)
  refine acts_open h hx (expertAt_engine n).1 data (by simp [span]) (by decide) (by decide) fun new hnew _ => ?_
  let t := s.noteWrite src
  let u := t.passFt (t.nextEdge 64 (some t.sch.ft))
  refine ⟨false, u.ownerSet n new, t.xTake_pinsel n new 0, ?_, (fun h => by cases h), fun y hy => ⟨?_, ?_, fun j hj => ?_⟩⟩
  · exact (Untouched.pass t _).trans
      ((Frame.setReg u _ _ hspan).trans (.updatePins _ (List.mem_singleton.2 rfl))).untouched (by decide)
  · have hft : (u.ownerSet n new).sch.ft = u.sch.ft := congrArg SchState.ft (updatePins_sch _)
    rw [hy.ft, hft]; exact t.passFt_nextEdge hup
  · exact hy.toSideSame.pinsFollow (State.updatePins_pinsFollow _)
  · have hold : u.reg (R.SBD_PINSELi n) = s.reg (R.SBD_PINSELi n) := (SideSame.pass t _).regs _ hside
    have hc : bits new (8 * j) 5 = bits data.toNat (8 * j) 5 := hnew.bits
      (fun i hi => (by decide : ∀ j < 4, ∀ i < 5, Nat.testBit 0x1F1F1F1F (8 * j + i) = true) j hj i hi) (by omega)
    rw [hy.regs _ hside, State.bits_ownerSet _ _ _ hj, hold, hc]
    simp [ownerOk, or_assoc]

/-! ## The frame of an engine's registers -/

/-- The block of engine `n`, and the status registers of the guard and of errors at the sources. -/
def peOwn (n off : Nat) : Bool := (decide (R.PEn_CTRL n ≤ off) && decide (off < R.PEn_CTRL n + 64)) || off == R.CONTRACT_STAT ||
  off == R.GLB_PORT_STAT || off == R.DBG_STAT

theorem peOwn_block {n off : Nat} (h : R.PEn_CTRL n ≤ off ∧ off < R.PEn_CTRL n + 64) : peOwn n off = true := by simp [peOwn, h]

theorem peOwn_errors (n : Nat) : peOwn n R.CONTRACT_STAT = true ∧ peOwn n R.GLB_PORT_STAT = true ∧ peOwn n R.DBG_STAT = true := by
  simp [peOwn]

/-- The registers of engine `n` lie in its block. -/
theorem peOwn_regs (n : Nat) : peOwn n (R.PEn_CTRL n) = true ∧ peOwn n (R.PEn_BASE n) = true ∧ peOwn n (R.PEn_PINMAP_LO n) = true ∧
    peOwn n (R.PEn_PINMAP_HI n) = true ∧ peOwn n (R.PEn_STAT n) = true ∧ peOwn n (R.PEn_DEPTH n) = true := by
  refine ⟨peOwn_block ?_, peOwn_block ?_, peOwn_block ?_, peOwn_block ?_, peOwn_block ?_, peOwn_block ?_⟩
  all_goals simp only [R.PEn_CTRL, R.PEn_BASE, R.PEn_PINMAP_LO, R.PEn_PINMAP_HI, R.PEn_STAT, R.PEn_DEPTH]; omega

theorem sideReg_engine {n : Nat} (hn : n < 8) : SideReg (R.PEn_CTRL n) ∧ SideReg (R.PEn_BASE n) ∧ SideReg (R.PEn_PINMAP_LO n) ∧
    SideReg (R.PEn_PINMAP_HI n) ∧ SideReg (R.PEn_STAT n) ∧ SideReg (R.PEn_DEPTH n) := by
  simp only [SideReg, R.PEn_CTRL, R.PEn_BASE, R.PEn_PINMAP_LO, R.PEn_PINMAP_HI, R.PEn_STAT, R.PEn_DEPTH]; omega

theorem State.pe_setPe_same (s : State) (n : Nat) (x : PinEngine) : (s.setPe n x).pe n = x := by
  unfold State.setPe State.pe; exact kget_kset_same ..

theorem Frame.setPe {regs : Nat → Bool} (s : State) (n : Nat) (x : PinEngine) : Frame s (s.setPe n x) [.pins] regs :=
  .sbd s _ (List.mem_singleton.2 rfl)

/-! ## A rejected write (R572) -/

theorem acts_peReject {s : State} {src : RegSrc} {n : Fin 8} {off rw : Nat} {o : Host.Outcome State Fault Refusal} (data : Word)
    (h : Reaches s src off) (hx : s.unlocked) (hb : expertAt off rw = true) (ho : o = done (s.csrWrite src off 2 data))
    (ht : ∀ new, (s.noteWrite src).xTake off new 0 = (s.noteWrite src).peReject n) :
    Acts o s [] (peOwn n) fun s' =>
      s'.pe n = s.pe n ∧ s'.flag (F.PEn_STAT_PROG_ERR n) = true ∧ (src = .csp → Emits s s' (.cspAck 0 true)) := by
  obtain ⟨-, -, -, -, hstat, -⟩ := sideReg_engine n.isLt
  obtain ⟨-, -, -, -, hown, -⟩ := peOwn_regs n
  obtain ⟨hcon, herr⟩ := peOwn_errors n
  rw [ho]
  refine acts_open h hx hb data hcon (by decide) (by decide) fun new _ _ => ⟨_, _, ht new, ?_, fun _ => herr, fun y hy => ⟨?_, ?_, ?_⟩⟩
  · exact (Frame.hit _ _ hown).untouched
  · exact hy.pe n
  · rw [hy.flag hstat]
    exact State.flag_hit_same _ _ (show 3 + 1 ≤ 32 by decide) rfl
  · exact fun hsrc => hy.ack hsrc s List.prefix_rfl

/-! ## PEn_CTRL (R567, R573) -/

/-- The engine with its FIFOs emptied by FLUSH and its held copy dropped by DISCARD. -/
def PinEngine.cleared (x : PinEngine) (data : Word) : PinEngine := { x with
  feed := if data.getLsbD 3 then [] else x.feed, catch_ := if data.getLsbD 3 then [] else x.catch_
  sw := if data.getLsbD 3 then none else x.sw, caught := if data.getLsbD 3 then none else x.caught
  held := if data.getLsbD 4 then none else x.held }

/-- PEn_CTRL takes HOTSWAP, FLUSH and DISCARD. -/
def State.peClear (s : State) (n : Nat) (data : Word) : State :=
  let s1 := s.setB (F.PEn_CTRL_HOTSWAP n) (data.getLsbD 1)
  let s2 := if data.getLsbD 3 then s1.modPe n fun x => { x with feed := [], catch_ := [], sw := none, caught := none } else s1
  if data.getLsbD 4 then s2.modPe n fun x => { x with held := none } else s2

theorem State.peCtrl_eq (s : State) (n : Nat) (data : Word) : s.peCtrl n data.toNat =
    if data.getLsbD 0 && !s.flag (F.PEn_CTRL_EN n) then (s.peClear n data).peStart n
    else if s.flag (F.PEn_CTRL_EN n) && !data.getLsbD 0 then (s.peClear n data).peStop n else s.peClear n data := rfl

theorem State.peClear_pe (s : State) (n : Nat) (data : Word) : (s.peClear n data).pe n = (s.pe n).cleared data := by
  have h0 (b : Bool) : (s.setB (F.PEn_CTRL_HOTSWAP n) b).pe n = s.pe n := rfl
  unfold State.peClear PinEngine.cleared
  cases data.getLsbD 3 <;> cases data.getLsbD 4 <;> simp [State.pe_modPe_same, h0]

theorem State.peClear_reg (s : State) (n : Nat) (data : Word) (off : Nat) :
    (s.peClear n data).reg off = (s.setB (F.PEn_CTRL_HOTSWAP n) (data.getLsbD 1)).reg off := by
  unfold State.peClear; dsimp only; repeat' split
  all_goals rfl

theorem Frame.peClear (s : State) (n : Nat) (data : Word) : Frame s (s.peClear n data) [.pins] (peOwn n) := by
  have h1 : Frame s (s.setB (F.PEn_CTRL_HOTSWAP n) (data.getLsbD 1)) [.pins] (peOwn n) := .setB s _ _ (peOwn_regs n).1
  unfold State.peClear; dsimp only; repeat' split
  · exact (h1.trans (.modPe _ _ _)).trans (.modPe _ _ _)
  · exact h1.trans (.modPe _ _ _)
  · exact h1.trans (.modPe _ _ _)
  · exact h1

theorem State.peTake_pe (s : State) (n : Nat) :
    (s.peTake n).pe n = { s.pe n with prog := ((s.pe n).held.map fun h => h.1).getD (s.pe n).prog, held := none } := by
  unfold State.peTake
  cases hh : (s.pe n).held with
  | none =>
    show s.pe n = { s.pe n with prog := (s.pe n).prog, held := none }
    rw [← hh]
  | some h => exact s.pe_modPe_same n fun x => { x with prog := h.1, held := none }

theorem State.peTake_reg (s : State) {n off : Nat} (h : off ≠ R.PEn_BASE n) : (s.peTake n).reg off = s.reg off := by
  unfold State.peTake; split
  · exact State.reg_setReg_ne _ _ h
  · rfl

/-- A held BASE becomes active with its program (R573). -/
theorem State.peTake_base {s : State} {n : Nat} {h : KMap (BitVec 64) × BitVec 8} (hh : (s.pe n).held = some h) :
    (s.peTake n).f (F.PEn_BASE_BOTTOM n) = h.2.toNat := by
  unfold State.peTake; rw [hh]
  exact (State.f_setF_same _ _ _ (show 0 + 8 ≤ 32 by decide)).trans (Nat.mod_eq_of_lt h.2.isLt)

theorem Frame.peTake (s : State) (n : Nat) : Frame s (s.peTake n) [.pins] (peOwn n) := by
  unfold State.peTake; split
  · exact (Frame.modPe s n _).trans (.setF _ _ _ (peOwn_regs n).2.1)
  · exact .refl s _ _

theorem Frame.peCtrl (s : State) (n : Nat) (data : Word) : Frame s (s.peCtrl n data.toNat) [.pins] (peOwn n) := by
  obtain ⟨hctrl, -, -, -, hstat, -⟩ := peOwn_regs n
  have h0 := Frame.peClear s n data
  rw [State.peCtrl_eq]; repeat' split
  · exact (h0.trans (.setB _ _ _ hctrl)).trans (.modPe _ _ _)
  · exact ((h0.trans (.setB _ _ _ hctrl)).trans (.setB _ _ _ hstat)).trans (.peTake _ _)
  · exact h0

/-- The fields of PEn_CTRL after a write: EN and HOTSWAP are as written. -/
theorem State.peCtrl_flags (s : State) (n : Nat) (data : Word) : (s.peCtrl n data.toNat).flag (F.PEn_CTRL_EN n) = data.getLsbD 0 ∧
    (s.peCtrl n data.toNat).flag (F.PEn_CTRL_HOTSWAP n) = data.getLsbD 1 := by
  have hbase : R.PEn_CTRL n ≠ R.PEn_BASE n := by simp only [R.PEn_CTRL, R.PEn_BASE]; omega
  have hstat : R.PEn_CTRL n ≠ R.PEn_STAT n := by simp only [R.PEn_CTRL, R.PEn_STAT]; omega
  have hclear (x : Fld) : (s.peClear n data).flag x = (s.setB (F.PEn_CTRL_HOTSWAP n) (data.getLsbD 1)).flag x :=
    State.flag_of_reg (s.peClear_reg n data _)
  have hhot : (s.peClear n data).flag (F.PEn_CTRL_HOTSWAP n) = data.getLsbD 1 :=
    (hclear _).trans (s.flag_setB_same _ _ (show 1 + 1 ≤ 32 by decide) rfl)
  have hen : (s.peClear n data).flag (F.PEn_CTRL_EN n) = s.flag (F.PEn_CTRL_EN n) :=
    (hclear _).trans (s.flag_setB_beside (F.PEn_CTRL_HOTSWAP n) (F.PEn_CTRL_EN n) _ rfl (.inl (show 0 + 1 ≤ 1 by decide)))
  have hset (b : Bool) : ((s.peClear n data).setB (F.PEn_CTRL_EN n) b).flag (F.PEn_CTRL_EN n) = b ∧
      ((s.peClear n data).setB (F.PEn_CTRL_EN n) b).flag (F.PEn_CTRL_HOTSWAP n) = data.getLsbD 1 :=
    ⟨State.flag_setB_same _ _ _ (show 0 + 1 ≤ 32 by decide) rfl,
      (State.flag_setB_beside _ (F.PEn_CTRL_EN n) (F.PEn_CTRL_HOTSWAP n) _ rfl (.inr (show 0 + 1 ≤ 1 by decide))).trans hhot⟩
  have hstop (b : Bool) (x : Fld) (hx : x.off = R.PEn_CTRL n) : ((s.peClear n data).peStop n).flag x =
      ((s.peClear n data).setB (F.PEn_CTRL_EN n) false).flag x :=
    State.flag_of_reg (by rw [hx]; exact (State.peTake_reg _ hbase).trans (State.setB_reg_ne _ (F.PEn_STAT_STALLED n) _ hstat))
  rw [State.peCtrl_eq]; repeat' split
  · rename_i h
    rw [(Bool.and_eq_true_iff.1 h).1]; exact hset true
  · rename_i h
    have h0 : data.getLsbD 0 = false := by simpa using (Bool.and_eq_true_iff.1 h).2
    rw [hstop false _ rfl, hstop false _ rfl, h0]; exact hset false
  · rename_i h1 h2
    refine ⟨hen.trans ?_, hhot⟩
    cases hd : data.getLsbD 0 <;> cases he : s.flag (F.PEn_CTRL_EN n) <;> simp_all

theorem State.peCtrl_pe (s : State) (n : Nat) (data : Word) : (s.peCtrl n data.toNat).pe n =
    if data.getLsbD 0 && !s.flag (F.PEn_CTRL_EN n) then
      { (s.pe n).cleared data with s := BitVec.ofNat 8 (s.f (F.PEn_BASE_BOTTOM n)), sr := 0, bc := 0, mf := false }
    else if s.flag (F.PEn_CTRL_EN n) && !data.getLsbD 0 then
      { (s.pe n).cleared data with
        prog := (((s.pe n).cleared data).held.map fun h => h.1).getD ((s.pe n).cleared data).prog, held := none }
    else (s.pe n).cleared data := by
  have hbase : (s.peClear n data).f (F.PEn_BASE_BOTTOM n) = s.f (F.PEn_BASE_BOTTOM n) := State.f_of_reg
    ((s.peClear_reg n data _).trans (s.setB_reg_ne _ _ (by simp only [F.PEn_BASE_BOTTOM, F.PEn_CTRL_HOTSWAP, R.PEn_BASE, R.PEn_CTRL]; omega)))
  rw [State.peCtrl_eq]; repeat' split
  · unfold State.peStart
    have e : ((s.peClear n data).setB (F.PEn_CTRL_EN n) true).pe n = (s.pe n).cleared data := s.peClear_pe n data
    rw [State.pe_modPe_same, hbase, e]
  · have e : (((s.peClear n data).setB (F.PEn_CTRL_EN n) false).setB (F.PEn_STAT_STALLED n) false).pe n = (s.pe n).cleared data :=
      s.peClear_pe n data
    unfold State.peStop; rw [State.peTake_pe, e]
  · exact s.peClear_pe n data

/-- An engine that is stopped with a copy held takes its BASE. -/
theorem State.peCtrl_base {s : State} {n : Nat} {data : Word} {h : KMap (BitVec 64) × BitVec 8} (he : s.flag (F.PEn_CTRL_EN n) = true)
    (hd : data.getLsbD 0 = false) (hh : ((s.pe n).cleared data).held = some h) :
    (s.peCtrl n data.toNat).f (F.PEn_BASE_BOTTOM n) = h.2.toNat := by
  rw [State.peCtrl_eq, hd, he]
  exact State.peTake_base ((congrArg PinEngine.held (s.peClear_pe n data)).trans hh)

theorem State.writeSide_peCtrl (s : State) (d : RegDef) (n : Fin 8) (data : Word) :
    s.writeSide d (R.PEn_CTRL n) data = s.peCtrl n data.toNat := by
  match n with
  | 0 | 1 | 2 | 3 | 4 | 5 | 6 | 7 => rfl

theorem acts_peCtrl {s : State} {src : RegSrc} {n : Fin 8} (data : Word) (h : Reaches s src (R.PEn_CTRL n)) :
    let en := s.flag (F.PEn_CTRL_EN n)
    let y := (s.pe n).cleared data
    Acts (done (s.csrWrite src (R.PEn_CTRL n) 2 data)) s [.pins] (peOwn n) fun s' =>
      s'.flag (F.PEn_CTRL_EN n) = data.getLsbD 0 ∧ s'.flag (F.PEn_CTRL_HOTSWAP n) = data.getLsbD 1 ∧
      s'.pe n = (if data.getLsbD 0 && !en then { y with s := BitVec.ofNat 8 (s.f (F.PEn_BASE_BOTTOM n)), sr := 0, bc := 0, mf := false }
        else if en && !data.getLsbD 0 then { y with prog := (y.held.map fun h => h.1).getD y.prog, held := none }
        else y) ∧
      (∀ h, en = true → data.getLsbD 0 = false → y.held = some h → s'.f (F.PEn_BASE_BOTTOM n) = h.2.toNat) := by
  intro en y
  obtain ⟨hctrl, hbase, -, -, -, -⟩ := sideReg_engine n.isLt
  have hf : Untouched s ((s.noteWrite src).peCtrl n data.toNat) [.pins] (peOwn n) :=
    ((Frame.noteWrite s src).trans (.peCtrl _ n data)).untouched
  obtain ⟨hen, hhot⟩ := (s.noteWrite src).peCtrl_flags n data
  rw [State.csrWrite_basic h (basicAt_engine n).1 data (fun d => State.writeSide_peCtrl _ d n data) (hf.late (by decide))]
  refine hf.acts_endAcc (by decide) (fun h => by cases h) fun z hz => ⟨?_, ?_, ?_, fun c he hd hh => ?_⟩
  · rw [hz.flag hctrl]; exact hen
  · rw [hz.flag hctrl]; exact hhot
  · rw [hz.pe]; exact (s.noteWrite src).peCtrl_pe n data
  · rw [hz.f hbase]; exact State.peCtrl_base (s := s.noteWrite src) he hd hh

/-! ## The feed (R569, R570) -/

theorem State.writeSide_peFeed (s : State) (d : RegDef) (n : Fin 8) (data : Word) : s.writeSide d (R.PEn_FEED n) data = s.peFeed n data := by
  match n with
  | 0 | 1 | 2 | 3 | 4 | 5 | 6 | 7 => rfl

theorem acts_peFeed_word {s : State} {src : RegSrc} {n : Fin 8} (data : Word) (h : Reaches s src (R.PEn_FEED n))
    (hd : (s.pe n).feed.length < s.feedDepth n) :
    Acts (exec (.peFeedWrite src n data) s) s [.pins] (fun _ => false) fun s' =>
      s'.pe n = { (s.pe n).touched s.sbCyc with feed := (s.pe n).feed ++ [data] } := by
  have hx : (s.noteWrite src).peFeed n data = (s.noteWrite src).modPe n fun x => { x.touched s.sbCyc with feed := x.feed ++ [data] } := by
    unfold State.peFeed; exact if_neg (Nat.not_le.2 hd)
  have hf : Untouched s ((s.noteWrite src).peFeed n data) [.pins] (fun _ => false) := by
    rw [hx]; exact ((Frame.noteWrite s src).trans (.modPe _ n _)).untouched
  show Acts (done (s.csrWrite src (R.PEn_FEED n) 2 data)) s _ _ _
  rw [State.csrWrite_basic h (basicAt_engine n).2 data (fun d => State.writeSide_peFeed _ d n data) (hf.late (by decide))]
  refine hf.acts_endAcc (by decide) (fun h => by cases h) fun z hz => ?_
  rw [hz.pe, hx, State.pe_modPe_same]; rfl

theorem acts_peFeed_full {s : State} {src : RegSrc} {n : Fin 8} (data : Word) (h : Reaches s src (R.PEn_FEED n))
    (hd : s.feedDepth n ≤ (s.pe n).feed.length) :
    Acts (exec (.peFeedWrite src n data) s) s [] (peOwn n) fun s' => s'.pe n = s.pe n ∧ s'.flag (F.PEn_STAT_FEED_OVF n) = true := by
  obtain ⟨-, -, -, -, hstat, -⟩ := sideReg_engine n.isLt
  obtain ⟨-, -, -, -, hown, -⟩ := peOwn_regs n
  have hx : (s.noteWrite src).peFeed n data = (s.noteWrite src).hit (F.PEn_STAT_FEED_OVF n) := by
    unfold State.peFeed; exact if_pos hd
  have hf : Untouched s ((s.noteWrite src).peFeed n data) [] (peOwn n) := by
    rw [hx]; exact ((Frame.noteWrite s src).trans (.hit _ _ hown)).untouched
  show Acts (done (s.csrWrite src (R.PEn_FEED n) 2 data)) s _ _ _
  rw [State.csrWrite_basic h (basicAt_engine n).2 data (fun d => State.writeSide_peFeed _ d n data) (hf.late (by decide))]
  refine hf.acts_endAcc (by decide) (fun h => by cases h) fun z hz => ⟨?_, ?_⟩
  · rw [hz.pe, hx]; rfl
  · rw [hz.flag hstat, hx]
    exact State.flag_hit_same _ _ (show 7 + 1 ≤ 32 by decide) rfl

/-! ## The program store (R572, R573) -/

/-- Word `w` of a program store: the low or the high half of an entry. -/
def progWord (p : KMap (BitVec 64)) (w : Nat) : Word :=
  if w % 2 = 0 then (kget 0 p (w / 2) : BitVec 64).setWidth 32 else ((kget 0 p (w / 2) : BitVec 64) >>> 32).setWidth 32

/-- The store with `d` in word `w`. -/
def progPut (p : KMap (BitVec 64)) (w d : Nat) : KMap (BitVec 64) :=
  kset 0 p (w / 2) (BitVec.ofNat 64 (putBits (kget 0 p (w / 2) : BitVec 64).toNat (32 * (w % 2)) 32 d))

theorem progWord_getLsbD (p : KMap (BitVec 64)) (w : Nat) {i : Nat} (hi : i < 32) :
    (progWord p w).getLsbD i = (kget 0 p (w / 2) : BitVec 64).getLsbD (32 * (w % 2) + i) := by
  unfold progWord; split
  · rename_i h; simp [h, hi]
  · rename_i h; simp [show w % 2 = 1 by omega, hi]

theorem progWord_progPut (p : KMap (BitVec 64)) (w v d : Nat) :
    progWord (progPut p w d) v = if v = w then BitVec.ofNat 32 d else progWord p v := by
  refine BitVec.eq_of_getLsbD_eq fun i hi => ?_
  rw [progWord_getLsbD _ _ hi]
  unfold progPut
  by_cases he : v / 2 = w / 2
  · have h64 : 32 * (v % 2) + i < 64 := by omega
    rw [he, kget_kset_same, BitVec.getLsbD_ofNat, testBit_putBits]
    by_cases hv : v = w
    · rw [if_pos hv, hv, if_pos (by omega), BitVec.getLsbD_ofNat]
      simp [hi, show 32 * (w % 2) + i < 64 by omega]
    · rw [if_neg hv, if_neg (by omega), progWord_getLsbD _ _ hi, he, BitVec.testBit_toNat]; simp [h64]
  · rw [kget_kset_ne _ _ _ _ he, if_neg fun e : v = w => he (by rw [e]), progWord_getLsbD _ _ hi]

theorem acts_peProg_stopped {s : State} {src : RegSrc} {n : Fin 8} {word : Fin 512} (data : Word) (h : Reaches s src (R.PEn_PROG n word))
    (hx : s.unlocked) (he : s.flag (F.PEn_CTRL_EN n) = false) :
    Acts (exec (.peProgWrite src n word data) s) s [.pins] (peOwn n) fun s' =>
      ∀ w < 512, progWord (s'.pe n).prog w = if w = word then data else progWord (s.pe n).prog w := by
  have hp (new : Nat) : (s.noteWrite src).peProg n word new =
      (false, (s.noteWrite src).setPe n { s.pe n with prog := progPut (s.pe n).prog word new }) := by
    unfold State.peProg; dsimp only; exact if_pos (by simp [show (s.noteWrite src).flag (F.PEn_CTRL_EN n) = false from he])
  refine acts_open h hx (expertAt_peProg n word) data (peOwn_errors n).1 (by decide) (by decide) fun new hnew _ =>
    ⟨_, _, (State.xTake_peProg _ n word new 0).trans (hp new), (Frame.setPe _ _ _).untouched, (fun h => by cases h), fun y hy w _ => ?_⟩
  rw [hy.pe, State.pe_setPe_same, progWord_progPut, hnew.ofNat]

theorem acts_peProg_held {s : State} {src : RegSrc} {n : Fin 8} {word : Fin 512} (data : Word) (h : Reaches s src (R.PEn_PROG n word))
    (hx : s.unlocked) (he : s.flag (F.PEn_CTRL_EN n) = true) (hh : s.flag (F.PEn_CTRL_HOTSWAP n) = true) :
    Acts (exec (.peProgWrite src n word data) s) s [.pins] (peOwn n) fun s' => (s'.pe n).prog = (s.pe n).prog ∧
      ∃ h, (s'.pe n).held = some h ∧ h.2.toNat = ((s.pe n).held.map fun p => p.2.toNat).getD (s.f (F.PEn_BASE_BOTTOM n)) ∧
        ∀ w < 512, progWord h.1 w = if w = word then data else progWord (((s.pe n).held.map fun p => p.1).getD (s.pe n).prog) w := by
  have hbase : s.f (F.PEn_BASE_BOTTOM n) < 256 := Nat.mod_lt _ (show 0 < 2 ^ 8 by decide)
  let held := (s.pe n).held.getD ((s.pe n).prog, BitVec.ofNat 8 (s.f (F.PEn_BASE_BOTTOM n)))
  have hp (new : Nat) : (s.noteWrite src).peProg n word new =
      (false, (s.noteWrite src).setPe n { s.pe n with held := some (progPut held.1 word new, held.2) }) := by
    unfold State.peProg; dsimp only
    rw [if_neg (by simp [show (s.noteWrite src).flag (F.PEn_CTRL_EN n) = true from he]),
      if_neg (by simp [show (s.noteWrite src).flag (F.PEn_CTRL_HOTSWAP n) = true from hh])]
    rfl
  refine acts_open h hx (expertAt_peProg n word) data (peOwn_errors n).1 (by decide) (by decide) fun new hnew _ =>
    ⟨_, _, (State.xTake_peProg _ n word new 0).trans (hp new), (Frame.setPe _ _ _).untouched, (fun h => by cases h), fun y hy => ?_⟩
  rw [hy.pe, State.pe_setPe_same]
  refine ⟨rfl, _, rfl, ?_, fun w _ => ?_⟩
  · show held.2.toNat = _
    cases hc : (s.pe n).held with
    | none => simp [held, hc, Nat.mod_eq_of_lt hbase]
    | some c => simp [held, hc]
  · have hprog : held.1 = ((s.pe n).held.map fun p => p.1).getD (s.pe n).prog := by
      cases hc : (s.pe n).held with
      | none => simp [held, hc]
      | some c => simp [held, hc]
    rw [progWord_progPut, hnew.ofNat, hprog]

/-! ## PEn_BASE (R572, R573) -/

theorem acts_peBase_stopped {s : State} {src : RegSrc} {n : Fin 8} (data : Word) (h : Reaches s src (R.PEn_BASE n)) (hx : s.unlocked)
    (he : s.flag (F.PEn_CTRL_EN n) = false) :
    Acts (exec (.peBaseWrite src n data) s) s [] (peOwn n) fun s' =>
      s'.pe n = s.pe n ∧ s'.f (F.PEn_BASE_BOTTOM n) = bits data.toNat 0 8 := by
  obtain ⟨-, hbase, -, -, -, -⟩ := sideReg_engine n.isLt
  obtain ⟨-, hown, -, -, -, -⟩ := peOwn_regs n
  have hp (new : Nat) : (s.noteWrite src).peBase n new = (false, (s.noteWrite src).setF (F.PEn_BASE_BOTTOM n) new) := by
    unfold State.peBase; dsimp only; exact if_pos (by simp [show (s.noteWrite src).flag (F.PEn_CTRL_EN n) = false from he])
  refine acts_open h hx (expertAt_engine n).2.1 data (peOwn_errors n).1 (by decide) (by decide) fun new hnew _ =>
    ⟨_, _, (State.xTake_engine _ n new 0).1.trans (hp new), (Frame.setF _ _ _ hown).untouched, (fun h => by cases h), fun y hy => ⟨hy.pe n, ?_⟩⟩
  rw [hy.f hbase, State.f_setF_same _ _ _ (show 0 + 8 ≤ 32 by decide)]
  exact hnew.bits (lo := 0) (w := 8) (by decide) (by decide)

theorem acts_peBase_held {s : State} {src : RegSrc} {n : Fin 8} (data : Word) (h : Reaches s src (R.PEn_BASE n)) (hx : s.unlocked)
    (he : s.flag (F.PEn_CTRL_EN n) = true) (hh : s.flag (F.PEn_CTRL_HOTSWAP n) = true) :
    Acts (exec (.peBaseWrite src n data) s) s [.pins] (peOwn n) fun s' =>
      s'.pe n = { s.pe n with held := some (((s.pe n).held.map fun p => p.1).getD (s.pe n).prog, BitVec.ofNat 8 data.toNat) } := by
  have hp (new : Nat) : (s.noteWrite src).peBase n new = (false, (s.noteWrite src).setPe n
      { s.pe n with held := some (((s.pe n).held.getD ((s.pe n).prog, 0)).1, BitVec.ofNat 8 new) }) := by
    unfold State.peBase; dsimp only
    rw [if_neg (by simp [show (s.noteWrite src).flag (F.PEn_CTRL_EN n) = true from he]),
      if_neg (by simp [show (s.noteWrite src).flag (F.PEn_CTRL_HOTSWAP n) = true from hh])]
    rfl
  refine acts_open h hx (expertAt_engine n).2.1 data (peOwn_errors n).1 (by decide) (by decide) fun new hnew _ =>
    ⟨_, _, (State.xTake_engine _ n new 0).1.trans (hp new), (Frame.setPe _ _ _).untouched, (fun h => by cases h), fun y hy => ?_⟩
  have hnew8 : BitVec.ofNat 8 new = BitVec.ofNat 8 data.toNat :=
    BitVec.eq_of_toNat_eq (hnew.bits (lo := 0) (w := 8) (by decide) (by decide))
  have hprog : ((s.pe n).held.getD ((s.pe n).prog, 0)).1 = ((s.pe n).held.map fun p => p.1).getD (s.pe n).prog := by
    cases (s.pe n).held <;> rfl
  rw [hy.pe, State.pe_setPe_same, hnew8, hprog]

/-! ## The pin map and the depths (R562, R571, R572) -/

/-- The register of half `hi` of the pin map. -/
def pinmapReg (n : Nat) (hi : Bool) : Nat := if hi then R.PEn_PINMAP_HI n else R.PEn_PINMAP_LO n

theorem pinmapReg_engine (n : Fin 8) (hi : Bool) : expertAt (pinmapReg n hi) 0x9F9F9F9F = true ∧ SideReg (pinmapReg n hi) ∧
    peOwn n (pinmapReg n hi) = true := by
  obtain ⟨-, -, hlo, hhi, -⟩ := expertAt_engine n
  obtain ⟨-, -, slo, shi, -⟩ := sideReg_engine n.isLt
  obtain ⟨-, -, olo, ohi, -⟩ := peOwn_regs n
  cases hi with
  | false => exact ⟨hlo, slo, olo⟩
  | true => exact ⟨hhi, shi, ohi⟩

theorem State.xTake_pinmap (s : State) (n : Fin 8) (hi : Bool) (new act : Nat) : s.xTake (pinmapReg n hi) new act = s.pePinmap n hi new := by
  obtain ⟨-, hlo, hhi, -⟩ := s.xTake_engine n new act
  cases hi with
  | false => exact hlo
  | true => exact hhi

theorem acts_pePinmap {s : State} {src : RegSrc} {n : Fin 8} {hi : Bool} (data : Word) (h : Reaches s src (pinmapReg n hi)) (hx : s.unlocked)
    (he : s.flag (F.PEn_CTRL_EN n) = false) :
    Acts (exec (.pePinmapWrite src n hi data) s) s [.pins] (peOwn n) fun s' =>
      s'.pe n = s.pe n ∧ s'.reg (pinmapReg n hi) = data &&& 0x9F9F9F9F ∧ s'.pinsFollow := by
  obtain ⟨hexp, hside, hown⟩ := pinmapReg_engine n hi
  have hp (new : Nat) : (s.noteWrite src).pePinmap n hi new =
      (false, ((s.noteWrite src).setReg (pinmapReg n hi) (BitVec.ofNat 32 (new &&& 0x9F9F9F9F))).updatePins) := by
    unfold State.pePinmap; exact if_neg (by simp [show (s.noteWrite src).flag (F.PEn_CTRL_EN n) = false from he])
  refine acts_open h hx hexp data (peOwn_errors n).1 (by decide) (by decide) fun new hnew _ =>
    ⟨_, _, (State.xTake_pinmap _ n hi new 0).trans (hp new),
      ((Frame.setReg _ _ _ hown).trans (.updatePins _ (List.mem_singleton.2 rfl))).untouched, (fun h => by cases h), fun y hy => ⟨?_, ?_, ?_⟩⟩
  · rw [hy.pe, State.updatePins_pe]; rfl
  · rw [hy.regs _ hside, State.updatePins_reg, State.reg_setReg_same]; exact hnew.and
  · exact hy.toSideSame.pinsFollow (State.updatePins_pinsFollow _)

/-- A depth as written, or as it was where the code is reserved (R571). -/
def pickDepth (new old : Nat) : Nat := if 1 ≤ new ∧ new ≤ 12 then new else old

theorem pickDepth_lt {new old : Nat} (h : old < 16) : pickDepth new old < 16 := by
  unfold pickDepth; split <;> omega

/-- The depths of the other engines, taken together. -/
def State.otherDepths (s : State) (n : Nat) : Nat :=
  (((List.range 8).filter fun i => i != n).map fun i => s.feedDepth i + s.catchDepth i).sum

theorem State.otherDepths_eq (s : State) (n : Nat) :
    ((List.range 8).filter fun i => i != n).foldl (fun a i => a + s.feedDepth i + s.catchDepth i) 0 = s.otherDepths n := by
  unfold State.otherDepths
  rw [List.sum_eq_foldl, List.foldl_map]; simp only [Nat.add_assoc]

theorem State.peDepth_stopped {s : State} {n new : Nat} {data : Word} (he : s.flag (F.PEn_CTRL_EN n) = false) (hnew : Takes 0xF0F data new) :
    let fd := pickDepth (bits data.toNat 0 4) (s.feedDepth n)
    let cd := pickDepth (bits data.toNat 8 4) (s.catchDepth n)
    s.peDepth n new = if !(s.pe n).feed.isEmpty || !(s.pe n).catch_.isEmpty || decide (s.otherDepths n + fd + cd > 64) then
      (false, s.hit (F.PEn_STAT_PROG_ERR n)) else (false, (s.setF (F.PEn_DEPTH_FEED n) fd).setF (F.PEn_DEPTH_CATCH n) cd) := by
  have hf : bits new 0 4 = bits data.toNat 0 4 := hnew.bits (by decide) (by decide)
  have hc : bits new 8 4 = bits data.toNat 8 4 := hnew.bits (by decide) (by decide)
  intro fd cd
  unfold State.peDepth
  rw [if_neg (by simp [he]), hf, hc]; dsimp only
  rw [s.otherDepths_eq]; rfl

theorem acts_peDepth {s : State} {src : RegSrc} {n : Fin 8} (data : Word) (h : Reaches s src (R.PEn_DEPTH n)) (hx : s.unlocked)
    (he : s.flag (F.PEn_CTRL_EN n) = false) :
    let fd := pickDepth (bits data.toNat 0 4) (s.feedDepth n)
    let cd := pickDepth (bits data.toNat 8 4) (s.catchDepth n)
    ((s.pe n).feed = [] → (s.pe n).catch_ = [] → s.otherDepths n + fd + cd ≤ 64 →
      Acts (exec (.peDepthWrite src n data) s) s [] (peOwn n) fun s' => s'.feedDepth n = fd ∧ s'.catchDepth n = cd) ∧
    (64 < s.otherDepths n + fd + cd ∨ (s.pe n).feed ≠ [] ∨ (s.pe n).catch_ ≠ [] →
      Acts (exec (.peDepthWrite src n data) s) s [] (peOwn n) fun s' =>
        s'.feedDepth n = s.feedDepth n ∧ s'.catchDepth n = s.catchDepth n ∧ s'.flag (F.PEn_STAT_PROG_ERR n) = true) := by
  intro fd cd
  obtain ⟨-, -, -, -, hstat, hdep⟩ := sideReg_engine n.isLt
  obtain ⟨-, -, -, -, hownStat, hownDep⟩ := peOwn_regs n
  obtain ⟨-, -, -, -, hexp⟩ := expertAt_engine n
  let t := s.noteWrite src
  have htake {new : Nat} (hnew : Takes 0xF0F data new) : t.xTake (R.PEn_DEPTH n) new 0 =
      if !(s.pe n).feed.isEmpty || !(s.pe n).catch_.isEmpty || decide (s.otherDepths n + fd + cd > 64) then
        (false, t.hit (F.PEn_STAT_PROG_ERR n)) else (false, (t.setF (F.PEn_DEPTH_FEED n) fd).setF (F.PEn_DEPTH_CATCH n) cd) :=
    (t.xTake_engine n new 0).2.2.2.trans (State.peDepth_stopped (s := t) he hnew)
  refine ⟨fun hfeed hcatch hsum => ?_, fun hbad => ?_⟩
  · have hfd : fd < 2 ^ 4 := pickDepth_lt (Nat.mod_lt _ (show 0 < 2 ^ 4 by decide))
    have hcd : cd < 2 ^ 4 := pickDepth_lt (Nat.mod_lt _ (show 0 < 2 ^ 4 by decide))
    refine acts_open h hx hexp data (peOwn_errors n).1 (by decide) (by decide) fun new hnew _ => ⟨_, _,
      (htake hnew).trans (if_neg (by simp [hfeed, hcatch]; exact hsum)), ((Frame.setF _ _ _ hownDep).trans (.setF _ _ _ hownDep)).untouched,
      (fun h => by cases h), fun y hy => ⟨?_, ?_⟩⟩
    · refine (hy.f hdep).trans ?_
      rw [State.f_setF_beside _ (F.PEn_DEPTH_CATCH n) (F.PEn_DEPTH_FEED n) _ rfl (.inl (show 0 + 4 ≤ 8 by decide)),
        State.f_setF_same _ _ _ (show 0 + 4 ≤ 32 by decide)]
      exact Nat.mod_eq_of_lt hfd
    · exact (hy.f hdep).trans ((State.f_setF_same _ _ _ (show 8 + 4 ≤ 32 by decide)).trans (Nat.mod_eq_of_lt hcd))
  · have hne : R.PEn_DEPTH n ≠ R.PEn_STAT n := by simp only [R.PEn_DEPTH, R.PEn_STAT]; omega
    have hkeep (x : Fld) (ho : x.off = R.PEn_DEPTH n) : (t.hit (F.PEn_STAT_PROG_ERR n)).f x = s.f x :=
      State.f_of_reg (by rw [ho]; exact t.hit_reg_ne _ hne)
    refine acts_open h hx hexp data (peOwn_errors n).1 (by decide) (by decide) fun new hnew _ => ⟨_, _,
      (htake hnew).trans (if_pos ?_), (Frame.hit _ _ hownStat).untouched, (fun h => by cases h), fun y hy => ⟨?_, ?_, ?_⟩⟩
    · simp only [Bool.or_eq_true, Bool.not_eq_true', List.isEmpty_eq_false_iff, decide_eq_true_eq]
      obtain h1 | h1 | h1 := hbad
      · exact .inr h1
      · exact .inl (.inl h1)
      · exact .inl (.inr h1)
    · exact (hy.f hdep).trans (hkeep _ rfl)
    · exact (hy.f hdep).trans (hkeep _ rfl)
    · rw [hy.flag hstat]; exact State.flag_hit_same _ _ (show 3 + 1 ≤ 32 by decide) rfl

/-! ## Writes that are rejected (R572) -/

theorem State.peProg_rejects {s : State} {n : Nat} (he : s.flag (F.PEn_CTRL_EN n) = true) (hh : s.flag (F.PEn_CTRL_HOTSWAP n) = false)
    (w d : Nat) : s.peProg n w d = s.peReject n := by
  unfold State.peProg; dsimp only; rw [if_neg (by simp [he]), if_pos (by simp [hh])]

theorem State.peBase_rejects {s : State} {n : Nat} (he : s.flag (F.PEn_CTRL_EN n) = true) (hh : s.flag (F.PEn_CTRL_HOTSWAP n) = false)
    (d : Nat) : s.peBase n d = s.peReject n := by
  unfold State.peBase; dsimp only; rw [if_neg (by simp [he]), if_pos (by simp [hh])]

theorem State.pePinmap_rejects {s : State} {n : Nat} (he : s.flag (F.PEn_CTRL_EN n) = true) (hi : Bool) (d : Nat) :
    s.pePinmap n hi d = s.peReject n := by
  unfold State.pePinmap; exact if_pos he

theorem State.peDepth_rejects {s : State} {n : Nat} (he : s.flag (F.PEn_CTRL_EN n) = true) (d : Nat) : s.peDepth n d = s.peReject n := by
  unfold State.peDepth; exact if_pos he

/-- Settles O6: each register takes what its unit makes of the word, within the frame of its block. -/
theorem pinEngineRegisters : Obligations.PinEngineRegisters := by
  intro s src n data x en hot own rejected low high wordOf
  obtain ⟨-, hbase, -, -, hdepth⟩ := expertAt_engine n
  refine ⟨fun h hx => acts_sbOwnerChange data h hx, ?_,
    fun h => ⟨fun hd => acts_peFeed_word data h hd, fun hd => acts_peFeed_full data h hd⟩,
    fun word h hx => ⟨fun he => acts_peProg_stopped data h hx he, fun he hh => acts_peProg_held data h hx he hh, fun he hh => ?_⟩,
    fun h hx => ⟨fun he => acts_peBase_stopped data h hx he, fun he hh => acts_peBase_held data h hx he hh, fun he hh => ?_⟩, ?_, ?_⟩
  · intro h y o ho
    have ho : o = done (s.csrWrite src (R.PEn_CTRL n) 2 data) := by
      simp only [List.mem_cons, List.not_mem_nil, or_false] at ho
      obtain h1 | h1 | h1 | h1 := ho
      all_goals exact h1
    rw [ho]; exact acts_peCtrl data h
  · exact acts_peReject data h hx (expertAt_peProg n word) rfl fun new =>
      (State.xTake_peProg _ n word new 0).trans (State.peProg_rejects (s := s.noteWrite src) he hh _ _)
  · exact acts_peReject data h hx hbase rfl fun new =>
      (State.xTake_engine _ n new 0).1.trans (State.peBase_rejects (s := s.noteWrite src) he hh _)
  · intro hi r h hx
    exact ⟨fun he => acts_pePinmap data h hx he, fun he => acts_peReject data h hx (pinmapReg_engine n hi).1 rfl fun new =>
      (State.xTake_pinmap _ n hi new 0).trans (State.pePinmap_rejects (s := s.noteWrite src) he _ _)⟩
  · intro h hx pick fd cd others
    exact ⟨fun he => acts_peReject data h hx hdepth rfl fun new =>
      (State.xTake_engine _ n new 0).2.2.2.trans (State.peDepth_rejects (s := s.noteWrite src) he _), fun he => acts_peDepth data h hx he⟩

end Sys2Proof.Machine
end

section
/-! Operations on timers: the registers and the compare values that they write, and what they leave of events, fabric time and the pads as
the timers see them. -/

namespace Sys2Proof.Machine

/-! ## Fields apart from another -/

/-- The fields share no bit. -/
def Fld.Apart (x y : Fld) : Prop := x.off ≠ y.off ∨ x.lo + x.w ≤ y.lo ∨ y.lo + y.w ≤ x.lo

theorem State.f_setF_apart (s : State) {x y : Fld} (v : Nat) (h : x.Apart y) : (s.setF y v).f x = s.f x := by
  by_cases ho : x.off = y.off
  · exact s.f_setF_beside y x v ho (h.resolve_left (by simp [ho]))
  · exact State.f_of_reg (s.setF_reg_ne y v ho)

theorem State.f_hit_apart (s : State) {x y : Fld} (h : x.Apart y) : (s.hit y).f x = s.f x := (s.mark y 1).f_setF_apart 1 h

theorem State.f_raise (s : State) {n : Nat} {x : Fld} (hn : n < 4096) (h : SideReg x.off) : (s.raise n).f x = s.f x :=
  (SideSame.raise s hn).f h

/-- A register is known by its whole as a field. -/
theorem State.reg_eq_of_f {a b : State} {off : Nat} (h : a.f ⟨off, 0, 32⟩ = b.f ⟨off, 0, 32⟩) : a.reg off = b.reg off := by
  have e (s : State) : s.f ⟨off, 0, 32⟩ = (s.reg off).toNat := Nat.mod_eq_of_lt (s.reg off).isLt
  exact BitVec.eq_of_toNat_eq (by rw [← e, ← e, h])

theorem State.flag_of_f {a b : State} {x : Fld} (h : a.f x = b.f x) : a.flag x = b.flag x := by unfold State.flag; rw [h]

/-! ## The pads as the timers see them (R543) -/

/-- Of the changes of a pin, those dropped are no first ones that a unit may see. -/
theorem find?_drvRecent (now lag i : Nat) (hl : lag ≤ peLag) (es : List PadDrive) :
    (drvRecent now es).find? (fun e => e.pin == i && decide (e.from_ + lag ≤ now)) =
      es.find? fun e => e.pin == i && decide (e.from_ + lag ≤ now) := by
  let p : PadDrive → Bool := fun e => e.pin == i && decide (e.from_ + lag ≤ now)
  let g : List PadDrive × List Nat → PadDrive → List PadDrive × List Nat := fun a e =>
    if a.2.contains e.pin then a else (a.1 ++ [e], if e.from_ + peLag ≤ now then e.pin :: a.2 else a.2)
  have key (es : List PadDrive) (acc : List PadDrive) (sn : List Nat) (h : i ∈ sn → (acc.find? p).isSome = true) :
      ((es.foldl g (acc, sn)).1).find? p = (acc ++ es).find? p := by
    induction es generalizing acc sn with
    | nil => simp
    | cons e es ih =>
      rw [List.foldl_cons]
      by_cases hc : e.pin ∈ sn
      · rw [show g (acc, sn) e = (acc, sn) from if_pos (by simpa using hc), ih acc sn h]
        by_cases hi : e.pin = i
        · obtain ⟨d, hd⟩ := Option.isSome_iff_exists.1 (h (hi ▸ hc))
          simp [List.find?_append, hd]
        · simp [List.find?_append, p, hi]
      · rw [show g (acc, sn) e = (acc ++ [e], if e.from_ + peLag ≤ now then e.pin :: sn else sn) from if_neg (by simpa using hc),
          ih _ _ fun hm => ?_, List.append_assoc]
        · rfl
        · by_cases hi : i ∈ sn
          · obtain ⟨d, hd⟩ := Option.isSome_iff_exists.1 (h hi)
            simp [List.find?_append, hd]
          · split at hm
            · rename_i hf
              obtain rfl : i = e.pin := (List.mem_cons.1 hm).resolve_right hi
              have hp : p e = true := by simp [p]; omega
              simp [List.find?_append, hp]
            · exact absurd hm hi
  exact key es [] [] fun h => absurd h List.not_mem_nil

theorem State.pinSeen_of_find {a b : State} {lag i : Nat} (h : b.sbd.drv.find? (fun e => e.pin == i && decide (e.from_ + lag ≤ b.core)) =
    a.sbd.drv.find? fun e => e.pin == i && decide (e.from_ + lag ≤ a.core)) (hp : b.sbd.pads = a.sbd.pads) :
    b.pinSeen lag i = a.pinSeen lag i := by unfold State.pinSeen; rw [h, hp]

/-- What leaves the block now reaches the timers' view later. -/
theorem State.updatePins_pinSeen (s : State) (i : Nat) : s.updatePins.pinSeen ctlLag i = s.pinSeen ctlLag i := by
  unfold State.updatePins State.updatePinsIn; extract_lets ps lvl en new drv
  split
  · rfl
  · have hnew : drv.find? (fun e => e.pin == i && decide (e.from_ + ctlLag ≤ s.core)) = none := by
      refine List.find?_eq_none.2 fun e he => ?_
      obtain ⟨q, -, rfl⟩ := List.mem_map.1 he
      have hlate : ¬s.core + 0 + ctlLag ≤ s.core := by simp only [ctlLag, ctlCycles]; omega
      rw [decide_eq_false hlate, Bool.and_false]; exact Bool.false_ne_true
    have hfind : (drvRecent s.core (drv ++ s.sbd.drv)).find? (fun e => e.pin == i && decide (e.from_ + ctlLag ≤ s.core)) =
        s.sbd.drv.find? fun e => e.pin == i && decide (e.from_ + ctlLag ≤ s.core) := by
      rw [find?_drvRecent _ _ _ (by decide), List.find?_append, hnew]; rfl
    exact State.pinSeen_of_find hfind rfl

/-! ## Operations on timers -/

/-- The blocks of the timers `ts`. -/
def tmOwn (ts : Nat → Bool) (off : Nat) : Bool :=
  (List.range 16).any fun j => ts j && decide (R.TMm_CTRL j ≤ off) && decide (off < R.TMm_CTRL j + 32)

/-- The offset lies in the block of timer `m`. -/
def TmBlock (m off : Nat) : Prop := R.TMm_CTRL m ≤ off ∧ off < R.TMm_CTRL m + 32

theorem tmBlock_regs (m : Nat) : TmBlock m (R.TMm_CTRL m) ∧ TmBlock m (R.TMm_LOAD m) ∧ TmBlock m (R.TMm_CMP m) ∧
    TmBlock m (R.TMm_COUNT m) ∧ TmBlock m (R.TMm_CAP m) ∧ TmBlock m (R.TMm_STAT m) := by
  simp only [TmBlock, R.TMm_CTRL, R.TMm_LOAD, R.TMm_CMP, R.TMm_COUNT, R.TMm_CAP, R.TMm_STAT]; omega

theorem TmBlock.sideReg {m off : Nat} (h : TmBlock m off) (hm : m < 16) : SideReg off := by
  obtain ⟨h1, h2⟩ := h
  simp only [R.TMm_CTRL] at h1 h2
  exact ⟨by omega, by omega⟩

theorem tmOwn_of_block {ts : Nat → Bool} {m off : Nat} (hm : m < 16) (ht : ts m = true) (h : TmBlock m off) : tmOwn ts off = true :=
  List.any_eq_true.2 ⟨m, List.mem_range.2 hm, by simp [ht, h.1, h.2]⟩

theorem tmOwn_eq_false {ts : Nat → Bool} {m off : Nat} (ht : ts m = false) (h : TmBlock m off) : tmOwn ts off = false := by
  refine List.any_eq_false.2 fun j _ hj => ?_
  simp only [Bool.and_eq_true, decide_eq_true_eq] at hj
  obtain ⟨⟨hj, h1⟩, h2⟩ := hj
  obtain ⟨h3, h4⟩ := h
  simp only [R.TMm_CTRL] at h1 h2 h3 h4
  obtain rfl : j = m := by omega
  rw [ht] at hj; cases hj

/-- What follows the event of an expiry: its count, the end of a one-shot, and the request to wake (R577, R582). -/
def State.afterExpiry (s : State) (m : Nat) : State :=
  let s2 := if s.crp.mainUp then s.count (Cnt.sbe 4) 1 else s
  let s3 := if s2.flag (F.TMm_CTRL_ONESHOT m) then s2.setB (F.TMm_CTRL_EN m) false else s2
  if s3.flag (F.TMm_CTRL_WAKE m) then
    if m = 14 then { s3 with crp := { s3.crp with wake14 := true } }
    else if m = 15 then { s3 with crp := { s3.crp with wake15 := true } } else s3
  else s3

theorem State.tmExpiry_eq (s : State) (m : Nat) :
    s.tmExpiry m = (((s.hit (F.TMm_STAT_EXP m)).setF (F.TMm_STAT_LAP m) 0).raise (EV.tmExp m)).afterExpiry m := rfl

/-- `x` is `s` but for the timers `ts`, the pins, and the requests to wake; the timers see the pads as before. -/
structure OnTimers (ts : Nat → Bool) (s x : State) : Prop extends Onward s x where
  frame : Frame s x [.pins, .reset] (tmOwn ts)
  tm : ∀ j, ts j = false → x.tm j = s.tm j
  up : x.crp.mainUp = s.crp.mainUp
  seen : ∀ i, x.pinSeen ctlLag i = s.pinSeen ctlLag i

namespace OnTimers

variable {ts : Nat → Bool} {s x y : State} {m : Nat}

theorem refl (s : State) : OnTimers ts s s := ⟨.refl s, .refl s _ _, fun _ _ => rfl, rfl, fun _ => rfl⟩

theorem trans (h1 : OnTimers ts s x) (h2 : OnTimers ts x y) : OnTimers ts s y :=
  ⟨h1.toOnward.trans h2.toOnward, h1.frame.trans h2.frame, fun j hj => (h2.tm j hj).trans (h1.tm j hj), h2.up.trans h1.up,
    fun i => (h2.seen i).trans (h1.seen i)⟩

theorem setReg (s : State) {off : Nat} (v : Word) (hm : m < 16) (ht : ts m = true) (h : TmBlock m off) : OnTimers ts s (s.setReg off v) :=
  ⟨.setReg s v (h.sideReg hm).notPend, .setReg s off v (tmOwn_of_block hm ht h), fun _ _ => rfl, rfl, fun _ => rfl⟩

theorem setF (s : State) {f : Fld} (v : Nat) (hm : m < 16) (ht : ts m = true) (h : TmBlock m f.off) : OnTimers ts s (s.setF f v) :=
  setReg s _ hm ht h

theorem setB (s : State) {f : Fld} (b : Bool) (hm : m < 16) (ht : ts m = true) (h : TmBlock m f.off) : OnTimers ts s (s.setB f b) :=
  setReg s _ hm ht h

theorem hit (s : State) {f : Fld} (hm : m < 16) (ht : ts m = true) (h : TmBlock m f.off) : OnTimers ts s (s.hit f) :=
  ⟨.hit s f (h.sideReg hm).notPend, .hit s f (tmOwn_of_block hm ht h), fun _ _ => rfl, rfl, fun _ => rfl⟩

theorem raise (s : State) {n : Nat} (hn : n < 4096) : OnTimers ts s (s.raise n) where
  toOnward := .raise s n
  frame := .raise s hn
  tm j _ := (SideSame.raise s hn).tm j
  up := by rw [s.raise_crp]
  seen i := by
    have hcore : (s.raise n).core = s.core := by unfold State.core; rw [s.raise_now, (Onward.raise s n).ft]
    exact State.pinSeen_of_find (by rw [s.raise_sbd, hcore]) (by rw [s.raise_sbd])

theorem count (s : State) (o n : Nat) : OnTimers ts s (s.count o n) :=
  ⟨.count s o n, .of_still rfl (fun _ _ _ => rfl) List.prefix_rfl, fun _ _ => rfl, rfl, fun _ => rfl⟩

theorem modTm (s : State) (f : Timer → Timer) (ht : ts m = true) : OnTimers ts s (s.modTm m f) where
  toOnward := .of_regs rfl fun _ _ => rfl
  frame := .sbd s _ (by decide)
  tm j hj := by
    have hne : j ≠ m := fun e => by rw [e, ht] at hj; cases hj
    exact kget_kset_ne _ _ _ _ hne
  up := rfl
  seen _ := rfl

theorem updatePins (s : State) : OnTimers ts s s.updatePins :=
  ⟨.of_regs (congrArg SchState.ft (updatePins_sch s)) fun off _ => s.updatePins_reg off, .updatePins s (by decide),
    fun j _ => s.updatePins_tm j, by rw [s.updatePins_crp], s.updatePins_pinSeen⟩

/-- A request to wake is noted (R582). -/
theorem crp (s : State) (c : CrpState) (h : c.mainUp = s.crp.mainUp) : OnTimers ts s { s with crp := c } where
  toOnward := .of_regs rfl fun _ _ => rfl
  frame := {
    queue := rfl
    parts := fun p hp _ => by
      cases p with
      | threads => exact ⟨rfl, rfl, rfl, rfl⟩
      | reset => exact absurd (by decide) hp
      | _ => rfl
    regs := fun _ _ _ => rfl
    out := List.prefix_rfl }
  tm _ _ := rfl
  up := h
  seen _ := rfl

theorem tmMatch (s : State) (hm : m < 16) (ht : ts m = true) : OnTimers ts s (s.tmMatch m) := by
  obtain ⟨-, -, -, -, -, hstat⟩ := tmBlock_regs m
  exact ((setB s _ hm ht hstat).trans (hit _ hm ht hstat)).trans (raise _ (by simp only [EV.tmCmp]; omega))

theorem afterExpiry (s : State) (hm : m < 16) (ht : ts m = true) : OnTimers ts s (s.afterExpiry m) := by
  obtain ⟨hctrl, -⟩ := tmBlock_regs m
  unfold State.afterExpiry; extract_lets s2 s3
  have h2 : OnTimers ts s s2 := by
    show OnTimers ts s (if _ then _ else _)
    split
    · exact count _ _ _
    · exact refl _
  have h3 : OnTimers ts s2 s3 := by
    show OnTimers ts s2 (if _ then _ else _)
    split
    · exact setB _ _ hm ht hctrl
    · exact refl _
  refine (h2.trans h3).trans ?_
  repeat' split
  · exact crp _ _ rfl
  · exact crp _ _ rfl
  · exact refl _
  · exact refl _

theorem tmExpiry (s : State) (hm : m < 16) (ht : ts m = true) : OnTimers ts s (s.tmExpiry m) := by
  obtain ⟨-, -, -, -, -, hstat⟩ := tmBlock_regs m
  rw [State.tmExpiry_eq]
  exact (((hit s hm ht hstat).trans (setF _ 0 hm ht hstat)).trans (raise _ (by simp only [EV.tmExp]; omega))).trans (afterExpiry _ hm ht)

theorem tmLapOver (s : State) (hm : m < 16) (ht : ts m = true) : OnTimers ts s (s.tmLapOver m) := by
  obtain ⟨-, -, -, hcount, -, hstat⟩ := tmBlock_regs m
  unfold State.tmLapOver; extract_lets lap load cmp s1 s2
  have h1 : OnTimers ts s s1 := ((setReg s _ hm ht hcount).trans (modTm _ _ ht)).trans (setB _ _ hm ht hstat)
  have h2 : OnTimers ts s1 s2 := by
    show OnTimers ts s1 (if _ then _ else _)
    split
    · exact tmExpiry _ hm ht
    · exact setF _ _ hm ht hstat
  refine (h1.trans h2).trans (trans ?_ (updatePins _))
  split
  · exact tmMatch _ hm ht
  · exact refl _

theorem tmDown (s : State) (n : Nat) (hm : m < 16) (ht : ts m = true) : OnTimers ts s (s.tmDown m n) := by
  obtain ⟨-, -, -, hcount, -, -⟩ := tmBlock_regs m
  unfold State.tmDown; extract_lets c cmp s1
  have h1 : OnTimers ts s s1 := setReg s _ hm ht hcount
  split
  · exact (h1.trans (tmMatch _ hm ht)).trans (updatePins _)
  · exact h1

end OnTimers

end Sys2Proof.Machine
end

section
/-! The steps of a timer: what a match, an expiry, a lap end and the steps that follow it by LINK make of its registers. -/

namespace Sys2Proof.Machine

/-- A field that no step of timer `m` writes. -/
structure Fld.Steady (x : Fld) (m : Nat) : Prop where
  side : SideReg x.off
  count : x.off ≠ R.TMm_COUNT m
  out : x.Apart (F.TMm_STAT_OUT m)
  cmpf : x.Apart (F.TMm_STAT_CMPF m)
  exp : x.Apart (F.TMm_STAT_EXP m)
  lap : x.Apart (F.TMm_STAT_LAP m)
  en : x.Apart (F.TMm_CTRL_EN m)

/-- Registers of the timers that are neither COUNT, STAT nor CTRL of timer `m`. -/
theorem Fld.steady_of_off {x : Fld} {m : Nat} (hs : SideReg x.off) (h1 : x.off ≠ R.TMm_COUNT m) (h2 : x.off ≠ R.TMm_STAT m)
    (h3 : x.off ≠ R.TMm_CTRL m) : x.Steady m := ⟨hs, h1, .inl h2, .inl h2, .inl h2, .inl h2, .inl h3⟩

/-- The fields of TMm_CTRL but EN. -/
theorem Fld.steady_ctrl {x : Fld} {n m : Nat} (hx : x.off = R.TMm_CTRL n) (hn : n < 16) (hlo : 1 ≤ x.lo) : x.Steady m := by
  obtain ⟨hctrl, -⟩ := tmBlock_regs n
  have h1 : x.off ≠ R.TMm_COUNT m := by rw [hx]; simp only [R.TMm_CTRL, R.TMm_COUNT]; omega
  have h2 : x.off ≠ R.TMm_STAT m := by rw [hx]; simp only [R.TMm_CTRL, R.TMm_STAT]; omega
  exact ⟨hx ▸ hctrl.sideReg hn, h1, .inl h2, .inl h2, .inl h2, .inl h2, .inr (.inr hlo)⟩

/-! ## A match (R576) -/

theorem State.tmMatch_f (s : State) {m : Nat} {x : Fld} (hm : m < 16) (hs : SideReg x.off) (h1 : x.Apart (F.TMm_STAT_OUT m))
    (h2 : x.Apart (F.TMm_STAT_CMPF m)) : (s.tmMatch m).f x = s.f x := by
  unfold State.tmMatch
  rw [State.f_raise _ (by simp only [EV.tmCmp]; omega) hs, State.f_hit_apart _ h2, State.setB, State.f_setF_apart _ _ h1]

theorem State.tmMatch_flags (s : State) {m : Nat} (hm : m < 16) : (s.tmMatch m).flag (F.TMm_STAT_OUT m) = true ∧
    (s.tmMatch m).flag (F.TMm_STAT_CMPF m) = true := by
  obtain ⟨-, -, -, -, -, hstat⟩ := tmBlock_regs m
  have hraise (a : State) : SideSame a (a.raise (EV.tmCmp m)) := .raise a (by simp only [EV.tmCmp]; omega)
  unfold State.tmMatch
  rw [(hraise _).flag (hstat.sideReg hm), (hraise _).flag (hstat.sideReg hm)]
  refine ⟨?_, State.flag_hit_same _ _ (show 5 + 1 ≤ 32 by decide) rfl⟩
  rw [State.flag_of_f (State.f_hit_apart _ (.inr (.inl (show 3 + 1 ≤ 5 by decide))))]
  exact State.flag_setB_same _ _ _ (show 3 + 1 ≤ 32 by decide) rfl

theorem State.tmMatch_event (s : State) {m : Nat} (hm : m < 16) (h : s.crp.mainUp = true) : (s.tmMatch m).evPending (EV.tmCmp m) = true :=
  State.evPending_raise _ (by simp only [EV.tmCmp]; omega) h

theorem State.tmMatch_tm (s : State) (m j : Nat) : (s.tmMatch m).tm j = s.tm j := by
  unfold State.tm State.tmMatch; rw [State.raise_sbd]; rfl

/-! ## An expiry (R577) -/

/-- Of the registers, what follows the event writes EN alone, and that of a one-shot. -/
theorem State.afterExpiry_reg (s : State) (m off : Nat) : (s.afterExpiry m).reg off =
    (if s.flag (F.TMm_CTRL_ONESHOT m) then s.setB (F.TMm_CTRL_EN m) false else s).reg off := by
  have hwake (a : State) : (if a.flag (F.TMm_CTRL_WAKE m) then
      if m = 14 then { a with crp := { a.crp with wake14 := true } }
      else if m = 15 then { a with crp := { a.crp with wake15 := true } } else a
      else a).reg off = a.reg off := by
    repeat' split
    all_goals rfl
  unfold State.afterExpiry; extract_lets s2 s3
  rw [hwake]
  show (if s2.flag _ then s2.setB _ false else s2).reg off = _
  have h2 : s2.regs = s.regs := by
    show State.regs (if _ then _ else _) = _
    split <;> rfl
  have hf (x : Fld) : s2.flag x = s.flag x := State.flag_of_reg (State.reg_congr h2 _)
  rw [hf]; split
  · unfold State.setB State.setF State.setReg State.reg; rw [h2]
  · exact State.reg_congr h2 off

theorem State.afterExpiry_sbd (s : State) (m : Nat) : (s.afterExpiry m).sbd = s.sbd := by
  unfold State.afterExpiry; dsimp only; repeat' split
  all_goals rfl

theorem State.afterExpiry_f (s : State) {m : Nat} {x : Fld} (h : x.Apart (F.TMm_CTRL_EN m)) : (s.afterExpiry m).f x = s.f x := by
  rw [State.f_of_reg (s.afterExpiry_reg m x.off)]; split
  · exact s.f_setF_apart _ h
  · rfl

theorem State.tmExpiry_f (s : State) {m : Nat} {x : Fld} (hm : m < 16) (hs : SideReg x.off) (h1 : x.Apart (F.TMm_STAT_EXP m))
    (h2 : x.Apart (F.TMm_STAT_LAP m)) (h3 : x.Apart (F.TMm_CTRL_EN m)) : (s.tmExpiry m).f x = s.f x := by
  rw [State.tmExpiry_eq, State.afterExpiry_f _ h3, State.f_raise _ (by simp only [EV.tmExp]; omega) hs, State.f_setF_apart _ _ h2,
    State.f_hit_apart _ h1]

theorem State.tmExpiry_tm (s : State) (m j : Nat) : (s.tmExpiry m).tm j = s.tm j := by
  unfold State.tm; rw [State.tmExpiry_eq, State.afterExpiry_sbd, State.raise_sbd]; rfl

theorem State.tmExpiry_event (s : State) {m : Nat} (hm : m < 16) (h : s.crp.mainUp = true) : (s.tmExpiry m).evPending (EV.tmExp m) = true := by
  have he : EV.tmExp m < 4096 := by simp only [EV.tmExp]; omega
  rw [State.tmExpiry_eq]
  exact (OnTimers.afterExpiry (ts := fun _ => true) _ hm rfl).events _ he (State.evPending_raise _ he h)

/-- LAP and EXP after an expiry, and EN of a one-shot. -/
theorem State.tmExpiry_fields (s : State) {m : Nat} (hm : m < 16) : (s.tmExpiry m).f (F.TMm_STAT_LAP m) = 0 ∧
    (s.tmExpiry m).flag (F.TMm_STAT_EXP m) = true ∧
    (s.flag (F.TMm_CTRL_ONESHOT m) = true → (s.tmExpiry m).flag (F.TMm_CTRL_EN m) = false) := by
  obtain ⟨hctrl, -, -, -, -, hstat⟩ := tmBlock_regs m
  have hne : R.TMm_STAT m ≠ R.TMm_CTRL m := by simp only [R.TMm_STAT, R.TMm_CTRL]; omega
  have hraise (a : State) : SideSame a (a.raise (EV.tmExp m)) := .raise a (by simp only [EV.tmExp]; omega)
  have hone : (((s.hit (F.TMm_STAT_EXP m)).setF (F.TMm_STAT_LAP m) 0).raise (EV.tmExp m)).flag (F.TMm_CTRL_ONESHOT m) =
      s.flag (F.TMm_CTRL_ONESHOT m) := by
    rw [(hraise _).flag (hctrl.sideReg hm)]
    exact State.flag_of_f ((State.f_setF_apart _ _ (.inl hne.symm)).trans (State.f_hit_apart _ (.inl hne.symm)))
  rw [State.tmExpiry_eq]
  refine ⟨?_, ?_, fun h => ?_⟩
  · rw [State.afterExpiry_f _ (.inl hne), (hraise _).f (hstat.sideReg hm)]
    exact State.f_setF_same _ _ _ (show 8 + 8 ≤ 32 by decide)
  · rw [State.flag_of_f (State.afterExpiry_f _ (.inl hne)), (hraise _).flag (hstat.sideReg hm),
      State.flag_of_f (State.f_setF_apart _ _ (.inr (.inl (show 4 + 1 ≤ 8 by decide))))]
    exact State.flag_hit_same _ _ (show 4 + 1 ≤ 32 by decide) rfl
  · rw [State.flag_of_reg (State.afterExpiry_reg _ m _), hone, if_pos h]
    exact State.flag_setB_same _ _ _ (show 0 + 1 ≤ 32 by decide) rfl

/-! ## A lap end (R576, R577) -/

/-- What a lap end of a timer goes by: its buffers, LAPS, LAP, ONESHOT, and whether its events are recorded. -/
structure TimerSetup where
  load : Word
  cmp : Word
  laps : Nat
  lap : Nat
  oneshot : Bool
  up : Bool

def State.tmSetup (s : State) (m : Nat) : TimerSetup where
  load := s.reg (R.TMm_LOAD m)
  cmp := s.reg (R.TMm_CMP m)
  laps := s.f (F.TMm_CTRL_LAPS m)
  lap := s.f (F.TMm_STAT_LAP m)
  oneshot := s.flag (F.TMm_CTRL_ONESHOT m)
  up := s.crp.mainUp

/-- Timer `m` in state `a` after a lap end at the setup `p`. -/
structure LapEnded (p : TimerSetup) (m : Nat) (a : State) : Prop where
  count : a.reg (R.TMm_COUNT m) = p.load
  cmp : (a.tm m).cmp = p.cmp
  out : p.load ≠ p.cmp → a.flag (F.TMm_STAT_OUT m) = false
  expired : p.lap = p.laps → a.f (F.TMm_STAT_LAP m) = 0 ∧ a.flag (F.TMm_STAT_EXP m) = true ∧
    (p.up = true → a.evPending (EV.tmExp m) = true) ∧ (p.oneshot = true → a.flag (F.TMm_CTRL_EN m) = false)
  lap : p.lap ≠ p.laps → a.f (F.TMm_STAT_LAP m) = (p.lap + 1) % 256

/-- What leaves the registers and the compare value of timer `m`, and no event cleared, leaves its lap end as it was. -/
theorem LapEnded.of_same {p : TimerSetup} {m : Nat} {a b : State} (hm : m < 16) (h : LapEnded p m a)
    (hr : ∀ off, TmBlock m off → b.reg off = a.reg off) (ht : b.tm m = a.tm m) (ho : Onward a b) : LapEnded p m b := by
  obtain ⟨hctrl, -, -, hcount, -, hstat⟩ := tmBlock_regs m
  have hf (x : Fld) (hx : TmBlock m x.off) : b.f x = a.f x := State.f_of_reg (hr _ hx)
  have hflag (x : Fld) (hx : TmBlock m x.off) : b.flag x = a.flag x := State.flag_of_reg (hr _ hx)
  refine ⟨(hr _ hcount).trans h.count, (congrArg Timer.cmp ht).trans h.cmp, fun hp => (hflag _ hstat).trans (h.out hp), fun hp => ?_,
    fun hp => (hf _ hstat).trans (h.lap hp)⟩
  obtain ⟨h1, h2, h3, h4⟩ := h.expired hp
  exact ⟨(hf _ hstat).trans h1, (hflag _ hstat).trans h2, fun hu => ho.events _ (by simp only [EV.tmExp]; omega) (h3 hu),
    fun hs => (hflag _ hctrl).trans (h4 hs)⟩

theorem LapEnded.sideSame {p : TimerSetup} {m : Nat} {a b : State} (hm : m < 16) (h : LapEnded p m a) (hs : SideSame a b) (ho : Onward a b) :
    LapEnded p m b := h.of_same hm (fun _ hx => hs.regs _ (hx.sideReg hm)) (hs.tm m) ho

/-- Operations on other timers leave the lap end of timer `m` as it was. -/
theorem LapEnded.onTimers {p : TimerSetup} {m : Nat} {a b : State} {ts : Nat → Bool} (hm : m < 16) (h : LapEnded p m a)
    (ho : OnTimers ts a b) (ht : ts m = false) : LapEnded p m b :=
  h.of_same hm (fun off hx => ho.frame.regs off (hx.sideReg hm).calm (tmOwn_eq_false ht hx)) (ho.tm m ht) ho.toOnward

/-- The buffers apply at a lap end, and OUT clears (R576). -/
def State.tmReload (s : State) (m : Nat) : State :=
  ((s.setReg (R.TMm_COUNT m) (s.reg (R.TMm_LOAD m))).modTm m fun x => { x with cmp := s.reg (R.TMm_CMP m) }).setB (F.TMm_STAT_OUT m) false

/-- The lap that ends is counted, or the timer expires. -/
def State.tmLapNext (s : State) (m : Nat) : State :=
  if s.f (F.TMm_STAT_LAP m) = s.f (F.TMm_CTRL_LAPS m) then (s.tmReload m).tmExpiry m
  else (s.tmReload m).setF (F.TMm_STAT_LAP m) (s.f (F.TMm_STAT_LAP m) + 1)

theorem State.tmLapOver_eq (s : State) (m : Nat) : s.tmLapOver m =
    (if s.reg (R.TMm_LOAD m) = s.reg (R.TMm_CMP m) then (s.tmLapNext m).tmMatch m else s.tmLapNext m).updatePins := rfl

theorem State.tm_modTm_same (s : State) (m : Nat) (f : Timer → Timer) : (s.modTm m f).tm m = f (s.tm m) := by
  unfold State.modTm State.setTm State.tm; exact kget_kset_same ..

theorem tmCount_ne (m : Nat) : R.TMm_COUNT m ≠ R.TMm_STAT m ∧ R.TMm_COUNT m ≠ R.TMm_CTRL m ∧ R.TMm_STAT m ≠ R.TMm_CTRL m := by
  simp only [R.TMm_COUNT, R.TMm_STAT, R.TMm_CTRL]; omega

theorem State.tmReload_f (s : State) {m : Nat} {x : Fld} (h1 : x.off ≠ R.TMm_COUNT m) (h2 : x.Apart (F.TMm_STAT_OUT m)) :
    (s.tmReload m).f x = s.f x := by
  unfold State.tmReload
  rw [State.setB, State.f_setF_apart _ _ h2]
  exact State.f_of_reg (s.reg_setReg_ne _ h1)

theorem State.tmReload_count (s : State) (m : Nat) : (s.tmReload m).reg (R.TMm_COUNT m) = s.reg (R.TMm_LOAD m) := by
  unfold State.tmReload
  rw [State.setB_reg_ne _ (F.TMm_STAT_OUT m) _ (tmCount_ne m).1]
  exact s.reg_setReg_same _ _

theorem State.tmReload_cmp (s : State) (m : Nat) : ((s.tmReload m).tm m).cmp = s.reg (R.TMm_CMP m) :=
  congrArg Timer.cmp (State.tm_modTm_same (s.setReg (R.TMm_COUNT m) (s.reg (R.TMm_LOAD m))) m fun x => { x with cmp := s.reg (R.TMm_CMP m) })

theorem State.tmReload_out (s : State) (m : Nat) : (s.tmReload m).flag (F.TMm_STAT_OUT m) = false :=
  State.flag_setB_same _ _ _ (show 3 + 1 ≤ 32 by decide) rfl

theorem State.tmLapNext_f (s : State) {m : Nat} {x : Fld} (hm : m < 16) (h : x.Steady m) : (s.tmLapNext m).f x = s.f x := by
  have hr : (s.tmReload m).f x = s.f x := s.tmReload_f h.count h.out
  unfold State.tmLapNext; split
  · rw [State.tmExpiry_f _ hm h.side h.exp h.lap h.en, hr]
  · rw [State.f_setF_apart _ _ h.lap, hr]

theorem State.tmLapOver_f (s : State) {m : Nat} {x : Fld} (hm : m < 16) (h : x.Steady m) : (s.tmLapOver m).f x = s.f x := by
  rw [State.tmLapOver_eq, State.updatePins_f]; split
  · rw [State.tmMatch_f _ hm h.side h.out h.cmpf, s.tmLapNext_f hm h]
  · exact s.tmLapNext_f hm h

/-- Whether a lap end is counted or is an expiry, the buffers have applied and OUT is clear. -/
theorem State.tmLapNext_ended (s : State) {m : Nat} (hm : m < 16) : LapEnded (s.tmSetup m) m (s.tmLapNext m) := by
  obtain ⟨hctrl, -, -, hcount, -, hstat⟩ := tmBlock_regs m
  obtain ⟨hcs, hcc, hsc⟩ := tmCount_ne m
  unfold State.tmLapNext; split
  · rename_i hl
    have hreg : ((s.tmReload m).tmExpiry m).reg (R.TMm_COUNT m) = (s.tmReload m).reg (R.TMm_COUNT m) :=
      State.reg_eq_of_f (State.tmExpiry_f _ hm (hcount.sideReg hm) (.inl hcs) (.inl hcs) (.inl hcc))
    have hout : ((s.tmReload m).tmExpiry m).flag (F.TMm_STAT_OUT m) = (s.tmReload m).flag (F.TMm_STAT_OUT m) :=
      State.flag_of_f (State.tmExpiry_f _ hm (hstat.sideReg hm) (.inr (.inl (show 3 + 1 ≤ 4 by decide)))
        (.inr (.inl (show 3 + 1 ≤ 8 by decide))) (.inl hsc))
    have hone : (s.tmReload m).flag (F.TMm_CTRL_ONESHOT m) = s.flag (F.TMm_CTRL_ONESHOT m) :=
      State.flag_of_f (s.tmReload_f (x := F.TMm_CTRL_ONESHOT m) hcc.symm (.inl hsc.symm))
    obtain ⟨hlap, hexp, hen⟩ := (s.tmReload m).tmExpiry_fields hm
    exact ⟨hreg.trans (s.tmReload_count m), (congrArg Timer.cmp (State.tmExpiry_tm _ m m)).trans (s.tmReload_cmp m),
      fun _ => hout.trans (s.tmReload_out m),
      fun _ => ⟨hlap, hexp, fun hu => State.tmExpiry_event _ hm hu, fun ho => hen (hone.trans ho)⟩, fun hne => absurd hl hne⟩
  · rename_i hl
    have hreg (v : Nat) : ((s.tmReload m).setF (F.TMm_STAT_LAP m) v).reg (R.TMm_COUNT m) = (s.tmReload m).reg (R.TMm_COUNT m) :=
      State.setF_reg_ne _ (F.TMm_STAT_LAP m) _ hcs
    have hout (v : Nat) : ((s.tmReload m).setF (F.TMm_STAT_LAP m) v).flag (F.TMm_STAT_OUT m) = (s.tmReload m).flag (F.TMm_STAT_OUT m) :=
      State.flag_of_f (State.f_setF_apart _ _ (.inr (.inl (show 3 + 1 ≤ 8 by decide))))
    exact ⟨(hreg _).trans (s.tmReload_count m), s.tmReload_cmp m, fun _ => (hout _).trans (s.tmReload_out m), fun he => absurd he hl,
      fun _ => State.f_setF_same _ _ _ (show 8 + 8 ≤ 32 by decide)⟩

/-- A match at once changes OUT and CMPF alone. -/
theorem LapEnded.tmMatch {p : TimerSetup} {m : Nat} {a : State} (hm : m < 16) (h : LapEnded p m a) (he : p.load = p.cmp) :
    LapEnded p m (a.tmMatch m) := by
  obtain ⟨hctrl, -, -, hcount, -, hstat⟩ := tmBlock_regs m
  obtain ⟨hcs, hcc, hsc⟩ := tmCount_ne m
  have hreg : (a.tmMatch m).reg (R.TMm_COUNT m) = a.reg (R.TMm_COUNT m) :=
    State.reg_eq_of_f (a.tmMatch_f hm (hcount.sideReg hm) (.inl hcs) (.inl hcs))
  have hlap : (a.tmMatch m).f (F.TMm_STAT_LAP m) = a.f (F.TMm_STAT_LAP m) :=
    a.tmMatch_f hm (hstat.sideReg hm) (.inr (.inr (show 3 + 1 ≤ 8 by decide))) (.inr (.inr (show 5 + 1 ≤ 8 by decide)))
  have hexp : (a.tmMatch m).flag (F.TMm_STAT_EXP m) = a.flag (F.TMm_STAT_EXP m) := State.flag_of_f
    (a.tmMatch_f hm (hstat.sideReg hm) (.inr (.inr (show 3 + 1 ≤ 4 by decide))) (.inr (.inl (show 4 + 1 ≤ 5 by decide))))
  have hen : (a.tmMatch m).flag (F.TMm_CTRL_EN m) = a.flag (F.TMm_CTRL_EN m) := State.flag_of_f
    (a.tmMatch_f hm (hctrl.sideReg hm) (.inl hsc.symm) (.inl hsc.symm))
  refine ⟨hreg.trans h.count, (congrArg Timer.cmp (a.tmMatch_tm m m)).trans h.cmp, fun hne => absurd he hne, fun hl => ?_,
    fun hl => hlap.trans (h.lap hl)⟩
  obtain ⟨h1, h2, h3, h4⟩ := h.expired hl
  exact ⟨hlap.trans h1, hexp.trans h2,
    fun hu => (OnTimers.tmMatch (ts := fun _ => true) a hm rfl).events _ (by simp only [EV.tmExp]; omega) (h3 hu), fun ho => hen.trans (h4 ho)⟩

theorem State.tmLapOver_ended (s : State) {m : Nat} (hm : m < 16) : LapEnded (s.tmSetup m) m (s.tmLapOver m) := by
  have hpins (a : State) (h : LapEnded (s.tmSetup m) m a) : LapEnded (s.tmSetup m) m a.updatePins :=
    h.of_same hm (fun off _ => a.updatePins_reg off) (a.updatePins_tm m) (OnTimers.updatePins (ts := fun _ => true) a).toOnward
  rw [State.tmLapOver_eq]
  refine hpins _ ?_
  split
  · rename_i he; exact (s.tmLapNext_ended hm).tmMatch hm he
  · exact s.tmLapNext_ended hm

/-! ## Steps that end no lap (R576) -/

theorem State.tmDown_f (s : State) {m : Nat} {x : Fld} (n : Nat) (hm : m < 16) (hs : SideReg x.off) (h1 : x.off ≠ R.TMm_COUNT m)
    (h2 : x.Apart (F.TMm_STAT_OUT m)) (h3 : x.Apart (F.TMm_STAT_CMPF m)) : (s.tmDown m n).f x = s.f x := by
  have hset (v : Word) : (s.setReg (R.TMm_COUNT m) v).f x = s.f x := State.f_of_reg (s.reg_setReg_ne v h1)
  unfold State.tmDown; dsimp only; split
  · rw [State.updatePins_f, State.tmMatch_f _ hm hs h2 h3, hset]
  · exact hset _

theorem State.tmDown_count (s : State) {m : Nat} (n : Nat) (hm : m < 16) :
    ((s.tmDown m n).reg (R.TMm_COUNT m)).toNat = (s.reg (R.TMm_COUNT m)).toNat - n := by
  obtain ⟨-, -, -, hcount, -, -⟩ := tmBlock_regs m
  obtain ⟨hcs, -, -⟩ := tmCount_ne m
  have hlt := (s.reg (R.TMm_COUNT m)).isLt
  have hset : ((s.setReg (R.TMm_COUNT m) (BitVec.ofNat 32 ((s.reg (R.TMm_COUNT m)).toNat - n))).reg (R.TMm_COUNT m)).toNat =
      (s.reg (R.TMm_COUNT m)).toNat - n := by
    rw [State.reg_setReg_same, BitVec.toNat_ofNat]; exact Nat.mod_eq_of_lt (by omega)
  have hmatch (a : State) : (a.tmMatch m).reg (R.TMm_COUNT m) = a.reg (R.TMm_COUNT m) :=
    State.reg_eq_of_f (a.tmMatch_f hm (hcount.sideReg hm) (.inl hcs) (.inl hcs))
  unfold State.tmDown; dsimp only; split
  · rw [State.updatePins_reg, hmatch]; exact hset
  · exact hset

/-- COUNT meets the compare value on the way. -/
theorem State.tmDown_meets {s : State} {m n : Nat} (hm : m < 16) (h : (s.reg (R.TMm_COUNT m)).toNat - n ≤ (s.tm m).cmp.toNat)
    (h' : (s.tm m).cmp.toNat < (s.reg (R.TMm_COUNT m)).toNat) : (s.tmDown m n).flag (F.TMm_STAT_OUT m) = true ∧
    (s.tmDown m n).flag (F.TMm_STAT_CMPF m) = true ∧ (s.crp.mainUp = true → (s.tmDown m n).evPending (EV.tmCmp m) = true) := by
  obtain ⟨hout, hcmpf⟩ := State.tmMatch_flags (s.setReg (R.TMm_COUNT m) (BitVec.ofNat 32 ((s.reg (R.TMm_COUNT m)).toNat - n))) hm
  unfold State.tmDown; dsimp only
  rw [if_pos ⟨h, h'⟩, State.updatePins_flag, State.updatePins_flag]
  exact ⟨hout, hcmpf, fun hu => (OnTimers.updatePins (ts := fun _ => true) _).events _ (by simp only [EV.tmCmp]; omega)
    (State.tmMatch_event _ hm hu)⟩

/-! ## Timers in a chain (R574, R577) -/

/-- A timer whose clock is LINK runs while MAIN is up and it is enabled. -/
theorem State.tmRuns_link {s : State} {n : Nat} (h : s.f (F.TMm_CTRL_CLKSEL n) = 2) : s.tmRuns n = (s.flag (F.TMm_CTRL_EN n) && s.crp.mainUp) := by
  unfold State.tmRuns; simp [h]

/-- What timer `n` goes by in taking a step is as it was. -/
theorem State.tmLapOver_next (s : State) {m n : Nat} (hm : m < 16) (hn : n < 16) (hne : m < n) :
    (s.tmLapOver m).f (F.TMm_CTRL_CLKSEL n) = s.f (F.TMm_CTRL_CLKSEL n) ∧
    (s.f (F.TMm_CTRL_CLKSEL n) = 2 → (s.tmLapOver m).tmRuns n = s.tmRuns n) ∧ (s.tmLapOver m).tmGate n = s.tmGate n ∧
    (s.tmLapOver m).reg (R.TMm_COUNT n) = s.reg (R.TMm_COUNT n) ∧ (s.tmLapOver m).reg (R.TMm_LOAD n) = s.reg (R.TMm_LOAD n) ∧
    (s.tmLapOver m).tm n = s.tm n := by
  have ht : OnTimers (fun j => decide (j = m)) s (s.tmLapOver m) := .tmLapOver s hm (by simp)
  have hts : decide (n = m) = false := decide_eq_false (Nat.ne_of_gt hne)
  have hreg (off : Nat) (h : TmBlock n off) : (s.tmLapOver m).reg off = s.reg off :=
    ht.frame.regs off (h.sideReg hn).calm (tmOwn_eq_false hts h)
  obtain ⟨hctrl, hload, -, hcount, -, -⟩ := tmBlock_regs n
  have hf (x : Fld) (hx : x.off = R.TMm_CTRL n) : (s.tmLapOver m).f x = s.f x := State.f_of_reg (by rw [hx]; exact hreg _ hctrl)
  refine ⟨hf _ rfl, fun hc => ?_, ?_, hreg _ hcount, hreg _ hload, ht.tm n hts⟩
  · rw [State.tmRuns_link ((hf _ rfl).trans hc), State.tmRuns_link hc, State.flag_of_f (hf (F.TMm_CTRL_EN n) rfl), ht.up]
  · unfold State.tmGate
    rw [State.flag_of_f (hf (F.TMm_CTRL_GATE_EN n) rfl), State.flag_of_f (hf (F.TMm_CTRL_GATE_POL n) rfl), hf (F.TMm_CTRL_GATE_PIN n) rfl, ht.seen]

/-- Timer `m` at its lap end passes a step on to timer m + 1. -/
def State.tmPasses (s : State) (m : Nat) : Prop := s.f (F.TMm_STAT_LAP m) = s.f (F.TMm_CTRL_LAPS m) ∧ m + 1 < 16 ∧
  (s.tmLapOver m).f (F.TMm_CTRL_CLKSEL (m + 1)) = 2 ∧ (s.tmLapOver m).tmRuns (m + 1) = true ∧ (s.tmLapOver m).tmGate (m + 1) = true

/-- The step that timer `n` takes in a chain of at most `k` more. -/
def State.tmLinkStep (s : State) (k n : Nat) : State := if s.reg (R.TMm_COUNT n) = 0 then State.tmLapChain k s n else s.tmDown n 1

theorem State.tmLapChain_passes {s : State} {m : Nat} (k : Nat) (h : s.tmPasses m) :
    State.tmLapChain (k + 1) s m = (s.tmLapOver m).tmLinkStep k (m + 1) := by
  unfold State.tmLapChain State.tmLinkStep; exact if_pos h

theorem State.tmLapChain_keeps {s : State} {m : Nat} (k : Nat) (h : ¬s.tmPasses m) : State.tmLapChain (k + 1) s m = s.tmLapOver m := by
  rw [State.tmLapChain]; exact if_neg h

/-- A chain of timers that is closed under LINK. -/
theorem OnTimers.tmLapChain {ts : Nat → Bool} (k : Nat) {s : State} {m : Nat} (hm : m < 16) (ht : ts m = true)
    (hc : ∀ j, ts j = true → j + 1 < 16 → s.f (F.TMm_CTRL_CLKSEL (j + 1)) = 2 → ts (j + 1) = true) :
    OnTimers ts s (State.tmLapChain k s m) := by
  induction k generalizing s m with
  | zero => exact .tmLapOver s hm ht
  | succ k ih =>
    have h1 : OnTimers ts s (s.tmLapOver m) := .tmLapOver s hm ht
    have hclk (j : Nat) (hj : j < 16) : (s.tmLapOver m).f (F.TMm_CTRL_CLKSEL j) = s.f (F.TMm_CTRL_CLKSEL j) :=
      s.tmLapOver_f hm (Fld.steady_ctrl rfl hj (show 1 ≤ 2 by decide))
    by_cases hp : s.tmPasses m
    · obtain ⟨-, hn, hl, -, -⟩ := id hp
      have hts : ts (m + 1) = true := hc m ht hn ((hclk _ hn).symm.trans hl)
      rw [State.tmLapChain_passes k hp]
      refine h1.trans ?_
      unfold State.tmLinkStep; split
      · exact ih hn hts fun j hj hj' hl' => hc j hj hj' ((hclk _ hj').symm.trans hl')
      · exact .tmDown _ 1 hn hts
    · rw [State.tmLapChain_keeps k hp]; exact h1

/-- The steps passed on leave the timers below alone. -/
theorem OnTimers.tmLinkStep (s : State) (k : Nat) {n : Nat} (hn : n < 16) : OnTimers (fun j => decide (n ≤ j)) s (s.tmLinkStep k n) := by
  unfold State.tmLinkStep; split
  · refine .tmLapChain k hn (by simp) fun j hj _ _ => ?_
    simp only [decide_eq_true_eq] at hj ⊢; omega
  · exact .tmDown s 1 hn (by simp)

theorem State.tmLapChain_ended (s : State) {m : Nat} (k : Nat) (hm : m < 16) : LapEnded (s.tmSetup m) m (State.tmLapChain k s m) := by
  cases k with
  | zero => exact s.tmLapOver_ended hm
  | succ k =>
    by_cases hp : s.tmPasses m
    · rw [State.tmLapChain_passes k hp]
      exact (s.tmLapOver_ended hm).onTimers hm (.tmLinkStep _ k hp.2.1) (by simp)
    · rw [State.tmLapChain_keeps k hp]; exact s.tmLapOver_ended hm

/-- A timer in the chain takes its step at the expiry of the one before it. -/
theorem State.tmLapEnd_links {s : State} {m : Nat} (hm : m < 16) (hn : m + 1 < 16) (hl : s.f (F.TMm_STAT_LAP m) = s.f (F.TMm_CTRL_LAPS m))
    (hc : s.f (F.TMm_CTRL_CLKSEL (m + 1)) = 2) (hr : s.tmRuns (m + 1) = true) (hg : s.tmGate (m + 1) = true) :
    ((s.reg (R.TMm_COUNT (m + 1))).toNat = 0 → (s.tmLapEnd m).reg (R.TMm_COUNT (m + 1)) = s.reg (R.TMm_LOAD (m + 1))) ∧
    ((s.reg (R.TMm_COUNT (m + 1))).toNat ≠ 0 →
      ((s.tmLapEnd m).reg (R.TMm_COUNT (m + 1))).toNat = (s.reg (R.TMm_COUNT (m + 1))).toNat - 1 ∧
      ((s.reg (R.TMm_COUNT (m + 1))).toNat - 1 = (s.tm (m + 1)).cmp.toNat → (s.tmLapEnd m).flag (F.TMm_STAT_CMPF (m + 1)) = true)) := by
  obtain ⟨h1, h2, h3, hcount, hload, htm⟩ := s.tmLapOver_next hm hn (Nat.lt_succ_self m)
  have hp : s.tmPasses m := ⟨hl, hn, h1.trans hc, (h2 hc).trans hr, h3.trans hg⟩
  have e : s.tmLapEnd m = (s.tmLapOver m).tmLinkStep 15 (m + 1) := State.tmLapChain_passes 15 hp
  rw [e]
  unfold State.tmLinkStep
  rw [hcount]
  refine ⟨fun h0 => ?_, fun h0 => ?_⟩
  · rw [if_pos (BitVec.eq_of_toNat_eq h0), ← hload]
    exact (State.tmLapChain_ended _ 15 hn).count
  · rw [if_neg fun h => h0 (congrArg BitVec.toNat h), State.tmDown_count _ 1 hn, hcount]
    refine ⟨rfl, fun he => (State.tmDown_meets hn ?_ ?_).2.1⟩
    · rw [hcount, htm]; omega
    · rw [hcount, htm]; omega

end Sys2Proof.Machine
end

section
/-! The commands of the timers: time up to a step, laps, expiries, writes of TMm_CTRL, and captures. -/

namespace Sys2Proof.Machine

/-! ## Time up to a step (R574) -/

theorem SideSame.tmWait (s : State) (m n : Nat) : SideSame s (s.tmWait m n) := by
  unfold State.tmWait; repeat' split
  · exact .pass s _
  · exact .pass s _
  · exact .refl s

theorem Untouched.tmWait {but : List Part} {regs : Nat → Bool} (s : State) (m n : Nat) : Untouched s (s.tmWait m n) but regs := by
  unfold State.tmWait; repeat' split
  · exact .pass s _
  · exact .pass s _
  · exact (Frame.refl s but regs).untouched

theorem SideSame.tmSetup {a b : State} (h : SideSame a b) {m : Nat} (hm : m < 16) : b.tmSetup m = a.tmSetup m := by
  obtain ⟨hctrl, hload, hcmp, -, -, hstat⟩ := tmBlock_regs m
  unfold State.tmSetup
  rw [h.regs _ (hload.sideReg hm), h.regs _ (hcmp.sideReg hm), h.f (hctrl.sideReg hm), h.f (hstat.sideReg hm), h.flag (hctrl.sideReg hm), h.crp]

/-! ## Laps (R576, R577) -/

/-- `ts` holds every timer that takes steps by LINK from one of them. -/
def LinkClosed (ts : Nat → Bool) (s : State) : Prop :=
  ∀ j, ts j = true → j + 1 < 16 → s.f (F.TMm_CTRL_CLKSEL (j + 1)) = 2 → ts (j + 1) = true

theorem LinkClosed.congr {ts : Nat → Bool} {a b : State} (h : LinkClosed ts a)
    (hf : ∀ j < 16, b.f (F.TMm_CTRL_CLKSEL j) = a.f (F.TMm_CTRL_CLKSEL j)) : LinkClosed ts b :=
  fun j hj hj' hl => h j hj hj' ((hf _ hj').symm.trans hl)

theorem sideReg_TMm_CTRL {j : Nat} (hj : j < 16) : SideReg (R.TMm_CTRL j) := (tmBlock_regs j).1.sideReg hj

/-- The timer a step before the end of its lap, and that step's time passed. -/
def State.tmLapRun (s : State) (m : Nat) : State :=
  let c := (s.reg (R.TMm_COUNT m)).toNat
  ((s.tmWait m c).tmDown m c).tmWait m 1

theorem State.tmLap_eq (s : State) (m : Nat) : s.tmLap m = (s.tmLapRun m).tmLapEnd m := rfl

theorem State.tmLapRun_f (s : State) {m : Nat} {x : Fld} (hm : m < 16) (hs : SideReg x.off) (h1 : x.off ≠ R.TMm_COUNT m)
    (h2 : x.Apart (F.TMm_STAT_OUT m)) (h3 : x.Apart (F.TMm_STAT_CMPF m)) : (s.tmLapRun m).f x = s.f x := by
  unfold State.tmLapRun; dsimp only
  rw [(SideSame.tmWait _ m 1).f hs, State.tmDown_f _ _ hm hs h1 h2 h3, (SideSame.tmWait s m _).f hs]

theorem State.tmLapRun_steady (s : State) {m : Nat} {x : Fld} (hm : m < 16) (h : x.Steady m) : (s.tmLapRun m).f x = s.f x :=
  s.tmLapRun_f hm h.side h.count h.out h.cmpf

theorem State.tmLapRun_crp (s : State) {m : Nat} (hm : m < 16) : (s.tmLapRun m).crp.mainUp = s.crp.mainUp := by
  unfold State.tmLapRun; dsimp only
  rw [(SideSame.tmWait _ m 1).crp, (OnTimers.tmDown (ts := fun _ => true) _ _ hm rfl).up, (SideSame.tmWait s m _).crp]

theorem Untouched.tmLapRun {ts : Nat → Bool} (s : State) {m : Nat} (hm : m < 16) (ht : ts m = true) :
    Untouched s (s.tmLapRun m) [.pins, .reset] (tmOwn ts) :=
  ((Untouched.tmWait s m _).trans (OnTimers.tmDown _ _ hm ht).frame.untouched (by decide)).trans (.tmWait _ m 1) (by decide)

/-- Of the setup of timer `m`, all but LAP is in steady fields. -/
theorem State.tmSetup_of_steady {a b : State} {m : Nat} (hm : m < 16) (h : ∀ x : Fld, x.Steady m → b.f x = a.f x)
    (hu : b.crp.mainUp = a.crp.mainUp) : b.tmSetup m = { a.tmSetup m with lap := b.f (F.TMm_STAT_LAP m) } := by
  obtain ⟨-, hload, hcmp, -, -, -⟩ := tmBlock_regs m
  have hl : b.reg (R.TMm_LOAD m) = a.reg (R.TMm_LOAD m) := State.reg_eq_of_f (h _ (Fld.steady_of_off (hload.sideReg hm)
    (show R.TMm_LOAD m ≠ _ by simp only [R.TMm_LOAD, R.TMm_COUNT]; omega) (show R.TMm_LOAD m ≠ _ by simp only [R.TMm_LOAD, R.TMm_STAT]; omega)
    (show R.TMm_LOAD m ≠ _ by simp only [R.TMm_LOAD, R.TMm_CTRL]; omega)))
  have hc : b.reg (R.TMm_CMP m) = a.reg (R.TMm_CMP m) := State.reg_eq_of_f (h _ (Fld.steady_of_off (hcmp.sideReg hm)
    (show R.TMm_CMP m ≠ _ by simp only [R.TMm_CMP, R.TMm_COUNT]; omega) (show R.TMm_CMP m ≠ _ by simp only [R.TMm_CMP, R.TMm_STAT]; omega)
    (show R.TMm_CMP m ≠ _ by simp only [R.TMm_CMP, R.TMm_CTRL]; omega)))
  have hlaps : b.f (F.TMm_CTRL_LAPS m) = a.f (F.TMm_CTRL_LAPS m) := h _ (Fld.steady_ctrl rfl hm (show 1 ≤ 24 by decide))
  have hone : b.flag (F.TMm_CTRL_ONESHOT m) = a.flag (F.TMm_CTRL_ONESHOT m) :=
    State.flag_of_f (h _ (Fld.steady_ctrl rfl hm (show 1 ≤ 1 by decide)))
  unfold State.tmSetup; rw [hl, hc, hlaps, hone, hu]

theorem State.tmLapRun_lap (s : State) {m : Nat} (hm : m < 16) : (s.tmLapRun m).f (F.TMm_STAT_LAP m) = s.f (F.TMm_STAT_LAP m) := by
  obtain ⟨-, -, -, -, -, hstat⟩ := tmBlock_regs m
  exact s.tmLapRun_f hm (hstat.sideReg hm) (tmCount_ne m).1.symm (.inr (.inr (show 3 + 1 ≤ 8 by decide))) (.inr (.inr (show 5 + 1 ≤ 8 by decide)))

theorem State.tmLapRun_setup (s : State) {m : Nat} (hm : m < 16) : (s.tmLapRun m).tmSetup m = s.tmSetup m := by
  rw [State.tmSetup_of_steady hm (fun x hx => s.tmLapRun_steady hm hx) (s.tmLapRun_crp hm), s.tmLapRun_lap hm]; rfl

theorem State.tmLap_ended (s : State) {m : Nat} (hm : m < 16) : LapEnded (s.tmSetup m) m (s.tmLap m) := by
  rw [← s.tmLapRun_setup hm, State.tmLap_eq]; exact State.tmLapChain_ended _ 16 hm

theorem Untouched.tmLap {ts : Nat → Bool} (s : State) {m : Nat} (hm : m < 16) (ht : ts m = true) (hc : LinkClosed ts s) :
    Untouched s (s.tmLap m) [.pins, .reset] (tmOwn ts) := by
  have hc' : LinkClosed ts (s.tmLapRun m) := hc.congr fun j hj => s.tmLapRun_steady hm (Fld.steady_ctrl rfl hj (show 1 ≤ 2 by decide))
  exact (Untouched.tmLapRun s hm ht).trans (OnTimers.tmLapChain 16 hm ht hc').frame.untouched (by decide)

/-- A lap that ends without an expiry passes no step on. -/
theorem State.tmLap_counted {s : State} {m : Nat} (hm : m < 16) (h : s.f (F.TMm_STAT_LAP m) ≠ s.f (F.TMm_CTRL_LAPS m)) :
    s.tmLap m = (s.tmLapRun m).tmLapOver m := by
  refine State.tmLapChain_keeps 15 fun hp => h ?_
  have hl : (s.tmLapRun m).f (F.TMm_STAT_LAP m) = (s.tmLapRun m).f (F.TMm_CTRL_LAPS m) := hp.1
  rwa [s.tmLapRun_lap hm, s.tmLapRun_steady hm (Fld.steady_ctrl rfl hm (show 1 ≤ 24 by decide))] at hl

theorem State.tmLap_steady {s : State} {m : Nat} (hm : m < 16) (h : s.f (F.TMm_STAT_LAP m) ≠ s.f (F.TMm_CTRL_LAPS m)) {x : Fld}
    (hx : x.Steady m) : (s.tmLap m).f x = s.f x := by
  rw [State.tmLap_counted hm h, State.tmLapOver_f _ hm hx, s.tmLapRun_steady hm hx]

/-- A lap counted leaves the setup as it was but for LAP. -/
theorem State.tmLap_setup {s : State} {m : Nat} (hm : m < 16) (h : s.f (F.TMm_STAT_LAP m) ≠ s.f (F.TMm_CTRL_LAPS m)) :
    (s.tmLap m).tmSetup m = { s.tmSetup m with lap := (s.f (F.TMm_STAT_LAP m) + 1) % 256 } := by
  have hu : (s.tmLap m).crp.mainUp = s.crp.mainUp := by
    rw [State.tmLap_counted hm h, (OnTimers.tmLapOver (ts := fun _ => true) _ hm rfl).up, s.tmLapRun_crp hm]
  rw [State.tmSetup_of_steady hm (fun x hx => State.tmLap_steady hm h hx) hu, (s.tmLap_ended hm).lap h]; rfl

/-- Laps run on end at an expiry where LAP meets LAPS within them. -/
theorem State.tmLaps_ended (n : Nat) {s : State} {m : Nat} (hm : m < 16)
    (h : ∃ j < n, (s.f (F.TMm_STAT_LAP m) + j) % 256 = s.f (F.TMm_CTRL_LAPS m)) :
    LapEnded { s.tmSetup m with lap := s.f (F.TMm_CTRL_LAPS m) } m (s.tmLaps m n) := by
  have hlt : s.f (F.TMm_STAT_LAP m) < 256 := Nat.mod_lt _ (show 0 < 2 ^ 8 by decide)
  induction n generalizing s with
  | zero => obtain ⟨j, hj, -⟩ := h; exact absurd hj (Nat.not_lt_zero j)
  | succ n ih =>
    unfold State.tmLaps; split
    · rename_i he
      have hp : ({ s.tmSetup m with lap := s.f (F.TMm_CTRL_LAPS m) } : TimerSetup) = s.tmSetup m := by rw [← he]; rfl
      rw [hp]; exact s.tmLap_ended hm
    · rename_i he
      obtain ⟨j, hj, hjl⟩ := h
      have hj0 : j ≠ 0 := fun e => he (by rw [e, Nat.add_zero, Nat.mod_eq_of_lt hlt] at hjl; exact hjl)
      have hs := State.tmLap_setup hm he
      have hlap : (s.tmLap m).f (F.TMm_STAT_LAP m) = (s.f (F.TMm_STAT_LAP m) + 1) % 256 := congrArg TimerSetup.lap hs
      have hlaps : (s.tmLap m).f (F.TMm_CTRL_LAPS m) = s.f (F.TMm_CTRL_LAPS m) := congrArg TimerSetup.laps hs
      have hi := ih (s := s.tmLap m) ⟨j - 1, by omega, by rw [hlap, hlaps, ← hjl]; omega⟩ (by rw [hlap]; omega)
      rw [hs, hlaps] at hi; exact hi

theorem Untouched.tmLaps {ts : Nat → Bool} (n : Nat) {s : State} {m : Nat} (hm : m < 16) (ht : ts m = true) (hc : LinkClosed ts s) :
    Untouched s (s.tmLaps m n) [.pins, .reset] (tmOwn ts) := by
  induction n generalizing s with
  | zero => exact (Frame.refl s _ _).untouched
  | succ n ih =>
    unfold State.tmLaps; split
    · exact .tmLap s hm ht hc
    · rename_i he
      have hc' : LinkClosed ts (s.tmLap m) := hc.congr fun j hj => State.tmLap_steady hm he (Fld.steady_ctrl rfl hj (show 1 ≤ 2 by decide))
      exact (Untouched.tmLap s hm ht hc).trans (ih hc') (by decide)

/-! ## The timers that a command of timer `m` reaches -/

/-- Timer `m` and those that take steps by LINK from it on. -/
def State.tmChain (s : State) (m j : Nat) : Bool :=
  decide (m ≤ j) && (List.range j).all fun i => decide (i < m) || s.f (F.TMm_CTRL_CLKSEL (i + 1)) == 2

theorem State.tmChain_self (s : State) (m : Nat) : s.tmChain m m = true := by
  simp only [State.tmChain, Nat.le_refl, decide_true, Bool.true_and, List.all_eq_true, List.mem_range]
  exact fun i hi => by simp [hi]

theorem State.tmChain_closed (s : State) (m : Nat) : LinkClosed (s.tmChain m) s := by
  intro j hj _ hl
  simp only [State.tmChain, Bool.and_eq_true, decide_eq_true_eq, List.all_eq_true, List.mem_range] at hj ⊢
  refine ⟨by omega, fun i hi => ?_⟩
  obtain h | rfl : i < j ∨ i = j := by omega
  · exact hj.2 i h
  · simp [hl]

/-! ## TIMER_STEP, TIMER_LAP_END and TIMER_EXPIRY -/

section
variable {s : State} {m : Fin 16}

theorem LapEnded.settle {p : TimerSetup} {a : State} (h : LapEnded p m a) : LapEnded p m a.settle :=
  h.sideSame m.isLt (.settle a) (.settle a)

theorem exec_timerStep (hr : s.tmRuns m = true) (hg : (s.tmWait m 1).tmGate m = true) (hc : s.f (F.TMm_CTRL_CLKSEL m) ≠ 2) :
    exec (.timerStep m) s = done ((s.tmWait m 1).tmStep m) := by
  show execTimerStep m s = _
  unfold execTimerStep; simp [hr, hg, hc]

theorem exec_timerLapEnd (hr : s.tmRuns m = true) (hg : s.tmGate m = true) (hc : s.f (F.TMm_CTRL_CLKSEL m) ≠ 2) :
    exec (.timerLapEnd m) s = done (s.tmLap m) := by
  show execTimerLapEnd m s = _
  unfold execTimerLapEnd; simp [hr, hg, hc]

theorem exec_timerExpiry (hr : s.tmRuns m = true) (hg : s.tmGate m = true) (hc : s.f (F.TMm_CTRL_CLKSEL m) ≠ 2) :
    exec (.timerExpiry m) s = done (s.tmLaps m 256) := by
  show execTimerExpiry m s = _
  unfold execTimerExpiry; simp [hr, hg, hc]

/-- What timer m + 1 makes of the step that an expiry of timer `m` passes on. -/
def Linked (s : State) (m : Nat) (a : State) : Prop :=
  s.f (F.TMm_STAT_LAP m) = s.f (F.TMm_CTRL_LAPS m) → m + 1 < 16 → s.f (F.TMm_CTRL_CLKSEL (m + 1)) = 2 → s.tmRuns (m + 1) = true →
  (s.tmWait m 1).tmGate (m + 1) = true →
    ((s.reg (R.TMm_COUNT (m + 1))).toNat = 0 → (a.reg (R.TMm_COUNT (m + 1))).toNat = (s.reg (R.TMm_LOAD (m + 1))).toNat) ∧
    ((s.reg (R.TMm_COUNT (m + 1))).toNat ≠ 0 → (a.reg (R.TMm_COUNT (m + 1))).toNat = (s.reg (R.TMm_COUNT (m + 1))).toNat - 1 ∧
      ((s.reg (R.TMm_COUNT (m + 1))).toNat - 1 = (s.tm (m + 1)).cmp.toNat → a.flag (F.TMm_STAT_CMPF (m + 1)) = true))

theorem linked_tmLapEnd (s : State) (m : Fin 16) : Linked s m ((s.tmWait m 1).tmLapEnd m).settle := by
  intro hl hn hc hr hg
  obtain ⟨hctrl, -, -, -, -, hstat⟩ := tmBlock_regs m
  obtain ⟨hctrl', hload', -, hcount', -, hstat'⟩ := tmBlock_regs (m + 1)
  have hw : SideSame s (s.tmWait m 1) := .tmWait s m 1
  have hr' : (s.tmWait m 1).tmRuns (m + 1) = s.tmRuns (m + 1) := by
    unfold State.tmRuns; rw [hw.flag (hctrl'.sideReg hn), hw.f (hctrl'.sideReg hn), hw.crp]
  obtain ⟨h0, h1⟩ := State.tmLapEnd_links m.isLt hn
    (by rw [hw.f (hstat.sideReg m.isLt), hw.f (hctrl.sideReg m.isLt)]; exact hl) ((hw.f (hctrl'.sideReg hn)).trans hc) (hr'.trans hr) hg
  rw [hw.regs _ (hcount'.sideReg hn)] at h0 h1
  rw [hw.regs _ (hload'.sideReg hn)] at h0
  rw [hw.tm] at h1
  rw [(SideSame.settle _).regs _ (hcount'.sideReg hn), (SideSame.settle _).flag (hstat'.sideReg hn)]
  exact ⟨fun h => congrArg BitVec.toNat (h0 h), h1⟩

theorem acts_timerStep_end (hr : s.tmRuns m = true) (hg : (s.tmWait m 1).tmGate m = true) (hc : s.f (F.TMm_CTRL_CLKSEL m) ≠ 2)
    (h0 : (s.reg (R.TMm_COUNT m)).toNat = 0) :
    Acts (exec (.timerStep m) s) s [.pins, .reset] (tmOwn (s.tmChain m)) fun s' => LapEnded (s.tmSetup m) m s' ∧ Linked s m s' := by
  obtain ⟨-, -, -, hcount, -, -⟩ := tmBlock_regs m
  have hw : SideSame s (s.tmWait m 1) := .tmWait s m 1
  have hstep : (s.tmWait m 1).tmStep m = (s.tmWait m 1).tmLapEnd m := if_pos (by
    rw [hw.regs _ (hcount.sideReg m.isLt)]; exact BitVec.eq_of_toNat_eq h0)
  have hcl : LinkClosed (s.tmChain m) (s.tmWait m 1) := (s.tmChain_closed m).congr fun j hj => hw.f (sideReg_TMm_CTRL hj)
  rw [exec_timerStep hr hg hc, hstep]
  refine ((Untouched.tmWait s m 1).trans (OnTimers.tmLapChain 16 m.isLt (s.tmChain_self m) hcl).frame.untouched (by decide)).acts
    (by decide) ⟨LapEnded.settle ?_, linked_tmLapEnd s m⟩
  rw [← hw.tmSetup m.isLt]
  exact State.tmLapChain_ended _ 16 m.isLt

theorem acts_timerStep_down (hr : s.tmRuns m = true) (hg : (s.tmWait m 1).tmGate m = true) (hc : s.f (F.TMm_CTRL_CLKSEL m) ≠ 2)
    (h0 : (s.reg (R.TMm_COUNT m)).toNat ≠ 0) :
    Acts (exec (.timerStep m) s) s [.pins, .reset] (tmOwn (s.tmChain m)) fun s' =>
      (s'.reg (R.TMm_COUNT m)).toNat = (s.reg (R.TMm_COUNT m)).toNat - 1 ∧
      ((s.reg (R.TMm_COUNT m)).toNat - 1 = (s.tm m).cmp.toNat → s'.flag (F.TMm_STAT_OUT m) = true ∧ s'.flag (F.TMm_STAT_CMPF m) = true ∧
        (s.crp.mainUp = true → s'.evPending (EV.tmCmp m) = true)) := by
  obtain ⟨-, -, -, hcount, -, hstat⟩ := tmBlock_regs m
  have hw : SideSame s (s.tmWait m 1) := .tmWait s m 1
  have hcw : (s.tmWait m 1).reg (R.TMm_COUNT m) = s.reg (R.TMm_COUNT m) := hw.regs _ (hcount.sideReg m.isLt)
  have hstep : (s.tmWait m 1).tmStep m = (s.tmWait m 1).tmDown m 1 := if_neg (by
    rw [hcw]; exact fun h => h0 (congrArg BitVec.toNat h))
  have hs (a : State) : SideSame a a.settle := .settle a
  rw [exec_timerStep hr hg hc, hstep]
  refine ((Untouched.tmWait s m 1).trans (OnTimers.tmDown _ 1 m.isLt (s.tmChain_self m)).frame.untouched (by decide)).acts
    (by decide) ⟨?_, fun he => ?_⟩
  · rw [(hs _).regs _ (hcount.sideReg m.isLt), State.tmDown_count _ 1 m.isLt, hcw]
  · obtain ⟨hout, hcmpf, hev⟩ := State.tmDown_meets (s := s.tmWait m 1) (n := 1) m.isLt (by rw [hcw, hw.tm]; omega) (by rw [hcw, hw.tm]; omega)
    refine ⟨((hs _).flag (hstat.sideReg m.isLt)).trans hout, ((hs _).flag (hstat.sideReg m.isLt)).trans hcmpf, fun hu => ?_⟩
    exact (Onward.settle _).events _ (by simp only [EV.tmCmp]; omega) (hev (hw.crp ▸ hu))

theorem acts_timerLapEnd (hr : s.tmRuns m = true) (hg : s.tmGate m = true) (hc : s.f (F.TMm_CTRL_CLKSEL m) ≠ 2) :
    Acts (exec (.timerLapEnd m) s) s [.pins, .reset] (tmOwn (s.tmChain m)) (LapEnded (s.tmSetup m) m) := by
  rw [exec_timerLapEnd hr hg hc]
  exact (Untouched.tmLap s m.isLt (s.tmChain_self m) (s.tmChain_closed m)).acts (by decide) (s.tmLap_ended m.isLt).settle

theorem acts_timerExpiry (hr : s.tmRuns m = true) (hg : s.tmGate m = true) (hc : s.f (F.TMm_CTRL_CLKSEL m) ≠ 2) :
    Acts (exec (.timerExpiry m) s) s [.pins, .reset] (tmOwn (s.tmChain m))
      (LapEnded { s.tmSetup m with lap := s.f (F.TMm_CTRL_LAPS m) } m) := by
  have hlap : s.f (F.TMm_STAT_LAP m) < 256 := Nat.mod_lt _ (show 0 < 2 ^ 8 by decide)
  have hlaps : s.f (F.TMm_CTRL_LAPS m) < 256 := Nat.mod_lt _ (show 0 < 2 ^ 8 by decide)
  rw [exec_timerExpiry hr hg hc]
  refine (Untouched.tmLaps 256 m.isLt (s.tmChain_self m) (s.tmChain_closed m)).acts (by decide) (State.tmLaps_ended 256 m.isLt ?_).settle
  exact ⟨(s.f (F.TMm_CTRL_LAPS m) + 256 - s.f (F.TMm_STAT_LAP m)) % 256, Nat.mod_lt _ (by decide), by omega⟩

end

/-! ## Writes of TMm_CTRL (R578, R579) -/

/-- What TMm_CTRL holds after a write: reserved clock codes keep the field. -/
def State.tmCtrlWord (s : State) (m data : Nat) : Nat :=
  let clk := bits data 2 2
  let clk1 := if clk = 3 ∨ (clk = 2 ∧ m = 0) then s.f (F.TMm_CTRL_CLKSEL m) else clk
  let d1 := putBits data 2 2 clk1 &&& 0xFF1FFFEF
  if m < 14 then putBits d1 20 1 0 else d1

theorem State.tmCtrlWord_en (s : State) (m data : Nat) : (s.tmCtrlWord m data).testBit 0 = data.testBit 0 := by
  have h (v : Nat) : (putBits data 2 2 v &&& 0xFF1FFFEF).testBit 0 = data.testBit 0 := by
    rw [Nat.testBit_and, testBit_putBits, if_neg (by decide), (by decide : Nat.testBit 0xFF1FFFEF 0 = true), Bool.and_true]
  unfold State.tmCtrlWord; dsimp only; split
  · rw [testBit_putBits, if_neg (by decide), h]
  · exact h _

/-- TMm_CTRL has taken its word, and the pins follow. -/
def State.tmCtrlPut (s : State) (m data : Nat) : State := (s.setReg (R.TMm_CTRL m) (BitVec.ofNat 32 (s.tmCtrlWord m data))).updatePins

theorem State.tmCtrlPut_en (s : State) (m : Nat) (data : Word) :
    (s.tmCtrlPut m data.toNat).flag (F.TMm_CTRL_EN m) = data.getLsbD 0 := by
  unfold State.tmCtrlPut
  rw [State.updatePins_flag]
  have hbit : bits (BitVec.ofNat 32 (s.tmCtrlWord m data.toNat)).toNat 0 1 = b2n (data.getLsbD 0) := by
    refine Nat.eq_of_testBit_eq fun i => ?_
    rw [testBit_bits, testBit_ofNat_toNat]
    obtain rfl | hi : i = 0 ∨ i ≠ 0 := by omega
    · rw [s.tmCtrlWord_en, BitVec.testBit_toNat]; cases data.getLsbD 0 <;> rfl
    · have hb : (b2n (data.getLsbD 0)).testBit i = false := Nat.testBit_lt_two_pow (by
        have := Nat.one_lt_two_pow hi
        unfold b2n; split <;> omega)
      rw [hb]; simp; omega
  show (bits ((s.setReg _ _).reg (R.TMm_CTRL m)).toNat 0 1 == 1) = _
  rw [State.reg_setReg_same, hbit]; cases data.getLsbD 0 <;> rfl

theorem State.tmCtrl_eq (s : State) (m data : Nat) : s.tmCtrl m data =
    if Nat.testBit data 0 && !s.flag (F.TMm_CTRL_EN m) then ((s.tmCtrlPut m data).setF (F.TMm_STAT_LAP m) 0).tmLoad m
    else if Nat.testBit data 4 then ((s.tmCtrlPut m data).pass ctlCycles).tmLoad m else s.tmCtrlPut m data := rfl

theorem State.tmLoad_eq (s : State) (m : Nat) : s.tmLoad m = (s.tmReload m).updatePins := rfl

theorem Untouched.tmCtrl {ts : Nat → Bool} (s : State) {m : Nat} (data : Nat) (hm : m < 16) (ht : ts m = true) :
    Untouched s (s.tmCtrl m data) [.pins, .reset] (tmOwn ts) := by
  obtain ⟨hctrl, -, -, hcount, -, hstat⟩ := tmBlock_regs m
  have h1 : OnTimers ts s (s.tmCtrlPut m data) := (OnTimers.setReg s _ hm ht hctrl).trans (.updatePins _)
  have hload (a : State) : OnTimers ts a (a.tmLoad m) :=
    (((OnTimers.setReg a _ hm ht hcount).trans (.modTm _ _ ht)).trans (.setB _ _ hm ht hstat)).trans (.updatePins _)
  rw [State.tmCtrl_eq]; repeat' split
  · exact ((h1.trans (.setF _ 0 hm ht hstat)).trans (hload _)).frame.untouched
  · exact (h1.frame.untouched.trans (.pass _ _) (by decide)).trans (hload _).frame.untouched (by decide)
  · exact h1.frame.untouched

/-- Timer `m` in `x` after a write of `data` to its TMm_CTRL in `s`. -/
structure CtrlWritten (s : State) (m : Nat) (data : Word) (x : State) : Prop where
  en : x.flag (F.TMm_CTRL_EN m) = data.getLsbD 0
  count : x.reg (R.TMm_COUNT m) =
    if (data.getLsbD 0 && !s.flag (F.TMm_CTRL_EN m)) || data.getLsbD 4 then s.reg (R.TMm_LOAD m) else s.reg (R.TMm_COUNT m)
  cmp : (x.tm m).cmp =
    if (data.getLsbD 0 && !s.flag (F.TMm_CTRL_EN m)) || data.getLsbD 4 then s.reg (R.TMm_CMP m) else (s.tm m).cmp
  lap : x.f (F.TMm_STAT_LAP m) = if data.getLsbD 0 && !s.flag (F.TMm_CTRL_EN m) then 0 else s.f (F.TMm_STAT_LAP m)
  out : x.flag (F.TMm_STAT_OUT m) =
    (!((data.getLsbD 0 && !s.flag (F.TMm_CTRL_EN m)) || data.getLsbD 4) && s.flag (F.TMm_STAT_OUT m))
  pins : x.pinsFollow

theorem CtrlWritten.sideSame {s : State} {m : Nat} {data : Word} {x y : State} (hm : m < 16) (h : CtrlWritten s m data x) (hs : SideSame x y) :
    CtrlWritten s m data y := by
  obtain ⟨hctrl, -, -, hcount, -, hstat⟩ := tmBlock_regs m
  exact ⟨(hs.flag (hctrl.sideReg hm)).trans h.en, (hs.regs _ (hcount.sideReg hm)).trans h.count, (congrArg Timer.cmp (hs.tm m)).trans h.cmp,
    (hs.f (hstat.sideReg hm)).trans h.lap, (hs.flag (hstat.sideReg hm)).trans h.out, hs.pinsFollow h.pins⟩

/-- Both buffers apply: what is left of the write is EN and LAP. -/
theorem State.tmLoad_written {s a : State} {m : Nat} {data : Word} (hap : (data.getLsbD 0 && !s.flag (F.TMm_CTRL_EN m) || data.getLsbD 4) = true)
    (hen : a.flag (F.TMm_CTRL_EN m) = data.getLsbD 0) (hload : a.reg (R.TMm_LOAD m) = s.reg (R.TMm_LOAD m))
    (hcmp : a.reg (R.TMm_CMP m) = s.reg (R.TMm_CMP m))
    (hlap : a.f (F.TMm_STAT_LAP m) = if data.getLsbD 0 && !s.flag (F.TMm_CTRL_EN m) then 0 else s.f (F.TMm_STAT_LAP m)) :
    CtrlWritten s m data (a.tmLoad m) := by
  obtain ⟨hcs, hcc, hsc⟩ := tmCount_ne m
  rw [State.tmLoad_eq]
  refine ⟨?_, ?_, ?_, ?_, ?_, State.updatePins_pinsFollow _⟩
  · rw [State.updatePins_flag, State.flag_of_f (a.tmReload_f (x := F.TMm_CTRL_EN m) hcc.symm (.inl hsc.symm)), hen]
  · rw [State.updatePins_reg, a.tmReload_count, hload, if_pos hap]
  · rw [State.updatePins_tm, a.tmReload_cmp, hcmp, if_pos hap]
  · rw [State.updatePins_f, a.tmReload_f (x := F.TMm_STAT_LAP m) hcs.symm (.inr (.inr (show 3 + 1 ≤ 8 by decide))), hlap]
  · rw [State.updatePins_flag, a.tmReload_out, hap]; rfl

theorem State.tmCtrl_written (s : State) {m : Nat} (data : Word) (hm : m < 16) : CtrlWritten s m data (s.tmCtrl m data.toNat) := by
  obtain ⟨hctrl, hload, hcmp, hcount, -, hstat⟩ := tmBlock_regs m
  obtain ⟨hcs, hcc, hsc⟩ := tmCount_ne m
  have hput (off : Nat) (h : off ≠ R.TMm_CTRL m) : (s.tmCtrlPut m data.toNat).reg off = s.reg off :=
    (State.updatePins_reg _ off).trans (s.reg_setReg_ne _ h)
  have hl : R.TMm_LOAD m ≠ R.TMm_CTRL m := by simp only [R.TMm_LOAD, R.TMm_CTRL]; omega
  have hc : R.TMm_CMP m ≠ R.TMm_CTRL m := by simp only [R.TMm_CMP, R.TMm_CTRL]; omega
  have hls : R.TMm_LOAD m ≠ R.TMm_STAT m := by simp only [R.TMm_LOAD, R.TMm_STAT]; omega
  have hms : R.TMm_CMP m ≠ R.TMm_STAT m := by simp only [R.TMm_CMP, R.TMm_STAT]; omega
  have hen : (s.tmCtrlPut m data.toNat).flag (F.TMm_CTRL_EN m) = data.getLsbD 0 := s.tmCtrlPut_en m data
  rw [State.tmCtrl_eq, BitVec.testBit_toNat, BitVec.testBit_toNat]; repeat' split
  · rename_i hst
    refine State.tmLoad_written (by rw [hst]; rfl) ?_ ((State.setF_reg_ne _ (F.TMm_STAT_LAP m) 0 hls).trans (hput _ hl))
      ((State.setF_reg_ne _ (F.TMm_STAT_LAP m) 0 hms).trans (hput _ hc)) ?_
    · exact (State.flag_of_f (State.f_setF_apart _ _ (.inl hsc.symm))).trans hen
    · rw [if_pos hst]; exact State.f_setF_same _ _ _ (show 8 + 8 ≤ 32 by decide)
  · rename_i hst h4
    have hp : SideSame (s.tmCtrlPut m data.toNat) ((s.tmCtrlPut m data.toNat).pass ctlCycles) := .pass _ _
    refine State.tmLoad_written (by rw [h4, Bool.or_true]) ((hp.flag (hctrl.sideReg hm)).trans hen)
      ((hp.regs _ (hload.sideReg hm)).trans (hput _ hl)) ((hp.regs _ (hcmp.sideReg hm)).trans (hput _ hc)) ?_
    rw [if_neg hst, hp.f (hstat.sideReg hm)]; exact State.f_of_reg (hput _ hsc)
  · rename_i hst h4
    have hap : ¬(data.getLsbD 0 && !s.flag (F.TMm_CTRL_EN m) || data.getLsbD 4) = true := by
      rw [Bool.or_eq_true]; exact not_or.2 ⟨hst, h4⟩
    refine ⟨hen, ?_, ?_, ?_, ?_, State.updatePins_pinsFollow _⟩
    · rw [if_neg hap]; exact hput _ hcc
    · rw [if_neg hap]; exact congrArg Timer.cmp (State.updatePins_tm _ m)
    · rw [if_neg hst]; exact State.f_of_reg (hput _ hsc)
    · rw [Bool.eq_false_iff.2 hap, Bool.not_false, Bool.true_and]; exact State.flag_of_reg (hput _ hsc)

theorem basicAt_tmCtrl (m : Fin 16) : basicAt (R.TMm_CTRL m) = true := by
  revert m; decide +kernel

theorem State.writeSide_tmCtrl (s : State) (d : RegDef) (m : Fin 16) (data : Word) :
    s.writeSide d (R.TMm_CTRL m) data = s.tmCtrl m data.toNat := by
  obtain ⟨hctrl, hpop, hgpio, hpe, hfeed, htm⟩ := (by decide +kernel : ∀ m : Fin 16, R.TMm_CTRL m ≠ R.VWK_CTRL ∧
    R.TMm_CTRL m ≠ R.VWK_RX_POP ∧ ¬(R.TMm_CTRL m = R.SBD_GPIO_OUT ∨ R.TMm_CTRL m = R.SBD_GPIO_OE) ∧
    famOf (R.PEn_CTRL 0) 64 8 (R.TMm_CTRL m) = none ∧ famOf (R.PEn_FEED 0) 64 8 (R.TMm_CTRL m) = none ∧
    famOf (R.TMm_CTRL 0) 32 16 (R.TMm_CTRL m) = some m.val) m
  unfold State.writeSide; dsimp only
  rw [if_neg hctrl, if_neg hpop, if_neg hgpio, hpe, hfeed, htm]

theorem acts_tmCtrl {s : State} {src : RegSrc} {m : Fin 16} (data : Word) (h : Reaches s src (R.TMm_CTRL m)) :
    Acts (done (s.csrWrite src (R.TMm_CTRL m) 2 data)) s [.pins, .reset] (tmOwn (s.tmChain m)) (CtrlWritten s m data) := by
  have hf : Untouched s ((s.noteWrite src).tmCtrl m data.toNat) [.pins, .reset] (tmOwn (s.tmChain m)) :=
    (Frame.noteWrite s src).untouched.trans (.tmCtrl _ data.toNat m.isLt (s.tmChain_self m)) (by decide)
  rw [State.csrWrite_basic h (basicAt_tmCtrl m) data (fun d => State.writeSide_tmCtrl _ d m data) (hf.late (by decide))]
  refine hf.acts_endAcc (by decide) (fun h => by cases h) fun z hz => ?_
  have hw : CtrlWritten (s.noteWrite src) m data ((s.noteWrite src).tmCtrl m data.toNat) := State.tmCtrl_written _ data m.isLt
  obtain ⟨hen, hcount, hcmp, hlap, hout, hpins⟩ := hw.sideSame m.isLt hz.toSideSame
  exact ⟨hen, hcount, hcmp, hlap, hout, hpins⟩

/-! ## Captures (R580, R581) -/

/-- The pad of timer `m`'s capture pin shows `v`, and the timer holds what CAP and OVR were. -/
def State.tmPadSeen (s : State) (m : Nat) (v : Bool) : State :=
  ({ s with sbd := { s.sbd with pads := BitVec.ofNat 32 (putBits s.sbd.pads.toNat (s.f (F.TMm_CTRL_CAP_PIN m)) 1 (b2n v)) } }).setTm m
    { s.tm m with pin := v, capAt := some (s.ctlCyc, s.reg (R.TMm_CAP m), s.flag (F.TMm_STAT_OVR m)) }

/-- A capture while one stands unread overwrites it. -/
def State.tmOverwrite (s : State) (m : Nat) : State := if s.flag (F.TMm_STAT_CAPV m) then s.hit (F.TMm_STAT_OVR m) else s

/-- CAP takes COUNT, and CAPV is set. -/
def State.tmCapTake (s : State) (m : Nat) : State :=
  (s.setReg (R.TMm_CAP m) (s.reg (R.TMm_COUNT m))).setB (F.TMm_STAT_CAPV m) true

/-- An edge that timer `m` captures on (R580). -/
def State.tmEdge (s : State) (m : Nat) (v : Bool) : Prop :=
  (!(s.tm m).pin && v && Nat.testBit (s.f (F.TMm_CTRL_CAP_EDGE m)) 0 || (s.tm m).pin && !v && Nat.testBit (s.f (F.TMm_CTRL_CAP_EDGE m)) 1) = true

theorem State.tmCapture_edge {s : State} {m : Nat} {v : Bool} (hu : s.crp.mainUp = true) (he : s.tmEdge m v) :
    s.tmCapture m v = (((s.tmPadSeen m v).tmOverwrite m).tmCapTake m).raise (EV.tmCap m) := by
  unfold State.tmCapture; extract_lets x pin s1 s2 e s3
  exact if_pos (by rw [hu, Bool.true_and]; exact he)

theorem State.tmPadSeen_tm (s : State) (m : Nat) (v : Bool) : (s.tmPadSeen m v).tm m =
    { s.tm m with pin := v, capAt := some (s.ctlCyc, s.reg (R.TMm_CAP m), s.flag (F.TMm_STAT_OVR m)) } := kget_kset_same ..

theorem Frame.tmPadSeen {regs : Nat → Bool} (s : State) (m : Nat) (v : Bool) : Frame s (s.tmPadSeen m v) [.pins, .reset] regs :=
  .sbd s _ (by decide)

theorem OnTimers.tmCaptured {ts : Nat → Bool} (s : State) {m : Nat} (hm : m < 16) (ht : ts m = true) :
    OnTimers ts s (((s.tmOverwrite m).tmCapTake m).raise (EV.tmCap m)) := by
  obtain ⟨-, -, -, -, hcap, hstat⟩ := tmBlock_regs m
  have hov : OnTimers ts s (s.tmOverwrite m) := by
    unfold State.tmOverwrite; split
    · exact .hit s hm ht hstat
    · exact .refl s
  exact ((hov.trans (.setReg _ _ hm ht hcap)).trans (.setB _ true hm ht hstat)).trans (.raise _ (by simp only [EV.tmCap]; omega))

/-- CAP, CAPV and OVR once an edge is captured. -/
theorem State.tmCapTake_fields (s : State) (m : Nat) : ((s.tmOverwrite m).tmCapTake m).reg (R.TMm_CAP m) = s.reg (R.TMm_COUNT m) ∧
    ((s.tmOverwrite m).tmCapTake m).flag (F.TMm_STAT_CAPV m) = true ∧
    (s.flag (F.TMm_STAT_CAPV m) = true → ((s.tmOverwrite m).tmCapTake m).flag (F.TMm_STAT_OVR m) = true) := by
  have hcs : R.TMm_CAP m ≠ R.TMm_STAT m := by simp only [R.TMm_CAP, R.TMm_STAT]; omega
  have hov : (s.tmOverwrite m).reg (R.TMm_COUNT m) = s.reg (R.TMm_COUNT m) := by
    unfold State.tmOverwrite; split
    · exact s.hit_reg_ne _ (tmCount_ne m).1
    · rfl
  unfold State.tmCapTake
  refine ⟨?_, State.flag_setB_same _ _ _ (show 1 + 1 ≤ 32 by decide) rfl, fun h => ?_⟩
  · rw [State.setB_reg_ne _ (F.TMm_STAT_CAPV m) _ hcs, State.reg_setReg_same, hov]
  · rw [State.setB, State.flag_of_f (State.f_setF_apart _ _ (.inr (.inr (show 1 + 1 ≤ 2 by decide)))),
      State.flag_of_reg (State.reg_setReg_ne _ _ hcs.symm), State.tmOverwrite, if_pos h]
    exact State.flag_hit_same _ _ (show 2 + 1 ≤ 32 by decide) rfl

theorem acts_timerCapture {s : State} {m : Fin 16} {level : Bool} (hu : s.crp.mainUp = true) (he : s.tmEdge m level) :
    Acts (exec (.timerCapture m level) s) s [.pins, .reset] (tmOwn (s.tmChain m)) fun s' =>
      s'.reg (R.TMm_CAP m) = s.reg (R.TMm_COUNT m) ∧ s'.flag (F.TMm_STAT_CAPV m) = true ∧ (s'.tm m).pin = level ∧
      (s'.tm m).capAt = some (s.ctlCyc, s.reg (R.TMm_CAP m), s.flag (F.TMm_STAT_OVR m)) ∧
      (s.flag (F.TMm_STAT_CAPV m) = true → s'.flag (F.TMm_STAT_OVR m) = true) ∧ s'.evPending (EV.tmCap m) = true := by
  obtain ⟨-, -, -, -, hcap, hstat⟩ := tmBlock_regs m
  let t := s.tmPadSeen m level
  let c := (t.tmOverwrite m).tmCapTake m
  let x := c.raise (EV.tmCap m)
  have hev : EV.tmCap m < 4096 := by simp only [EV.tmCap]; omega
  have hx : exec (.timerCapture m level) s = done x.updatePins :=
    congrArg (fun a : State => done a.updatePins) (State.tmCapture_edge hu he)
  have hon : OnTimers (s.tmChain m) t x.updatePins := (OnTimers.tmCaptured t m.isLt (s.tmChain_self m)).trans (.updatePins x)
  have hreg (off : Nat) (h : TmBlock m off) : x.updatePins.settle.reg off = c.reg off := by
    rw [(SideSame.settle _).regs off (h.sideReg m.isLt), State.updatePins_reg, (SideSame.raise c hev).regs off (h.sideReg m.isLt)]
  have htm : x.updatePins.settle.tm m = t.tm m := by
    rw [(SideSame.settle _).tm, State.updatePins_tm, (SideSame.raise c hev).tm]
    unfold State.tm c State.tmCapTake State.tmOverwrite; split <;> rfl
  obtain ⟨hc, hv, ho⟩ := t.tmCapTake_fields m
  rw [hx]
  refine ((Frame.tmPadSeen s m level).trans hon.frame).acts ⟨(hreg _ hcap).trans hc, (State.flag_of_reg (hreg _ hstat)).trans hv, ?_, ?_,
    fun h => (State.flag_of_reg (hreg _ hstat)).trans (ho h), ?_⟩
  · rw [htm, State.tmPadSeen_tm]
  · rw [htm, State.tmPadSeen_tm]
  · have hup : c.crp.mainUp = true := by
      unfold c State.tmCapTake State.tmOverwrite; split <;> exact hu
    exact ((OnTimers.updatePins (ts := fun _ => true) x).toOnward.trans (.settle _)).events _ hev (State.evPending_raise c hev hup)

theorem Acts.mono {o : Host.Outcome State Fault Refusal} {s : State} {but : List Part} {regs : Nat → Bool} {P Q : State → Prop}
    (h : Acts o s but regs P) (hq : ∀ a, P a → Q a) : Acts o s but regs Q := by
  obtain ⟨a, ha, hp, hf⟩ := h
  exact ⟨a, ha, hq a hp, hf⟩

/-- Settles O8: steps and lap ends by the chain of timers that they reach, an expiry by the laps up to it, writes of TMm_CTRL and captures. -/
theorem timers : Obligations.Timers := by
  intro s src m data level count load clk lap laps chain own act ended w n countN linked
  have hended {a : State} (h : LapEnded (s.tmSetup m) m a) : ended a := by
    obtain ⟨hcount, hcmp, hout, hexp, hlap⟩ := h
    exact ⟨congrArg BitVec.toNat hcount, hcmp, hout, hexp, hlap⟩
  refine ⟨fun hr hg hc => ⟨fun h0 => ?_, fun h0 => acts_timerStep_down hr hg hc h0⟩, fun hr hg hc => ?_, fun hr hg hc => ?_, ?_, ?_⟩
  · exact Acts.mono (acts_timerStep_end hr hg hc h0) fun _ h => ⟨hended h.1, h.2⟩
  · exact Acts.mono (acts_timerLapEnd hr hg hc) fun _ => hended
  · refine Acts.mono (acts_timerExpiry hr hg hc) fun a h => ?_
    obtain ⟨hlap, hexp, hev, -⟩ := h.expired rfl
    exact ⟨congrArg BitVec.toNat h.count, hlap, hexp, hev⟩
  · intro h o ho
    have ho : o = done (s.csrWrite src (R.TMm_CTRL m) 2 data) := by
      simp only [List.mem_cons, List.not_mem_nil, or_false] at ho
      obtain h1 | h1 | h1 := ho
      all_goals exact h1
    rw [ho]
    refine Acts.mono (acts_tmCtrl data h) fun a ha => ⟨ha.en, ?_⟩
    intro starts applies
    exact ⟨(congrArg BitVec.toNat ha.count).trans (apply_ite BitVec.toNat _ _ _), ha.cmp, ha.lap, ha.out, ha.pins⟩
  · intro hu was edge he
    refine Acts.mono (acts_timerCapture hu he) fun a h => ?_
    obtain ⟨hcap, h⟩ := h
    exact ⟨congrArg BitVec.toNat hcap, h⟩

end Sys2Proof.Machine
end
